-- ==== Sys2Proof/Word.lean ====
section
/-!
DEFINITION. The word types of the model and nothing else.
BAR0 registers are 64-bit words (03 R53, R66); memory is bytes.
-/
namespace Sys2Proof

/-- A BAR0 register, an argument or a result word: 64 bits (03 R53). -/
abbrev Word := BitVec 64

/-- One byte of a buffer, a scratch way or a frame. -/
abbrev Byte := BitVec 8

end Sys2Proof
end

