-- ==== Sys2Proof/Machine/StateLens.lean ====
section
/-!
DEFINITION. State of the Lens, the Sectors, the stage sets and the clock islands (01_architecture.md, 02_lens_and_epochs.md).
Each field's docstring ends with: width | file and rule | value at reset.
-/
namespace Sys2Proof

/-- One 8-byte entry of the power plan (02 R34). -/
structure PowerEntry where
  domain : Nat
  mode   : Nat
  parkUs : Nat
  deepMs : Nat
  rsvd   : Nat
deriving DecidableEq, Repr

/-- One island configuration blob: its island, the tag that stands for its SHA-384, and whether the blob hashes to it (02 R29, R36). -/
structure IslandBlob where
  island : Nat
  tag    : Nat
  shaOk  : Bool
deriving DecidableEq, Repr

/-- One entry of the substitution table: the unit it serves, and the tag of the blob and bindings a spare takes on (02, "Tile assignment and substitution"). -/
structure SubstEntry where
  unit : Nat
  tag  : Nat
deriving DecidableEq, Repr

/-- A write-pipeline profile: its stages by their order in R31 (0 grain formation to 8 parity), and the placement domain it names (02 R31, 07 R162). -/
structure Profile where
  stages : List Nat
  pdom   : Nat
deriving DecidableEq, Repr

/-- The content of one Lens section (02 Table 2.2), field by field. -/
inductive LensSection where
  | portBinding (quads : List (Nat × Nat)) (groups : List (Nat × Nat))
  | tiles (roles : List (Nat × Nat)) (homes : List (Nat × Nat)) (coreMasks : List (Nat × BitVec 17)) (subst : List SubstEntry)
  | profiles (ps : List Profile)
  | sram (scratchWays : Nat) (sieveUnits : List Nat)
  | freq (codes : List (Nat × Nat))
  | power (entries : List PowerEntry)
  | routes (tag : Nat)
  | iface (tag : Nat)
  | blobs (bs : List IslandBlob)
deriving DecidableEq, Repr

/-- One section table entry and its section (02, after R28). -/
structure SectionEntry where
  typ    : Nat
  sector : Nat
  flags  : Nat
  offset : Nat
  length : Nat
  crcOk  : Bool
  body   : LensSection
deriving DecidableEq, Repr

/-- A Lens image: the header of Table 2.1, the section table and the signature block of Table 2.4, field by field (02 R27, R35).
The digests and signatures are facts about the bytes that the part computes; the image carries them as facts. -/
structure LensImage where
  magic      : Nat
  format     : Nat
  hdrLen     : Nat
  kind       : Nat
  sector     : Nat
  sections   : List SectionEntry
  sectionCount : Nat
  flags      : Nat
  secVersion : Nat
  stepping   : Nat
  lensId     : BitVec 64
  toolVer    : Nat
  imageLen   : Nat
  powerMw    : Nat
  coreMa     : Nat
  ifaceTag   : BitVec 256
  rsvdZero   : Bool
  keyIndex   : Nat
  ownerPresent : Nat
  sigOk      : Bool
  ownerSigOk : Bool
  crcOk      : Bool
deriving DecidableEq, Repr

namespace Machine

/-- The live Lens set as the chip runs it (02 R27 to R35, R49): what the base Lens and the Sector Lenses together say. -/
structure LiveLens where
  /-- A Lens set is live: Keeper A has loaded it from boot flash. | 1 bit | 02 R49 | false -/
  loaded     : Bool
  /-- LENS_ID of the base Lens. | 64 bits | 02 R27 | 0 -/
  baseId     : BitVec 64
  /-- Security version of the base Lens. | 0 to 64 | 02 R28 | 0 -/
  secVersion : Nat
  /-- IFACE_TAG of the base Lens. | 256 bits | 02 R27 | 0 -/
  ifaceTag   : BitVec 256
  /-- Sector Lenses live, as (Sector, LENS_ID). | 15 × 64 bits | 02 R49 | none -/
  sectorIds  : List (Nat × BitVec 64)
  /-- Declared worst-case power of each Sector in mW; the base Lens's share stands under 0xFF. | 32 bits each | 02 R27, R36 | none -/
  powerMw    : List (Nat × Nat)
  /-- Declared worst-case VDD_CORE current of each Sector in mA; the base Lens's share stands under 0xFF. | 32 bits each | 02 R27, R36 | none -/
  coreMa     : List (Nat × Nat)
  /-- Host quad modes, as (quad, code of Table 2.3). | 8 × 8 bits | 02 R30 | none -/
  quadMode   : List (Nat × Nat)
  /-- Media port group bindings, as (group, MT index). | 32 × 0 to 33 | 02 R30 | none -/
  groupMt    : List (Nat × Nat)
  /-- Tile roles, as (island, 0 unused, 1 active, 2 spare). | 100 × 2 bits | 02 "Tile assignment" | none -/
  roles      : List (Nat × Nat)
  /-- Home host Sector of each PT, as (island, Sector). | 66 × 3 bits | 02 "Tile assignment" | none -/
  homes      : List (Nat × Nat)
  /-- Active-core masks of the service-core clusters. | 8 × 17 bits | 02 "Tile assignment" | none -/
  coreMasks  : List (Nat × BitVec 17)
  /-- Substitution table. | one entry per active PT and MT | 02 "Tile assignment" | none -/
  subst      : List SubstEntry
  /-- Write-pipeline profiles of each host Sector, as (Sector, profiles). | 8 × 8 profiles | 02 R31 | none -/
  profiles   : List (Nat × List Profile)
  /-- Scratch ways of every map-cache slice. | 0, 4, 8 or 12 | 02 R32 | 0 -/
  scratchWays : Nat
  /-- Sieve partitions in units of 65,536 entries. | 1 to 16 partitions | 02 R32 | none -/
  sieveUnits : List Nat
  /-- Frequency codes, as (island, code of 25 MHz). | 272 × 8 bits | 02 R33 | none -/
  freq       : List (Nat × Nat)
  /-- Power plan. | one 8-byte entry per domain | 02 R34 | none -/
  power      : List PowerEntry
  /-- Network-on-chip route sections in force, as (Sector, tag). | opaque to software | 02 R29 | none -/
  routes     : List (Nat × Nat)
  /-- Island blobs in force, as (island, SHA-384 tag). | 272 | 02 R29 | none -/
  blobs      : List (Nat × Nat)
deriving DecidableEq, Repr

/-- A key as a slot's bank holds it (14 R352 to R356): its bytes and its USE of Table 14.7. -/
structure KeyImage where
  bytes : List Byte
  use   : Nat
deriving DecidableEq, Repr

/-- The states of a stage set (02 Table 2.6), in the numbering of LNS_SET_STATUS. -/
inductive SetState where
  | free | staging | checking | checked | preparing | committing
deriving DecidableEq, Repr

/-- What a stage set can hold beside register values (02 Table 2.11). -/
inductive StagedItem where
  | lens (img : LensImage)
  | subst (spare unit : Nat)
  | restore (unit : Nat)
  | owner (group head : Nat)
  | key (slot : Nat) (key : KeyImage)
deriving DecidableEq, Repr

/-- What a commit belongs to: the plain commit of a set, or one of the three epochs of a re-lens or of a substitution (02 R45, 20 R481). -/
inductive CommitKind where
  | plain | drain | lens | giveBack
deriving DecidableEq, Repr

/-- One of the 8 stage sets (02 R37, R38). -/
structure StageSet where
  /-- STATE. | 4 bits | 02 Table 2.6 | FREE -/
  st         : SetState
  /-- CODE of the last operation. | 16 bits | 02 R50 LNS_SET_STATUS | 0 -/
  code       : Nat
  /-- DETAIL of the last operation. | 32 bits | 02 R50 LNS_SET_STATUS | 0 -/
  detail     : Nat
  /-- Switch time of the last COMMIT in timebase ns. | 64 bits | 02 R50 LNS_SET_T | 0 -/
  switchT    : Nat
  /-- Live generation recorded at the last passed check. | 64 bits | 02 R50 LNS_SET_GEN | 0 -/
  checkedGen : Nat
  /-- Islands whose shadows the set writes. | island numbers 0 to 271 | 02 R37, R522 | none -/
  claims     : List Nat
  /-- Shadow register values, as (BAR0 offset, value), oldest first. | one per staged register | 02 R524 | none -/
  writes     : List (Nat × BitVec 64)
  /-- Other staged settings, oldest first. | as staged | 02 Table 2.11 | none -/
  items      : List StagedItem
  /-- The job that a STAGE_COMMIT started, by record number. | 0 to 1,023 or none | 02 R525 | none -/
  job        : Option Nat
  /-- The task window whose BUCKET_CONFIG waits for this set's commit. | 2 bits | 16 Table 16.3 | none -/
  window     : Option Nat
  /-- What the commit in progress belongs to. | 2 bits | 02 R45 | plain -/
  kind       : CommitKind
deriving DecidableEq, Repr

/-- The phase of a Sector re-lens (02 R45, LNS_SECTOR_STATE). -/
inductive RelensPhase where
  | draining | loading | returning
deriving DecidableEq, Repr

/-- A Sector re-lens in progress (02 R44 to R48). -/
structure Relens where
  /-- Substitutions that this re-lens makes, as (spare, unit); none for a re-lens of one Sector. | up to 4 | 20 R481 | none in progress -/
  subs     : List (Nat × Nat)
  /-- Sector being re-lensed. | 0 to 14 | 02 R44 | none in progress -/
  sector   : Nat
  /-- Where it stands. | draining, loading, returning | 02 R45 | none in progress -/
  phase    : RelensPhase
  /-- The stage set that holds the Sector Lens. | 0 to 7 | 02 R525 | none in progress -/
  set      : Nat
  /-- The job records that end with it. | 0 to 1,023 | 02 R525, 20 Table 20.5 | none in progress -/
  jobs     : List Nat
  /-- Islands that change. | island numbers | 02 "Re-lensing" | none in progress -/
  changed  : List Nat
  /-- Islands whose load has not finished. | island numbers | 02 R45, R48 | none in progress -/
  waiting  : List Nat
  /-- Islands that failed their load or self-test, first first. | island numbers | 02 R48 | none in progress -/
  failed   : List Nat
  /-- An epoch of it is prepared or committing. | 1 bit | 02 R45 | none in progress -/
  epoch    : Bool
  /-- The plan the failed re-lens returns to: the previous live Lens. | LiveLens | 02 R48 | none in progress -/
  previous : LiveLens
  /-- Drain epoch's switch time, ns. | 64 bits | 02 R45 | none in progress -/
  drainT   : Nat
deriving DecidableEq, Repr

/-- The Lens, the islands and the stage sets. -/
structure LensState where
  /-- The live Lens set. | LiveLens | 02 R49 | nothing loaded -/
  live       : LiveLens
  /-- The live generation. | 64 bits | 02 R42, LNS_LIVE_GEN | 0 -/
  liveGen    : Nat
  /-- The 8 stage sets, set 0 first. | 8 | 02 R37 | all FREE -/
  sets       : List StageSet
  /-- A Sector re-lens in progress. | at most 1 | 02 R44 | none -/
  relens     : Option Relens
  /-- The Lens set that Keeper A is writing into the set record in boot flash. | LiveLens | 02 R49 | none -/
  recordNext : Option LiveLens
  /-- The Lens set that the durable set record names. | LiveLens | 02 R49, 19 R467 | nothing loaded (DESIGN CHOICE of the boot flash's content, log 3) -/
  recordLens : LiveLens
  /-- Islands that are fenced. | 272 × 1 bit | 01 R15, 20 R478 | none -/
  fenced     : List Nat
  /-- Islands with their time-fault flag set. | 272 × 1 bit | 01 R16 | none -/
  timeFault  : List Nat
  /-- Islands loaded and past their self-test. | 272 × 1 bit | 02 R48, 19 R449 | none -/
  running    : List Nat
  /-- Islands whose crossings were closed with requests returned to their senders for reissue, newest first. | island numbers | 01 R15 | none -/
  reissued   : List Nat
  /-- Spares in use, as (spare, unit it stands for); a service core c.k has the number 512 + 32c + k. | 4 tiles, 8 cores | 01 R18 | none -/
  sparesUsed : List (Nat × Nat)
  /-- Service cores fenced, as (cluster, core). | 8 × 17 bits | 01 R18 | none -/
  coresFenced : List (Nat × Nat)
deriving DecidableEq, Repr

/-- No Lens is live before Keeper A has loaded one (02 R49). -/
def LiveLens.empty : LiveLens :=
  { loaded := false, baseId := 0, secVersion := 0, ifaceTag := 0, sectorIds := [], powerMw := [], coreMa := [],
    quadMode := [], groupMt := [], roles := [], homes := [], coreMasks := [], subst := [], profiles := [],
    scratchWays := 0, sieveUnits := [], freq := [], power := [], routes := [], blobs := [] }

/-- A FREE stage set that has never been used (02 Table 2.6). -/
def StageSet.free : StageSet :=
  { st := .free, code := 0, detail := 0, switchT := 0, checkedGen := 0, claims := [], writes := [], items := [],
    job := none, window := none, kind := .plain }

/-- The Lens state right after reset. -/
def LensState.reset : LensState :=
  { live := .empty, liveGen := 0, sets := List.replicate 8 .free, relens := none, recordNext := none,
    recordLens := .empty, fenced := [], timeFault := [], running := [], reissued := [], sparesUsed := [],
    coresFenced := [] }

end Machine
end Sys2Proof
end

