-- ==== Sys2Proof/Machine/StateCtl.lean ====
section
/-!
DEFINITION. State of the control interface: jobs, windows, token path, upstream endpoint (03_control_interface.md).
Window registers, ERR_CAPTURE registers and every other BAR0 register live in `State.regs`.
Each field's docstring ends with: width | file and rule | value at reset.
-/
namespace Sys2Proof

/-- The access path through which a task command reached its window (03 Table 3.1). -/
inductive Path where
  | bar0 | session | mctp | jtag
deriving DecidableEq, Repr

namespace Machine

/-- Which unit carries a job (03 R69): a Keeper restart ends the Keeper's own jobs. -/
inductive Carrier where
  | keeper | unit
deriving DecidableEq, Repr

/-- What a running job still has to do when it ends (03 R59): the deferred part of its effect. -/
inductive JobWork where
  | nothing
  | takeLens (set : Nat) (img : LensImage)
  | check (set : Nat)
  | admitModule (module : Nat)
  | capacitance
  | retire (module : Nat)
  | fuse (op index value : Nat)
  | pointer (action hours : Nat)
  | verifySet (slot : Nat) (bad : Option Nat)
deriving DecidableEq, Repr

/-- One job record (03 R57 to R59). -/
structure Job where
  /-- Record number. | 10 bits | 03 Table 3.3 SLOT | no record -/
  slot      : Nat
  /-- Issuing window. | 2 bits | 03 Table 3.3 WINDOW | no record -/
  window    : Nat
  /-- Per-window count. | 32 bits | 03 Table 3.3 SEQ | no record -/
  seq       : Nat
  /-- Opcode that started the job. | 16 bits | 03 R526 | no record -/
  opcode    : Nat
  /-- NOTIFY of the command. | 1 bit | 03 R53 | no record -/
  notify    : Bool
  /-- Unit that carries the job. | Keeper or another | 03 R69 | no record -/
  carrier   : Carrier
  /-- A safe point exists, so JOB_CANCEL is taken. | 1 bit | 03 R59 | no record -/
  cancellable : Bool
  /-- The job is moving bulk data for its command. | 1 bit | 03 R68 | no record -/
  bulk      : Bool
  /-- A cancel is recorded. | 1 bit | 03 R59 | no record -/
  stopping  : Bool
  /-- The job has ended. | 1 bit | 03 R58 | no record -/
  ended     : Bool
  /-- Final code, once ended. | 16 bits | 03 R526 | no record -/
  code      : Nat
  /-- Final DETAIL, once ended. | 32 bits | 03 R526 | no record -/
  detail    : Nat
  /-- Results RES1 to RES29. | 64 bits each | 03 R526 | no record -/
  results   : List (BitVec 64)
  /-- Progress in per mille. | 10 bits | 03 R526 | no record -/
  progress  : Nat
  /-- The part of the effect that happens at the job's end. | JobWork | 03 R59 | no record -/
  work      : JobWork
deriving DecidableEq, Repr

/-- A GO held during a Keeper restart (03 R69, 17 R413). -/
structure HeldGo where
  window : Nat
  opcode : Nat
deriving DecidableEq, Repr

/-- The control interface. -/
structure CtlState where
  /-- Job records in use, by record number. | 1,024 records | 03 R57 | none -/
  jobs       : List Job
  /-- Jobs started so far by each window. | 4 × 32 bits | 03 Table 3.3 SEQ | 0 each -/
  seqs       : List Nat
  /-- GOs held for the Keeper's return, oldest first. | at most 4 | 03 R69 | none -/
  held       : List HeldGo
  /-- An SPDM secured session serves W1. | 1 bit | 03 TSK_WIN_STATE | false -/
  session    : Bool
  /-- An MCTP endpoint is bound to W2. | 1 bit | 03 TSK_WIN_STATE | false -/
  bound      : Bool
  /-- The upstream link is up. | 1 bit | 20 R473 | false (DESIGN CHOICE, log 3: the link trains after reset) -/
  upstreamUp : Bool
  /-- MSI-X enable in configuration space. | 1 bit | 03 R74 | false -/
  msixEnable : Bool
  /-- MSI-X function mask in configuration space. | 1 bit | 03 R74 | false -/
  msixMask   : Bool
deriving DecidableEq, Repr

/-- The control interface right after reset. -/
def CtlState.reset : CtlState :=
  { jobs := [], seqs := [0, 0, 0, 0], held := [], session := false, bound := false, upstreamUp := false,
    msixEnable := false, msixMask := false }

end Machine
end Sys2Proof
end

