-- ==== Sys2Proof/Machine/StateHost.lean ====
section
/-!
DEFINITION. State of the host front end: lanes, ports, flows, connections, associations, the access directory and the command contexts (04_host_front_end.md).
Lane and port status words live in `State.regs` under HFE_LANE_STATUS and HFE_PORT_STATUS.
Each field's docstring ends with: width | file and rule | value at reset.
-/
namespace Sys2Proof

/-- One 512-byte sector of data as one word; byte 0 of the sector in the least significant bits. -/
abbrev Sector := BitVec 4096

/-- The two NVMe transports (04 R81, R82). -/
inductive Transport where
  | roce | tcp
deriving DecidableEq, Repr

/-- The DH-HMAC-CHAP state of an association (04 R85). -/
inductive AuthState where
  | none | challenged | replied | done | failed
deriving DecidableEq, Repr

/-- The kinds of NVMe command that hold a context (04 R91, R93). -/
inductive HostCmdKind where
  | write | read | writeZeroes | deallocate | compare | copy | flush | reservation | other
deriving DecidableEq, Repr

/-- NVMe statuses by the names the rules give them (04 Table 4.4, R88 to R107, 11 R276). -/
inductive NvmeStatus where
  | success | capacityExceeded | unrecoveredRead | writeProtected | inaccessible | dataSglLength | dataTransferError
  | abortRequested | lbaOutOfRange | reservationConflict | abortLimit | invalidNamespace | invalidField
  | invalidOpcode | connectInvalidHost | connectInvalidParameters | controllerBusy | aerLimit | compareFailure | operationDenied
  | invalidFirmwareImage | invalidFirmwareSlot | activationProhibited | invalidQueue | namespaceExists | noResource | internal
deriving DecidableEq, Repr

/-- What a reservation command asks, with its fields as NVMe gives them (04 R93, 11 R276): RREGA, RACQA or RRELA, the keys, RTYPE, IEKEY, CPTPL. -/
inductive RsvReq where
  | register (act : Nat) (cur new : BitVec 64) (iekey : Bool) (cptpl : Nat)
  | acquire (act : Nat) (cur prev : BitVec 64) (rtype : Nat)
  | release (act : Nat) (cur : BitVec 64) (rtype : Nat)
deriving DecidableEq, Repr

/-- How far a host command has come. -/
inductive HostCmdPhase where
  | receiving   -- data solicited, not all arrived
  | ready       -- all data arrived, not yet journaled
  | journaled   -- its record or records are in the journal
  | reading     -- grains being fetched and verified
  | sending     -- a read has begun to send data
  | forwarded   -- passed to the owner over the Uberuf Link
  | held        -- its ANA group is in Change, or the head is leaving a power state
  | waiting     -- waits for RSV_ACK
deriving DecidableEq, Repr

namespace Machine

/-- A host identity of the access directory (04 R88). -/
structure HostIdent where
  /-- Directory index. | 0 to 262,143 | 04 R88, Table 4.2 | no entry -/
  index    : Nat
  /-- Host NQN, at most 223 bytes. | 223 bytes | 04 R88 | no entry -/
  nqn      : String
  /-- Host ID, 0 for none. | 128 bits | 04 R88 | no entry -/
  hostId   : BitVec 128
  /-- DH-HMAC-CHAP secret held under a Keeper key: its tag, or none. | wrapped | 04 R88 | no entry -/
  secret   : Option Nat
  /-- TLS PSK held under a Keeper key: its tag, or none. | wrapped | 04 R88 | no entry -/
  psk      : Option Nat
  /-- DH-HMAC-CHAP hash. | 3 bits | 04 Table 4.2 | no entry -/
  hash     : Nat
  /-- AUTH_REQUIRED. | 1 bit | 04 R88 | no entry -/
  authReq  : Bool
  /-- NSMGMT right. | 1 bit | 04 R88 | no entry -/
  nsMgmt   : Bool
  /-- FWUPD right. | 1 bit | 04 R88 | no entry -/
  fwUpd    : Bool
  /-- Granted namespaces. | NSIDs | 04 R88 | no entry -/
  grants   : List Nat
deriving DecidableEq, Repr

/-- One line of an APST table (04 R99): after `idleMs` in state `from` the demand moves to `to`. -/
structure ApstEntry where
  fromPs : Nat
  toPs   : Nat
  idleMs : Nat
deriving DecidableEq, Repr

/-- An association: one dynamic I/O controller (04 R86 to R91, R99, R103). -/
structure Assoc where
  /-- Controller ID. | 16 bits | 04 R87 | no association -/
  cntlid   : Nat
  /-- Directory index of its host. | 0 to 262,143 | 04 R88 | no association -/
  host     : Nat
  /-- Host port it uses. | 0 to 31 | 04 R86 | no association -/
  port     : Nat
  /-- Transport. | RoCEv2 or TCP | 04 R81, R82 | no association -/
  kind     : Transport
  /-- DH-HMAC-CHAP state. | Table of R85 | 04 R85 | no association -/
  auth     : AuthState
  /-- Open I/O queues, as (queue ID, entries). | 128 | 04 R90 | no association -/
  queues   : List (Nat × Nat)
  /-- I/O queues granted by Set Features Number of Queues. | 0 to 128 | 04 R90 | no association -/
  granted  : Nat
  /-- CC.EN. | 1 bit | 04 R103 | no association -/
  enabled  : Bool
  /-- Power state set by Set Features Power Management. | 2 bits | 04 R99 | no association -/
  psSet    : Nat
  /-- APST table, empty when APST is off. | descriptors | 04 R99 | no association -/
  apst     : List ApstEntry
  /-- Power state that the association demands now. | 2 bits | 04 R99 | no association -/
  psNow    : Nat
  /-- Keep Alive timeout in seconds. | 1 to 600 | 04 Table 4.3 | no association -/
  kato     : Nat
  /-- Timebase at which keep-alive expires, ns. | 64 bits | 04 R103 | no association -/
  katoAt   : Nat
  /-- Asynchronous Event Requests held, by command ID. | at most 8 | 04 Table 4.3 | no association -/
  aers     : List Nat
  /-- Asynchronous events enabled. | 32 bits | 04 R93 | no association -/
  aenMask  : BitVec 32
  /-- Events waiting for a request, oldest first, as event codes. | list | 04 R93 | no association -/
  events   : List Nat
  /-- Aborts outstanding. | at most 4 | 04 R94, Table 4.3 | no association -/
  aborts   : Nat
  /-- Changed Namespace List. | NSIDs | 04 Table 4.3 | no association -/
  changedNs : List Nat
  /-- Feature values set, as (feature ID, value). | 32 bits each | 04 R93 | no association -/
  features : List (Nat × BitVec 32)
  /-- Entries of its error log, newest first. | at most 256, as (first logical block, status) | 04 Table 4.3, 06 R150 | no association -/
  errors   : List (Nat × NvmeStatus)
deriving DecidableEq, Repr

/-- A controller ID that is free, and when its association ended (04 R87). -/
structure FreedId where
  cntlid : Nat
  at_    : Nat
deriving DecidableEq, Repr

/-- A transport connection under TLS (04 R83, R84). -/
structure TlsConn where
  /-- Connection number. | model's index | 04 R83 | no connection -/
  conn    : Nat
  /-- Host port. | 0 to 31 | 04 R83 | no connection -/
  port    : Nat
  /-- Directory index of the host whose PSK it uses. | 0 to 262,143 | 04 R88 | no connection -/
  host    : Nat
  /-- The handshake is complete. | 1 bit | 04 R83 | no connection -/
  up      : Bool
  /-- Receive traffic key number. | count | 04 R83 | no connection -/
  rxKey   : Nat
  /-- Transmit traffic key number. | count | 04 R83 | no connection -/
  txKey   : Nat
  /-- Association carried, if any. | controller ID or none | 04 R86 | no connection -/
  assoc   : Option Nat
deriving DecidableEq, Repr

/-- A RoCEv2 flow's congestion state (04 R79). -/
structure Flow where
  /-- Its queue pair, as 256 × controller ID + queue ID. | 24 bits | 04 R79, R81 | no flow -/
  flow   : Nat
  /-- Host port. | 0 to 31 | 04 R79 | no flow -/
  port   : Nat
  /-- Sending rate in Mbit/s. | rate | 04 R79 | no flow -/
  rate   : Nat
  /-- Rate before the last cut in Mbit/s. | rate | 04 R79 | no flow -/
  target : Nat
  /-- Timebase at which the recovery timer expires, ns. | 64 bits | 04 R79 | no flow -/
  timer  : Option Nat
deriving DecidableEq, Repr

/-- What a grain of a read still waits for (06 Table 6.1, R145, R151). -/
inductive FetchWait where
  | media | recon | journal (jseq : Nat)
deriving DecidableEq, Repr

/-- A grain that a read or a compare still fetches. -/
structure Fetch where
  /-- Number of the fetch within its command. | model's index | 06 R150 | none -/
  no      : Nat
  /-- Grain index in the namespace that its sectors go to. | 64 bits | 06 R144 | none -/
  key     : Nat
  /-- Grain ID, 0 for a journal copy. | 48 bits | 06 R144 | none -/
  grain   : Nat
  /-- Segment pinned, if one is. | 32 bits | 06 R158 | none -/
  segment : Option Nat
  /-- Sectors it supplies, as (sector of the command's grain, sector of the grain read). | up to 8 | 06 Table 6.1 | none -/
  pick    : List (Nat × Nat)
  /-- What it waits for. | FetchWait | 06 R145, R151 | none -/
  wait    : FetchWait
deriving DecidableEq, Repr

/-- A host command that holds a context (04 R91). -/
structure HostCmd where
  /-- Controller ID. | 16 bits | 04 R91 | no context -/
  cntlid  : Nat
  /-- Queue ID. | 0 to 128 | 04 R90 | no context -/
  qid     : Nat
  /-- Command ID. | 16 bits | 04 R91 | no context -/
  cid     : Nat
  /-- Kind. | HostCmdKind | 04 R93 | no context -/
  kind    : HostCmdKind
  /-- Namespace. | 1 to 65,536 | 04 R89 | no context -/
  nsid    : Nat
  /-- First logical block. | 64 bits | 04 R106 | no context -/
  slba    : Nat
  /-- Logical blocks. | up to 2 MiB of data | 04 R93 | no context -/
  nblk    : Nat
  /-- Ranges of a Dataset Management, and of a Copy with its source, as (first block, blocks, first source block). | up to 256 | 04 R93, 05 R112 | no context -/
  ranges  : List (Nat × Nat × Nat)
  /-- Data arrived so far, as 512-byte sectors in order. | up to 2 MiB | 04 R106 | no context -/
  data    : List Sector
  /-- Phase. | HostCmdPhase | 04 R106 | no context -/
  phase   : HostCmdPhase
  /-- Journal records it became. | JSEQs | 05 R112 | no context -/
  jseqs   : List Nat
  /-- Bytes that remain to arrive. | up to 2 MiB | 04 R106 | no context -/
  missing : Nat
  /-- It came forwarded from the partner under this tag, if it did. | 16 bits or none | 04 R95 | no context -/
  fwdTag  : Option Nat
  /-- Host that sent it, as reservations name hosts. | host ID | 11 R276 | no context -/
  host    : Nat
  /-- What a reservation command asks. | RsvReq | 11 R276 | no context -/
  rsv     : Option RsvReq
  /-- PT nearest to it, which serves its reads. | 0 to 65 | 06 R159 | no context -/
  pt      : Nat
  /-- Grains still awaited for a read or a compare. | list | 06 R144, R150 | no context -/
  fetches : List Fetch
  /-- Lowest grain of it that ended unrecoverable. | grain index or none | 06 R150 | no context -/
  failed  : Option Nat
  /-- A Compare has found a difference. | 1 bit | 04 R93 | no context -/
  differs : Bool
deriving DecidableEq, Repr

/-- A capsule that waits in its receive buffer for a context (04 R91). -/
structure WaitingCapsule where
  cntlid : Nat
  qid    : Nat
  cmd    : HostCmd
deriving DecidableEq, Repr

/-- A host lane's re-test clock (04 R77). -/
structure LaneFault where
  lane : Nat
  at_  : Nat
deriving DecidableEq, Repr

/-- The host front end. -/
structure HostState where
  /-- The access directory. | 262,144 identities | 04 R88 | empty -/
  directory : List HostIdent
  /-- Open associations. | 16,384 | 04 R86 | none -/
  assocs    : List Assoc
  /-- Controller IDs freed, least recently freed first. | 16,384 | 04 R87 | none -/
  freedIds  : List FreedId
  /-- TLS connections. | list | 04 R83 | none -/
  tls       : List TlsConn
  /-- RoCEv2 flows. | list | 04 R79 | none -/
  flows     : List Flow
  /-- Command contexts in use. | 2,097,152 | 04 R91 | none -/
  cmds      : List HostCmd
  /-- Capsules waiting for a context, in arrival order. | receive buffers | 04 R91 | none -/
  waiting   : List WaitingCapsule
  /-- The association served last by the round-robin of R91. | controller ID | 04 R91 | 0 -/
  lastServed : Nat
  /-- Frames dropped because they match no interface, as (port, count). | 32 counts | 04 R78 | none -/
  dropped   : List (Nat × Nat)
  /-- Faulty lanes and when each was last tested. | 32 | 04 R77 | none -/
  laneFaults : List LaneFault
  /-- Chip power state. | 2 bits | 04 R99, HFE_PWR_STATE | 2 -/
  chipPs    : Nat
deriving DecidableEq, Repr

/-- The host front end right after reset. -/
def HostState.reset : HostState :=
  { directory := [], assocs := [], freedIds := [], tls := [], flows := [], cmds := [], waiting := [], lastServed := 0,
    dropped := [], laneFaults := [], chipPs := 2 }

end Machine
end Sys2Proof
end

