-- ==== Sys2Proof/Machine/StateGrain.lean ====
section
/-!
DEFINITION. Journal records and grain headers as data (05_write_path.md Tables 5.1, 5.4).
-/
namespace Sys2Proof

/-- One entry of a journal record's grain table with its payload slot (05 Table 5.1). `data` holds 8 sectors, unmasked ones zero; empty for a zero marker. -/
structure JGrain where
  crc  : BitVec 32
  mask : BitVec 8
  zero : Bool
  data : List Sector
deriving DecidableEq, Repr

/-- The kinds of journal record (05 Table 5.1 FLAGS[3:2]). -/
inductive JKind where
  | data | writeZeroes | deallocate | copy
deriving DecidableEq, Repr

/-- A journal record BDJR (05 Table 5.1). -/
structure JRecord where
  jseq     : Nat
  stamp    : Nat
  nsid     : Nat
  group    : Nat
  head     : Nat
  fwd      : Bool
  kind     : JKind
  slba     : Nat
  nblk     : Nat
  grains   : List JGrain
  ownerGen : Nat
  srcSlba  : Nat
deriving DecidableEq, Repr

/-- The scope within which a grain can de-duplicate (05 R122): the domain and the key domain, or CLEAR. -/
structure Scope where
  ddom : Nat
  key  : Nat
  clear : Bool
deriving DecidableEq, Repr

/-- What the Zstandard unit and the cipher gave a grain: its stored form (05 R129 to R133, Table 5.4). -/
structure GrainHeader where
  grainId   : Nat
  scope     : Scope
  storedLen : Nat
  compressed : Bool
  dictUsed  : Bool
  relocated : Bool
  dictId    : Nat
  payloadCrc : BitVec 32
  fp        : BitVec 256
  crcOk     : Bool
deriving DecidableEq, Repr

end Sys2Proof
end

