-- ==== Sys2Proof/Machine/StateMedia.lean ====
section
/-!
DEFINITION. State of the read path, of placement, rebuild and flash management (06_read_path.md, 07_erasure_layouts_and_rebuild.md, 08_flash_management.md).
NAND contents belong to the modules and are no state of the part; the part's own records of them are here.
Each field's docstring ends with: width | file and rule | value at reset.
-/
namespace Sys2Proof

/-- A media address (01 Table 1.10), field by field. -/
structure MediaAddr where
  oneBit   : Bool
  module   : Nat
  die      : Nat
  plane    : Nat
  block    : Nat
  page     : Nat
  codeword : Nat
deriving DecidableEq, Repr

/-- A module descriptor (09 Table 9.6), field by field; `crcOk` says whether its CRC checks. -/
structure Descriptor where
  format     : Nat
  len        : Nat
  vendor     : Nat
  serial     : BitVec 128
  model      : BitVec 128
  wwid       : BitVec 64
  dies       : Nat
  planes     : Nat
  density    : Nat
  flags      : Nat
  blocks     : Nat
  pagesNative : Nat
  pagesOneBit : Nat
  pageBytes  : Nat
  spares     : Nat
  endNative  : Nat
  endOneBit  : Nat
  readNative : Nat
  readOneBit : Nat
  retNative  : Nat
  retOneBit  : Nat
  refTemp    : Nat
  eaMeV      : Nat
  tReadUs    : Nat
  tProgUs    : Nat
  tEraseUs   : Nat
  holdupMs   : Nat
  retrySets  : Nat
  stepMv     : Nat
  rawBytes   : Nat
  bbtCount   : Nat
  rsvdZero   : Bool
  retryTable : List (List Int)
  crcOk      : Bool
deriving DecidableEq, Repr

namespace Machine

/-- A grain reconstruction in flight in a PT (06 R159). -/
structure Recon where
  /-- PT. | 0 to 65 | 06 R159 | table empty -/
  pt      : Nat
  /-- Grain ID. | 48 bits | 06 R159 | table empty -/
  grain   : Nat
  /-- Reads that wait for it, as (controller, queue, command). | list | 06 R159 | table empty -/
  waiters : List (Nat × Nat × Nat)
  /-- It runs outside the full table. | 1 bit | 06 R159 | table empty -/
  own     : Bool
  /-- The grain's own member decoded cleanly. | 1 bit | 06 R152, R155 | table empty -/
  decoded : Bool
deriving DecidableEq, Repr

/-- The read path. -/
structure ReadState where
  /-- Segments pinned, one entry per pin. | segment IDs | 06 R158 | none -/
  pins      : List Nat
  /-- Reconstructions in flight. | 64 per PT | 06 R159 | none -/
  recons    : List Recon
  /-- Grains queued for repair in place. | grain IDs | 06 R153, R159 | none -/
  repairs   : List Nat
  /-- Grains queued because their row is rewritten. | grain IDs | 06 R155 | none -/
  rewrites  : List Nat
  /-- Highest occupancy of any PT's table. | 7 bits | 06 PTL_RECON_STATUS | 0 -/
  tablePeak : Nat
deriving DecidableEq, Repr

/-- The states of a module (08 Table 8.7). -/
inductive ModState where
  | absent | active | retiring | wornOut | failed
deriving DecidableEq, Repr

/-- A module's record (07 R165, 08 Table 8.7, 09). -/
structure Module where
  /-- Module index. | 0 to 255 | 07 R165 | no module -/
  index     : Nat
  /-- STATE. | 3 bits | 08 Table 8.7 | no module -/
  st        : ModState
  /-- Placement domain. | 0 to 7 | 07 R165 | no module -/
  pdom      : Nat
  /-- Failure domain. | 0 to 63 | 07 R165 | no module -/
  fdom      : Nat
  /-- Its descriptor. | 512 bytes | 09 R229 | no module -/
  desc      : Descriptor
  /-- Factory bad blocks, as (die, plane, block). | 4 bytes a block | 09 BBT_READ | no module -/
  badBlocks : List (Nat × Nat × Nat)
  /-- Temperature now, K. | 16 bits | 08 Table 8.7 | no module -/
  tempK     : Nat
  /-- Highest temperature, K. | 16 bits | 08 Table 8.7 | no module -/
  maxTempK  : Nat
  /-- H at the highest temperature. | 32 bits | 08 Table 8.7 | no module -/
  maxTempH  : Nat
  /-- Timebase of the last valid NAND temperature sample, ns. | 64 bits | 08 R202, 17 R418 | no module -/
  sampledAt : Nat
  /-- Timebase of the last attempt to sample, ns. | 64 bits | 17 Table 17.3 | no module -/
  triedAt   : Nat
  /-- Timebase up to which E is charged, ns. | 64 bits | 08 R202, 17 R418 | no module -/
  chargedTo : Nat
  /-- Spare blocks left. | 32 bits | 08 Table 8.7 | no module -/
  sparesLeft : Nat
  /-- E in equivalent ns; the history holds it in 1/1,024 hour. | 64 bits | 08 R202, Table 8.1 | no module -/
  e         : Nat
  /-- Retention history, as (hour, E at its end). | 8 bytes an hour | 08 Table 8.1 | no module -/
  history   : List (Nat × Nat)
  /-- Program failures. | 32 bits | 08 Table 8.7 | no module -/
  progFails : Nat
  /-- Erase failures. | 32 bits | 08 Table 8.7 | no module -/
  eraseFails : Nat
  /-- Unreadable codewords. | 32 bits | 08 Table 8.7 | no module -/
  unreadable : Nat
  /-- Soft decodes. | 32 bits | 08 Table 8.7 | no module -/
  softs     : Nat
  /-- MISMATCH. | 32 bits | 06 R155, 08 R197 | no module -/
  mismatch  : Nat
  /-- Segments refreshed. | 32 bits | 08 Table 8.7 | no module -/
  refreshed : Nat
  /-- Grains lost with a member here. | 32 bits | 08 Table 8.7 | no module -/
  lostHere  : Nat
  /-- Timebase at which the module was last reached by either path, ns. | 64 bits | 09 R233 | no module -/
  reachedAt : Nat
  /-- Dies marked failed. | 128 bits | 09 R233 | no module -/
  deadDies  : List Nat
  /-- Die faults of the last 10 s, as (die, timebase). | list | 09 R233 | no module -/
  dieFaults : List (Nat × Nat)
  /-- Operations of the other port that the last response of a die told of by DIE_WAIT, as (die, 0 or 1). | 128 counts | 09 R228, 08 R190 | no module -/
  dieQueue  : List (Nat × Nat)
  /-- It refused this head's commands with FENCED. | 1 bit | 07 "Rebuild", 09 R224 | no module -/
  fencedHere : Bool
deriving DecidableEq, Repr

/-- The states of a block (08 Table 8.1). -/
inductive BlockState where
  | erased | eraseQueued | inSegment | retired | spare
deriving DecidableEq, Repr

/-- A block record (08 Table 8.1). -/
structure Block where
  /-- Module. | 8 bits | 01 Table 1.10 | no module -/
  module : Nat
  /-- Die. | 7 bits | 01 Table 1.10 | no module -/
  die    : Nat
  /-- Plane. | 2 bits | 01 Table 1.10 | no module -/
  plane  : Nat
  /-- Block. | 16 bits | 01 Table 1.10 | no module -/
  block  : Nat
  /-- ERASE_COUNT. | 32 bits | 08 Table 8.1 | no module -/
  erases : Nat
  /-- READ_COUNT. | 32 bits | 08 Table 8.1 | no module -/
  reads  : Nat
  /-- STATE. | 8 bits | 08 Table 8.1 | no module -/
  st     : BlockState
  /-- POOL: one-bit. | 8 bits | 08 Table 8.1 | no module -/
  oneBit : Bool
  /-- SOFT. | 16 bits | 08 Table 8.1 | no module -/
  soft   : Nat
  /-- A codeword on it has been unreadable: it retires once its grains have moved. | 1 bit | 08 R189 | no module -/
  suspect : Bool
  /-- It belongs to no pool (anchor), or to a vault member's dump or stream area. | 1 bit | 08 R188 | no module -/
  aside  : Bool
deriving DecidableEq, Repr

/-- The states of a segment (07 Table 7.2 FLAGS[6:4]). -/
inductive SegState where
  | open_ | sealed | rebuilding | retired
deriving DecidableEq, Repr

/-- What has claimed a segment. -/
inductive SegClaim where
  | none | rebuild | gc | fold | refresh | level
deriving DecidableEq, Repr

/-- A segment table entry (07 Table 7.2), with the work that has claimed it. -/
structure Segment where
  /-- SEG_ID; bit 31 is the opening head's index. | 32 bits | 07 R170 | no segment -/
  id       : Nat
  /-- K. | 8 bits | 07 Table 7.2 | no segment -/
  k        : Nat
  /-- M. | 8 bits | 07 Table 7.2 | no segment -/
  m        : Nat
  /-- FLAGS[0] one-bit mode. | 1 bit | 07 Table 7.2 | no segment -/
  oneBit   : Bool
  /-- FLAGS[3:1] placement domain. | 3 bits | 07 Table 7.2 | no segment -/
  pdom     : Nat
  /-- FLAGS[6:4] state. | 3 bits | 07 Table 7.2 | no segment -/
  st       : SegState
  /-- FLAGS[7] relocate on rebuild. | 1 bit | 07 Table 7.2 | no segment -/
  relocate : Bool
  /-- GEN. | 64 bits | 07 Table 7.2 | no segment -/
  gen      : Nat
  /-- OPEN_STAMP. | 64 bits | 07 Table 7.2 | no segment -/
  openStamp : Nat
  /-- ROWS sealed. | 16 bits | 07 Table 7.2 | no segment -/
  rows     : Nat
  /-- ERASED: members unavailable. | 27 bits | 07 Table 7.2 | no segment -/
  erased   : List Nat
  /-- MEMBERS. | W media addresses | 07 Table 7.2 | no segment -/
  members  : List MediaAddr
  /-- LIVE_KIB, kept in bytes here. | 32 bits of KiB | 07 Table 7.2 | no segment -/
  liveBytes : Nat
  /-- SEAL_HOUR. | 32 bits | 08 Table 8.1 | no segment -/
  sealHour : Nat
  /-- Timebase at which it sealed, ns: the order of folding. | 64 bits | 08 R192 | no segment -/
  sealAt   : Nat
  /-- Codeword columns unreadable, as (row, codeword, member). | list | 06 R156 | no segment -/
  badCols  : List (Nat × Nat × Nat)
  /-- The work that has claimed it. | SegClaim | 07 R181 | no segment -/
  claim    : SegClaim
  /-- The last transaction that moved a grain off it, plus 1; 0 for none. | 64 bits | 08 R196 | no segment -/
  lastMove : Nat
  /-- State 3 is durable in the metadata log. | 1 bit | 08 R196 | no segment -/
  gone     : Bool
  /-- Queued for refresh or retention fold, with its age fraction in ‰. | 10 bits | 08 R199, R203 | no segment -/
  refresh  : Option Nat
  /-- It is a metadata segment. | 1 bit | 10 R248 | no segment -/
  metadata : Bool
  /-- What its rows serve: packing, folding or relocation. | 2 bits | 08 R191 | no segment -/
  use_     : Nat
deriving DecidableEq, Repr

/-- A loss list entry (07 Table 7.5). -/
structure LossEntry where
  grain    : Nat
  cause    : Nat
  member   : Nat
  segment  : Nat
  page     : Nat
  codeword : Nat
deriving DecidableEq, Repr

/-- A placement domain (07 R161 to R168, R527). -/
structure PDomain where
  /-- The code, as (k, m), or none before the first LAYOUT_SET. | Table 7.7 | 07 R162 | none -/
  code     : Option (Nat × Nat)
  /-- Rebuild is stalled on space in it. | 1 bit | 07 R185, R527 | false -/
  stalled  : Bool
  /-- Relocation off a WORN_OUT module finds no room in it. | 1 bit | 07 R527, 08 R206 | false -/
  noRoom   : Bool
  /-- It was read-only for new allocation when last told. | 1 bit | 07 R527 | false -/
  readOnly : Bool
  /-- Folding runs. | 1 bit | 08 R192 | false -/
  folding  : Bool
  /-- Garbage collection runs. | 1 bit | 08 R194 | false -/
  collecting : Bool
deriving DecidableEq, Repr

/-- A substitution programmed and waiting for its transaction (07 R178, R179). -/
structure RebuildTx where
  segment : Nat
  member  : Nat
  target  : MediaAddr
  moved   : List Nat
deriving DecidableEq, Repr

/-- What a checkpoint holds of the retention clock and of the journal (10 Table 10.7; 08 R201, R202). -/
structure CkptClock where
  /-- H. | 32 bits | 10 Table 10.7 | 0 -/
  hour    : Nat
  /-- E and retention history of each module, as (module, E, history). | per module | 10 Table 10.1 | none -/
  ages    : List (Nat × Nat × List (Nat × Nat))
  /-- JSEQ_RETIRED at its start. | 64 bits | 10 Table 10.7 | 0 -/
  retired : Nat
deriving DecidableEq, Repr

/-- Placement, rebuild and flash management. -/
structure MediaState where
  /-- Modules known. | 256 | 07 R165 | none -/
  modules   : List Module
  /-- Placement domains, domain 0 first. | 8 | 07 R165 | no code, none read-only -/
  domains   : List PDomain
  /-- Co-membership counts, as (lower module, higher module, count). | one per pair | 07 R171 | 0 each -/
  pairs     : List (Nat × Nat × Nat)
  /-- Grains ever placed on the loss list. | count | 08 Table 8.5 | 0 -/
  lossesEver : Nat
  /-- Substitutions waiting for their transaction. | list | 07 R178 | none -/
  rebuilds  : List RebuildTx
  /-- Retention hour H. | 32 bits | 08 R201 | 0 -/
  hour      : Nat
  /-- Timebase at which H last advanced, ns. | 64 bits | 08 R201 | 0 -/
  hourAt    : Nat
  /-- Timebase at which the restart of the metadata ran, ns. | 64 bits | 08 R201 | 0 -/
  startAt   : Nat
  /-- The power-off time before this start has been charged. | 1 bit | 08 R201 | false -/
  offCharged : Bool
  /-- The wall-clock is known since start. | 1 bit | 08 MTL_RET_STATUS | false -/
  wallKnown : Bool
  /-- The partner's MARGIN_PCT as last told, or none before a join. | 8 bits | 08 R204 | none -/
  partnerMargin : Option Nat
  /-- Checkpoint in progress: its log position P. | 64 bits | 08 R207 | none -/
  ckptP     : Option Nat
  /-- Timebase at the start of the last checkpoint, ns. | 64 bits | 08 R207 | 0 -/
  ckptFrom  : Nat
  /-- Log position of the checkpoint that restart uses. | 64 bits | 08 R207 | 0 -/
  ckptBase  : Nat
  /-- H, E and JSEQ_RETIRED as the checkpoint in progress took them, and as the one that restart uses holds them. | CkptClock each | 10 Table 10.7 | 0, none -/
  ckptTaking : CkptClock
  ckptClock : CkptClock
  /-- Wall-clock taken at the start of the checkpoint in progress. | 64 bits | 10 Table 10.7 | none -/
  ckptTaken : Option Nat
  /-- Snapshot IDs freed before the checkpoint in progress began. | list | 10 R264 | none -/
  ckptFreed : List Nat
  /-- Wall-clock saved with the last checkpoint, if known. | 64 bits | 08 R201 | none -/
  ckptWall  : Option Nat
  /-- Timebase of the last durable checkpoint, ns. | 64 bits | 08 MTL_CKPT_STATUS AGE_S | 0 -/
  ckptAt    : Nat
  /-- Checkpoints made durable since chip reset. | 32 bits | 08 MTL_CKPT_STATUS COUNT | 0 -/
  ckptCount : Nat
  /-- Metadata log written since that checkpoint, bytes. | count | 08 MTL_CKPT_STATUS LOG_MIB | 0 -/
  logBytes  : Nat
  /-- Host commands and data units of this head, as (read commands, write commands, units read, units written). | 128 bits each | 08 Table 8.5 | 0 each -/
  traffic   : Nat × Nat × Nat × Nat
  /-- The partner's, as last synchronised. | 128 bits each | 08 R211 | 0 each -/
  partnerTraffic : Nat × Nat × Nat × Nat
  /-- Starts that ran step 1 or step 4 of Table 8.4 with work to do. | count | 08 Table 8.5 | 0 -/
  unsafeShutdowns : Nat
  /-- Metadata restart has admitted host I/O. | 1 bit | 08 R208 | false -/
  ioAdmitted : Bool
deriving DecidableEq, Repr

/-- The read path right after reset. -/
def ReadState.reset : ReadState := { pins := [], recons := [], repairs := [], rewrites := [], tablePeak := 0 }

/-- A placement domain before its first code (07 R162). -/
def PDomain.reset : PDomain :=
  { code := none, stalled := false, noRoom := false, readOnly := false, folding := false, collecting := false }

/-- No checkpoint. -/
def CkptClock.zero : CkptClock := { hour := 0, ages := [], retired := 0 }

/-- Placement, rebuild and flash management right after reset. -/
def MediaState.reset : MediaState :=
  { modules := [], domains := List.replicate 8 .reset, pairs := [], lossesEver := 0, rebuilds := [],
    hour := 0, hourAt := 0, startAt := 0, offCharged := false, wallKnown := false, partnerMargin := none, ckptP := none, ckptFrom := 0, ckptBase := 0,
    ckptTaking := .zero, ckptClock := .zero, ckptTaken := none, ckptFreed := [], ckptWall := none, ckptAt := 0, ckptCount := 0, logBytes := 0, traffic := (0, 0, 0, 0),
    partnerTraffic := (0, 0, 0, 0), unsafeShutdowns := 0, ioAdmitted := false }

end Machine
end Sys2Proof
end

