-- ==== Sys2Proof/Machine/StateMeta.lean ====
section
/-!
DEFINITION. State of the metadata: the store of each head, its log and checkpoint, namespaces and snapshots (10_metadata_and_snapshots.md).
Each field's docstring ends with: width | file and rule | value at reset.
-/
namespace Sys2Proof

/-- A map tree entry (10 Table 10.4): KIND and GRAIN_ID. -/
inductive MapEntry where
  | unmapped | zero | grain (id : Nat)
deriving DecidableEq, Repr

/-- The states of a directory entry (10 Table 10.4). -/
inductive DirState where
  | free | pending | stored | recovered | lost | released | partial_
deriving DecidableEq, Repr

/-- A grain directory entry (10 Table 10.4), with the scope and domain its header carries. -/
structure DirEntry where
  grain    : Nat
  addr     : MediaAddr
  segment  : Nat
  member   : Nat
  lostMask : BitVec 8
  refs     : Nat
  len16    : Nat
  off16    : Nat
  st       : DirState
deriving DecidableEq, Repr

/-- A fingerprint index entry (10 Table 10.4). FP_KEY is kept as the fingerprint it stands for (10 Table 10.4: it is deterministic for one scope). -/
structure FpEntry where
  fp    : BitVec 256
  grain : Nat
  scope : Scope
deriving DecidableEq, Repr

/-- A map page (10 Table 10.2). `gen` names it among both heads' pages: 2 × GEN + HEAD of its writer. An interior page has pointers (KEY_LO, name), a leaf has entries. -/
structure MapPage where
  gen     : Nat
  object  : Nat
  level   : Nat
  keyLo   : Nat
  share   : Nat
  ptrs    : List (Nat × Nat)
  entries : List (Nat × MapEntry)
deriving DecidableEq, Repr

/-- The reservation types of NVMe (04 R93). -/
inductive RsvType where
  | none | writeExclusive | exclusiveAccess | writeExclusiveRegs | exclusiveAccessRegs | writeExclusiveAll | exclusiveAccessAll
deriving DecidableEq, Repr

/-- Reservation state of a namespace (04 R93, 11 R276). -/
structure Rsv where
  gen    : Nat
  typ    : RsvType
  holder : Option Nat
  regs   : List (Nat × BitVec 64)
  ptpl   : Bool
deriving DecidableEq, Repr

/-- A namespace table entry (10 Table 10.9). -/
structure Namespace where
  nsid     : Nat
  small    : Bool
  clone    : Bool
  deleting : Bool
  conflict : Bool
  size     : Nat
  group    : Nat
  profile  : Nat
  level    : Nat
  ddom     : Nat
  verify   : Bool
  key      : Nat
  threshold : Nat
  guard    : Nat
  guardOn  : Bool
  guardLock : Nat
  root     : Option Nat
  origin   : Nat
  snaps    : Nat
  height   : Nat
  dict     : Nat
  rsv      : Rsv
deriving DecidableEq, Repr

/-- The retention lock of a snapshot (10 Table 10.10 LOCK). -/
inductive Lock where
  | none | expiry (seconds : Nat) | hours (h : Nat)
deriving DecidableEq, Repr

/-- The states of a snapshot (10 Table 10.10). -/
inductive SnapState where
  | cutting | ready | deleting
deriving DecidableEq, Repr

/-- A snapshot table entry (10 Table 10.10). -/
structure Snapshot where
  id     : Nat
  nsid   : Nat
  cut    : Nat
  wall   : Nat
  lock   : Lock
  root   : Option Nat
  size   : Nat
  guard  : Bool
  st     : SnapState
  clones : Nat
deriving DecidableEq, Repr

/-- A dictionary (05 R131). -/
structure Dict where
  id   : Nat
  data : List Byte
deriving DecidableEq, Repr

/-- The log delta kinds (10 Table 10.6), TXN_END apart. -/
inductive Delta where
  | mapSet (nsid index : Nat) (e : MapEntry)
  | refAdd (grain : Nat) (by_ : Int)
  | dirSet (e : DirEntry)
  | treeCow (object level keyLo : Nat) (orig copy : Nat)
  | treeRelease (object rootGen : Nat)
  | releaseMark (object keyLo : Nat)
  | segSet (s : Machine.Segment)
  | segDel (id : Nat)
  | blockSet (b : Machine.Block)
  | nsSet (n : Namespace)
  | nsDel (nsid : Nat)
  | snapSet (s : Snapshot)
  | snapDel (id : Nat)
  | fpAdd (e : FpEntry)
  | fpDel (e : FpEntry)
  | lossAdd (l : Machine.LossEntry)
  | lossDel (grain : Nat)
  | dictSet (d : Dict)
  | dictDel (id : Nat)
  | treeTake (nss : List Namespace) (snaps : List Snapshot) (pages : List MapPage) (walks : List (Nat × Nat))
  | treeLeave (group : Nat)
deriving DecidableEq, Repr

/-- A transaction of the metadata log (10 R251): its deltas, each with the store it changes (true: the partner's, kept by a survivor), and its TXN_END. -/
structure Txn where
  num     : Nat
  deltas  : List (Bool × Delta)
  jseq    : Nat
  remote  : Nat
deriving DecidableEq, Repr

namespace Machine

/-- A release walk (10 R260): a page whose SHARE reached 0, on behalf of which object. -/
structure Walk where
  object : Nat
  page   : Nat
  job    : Option Nat
deriving DecidableEq, Repr

/-- A metadata store (10 Table 10.1): this head's, or the shadow of the partner's. -/
structure Store where
  /-- Map pages. | 16 KiB each | 10 R245 | empty -/
  pages    : List MapPage
  /-- Grain directory. | 16 bytes an entry | 10 Table 10.4 | empty -/
  dir      : List DirEntry
  /-- Fingerprint index. | 48 bytes an entry | 10 Table 10.4 | empty -/
  index    : List FpEntry
  /-- Namespace table. | 65,536 entries of 128 bytes | 10 Table 10.9 | empty -/
  nss      : List Namespace
  /-- Snapshot table. | 1,048,576 entries of 128 bytes | 10 Table 10.10 | empty -/
  snaps    : List Snapshot
  /-- Segment table. | 256 bytes an entry | 07 Table 7.2 | empty -/
  segments : List Segment
  /-- Block records. | 16 bytes an entry | 08 Table 8.1 | empty -/
  blocks   : List Block
  /-- Loss list. | 1,048,576 entries of 16 bytes | 07 Table 7.5 | empty -/
  losses   : List LossEntry
  /-- Dictionaries. | 4,096 of up to 64 KiB | 05 R131 | empty -/
  dicts    : List Dict
  /-- Release walks waiting, oldest first. | list | 10 R260 | empty -/
  walks    : List Walk
  /-- Generation counter. | 64 bits | 10 R247 | 0 -/
  gen      : Nat
  /-- Next grain number of this head. | 47 bits | 05 R126 | 1 -/
  grainNext : Nat
  /-- Next snapshot number of this head. | 31 bits | 10 R264 | 1 -/
  snapNext : Nat
  /-- Next segment number of this head. | 30 bits | 07 R170, 10 R248 | 0 -/
  segNext  : Nat
  /-- Next Dictionary_ID. | 31 bits | 05 R131 | 1 -/
  dictNext : Nat
deriving DecidableEq, Repr

/-- A log page: open, or programming (10 R252). -/
structure LogPage where
  /-- LPSEQ. | 64 bits | 10 Table 10.2 | none -/
  lpseq  : Nat
  /-- Transactions that end in it. | list | 10 R251 | none -/
  txns   : List Txn
  /-- Bytes of deltas in it. | 0 to 16,256 | 10 R250 | none -/
  bytes  : Nat
  /-- Timebase of its first delta, ns. | 64 bits | 10 R252 | none -/
  since  : Nat
  /-- It has been sent to both copies' rows. | 1 bit | 10 R252 | none -/
  sent   : Bool
  /-- It is durable in both copies. | 1 bit | 10 R251 | none -/
  durable : Bool
deriving DecidableEq, Repr

/-- A remote delta sent to the partner and not yet acknowledged (10 R244). -/
structure RemoteDelta where
  txn   : Nat
  index : Nat
  delta : Delta
  jseq  : Nat
deriving DecidableEq, Repr

/-- Metadata of this head. -/
structure MetaState where
  /-- This head's store as it stands in DRAM. | Store | 10 R243 | empty -/
  store     : Store
  /-- The store as the checkpoint that restart uses holds it. | Store | 08 R207 | empty (DESIGN CHOICE of the modules' content at reset, log 3) -/
  saved     : Store
  /-- The store captured at the start of the checkpoint in progress. | Store | 08 R207 | empty -/
  taking    : Store
  /-- The partner's store as a survivor's checkpoints hold it, and as the one in progress captured it. | Store each | 11 R287 | empty -/
  savedShadow : Store
  takingShadow : Store
  /-- The shadow of the partner's store, and its read-only copies. | Store | 10 R244, 11 R275 | empty -/
  shadow    : Store
  /-- Log pages since P, oldest first. | 16 KiB each | 10 R250 | none -/
  log       : List LogPage
  /-- Next LPSEQ. | 64 bits | 10 R252 | 0 -/
  lpseq     : Nat
  /-- Next transaction number. | 64 bits, low 32 carried in TXN | 10 R250 | 0 -/
  txn       : Nat
  /-- Remote deltas not yet acknowledged. | list | 10 R244 | none -/
  remote    : List RemoteDelta
  /-- Transactions of the partner applied to the shadow, by number. | 64 bits | 10 R251, 11 R275 | 0 -/
  shadowTxn : Nat
  /-- Pages fenced by METADATA_CONFLICT, as (generation, keys whose entries differ). | list | 10 R255 | none -/
  conflicts : List (Nat × List Nat)
  /-- Map pages lost in both copies, by generation. | list | 10 R255 | none -/
  lostPages : List Nat
  /-- Pages marked dirty by a read of unequal copies, by generation. | list | 10 R254 | none -/
  dirty     : List Nat
  /-- Snapshot IDs removed and recorded by no checkpoint yet. | 32 bits each | 10 R264 | none -/
  freedSnaps : List Nat
  /-- Records that replay has still to take through the pipeline, by JSEQ. | list | 08 R210, 11 R287 | none -/
  replay    : List Nat
  /-- No metadata segment can open. | 1 bit | 10 R248 | false -/
  readOnly  : Bool
  /-- NS_DELETE and SNAP_DELETE jobs, as (job record, NSID, snapshot ID, 0 where it does not apply). | list | 10 R267 | none -/
  deletes   : List (Nat × Nat × Nat)
deriving DecidableEq, Repr

/-- A metadata store that holds nothing; counters start at 1 where 0 is no number (05 R126, 10 R264, 05 R131). -/
def Store.empty : Store :=
  { pages := [], dir := [], index := [], nss := [], snaps := [], segments := [], blocks := [], losses := [],
    dicts := [], walks := [], gen := 0, grainNext := 1, snapNext := 1, segNext := 0, dictNext := 1 }

/-- Metadata right after reset. -/
def MetaState.reset : MetaState :=
  { store := .empty, saved := .empty, taking := .empty, savedShadow := .empty, takingShadow := .empty, shadow := .empty, log := [], lpseq := 0, txn := 0,
    remote := [], shadowTxn := 0, conflicts := [], lostPages := [], dirty := [], freedSnaps := [],
    replay := [], readOnly := false, deletes := [] }

end Machine
end Sys2Proof
end

