-- ==== Sys2Proof/Machine/StateWrite.lean ====
section
/-!
DEFINITION. State of the write path: journal rings, vault pages, space admission, the Sieve, packing, histograms (05_write_path.md).
Each field's docstring ends with: width | file and rule | value at reset.
-/
namespace Sys2Proof

namespace Machine

/-- The namespace settings a record was appended under (05 R138). -/
structure WriteCfg where
  profile : Nat
  level   : Nat
  ddom    : Nat
  verify  : Bool
deriving DecidableEq, Repr

/-- A record of the local ring, with what it still waits for. -/
structure RingEntry where
  /-- The record. | Table 5.1 | 05 R112 | ring empty -/
  rec_      : JRecord
  /-- The partner has acknowledged it. | 1 bit | 05 R117 | ring empty -/
  mirrored  : Bool
  /-- Vault modules on which its last page is programmed. | 0 to 2 | 05 R115, R116 | ring empty -/
  vaulted   : Nat
  /-- Its completion has been posted. | 1 bit | 05 R115 | ring empty -/
  posted    : Bool
  /-- Grains (by index) that have passed the map update. | 0 to 256 | 05 R121 | ring empty -/
  mapped    : List Nat
  /-- Grain IDs its deltas name that are still PENDING. | 48 bits each | 05 R114 | ring empty -/
  pendingIds : List Nat
  /-- Its deltas are covered by the metadata log. | 1 bit | 05 R114 | ring empty -/
  logged    : Bool
  /-- It has retired. | 1 bit | 05 R114 | ring empty -/
  retired   : Bool
  /-- Bytes reserved for its grains. | count | 05 R119 | ring empty -/
  reserved  : Nat
  /-- It waits for a synchronous stream's SYNC_ACK. | 1 bit | 13 R325 | ring empty -/
  syncWait  : Bool
  /-- It was journaled as a set of hits, without a reservation. | 1 bit | 05 R120 | ring empty -/
  hitsOnly  : Bool
  /-- Settings of its namespace when it was appended. | settings | 05 R138 | ring empty -/
  cfg       : WriteCfg
  /-- Deltas of its transaction so far, newest first, each with the store it changes. | list | 10 R251 | ring empty -/
  deltas    : List (Bool × Delta)
  /-- Remote deltas of its transaction so far, newest first. | list | 10 R244 | ring empty -/
  remotes   : List Delta
deriving DecidableEq, Repr

/-- An open vault page of 16 KiB (05 R116). -/
structure VaultPage where
  /-- Bytes filled. | 0 to 16,384 | 05 R116 | no open page -/
  bytes   : Nat
  /-- Records with bytes in it, as (JSEQ, this page holds its last byte). | list | 05 R116 | no open page -/
  records : List (Nat × Bool)
  /-- Timebase at which its first record entered it, ns. | 64 bits | 05 R116 | no open page -/
  since   : Nat
  /-- Copies programmed so far. | 0 to 2 | 05 R116 | no open page -/
  copies  : Nat
  /-- It has been sent to the modules. | 1 bit | 05 R116 | no open page -/
  sent    : Bool
deriving DecidableEq, Repr

/-- A Sieve entry (05 Table 5.3) with its bucket. -/
structure SieveEntry where
  /-- Partition, 0 to 15. | 4 bits | 05 R122 | empty -/
  part    : Nat
  /-- Bucket within the partition. | fingerprint bytes 0 to 7 modulo buckets | 05 R122 | empty -/
  bucket  : Nat
  /-- FP_TAG: fingerprint bytes 8 to 15. | 64 bits | 05 Table 5.3 | empty -/
  tag     : BitVec 64
  /-- GRAIN_ID. | 48 bits | 05 Table 5.3 | empty -/
  grain   : Nat
  /-- SCOPE key domain. | 12 bits | 05 Table 5.3 | empty -/
  key     : Nat
  /-- SCOPE CLEAR. | 1 bit | 05 Table 5.3 | empty -/
  clear   : Bool
  /-- PENDING. | 1 bit | 05 Table 5.3 | empty -/
  pending : Bool
  /-- Age, 0 most recent. | 2 bits | 05 Table 5.3 | empty -/
  age     : Nat
deriving DecidableEq, Repr

/-- A grain placed in an open row. -/
structure PackedGrain where
  /-- Its header. | 64 bytes | 05 Table 5.4 | no open row -/
  hdr    : GrainHeader
  /-- Member whose page holds it. | 0 to k − 1 | 05 R135 | no open row -/
  member : Nat
  /-- Byte offset of its header in the page. | multiple of 16 | 05 R135 | no open row -/
  offset : Nat
  /-- Record whose reservation it replaced, or none for a grain that is moved. | JSEQ | 05 R119, 08 R191 | no open row -/
  jseq   : Option Nat
  /-- Plaintext of the grain while the row buffer holds it. | 4,096 bytes | 05 R125 | no open row -/
  data   : List Sector
  /-- Segment it is moved from, if it is moved. | 32 bits or none | 08 R196 | no open row -/
  from_  : Option Nat
deriving DecidableEq, Repr

/-- The open row of a placement domain's segment (05 R135). -/
structure OpenRow where
  /-- PT that packs it. | 0 to 65 | 05 "Packing" | no open row -/
  pt      : Nat
  /-- Placement domain. | 0 to 7 | 05 "Packing" | no open row -/
  domain  : Nat
  /-- Segment. | 32 bits | 07 R170 | no open row -/
  segment : Nat
  /-- Row within the segment. | page number | 05 R135 | no open row -/
  row     : Nat
  /-- Member being filled. | 0 to k − 1 | 05 R135 | no open row -/
  member  : Nat
  /-- Bytes used of that member's page. | 0 to 16,384 | 05 R135 | no open row -/
  used    : Nat
  /-- Grains placed. | list | 05 R135 | no open row -/
  grains  : List PackedGrain
  /-- Timebase of the last grain it received, ns. | 64 bits | 05 R135 | no open row -/
  lastAt  : Nat
  /-- It has been sealed and handed to the media tiles. | 1 bit | 05 R135 | no open row -/
  sealed  : Bool
  /-- Members whose page reported program success. | list | 07 R172 | no open row -/
  done    : List Nat
deriving DecidableEq, Repr

/-- Compressibility statistics and guard state of a namespace (05 R140 to R142). -/
structure GuardStats where
  /-- Namespace. | 1 to 65,536 | 05 R140 | none -/
  nsid     : Nat
  /-- The bins of each second of the window, newest first. | 10 × 16 counts | 05 R140 | none -/
  window   : List (List Nat)
  /-- Baseline bins in units of 1/65,536 grain. | 16 counts | 05 R140 | none -/
  baseline : List Nat
  /-- Guard group hits of each second of the window, newest first. | 10 counts | 05 R141 | none -/
  hits     : List Nat
  /-- Last anomaly score. | 0 to 1,023 | 05 R141 | none -/
  score    : Nat
  /-- A further guard snapshot waits for the score to fall. | 1 bit | 05 R142 | none -/
  latched  : Bool
  /-- Timebase of the last guard snapshot, ns. | 64 bits | 05 R142 | none -/
  lastSnap : Option Nat
  /-- Grains passed unscanned by the inline scan. | count | 15 R376 | none -/
  unscanned : Nat
deriving DecidableEq, Repr

/-- The write path. -/
structure WriteState where
  /-- JSEQ of the next record of this head. | 64 bits | 05 PTL_JSEQ_NEXT | 0 -/
  jseqNext   : Nat
  /-- Highest JSEQ below which every record has retired. | 64 bits | 05 PTL_JSEQ_RETIRED | 0 -/
  jseqRetired : Nat
  /-- The local journal ring, oldest first. | 8 GiB | 05 R112 | empty -/
  ring       : List RingEntry
  /-- The mirror ring of the partner's records, oldest first. | 8 GiB | 05 R117 | empty -/
  mirror     : List JRecord
  /-- PTL_JSEQ_RETIRED of the partner, as last told. | 64 bits | 05 R114 | 0 -/
  mirrorRetired : Nat
  /-- Acknowledgement mode. | 0 to 3 | 05 R115 | 3: the head is not yet paired after a start (05 Table 5.2); PTL_JRING_STATUS.ACK_MODE reads 0 until the head has started -/
  ackMode    : Nat
  /-- MIR00 of the partner is changed or fenced. | 1 bit | 05 R116 | false -/
  partnerMir : Bool
  /-- The vault pages of this head's journal, oldest first. | 16 KiB each | 05 R116 | none -/
  pages      : List VaultPage
  /-- The fill stands above HWM_PCT. | 1 bit | 05 R118 | false -/
  aboveHwm   : Bool
  /-- Host commands that wait for ring space, as (controller, queue, command). | list | 05 R118 | none -/
  ringWait   : List (Nat × Nat × Nat)
  /-- The Sieve. | 4,194,304 entries | 05 R122 | empty -/
  sieve      : List SieveEntry
  /-- Grains that wait for a free block, or for a row after their row was abandoned, oldest first, as (PT, domain, grain). | list | 07 R173, 08 R193 | none -/
  unpacked   : List (Nat × Nat × PackedGrain)
  /-- Open rows, one per PT and domain. | list | 05 R135 | none -/
  rows       : List OpenRow
  /-- Histograms and guard state of the namespaces. | 65,536 | 05 R140 | none -/
  stats      : List GuardStats
deriving DecidableEq, Repr

/-- The write path right after reset. -/
def WriteState.reset : WriteState :=
  { jseqNext := 0, jseqRetired := 0, ring := [], mirror := [], mirrorRetired := 0, ackMode := 3, partnerMir := false,
    pages := [], aboveHwm := false, ringWait := [], sieve := [], unpacked := [], rows := [], stats := [] }

end Machine
end Sys2Proof
end

