-- ==== Sys2Proof/Machine/StateSml.lean ====
section
/-!
DEFINITION. State of the Swilu Media Link: ports, frames, credits, tags and what the part knows of each attached module (09_media_link.md).
SML_PORT_STATUS, SML_PORT_BIND and SML_PORT_ERR live in `State.regs`.
Each field's docstring ends with: width | file and rule | value at reset.
-/
namespace Sys2Proof

/-- SML command opcodes (09 Table 9.4). -/
inductive SmlOp where
  | identify | open_ | read | program | erase | tempRead | bbtRead | genRead | leaseRead | leaseCas | dieReset
deriving DecidableEq, Repr

/-- The lease block of slot 0 (11 Table 11.6), field by field. -/
structure LeaseBlock where
  magicOk  : Bool
  seq      : Nat
  sole     : Bool
  holder   : Nat
  count    : Nat
  lsetGen  : Nat
  pairId   : BitVec 128
  stamp    : Nat
  ownGen   : Nat
  owners   : List (Nat × Nat)
  lset     : List Nat
  holderId : BitVec 384
  crcOk    : Bool
deriving DecidableEq, Repr

/-- What a media command was issued for; its response acts on this. -/
inductive SmlWhy where
  | row (segment row member : Nat)
  | logRow (lpseq : Nat)
  | vaultPage (index : Nat)
  | eraseBlock (module die plane block : Nat)
  | readGrain (grain : Nat)
  | lease (module : Nat)
  | temp (module : Nat)
  | session (port : Nat)
  | partner (tag : Nat)
  | reset (module die : Nat)
  | plain
deriving DecidableEq, Repr

/-- A command body (09 Table 9.2), with what it is for. -/
structure SmlCmdBody where
  op     : SmlOp
  oneBit : Bool
  suspend : Bool
  gen    : Nat
  addr   : MediaAddr
  cwMask : Nat
  rset   : Nat
  delta  : Int
  arg    : Nat
  mode   : Nat
  lease  : Option LeaseBlock
  why    : SmlWhy
deriving DecidableEq, Repr

/-- The kinds of link-control frame (09 R221). -/
inductive LinkControl where
  | ack | nak | credits (cmd data : Nat) | keepAlive
deriving DecidableEq, Repr

/-- A frame as it is sent (09 Table 9.1); the payload by TYPE. -/
inductive SmlFrame where
  | command (lseq : Nat) (tag : Nat) (body : SmlCmdBody)
  | response (lseq : Nat) (tag : Nat)
  | data (lseq : Nat) (tag : Nat) (cw : Nat) (last : Bool)
  | control (c : LinkControl)
deriving DecidableEq, Repr

namespace Machine

/-- A command waiting for its response (09 R222). -/
structure SmlPending where
  tag  : Nat
  body : SmlCmdBody
deriving DecidableEq, Repr

/-- What OPEN and IDENTIFY told of the module on a port (09 R230). -/
structure Attached where
  /-- WWID. | 64 bits | 09 Table 9.6 | none attached -/
  wwid    : BitVec 64
  /-- Its descriptor. | 512 bytes | 09 R229 | none attached -/
  desc    : Descriptor
  /-- Module port that OPEN reported. | 1 bit | 09 R232 | none attached -/
  modPort : Nat
  /-- GEN of the other port. | 32 bits | 09 Table 9.7 | none attached -/
  otherGen : Nat
  /-- FENCED of the other port. | 1 bit | 09 Table 9.7 | none attached -/
  otherFenced : Bool
deriving DecidableEq, Repr

/-- A media port (09 R215 to R231). -/
structure MediaPort where
  /-- Port. | 0 to 255 | 09 | no port state -/
  port    : Nat
  /-- Low-power idle. | 1 bit | 09 R218 | false -/
  idle    : Bool
  /-- Timebase of the last frame carried, ns. | 64 bits | 09 R218, R221 | 0 -/
  lastAt  : Nat
  /-- LSEQ of the next frame to send. | 16 bits | 09 R219 | 0 -/
  txSeq   : Nat
  /-- LSEQ of the next frame expected. | 16 bits | 09 R219 | 0 -/
  rxSeq   : Nat
  /-- Frames sent and not covered by an ACKSEQ, oldest first. | list | 09 R220 | none -/
  unacked : List SmlFrame
  /-- Consecutive replays without progress. | 0 to 8 | 09 R220 | 0 -/
  replays : Nat
  /-- Timebase of the last progress, ns. | 64 bits | 09 R220 | 0 -/
  progressAt : Nat
  /-- Command credits held. | 16 bits | 09 R221 | 0 -/
  cmdCredit : Nat
  /-- Data credits held. | 16 bits | 09 R221 | 0 -/
  dataCredit : Nat
  /-- Commands that wait for a credit, a tag or a die, oldest first. | list | 09 R221, R224, R228 | none -/
  queue   : List SmlCmdBody
  /-- Commands outstanding by tag. | 4,096 tags | 09 R222 | none -/
  pending : List SmlPending
  /-- What is attached, once IDENTIFY and OPEN have answered. | descriptor | 09 R230 | none -/
  attached : Option Attached
  /-- No media command is carried until a binding exchange commits, or because of a WWID conflict. | 1 bit | 09 R230 | false -/
  held    : Bool
  /-- Lanes lost, as lane numbers. | 2 bits | 09 R217 | none -/
  badLanes : List Nat
  /-- Timebase of the last lane test, ns. | 64 bits | 09 R217 | 0 -/
  testedAt : Nat
  /-- A lane has passed its re-test and waits for the next retrain. | 1 bit | 09 R217 | false -/
  passed  : Bool
  /-- The winner of a race has still to take the module: it takes no program or erase, and the take goes first. | 1 bit | 11 R284 | false -/
  takeFirst : Bool
deriving DecidableEq, Repr

/-- The media links. -/
structure SmlState where
  /-- Ports with any state. | 256 | 09 R215 | none -/
  ports  : List MediaPort
  /-- Sticky read-retry set of each die, as (module, die, set). | 4 bits each | 09 R240 | 0 each -/
  sticky : List (Nat × Nat × Nat)
  /-- Commands forwarded to the partner, as (tag, module). | list | 09 R233 | none -/
  forwarded : List (Nat × SmlCmdBody)
  /-- Modules the partner reaches, as last told. | indexes | 09 R233 | none -/
  partnerReach : List Nat
deriving DecidableEq, Repr

/-- The media links right after reset. -/
def SmlState.reset : SmlState := { ports := [], sticky := [], forwarded := [], partnerReach := [] }

end Machine
end Sys2Proof
end

