-- ==== Sys2Proof/Machine/StatePeer.lean ====
section
/-!
DEFINITION. State of the head pair: Uberuf groups, Beacon, leases, ownership, admission, forwarding (11_dual_active_operation.md).
UBL_GROUP_STATUS flags, PIN_FAULT and PIN_SHORT live in `State.regs`.
Each field's docstring ends with: width | file and rule | value at reset.
-/
namespace Sys2Proof

/-- The Beacon states (11 Table 11.5), in the numbering of UBL_PEER_STATE. -/
inductive BeaconState where
  | alone | joining | paired | severed | racing | lightship | fenced
deriving DecidableEq, Repr

/-- Who holds the lease (11 UBL_LEASE_STATUS). -/
inductive LeaseHold where
  | shared | mine | partner | racing
deriving DecidableEq, Repr

/-- The payload of a BEACON (11 Table 11.4). -/
structure BeaconMsg where
  head       : Nat
  state      : BeaconState
  heardA     : Bool
  heardB     : Bool
  heardPins  : Bool
  lightship  : Bool
  selfFenced : Bool
  bseq       : Nat
  tSend      : Nat
  echoSend   : Nat
  echoRecv   : Nat
  ownGen     : Nat
  leaseSeq   : Nat
  nqnTag     : BitVec 64
  jseqRetired : Nat
deriving DecidableEq, Repr

namespace Machine

/-- An Uberuf group (11 R270 to R273). -/
structure UbGroup where
  /-- Trained and identified. | 1 bit | 11 UBL_GROUP_STATUS UP | false -/
  up       : Bool
  /-- Lanes in use: 0, 4 or 8. | 4 bits | 11 UBL_GROUP_STATUS WIDTH | 0 -/
  width    : Nat
  /-- Faulty lanes. | 8 bits | 11 UBL_GROUP_STATUS LANE_FAULT | none -/
  badLanes : List Nat
  /-- A BEACON with valid CRC arrived within the loss time. | 1 bit | 11 R277 | false -/
  heard    : Bool
  /-- Timebase of the last valid BEACON, ns. | 64 bits | 11 R277 | 0 -/
  heardAt  : Nat
  /-- LSEQ of the next frame to send. | 32 bits | 11 Table 11.2 | 0 -/
  txSeq    : Nat
  /-- LSEQ of the next frame expected. | 32 bits | 11 Table 11.2 | 0 -/
  rxSeq    : Nat
  /-- Frames sent and not covered, oldest first, as (LSEQ, class, MSG). | list | 11 R272 | none -/
  unacked  : List (Nat × Nat × Nat)
  /-- Consecutive replays without progress. | 0 to 8 | 11 R272 | 0 -/
  replays  : Nat
  /-- Timebase of the last progress, ns. | 64 bits | 11 R272 | 0 -/
  progressAt : Nat
  /-- Message credits held of classes 2 to 7, as (class, credits). | 6 counts | 11 R273 | 0 each -/
  credits  : List (Nat × Nat)
  /-- Identity the partner sent at TRAIN_ID. | 64 bits | 11 R271 | none -/
  identity : Option (BitVec 64)
  /-- Last 64 pair-offset samples, as (round trip, offset), newest first. | 64 × 64 bits | 11 R278 | none -/
  samples  : List (Nat × Int)
  /-- T_SEND of the last BEACON received and the timebase when it arrived. | 64 bits each | 11 Table 11.4 | 0 -/
  echo     : Nat × Nat
deriving DecidableEq, Repr

/-- The state of one module in a lease race (11 Table 11.7). -/
structure RaceModule where
  module : Nat
  seq    : Nat
  read   : Bool
  takes  : Nat
  won    : Bool
  lost   : Bool
  inFlight : Bool
  extra  : Bool
deriving DecidableEq, Repr

/-- A lease race (11 Table 11.7). -/
structure Race where
  /-- Timebase of entry, ns. | 64 bits | 11 R283 | no race -/
  since   : Nat
  /-- Takes may be issued (head 1 waits RACE_DELAY_US). | 1 bit | 11 R283 | no race -/
  takes   : Bool
  /-- Modules of the set. | N | 11 Table 11.7 | no race -/
  modules : List RaceModule
  /-- WON. | 1 bit | 11 Table 11.7 | no race -/
  wonIt   : Bool
  /-- LOST. | 1 bit | 11 Table 11.7 | no race -/
  lostIt  : Bool
deriving DecidableEq, Repr

/-- A paired commit of ownership (11 R289). -/
structure PairedCommit where
  /-- Switch time in pair time, ns. | 64 bits | 11 R289 | none -/
  pairT   : Nat
  /-- Changes, as (group, new owner). | list | 11 R289 | none -/
  changes : List (Nat × Nat)
  /-- This head issued it (else it acknowledged it). | 1 bit | 11 R289 | none -/
  issuer  : Bool
  /-- The partner has acknowledged, or GO has been heard. | 1 bit | 11 R289 | none -/
  agreed  : Bool
  /-- The stage set of the issuing head. | 0 to 7 | 11 R289 | none -/
  set     : Nat
deriving DecidableEq, Repr

/-- A group in Change (04 R96, 11 R290). -/
structure GroupChange where
  group   : Nat
  away    : Bool
  drained : Bool
  loaded  : Bool
  lastJseq : Nat
deriving DecidableEq, Repr

/-- Host I/O forwarded to the partner and not yet completed, by tag (04 R95). -/
structure Forwarded where
  tag    : Nat
  cntlid : Nat
  qid    : Nat
  cid    : Nat
  abortCid : Option Nat
deriving DecidableEq, Repr

/-- A change of the lease set being written to its modules (11 R282). -/
structure LsetWrite where
  /-- Modules of the new set not yet written. | list | 11 R282 | none -/
  pending : List Nat
  /-- The jobs that asked for it. | record numbers | 07 R169 | none -/
  jobs    : List Nat
deriving DecidableEq, Repr

/-- What the partner last told in a BEACON. -/
structure PartnerView where
  state   : BeaconState
  head    : Nat
  nqnTag  : BitVec 64
  ownGen  : Nat
  leaseSeq : Nat
  heardPins : Bool
deriving DecidableEq, Repr

/-- The head pair. -/
structure PeerState where
  /-- Head index from HEAD_SEL. | 1 bit | 04 R87, 22 | 0 (sampled at PORST_N release) -/
  head       : Nat
  /-- Beacon state. | 4 bits | 11 Table 11.5 | ALONE -/
  st         : BeaconState
  /-- DEGRADED. | 1 bit | 11 UBL_PEER_STATE | false -/
  degraded   : Bool
  /-- Group A and group B. | 2 groups | 11 R270 | down -/
  groups     : List UbGroup
  /-- An edge on PHB_IN arrived within the loss time. | 1 bit | 11 R277 | false -/
  pinsHeard  : Bool
  /-- Timebase of the last PHB_IN edge, ns. | 64 bits | 11 R277 | 0 -/
  pinsAt     : Nat
  /-- PHB_OUT is driven. | 1 bit | 11 R277, R279 | true -/
  pinDrive   : Bool
  /-- BSEQ of the next BEACON. | 32 bits | 11 Table 11.4 | 0 -/
  bseq       : Nat
  /-- Pair offset in ns. | 64 bits, signed | 11 UBL_PAIR_OFFSET | 0 -/
  pairOffset : Int
  /-- Timebase of the last slew of the pair offset, ns. | 64 bits | 11 R278 | 0 -/
  slewAt     : Nat
  /-- What the partner last told. | Table 11.4 | 11 R278 | none -/
  partner    : Option PartnerView
  /-- Ownership generation. | 64 bits | 11 R289 | 0 -/
  ownGen     : Nat
  /-- Owner of each ANA group, as (group, head). | 512 | 04 R95, 11 OWNER_MAP | none listed: no owner (DESIGN CHOICE, log 3: an unlisted group belongs to head 0) -/
  owners     : List (Nat × Nat)
  /-- ANA groups in Change. | list | 04 R96 | none -/
  changes    : List GroupChange
  /-- The lease as this head knows it. | 2 bits | 11 UBL_LEASE_STATUS | shared -/
  lease      : LeaseHold
  /-- Highest lease sequence held or read. | 64 bits | 11 Table 11.4 | 0 -/
  leaseSeq   : Nat
  /-- Modules of the lease set. | 256 bits | 11 Table 11.6 LSET | empty -/
  lset       : List Nat
  /-- Lease-set generation. | 64 bits | 11 Table 11.6 | 0 -/
  lsetGen    : Nat
  /-- Modules won in the last race. | 16 bits | 11 UBL_LEASE_STATUS | 0 -/
  won        : Nat
  /-- Modules lost in the last race. | 16 bits | 11 UBL_LEASE_STATUS | 0 -/
  lost       : Nat
  /-- The lease race in progress. | Race | 11 R283 | none -/
  race       : Option Race
  /-- Modules the winner has still to take at their first OPEN. | list | 11 R284 | none -/
  toTake     : List Nat
  /-- START_WAIT runs until this timebase, ns. | 64 bits | 11 R280 | none -/
  startWait  : Option Nat
  /-- SEVER_MAX runs until this timebase, ns. | 64 bits | 11 R280 | none -/
  severMax   : Option Nat
  /-- SEVER_MAX has expired on head 0, which waits for the pins. | 1 bit | 11 Table 11.5 | false -/
  severDone  : Bool
  /-- Paired commit in progress. | PairedCommit | 11 R289 | none -/
  commit     : Option PairedCommit
  /-- Reservation updates sent and not acknowledged, as (MSG, NSID, controller, queue, command). | list | 11 R276 | none -/
  rsvWait    : List (Nat × Nat × Nat × Nat × Nat)
  /-- Host commands forwarded. | list | 04 R95 | none -/
  fwd        : List Forwarded
  /-- Next forwarding tag and MSG. | 64 bits | 11 Table 11.2 | 0 -/
  msg        : Nat
  /-- Next MSG of each message class, as (class, MSG). | 64 bits each | 11 Table 11.2 | 0 each -/
  msgNext    : List (Nat × Nat)
  /-- The start lease read has shown a majority, or the lease set is empty. | 1 bit | 11 R529 | false -/
  leaseKnown : Bool
  /-- A change of the lease set in progress. | LsetWrite | 11 R282 | none -/
  lsetWrite  : Option LsetWrite
  /-- The PEER_ADMIT job. | record number | 11 R292 | none -/
  admitJob   : Option Nat
  /-- Modules that phase 4 drains and shares now. | up to 8 | 11 Table 11.8 | none -/
  sharing    : List Nat
  /-- Of these, the drained ones that the joiner has been told to share. | up to 8 | 11 Table 11.8 | none -/
  told       : List Nat
  /-- Admission phase of PEER_ADMIT, 0 when none runs. | 1 to 5 | 11 Table 11.8 | 0 -/
  phase      : Nat
  /-- Modules shared so far in phase 4. | list | 11 Table 11.8 | none -/
  sharedMods : List Nat
  /-- Modules of the set that could not be shared in phase 4. | list | 11 Table 11.8 | none -/
  unshared   : List Nat
  /-- Step of a cold join, 0 when none runs. | 1 to 4 | 11 R528 | 0 -/
  coldStep   : Nat
  /-- The partner has copied all its unretired records to this head. | 1 bit | 11 R528 | false -/
  partnerCopied : Bool
  /-- This head has told the partner so of its own records. | 1 bit | 11 R528 | false -/
  coldTold   : Bool
  /-- This head waits for admission with its restart stopped. | 1 bit | 11 R529 | false -/
  waitsAdmission : Bool
  /-- This head carries the partner's store, segments and flash management. | 1 bit | 11 R287 | false -/
  survivor   : Bool
  /-- Takeover step reached, 0 when none runs. | 1 to 5 | 11 R287 | 0 -/
  takeover   : Nat
deriving DecidableEq, Repr

/-- A group that has not trained. -/
def UbGroup.down : UbGroup :=
  { up := false, width := 0, badLanes := [], heard := false, heardAt := 0, txSeq := 0, rxSeq := 0, unacked := [],
    replays := 0, progressAt := 0, credits := [], identity := none, samples := [], echo := (0, 0) }

/-- The head pair right after reset. -/
def PeerState.reset : PeerState :=
  { head := 0, st := .alone, degraded := false, groups := [.down, .down], pinsHeard := false, pinsAt := 0,
    pinDrive := true, bseq := 0, pairOffset := 0, slewAt := 0, partner := none, ownGen := 0, owners := [],
    changes := [], lease := .shared, leaseSeq := 0, lset := [], lsetGen := 0, won := 0, lost := 0, race := none,
    toTake := [], startWait := none, severMax := none, severDone := false, commit := none, rsvWait := [], fwd := [],
    msg := 0, msgNext := [], leaseKnown := false, lsetWrite := none, admitJob := none, sharing := [], told := [], phase := 0, sharedMods := [], unshared := [], coldStep := 0, partnerCopied := false, coldTold := false,
    waitsAdmission := false, survivor := false, takeover := 0 }

end Machine
end Sys2Proof
end

