-- ==== Sys2Proof/Machine/StateHup.lean ====
section
/-!
DEFINITION. State of the hold-up block and the vault (12_hold_up_and_vault.md).
The W1C flags of HUP_STATUS live in `State.regs`.
Each field's docstring ends with: width | file and rule | value at reset.
-/
namespace Sys2Proof

/-- The hold-up states (12 Table 12.1), in the numbering of HUP_STATUS. -/
inductive HupStateTag where
  | probing | fault | unarmed | armed | testing | dumping
deriving DecidableEq, Repr

namespace Machine

/-- One member of a vault set (12 R304, R305). -/
structure VaultMember where
  /-- Module index. | 8 bits | 12 R304 | unassigned -/
  module : Nat
  /-- Its dump area is erased. | 1 bit | 12 R300 | unassigned -/
  erased : Bool
deriving DecidableEq, Repr

/-- The vault image a dump left on the vault modules, as restart finds it (12 R307, R312). -/
structure VaultImage where
  /-- DUMP_SEQ it carries. | 64 bits | 12 Table 12.2 | none -/
  seq      : Nat
  /-- CAUSE: 1 PFAIL_N, 2 thermal trip. | 8 bits | 12 R307 | none -/
  cause    : Nat
  /-- Timebase at recognition. | 64 bits | 12 R307 | none -/
  stamp    : Nat
  /-- Acknowledgement mode at entry. | 8 bits | 12 R307 | none -/
  mode     : Nat
  /-- Local ring, JSEQ_RETIRED up to JSEQ_NEXT. | section 1 | 12 Table 12.3 | none -/
  ring     : List JRecord
  /-- Mirror ring: the partner's unretired records. | section 2 | 12 Table 12.3 | none -/
  mirror   : List JRecord
  /-- Metadata log pages not yet durable. | section 3 | 12 Table 12.3 | none -/
  log      : List LogPage
  /-- Block records changed since the last durable checkpoint. | section 4 | 12 Table 12.3 | none -/
  blocks   : List Block
  /-- Section 4 is partial. | 1 bit | 12 Table 12.3 | none -/
  partial_ : Bool
  /-- Scratch ways held, and their bytes by BAR2 offset. | section 5 | 12 Table 12.3, 16 R404 | none -/
  ways     : Nat
  scratch  : List (Nat × BitVec 8)
  /-- PTL_JSEQ_NEXT and PTL_JSEQ_RETIRED. | 64 bits each | 12 R307 | none -/
  next     : Nat
  retired  : Nat
  /-- Pages per copy. | 32 bits | 12 HUP_VAULT_STATUS | none -/
  pages    : Nat
  /-- The commit pages are written. | 1 bit | 12 R312 | none -/
  whole    : Bool
deriving DecidableEq, Repr

/-- What a dump records of its beginning (12 R307). -/
structure DumpInfo where
  /-- CAUSE: 1 PFAIL_N, 2 thermal trip. | 8 bits | 12 R307 | no dump -/
  cause : Nat
  /-- Timebase at recognition, ns. | 64 bits | 12 R307 | no dump -/
  stamp : Nat
  /-- Acknowledgement mode at entry. | 8 bits | 12 R307 | no dump -/
  mode  : Nat
  /-- A thermal trip began it, or came while it ran. | 1 bit | 21 R500, R501 | no dump -/
  trip  : Bool
deriving DecidableEq, Repr

/-- The hold-up block. -/
structure HupState where
  /-- STATE. | 3 bits | 12 Table 12.1 | PROBING -/
  st        : HupStateTag
  /-- Sensed store voltage in mV, signed. | 16 bits | 12 R295 | 0 -/
  vMv       : Int
  /-- Last measured capacitance in 0.01 F, or none before the first test. | 16 bits | 12 R296 | none -/
  cMeas     : Option Nat
  /-- HU_CHG_EN. | pin | 12 R295 | low -/
  chg       : Bool
  /-- HU_TEST_EN. | pin | 12 R295 | low -/
  test      : Bool
  /-- ARMED as last told. | 1 bit | 12 R300 | false -/
  armed     : Bool
  /-- Test start: timebase ns and voltage mV. | 64 and 16 bits | 12 R302 | none -/
  testStart : Option (Nat × Int)
  /-- The job that asked for the test, if one did. | record number | 12 R303 | none -/
  testJob   : Option Nat
  /-- Timebase of the last test, ns. | 64 bits | 12 R303 | 0 -/
  testedAt  : Nat
  /-- Timebase of the last probe, ns. | 64 bits | 12 R297 | 0 -/
  probedAt  : Nat
  /-- The energy-store cause is released for FOG_CLEAR. | 1 bit | 12 R297 | false -/
  released  : Bool
  /-- Vault set 1 and vault set 2. | 2 × up to 16 members | 12 R304 | unassigned -/
  set1      : List VaultMember
  set2      : List VaultMember
  /-- The partner's two sets, whose modules this head never uses. | indexes | 12 R304 | none -/
  partnerSets : List Nat
  /-- DUMP_SEQ armed in boot flash. | 64 bits | 12 R312 | 0 -/
  dumpSeq   : Nat
  /-- DUMP_DONE: the DUMP_SEQ last completed, or none. | 64 bits | 12 R308 | none -/
  dumpDone  : Option Nat
  /-- The image on the vault modules, not yet erased. | VaultImage | 12 R312 | none (DESIGN CHOICE, log 3) -/
  image     : Option VaultImage
  /-- Records on the stream area, by head's own ring. | 64 MiB a member | 12 R311 | none -/
  stream    : List JRecord
  /-- A dump runs. | 1 bit | 12 R308 | false -/
  dumping   : Bool
  /-- What the dump that runs, or that the shutdown ended, began with. | DumpInfo | 12 R307, 21 R501 | none -/
  dumpInfo  : Option DumpInfo
  /-- The Bardar has shut down and only a cold start ends it. | 1 bit | 12 R310 | false -/
  shutdown  : Bool
  /-- Records restored from the vault that no checkpoint covers yet, as (head, JSEQ). | list | 12 R313 | none -/
  uncovered : List (Nat × Nat)
  /-- Hold-up settings block in boot flash: HUP_STORE_CFG and HUP_SENSE_CFG, if valid. | 2 × 64 bits | 12 R299 | none (DESIGN CHOICE, log 3: a new board) -/
  settings  : Option (BitVec 64 × BitVec 64)
deriving DecidableEq, Repr

/-- The hold-up block right after reset. -/
def HupState.reset : HupState :=
  { st := .probing, vMv := 0, cMeas := none, chg := false, test := false, armed := false, testStart := none,
    testJob := none, testedAt := 0, probedAt := 0, released := false, set1 := [], set2 := [], partnerSets := [], dumpSeq := 0,
    dumpDone := none, image := none, stream := [], dumping := false, dumpInfo := none, shutdown := false, uncovered := [],
    settings := none }

end Machine
end Sys2Proof
end

