-- ==== Sys2Proof/Machine/StateRepl.lean ====
section
/-!
DEFINITION. State of replication between arrays: partner records, streams, connections (13_replication.md).
Each field's docstring ends with: width | file and rule | value at reset.
-/
namespace Sys2Proof

/-- The states of a stream (13 Table 13.4). -/
inductive StreamState where
  | idle | opening | diffing | waiting | resyncing | sync | fractured | disconnected | stopped
deriving DecidableEq, Repr

/-- The role of a stream here (13 Table 13.1). -/
inductive StreamRole where
  | asyncSource | syncSource | target
deriving DecidableEq, Repr

namespace Machine

/-- A partner array (13 R315). -/
structure ReplPartner where
  /-- Index. | 0 to 255 | 13 R315 | no record -/
  index  : Nat
  /-- PAIR_ID. | 128 bits | 13 R315 | no record -/
  pairId : BitVec 128
  /-- Addresses, unused zero. | 4 × 128 bits | 13 R315 | no record -/
  addrs  : List (BitVec 128)
  /-- RoCEv2, else TCP. | 1 bit | 13 R315 | no record -/
  roce   : Bool
  /-- TCP port. | 16 bits | 13 Table 13.1 | no record -/
  port   : Nat
  /-- Rate cap in 100 Mb/s. | 16 bits | 13 Table 13.1 | no record -/
  cap    : Nat
  /-- Pre-shared key wrapped under a Keeper key, by tag. | 48 bytes | 13 R315 | no record -/
  psk    : Nat
deriving DecidableEq, Repr

/-- A stream (13 R315 to R329). -/
structure Stream where
  /-- Stream ID. | 32 bits | 13 Table 13.2 | no stream -/
  id       : Nat
  /-- Local namespace. | 32 bits | 13 Table 13.1 | no stream -/
  nsid     : Nat
  /-- Remote namespace. | 32 bits | 13 Table 13.1 | no stream -/
  remote   : Nat
  /-- Partner index. | 8 bits | 13 Table 13.1 | no stream -/
  partner  : Nat
  /-- Role. | 2 bits | 13 Table 13.1 | no stream -/
  role     : StreamRole
  /-- State. | Table 13.4 | 13 Table 13.4 | no stream -/
  st       : StreamState
  /-- State before DISCONNECTED. | Table 13.4 | 13 Table 13.4 | no stream -/
  prev     : StreamState
  /-- Interval in s. | 10 to 86,400 | 13 Table 13.1 | no stream -/
  interval : Nat
  /-- SYNC_HOLD_MS. | 5 to 5,000 | 13 Table 13.1 | no stream -/
  hold     : Nat
  /-- STRICT. | 1 bit | 13 Table 13.1 | no stream -/
  strict   : Bool
  /-- Timebase at which the next interval falls due, ns. | 64 bits | 13 R321 | no stream -/
  dueAt    : Nat
  /-- Base snapshot, 0 for the empty tree. | 32 bits | 13 R321 | no stream -/
  base     : Nat
  /-- Snapshot of the running cycle, 0 for none. | 32 bits | 13 R321 | no stream -/
  snap     : Nat
  /-- Cursor grain index. | 64 bits | 13 R324 | no stream -/
  cursor   : Nat
  /-- Durable cursor at the target. | 64 bits | 13 R324 | no stream -/
  durable  : Nat
  /-- Change map: 1 MiB regions marked. | 1 bit per MiB | 13 R326 | no stream -/
  changed  : List Nat
  /-- Bytes sent. | 64 bits | 13 Table 13.1 RES4 | no stream -/
  bytes    : Nat
  /-- Grains sent as data. | 64 bits | 13 Table 13.1 RES5 | no stream -/
  grains   : Nat
  /-- Fingerprint hits. | 64 bits | 13 Table 13.1 RES6 | no stream -/
  hits     : Nat
  /-- JSEQs sent and not acknowledged, oldest first, with their send times. | list | 13 R325 | no stream -/
  unacked  : List (Nat × Nat)
  /-- Batches answered or awaited at the target, as (FSEQ, wanted grain indices with fingerprints). | list | 13 R322 | no stream -/
  wanted   : List (Nat × List (Nat × BitVec 256))
  /-- Grains whose data failed its fingerprint once, by grain index. | list | 13 R323 | no stream -/
  mismatch : List Nat
  /-- Replica snapshots kept, newest first. | snapshot IDs | 13 R324 | no stream -/
  replicas : List Nat
  /-- Records of the cycle not yet durable at the target. | JSEQs | 13 R324 | no stream -/
  open_    : List Nat
  /-- The job that REPL_START began, until it ends. | record number | 13 Table 13.1 | no stream -/
  job      : Option Nat
  /-- Stream ID as issued at the source, once the target has been opened. | 32 bits | 13 Table 13.2 STREAM | no stream -/
  peerId   : Nat
  /-- Batches that have been answered, by FSEQ. | list | 13 R322 | no stream -/
  answered : List Nat
  /-- Entries of the cycle sent. | 32 bits | 13 Table 13.3 DIFF_END | no stream -/
  count    : Nat
  /-- DIFF_END has been sent, or has arrived. | 1 bit | 13 R324 | no stream -/
  ended    : Bool
  /-- Regions sent in this pass of the resynchronisation and not yet covered by a CURSOR. | 1 MiB regions | 13 R327 | no stream -/
  pass     : List Nat
  /-- Grain index below which the batches that have arrived whole end. | 64 bits | 13 R324 | no stream -/
  closed   : Nat
  /-- Synchronous records in the target's journal and not yet acknowledged, as (its JSEQ, source JSEQ). | list | 13 R325 | no stream -/
  acks     : List (Nat × Nat)
  /-- Replica snapshot that is not yet READY, 0 for none. | 32 bits | 13 R324 | no stream -/
  making   : Nat
  /-- Timebase at which the base snapshot was taken, ns. | 64 bits | 13 Table 13.1 RES2 | no stream -/
  baseAt   : Nat
  snapAt   : Nat
  /-- A target that REPL_STOP has promoted. | 1 bit | 13 R329 | no stream -/
  promoted : Bool
  /-- Highest source JSEQ applied at the target. | 64 bits | 13 R325 | no stream -/
  srcJseq  : Nat
deriving DecidableEq, Repr

/-- An Uberuf Remote connection (13 R318 to R320). -/
structure ReplConn where
  /-- Connection number. | model's index | 13 R318 | no connection -/
  conn    : Nat
  /-- Partner index, once known. | 8 bits | 13 R319 | no connection -/
  partner : Nat
  /-- This side connects. | 1 bit | 13 R318 | no connection -/
  caller  : Bool
  /-- Proof complete. | 1 bit | 13 R319 | no connection -/
  proved  : Bool
  /-- This side's random value and the other side's. | 256 bits each | 13 R319 | no connection -/
  mine    : BitVec 256
  theirs  : BitVec 256
  /-- KEY_GEN sent and received. | 16 bits each | 13 R320 | no connection -/
  txGen   : Nat
  rxGen   : Nat
  /-- FSEQ of the next frame sent and received. | 64 bits each | 13 Table 13.2 | no connection -/
  txSeq   : Nat
  rxSeq   : Nat
  /-- Frames sent under the key in use. | 32 bits | 13 R320 | no connection -/
  frames  : Nat
  /-- Timebase at which the key in use began, ns. | 64 bits | 13 R320 | no connection -/
  keyAt   : Nat
  /-- Timebase of the last frame sent and received, ns. | 64 bits each | 13 Table 13.3 | no connection -/
  txAt    : Nat
  rxAt    : Nat
deriving DecidableEq, Repr

/-- Replication. -/
structure ReplState where
  /-- Partner records. | 256 | 13 R315 | none -/
  partners : List ReplPartner
  /-- Streams. | 8,192 | 13 R315 | none -/
  streams  : List Stream
  /-- Connections. | 8 per partner | 13 R318 | none -/
  conns    : List ReplConn
  /-- Next stream ID. | 32 bits | 13 Table 13.2 | 1 -/
  streamNext : Nat
  /-- Partner address to try next, as (partner, address). | 2 bits each | 13 R328 | 0 each -/
  nextAddr : List (Nat × Nat)
deriving DecidableEq, Repr

/-- Replication right after reset. -/
def ReplState.reset : ReplState := { partners := [], streams := [], conns := [], streamNext := 1, nextAddr := [] }

end Machine
end Sys2Proof
end

