-- ==== Sys2Proof/Machine/StateEng.lean ====
section
/-!
DEFINITION. State of the engines and of memory: CRY, CMP, PAT, MEM, MCC (14_cipher_and_digest.md, 15_compression_and_pattern_jobs.md, 16_memory_and_map_cache.md).
Channel registers, PAT_HITS, MEM_UE_LOG, MEM_CH_STATUS and the counters of these blocks live in `State.regs`.
Each field's docstring ends with: width | file and rule | value at reset.
-/
namespace Sys2Proof

/-- The states of a digest or cipher context (14 DIG_CTX_STATUS). -/
inductive CtxState where
  | free | open_ | finalising | done
deriving DecidableEq, Repr

/-- The states of a key slot (14 KEY_STATUS). -/
inductive SlotState where
  | empty | active | spent | erasing
deriving DecidableEq, Repr

/-- One pattern: the byte values each of its positions accepts (15, "Pattern images"). -/
structure Pattern where
  bytes    : List (BitVec 256)
  group    : Nat
  priority : Nat
deriving DecidableEq, Repr

/-- A pattern image (15 R372), field by field; the CRCs are facts about its bytes. -/
structure PatImage where
  format   : Nat
  patterns : List Pattern
  count    : Nat
  imageLen : Nat
  groups   : List (Nat × Nat)
  rsvdZero : Bool
  crcOk    : Bool
deriving DecidableEq, Repr

namespace Machine

/-- The generation of a key a message pins (14 R354). -/
structure KeyPin where
  slot : Nat
  gen  : Nat
deriving DecidableEq, Repr

/-- A digest or cipher context (14 R340). -/
structure Ctx where
  /-- Index: 0 to 1,023 digest, 1,024 to 3,071 cipher. | 12 bits | 14 R340 | free -/
  index    : Nat
  /-- STATE. | 2 bits | 14 DIG_CTX_STATUS | FREE -/
  st       : CtxState
  /-- OWNER. | 4 bits | 14 DIG_CTX_STATUS | 0 -/
  owner    : Nat
  /-- SERIAL. | 4 bits | 14 R340 | 0 -/
  serial   : Nat
  /-- MODE. | 8 bits | 14 Table 14.5 | 0 -/
  mode     : Nat
  /-- CODE. | 16 bits | 14 DIG_CTX_STATUS | 0 -/
  code     : Nat
  /-- A read of DIG_RESULT has set RESULT_NOT_READY. | 1 bit | 14 R349 | false -/
  early    : Bool
  /-- DECRYPT. | 1 bit | 14 Table 14.2 | 0 -/
  decrypt  : Bool
  /-- RAW. | 1 bit | 14 R346 | 0 -/
  raw      : Bool
  /-- MSG_LEN. | 64 bits | 14 Table 14.2 | 0 -/
  msgLen   : Nat
  /-- Bytes received so far, AAD and tag apart. | 64 bits | 14 R344 | 0 -/
  received : Nat
  /-- AAD_LEN. | 32 bits | 14 Table 14.2 | 0 -/
  aadLen   : Nat
  /-- DU_LEN. | 32 bits | 14 Table 14.2 | 0 -/
  duLen    : Nat
  /-- IV as given. | 128 bits | 14 R338 | 0 -/
  iv       : BitVec 128
  /-- Data absorbed so far: it stands for the chaining state, counter position and accumulator. | as received | 14 R338 | none -/
  data     : List Byte
  /-- Key pinned, if any. | slot and generation | 14 R354 | none -/
  pin      : Option KeyPin
  /-- The message has failed: the code of its next descriptor. | KEY_ABSENT after an erase, POISONED after a parity failure | 14 R355, 16 Table 16.1 | none -/
  cut      : Option Nat
  /-- Timebase of its last descriptor, ns. | 64 bits | 14 R342 | 0 -/
  lastAt   : Nat
  /-- Digest held in DONE. | up to 512 bits | 14 R348 | none -/
  result   : List Byte
deriving DecidableEq, Repr

/-- A key slot (14 R352 to R357). Keeper slot k is kept under number 4,096 + k. -/
structure KeySlot where
  /-- Slot: 0 to 4,095 data, 4,096 to 4,159 Keeper. | 13 bits | 14 R352 | EMPTY -/
  slot     : Nat
  /-- State. | 4 bits | 14 KEY_STATUS | EMPTY -/
  st       : SlotState
  /-- Active key. | KeyImage | 14 R354 | none -/
  key      : Option KeyImage
  /-- Generation. | 32 bits | 14 R354 | 0 -/
  gen      : Nat
  /-- Usage count. | 64 bits | 14 R353 | 0 -/
  usage    : Nat
  /-- Previous generation with its key, still pinned in the shadow bank; a staged key stands in its stage set until then. | generation and KeyImage | 14 R354 | none -/
  previous : Option (Nat × KeyImage)
  /-- Copies of its entry good, 0 to 2. | 2 bits | 14 R352 | 2 -/
  copies   : Nat
  /-- Timebase at which an erase cuts pins off, ns. | 64 bits | 14 R355 | none -/
  eraseAt  : Option Nat
  /-- The job of that erase. | record number | 14 R355 | none -/
  eraseJob : Option Nat
deriving DecidableEq, Repr

/-- A compression job descriptor (15 Table 15.1) with the bytes its source list describes. `rsvdZero` says that OP and ALGO are known and every reserved byte is zero,
`fragsZero` the same of the fragments; `fault` is what the source read met part-way: poisoned, and at what offset. -/
structure CmpDesc where
  deflate   : Bool
  level     : Nat
  srcSpace  : Nat
  dstSpace  : Nat
  rsvdZero  : Bool
  dictId    : Nat
  total     : Nat
  outLimit  : Nat
  srcFrags  : List Nat
  dstFrags  : List Nat
  fragsZero : Bool
  data      : List Byte
  fault     : Option (Bool × Nat)
deriving DecidableEq, Repr

/-- A scan job descriptor (15 Table 15.3) with the bytes its source list describes; the facts as in `CmpDesc`. -/
structure ScanDesc where
  srcSpace  : Nat
  dstSpace  : Nat
  rsvdZero  : Bool
  mask      : BitVec 16
  snap      : Nat
  first     : Nat
  count     : Nat
  tagLimit  : Nat
  total     : Nat
  srcFrags  : List Nat
  dstFrags  : List Nat
  fragsZero : Bool
  outLimit  : Nat
  data      : List Byte
  fault     : Option (Bool × Nat)
deriving DecidableEq, Repr

/-- What a job does. -/
inductive JobDesc where
  | compress (d : CmpDesc)
  | decompress (d : CmpDesc)
  | scanBuffer (d : ScanDesc)
  | scanSnapshot (d : ScanDesc)
deriving DecidableEq, Repr

/-- A compression or scan job that is fetched and has not completed (15 R366, R373, R377). -/
structure EngJob where
  /-- Block: 1 CMP, 2 PAT. | 2 bits | 15 R365, R377 | none -/
  block   : Nat
  /-- Channel. | 4 bits | 15 R365 | none -/
  channel : Nat
  /-- Its descriptor. | 64 bytes and the source | 15 Table 15.1, Table 15.3 | none -/
  desc    : JobDesc
  /-- PT that runs it, or none while it waits for one. | 0 to 65 | 15 R366 | none -/
  pt      : Option Nat
  /-- Timebase since which it waits for a PT, ns. | 64 bits | 15 R366 | none -/
  since   : Nat
  /-- Snapshot it pins, 0 for none. | 32 bits | 15 R377 | none -/
  snap    : Nat
  /-- Bank it runs on. | 1 bit | 15 R373 | none -/
  bank    : Nat
deriving DecidableEq, Repr

/-- A task-started scrub pass (16 R396). -/
structure ScrubPass where
  /-- Job record. | 10 bits | 16 R396 | none -/
  job       : Nat
  /-- Start address and length. | 42 bits each | 16 Table 16.3 | none -/
  start     : Nat
  len       : Nat
  /-- Rate in 100 MB/s. | 8 bits | 16 Table 16.3 | none -/
  rate      : Nat
  /-- Bursts checked, corrected, marked, uncorrectable. | 64 bits each | 16 Table 16.4 | none -/
  checked   : Nat
  corrected : Nat
  marked    : Nat
  bad       : Nat
  /-- First uncorrectable burst. | 64 bits | 16 Table 16.4 | none -/
  firstBad  : Option Nat
  /-- Timebase at its start, ns. | 64 bits | 16 Table 16.4 | none -/
  since     : Nat
deriving DecidableEq, Repr

/-- A cache line by its DRAM line address (16 R398). -/
structure CacheLine where
  line  : Nat
  dirty : Bool
deriving DecidableEq, Repr

/-- An entry of a write-back buffer (16 R399). -/
structure WbEntry where
  line   : Nat
  issued : Bool
deriving DecidableEq, Repr

/-- A request at a slice: its line, a write or a read, of an agent whose accesses allocate or of another (16 R398). -/
structure CacheReq where
  line  : Nat
  write : Bool
  alloc : Bool
deriving DecidableEq, Repr

/-- A map-cache slice (16 R398 to R402); its STATE stands in MCC_CTRL. -/
structure Slice where
  /-- Slice. | 0 to 63 | 16 R398 | 0 to 63 -/
  index  : Nat
  /-- Lines of its sets. | 1,024 sets of 16 ways | 16 R398 | none -/
  lines  : List CacheLine
  /-- Victim cache, first in first. | 32 lines | 16 R399 | none -/
  victim : List CacheLine
  /-- Write-back buffer, oldest first. | 8 entries | 16 R399 | none -/
  wb     : List WbEntry
  /-- The outstanding miss. | one | 16 R400 | none -/
  miss   : Option CacheReq
  /-- Misses that wait, oldest first. | list | 16 R400 | none -/
  waiting : List CacheReq
deriving DecidableEq, Repr

/-- The engines and memory. -/
structure EngState where
  /-- Contexts with any state. | 3,072 | 14 R340 | all FREE -/
  ctxs      : List Ctx
  /-- Key slots not EMPTY at generation 0. | 4,160 | 14 R352 | all EMPTY, generation 0 -/
  slots     : List KeySlot
  /-- Compression and scan jobs running or waiting for a PT. | 16 running | 15 R366 | none -/
  jobs      : List EngJob
  /-- Pattern images of bank 0 and bank 1. | 2 × 8 MiB | 15 R373 | none -/
  bank0     : Option PatImage
  bank1     : Option PatImage
  /-- Rate steps whose threshold the PAT junction stays 2 °C below, as (step, timebase since), ns. | 3 × 64 bits | 15 R379 | none -/
  coolSince : List (Nat × Nat)
  /-- Bursts that a writer has marked as poisoned. | burst addresses | 16 R387, R388 | none -/
  poisoned  : List Nat
  /-- Corrected bursts waiting for write-back. | burst addresses | 16 R386, R397 | none -/
  writeBacks : List Nat
  /-- Timebase at which the leak timer of a bucket last ran out or restarted, as (bucket, ns). | 24 | 16 R394, R395 | 0 each -/
  leakAt    : List (Nat × Nat)
  /-- Devices erased in corrections since the last firing of the channel's bucket, as (channel, DIMM, device). | list | 20 R482 | none -/
  erased    : List (Nat × Nat × Nat)
  /-- Task-started passes running. | at most 4 | 16 R396 | none -/
  scrubs    : List ScrubPass
  /-- GiB that the background pass has covered in this period. | count | 16 R397 | 0 -/
  bgDone    : Nat
  /-- Timebase at which this background period began, ns. | 64 bits | 16 R397 | 0 -/
  bgSince   : Nat
  /-- Map-cache slices that hold anything. | 64 slices | 16 R398 | none: all empty -/
  slices    : List Slice
deriving DecidableEq, Repr

/-- The engines and memory right after reset. -/
def EngState.reset : EngState :=
  { ctxs := [], slots := [], jobs := [], bank0 := none,
    bank1 := none, coolSince := [], poisoned := [], writeBacks := [], leakAt := [], erased := [], scrubs := [], bgDone := 0, bgSince := 0,
    slices := [] }

end Machine
end Sys2Proof
end

