-- ==== Sys2Proof/Machine/StateKeeper.lean ====
section
/-!
DEFINITION. State of the Keeper, its log, its boot flash and the management network (17_keeper.md).
KPR_STATE, KPR_POWER_CYCLES, KPR_LOG_STATUS flags, KPR_MBOX_STATUS, KPR_MBOX_DATA and KPR_MGMT_STATUS live in `State.regs`.
Each field's docstring ends with: width | file and rule | value at reset.
-/
namespace Sys2Proof

/-- A port entry of the management settings block (17 Table 17.7). -/
structure MgmtPort where
  flags   : Nat
  prefix_ : Nat
  vlan    : Nat
  rsvdZero : Bool
  addr    : BitVec 128
  gateway : BitVec 128
  dns     : BitVec 128
deriving DecidableEq, Repr

/-- The management settings block (17 Table 17.7), field by field. -/
structure MgmtSettings where
  format    : Nat
  rsvdZero  : Bool
  port0     : MgmtPort
  port1     : MgmtPort
  telemetryS : Nat
  anchors   : Nat
  url       : List Byte
  hashes    : List (BitVec 384)
  crcOk     : Bool
deriving DecidableEq, Repr

namespace Machine

/-- A sensor's last sample (17 R417). -/
structure Sensor where
  /-- Index. | 0 to 511 | 17 Table 17.3 | no sample -/
  index : Nat
  /-- VALUE, signed. | 32 bits | 17 KPR_SENSOR | no sample -/
  value : Int
  /-- Timebase of the sample, ns. | 64 bits | 17 R417 | no sample -/
  at_   : Nat
deriving DecidableEq, Repr

/-- An extreme entry (17 Table 17.5). -/
structure Extreme where
  entry  : Nat
  value  : Int
  ticks  : Nat
  source : Nat
deriving DecidableEq, Repr

/-- The accumulators of a Keeper's Log period; a record is a closed period (17 R420, Table 17.4). Counts are (table offset, bin, count). -/
structure LogPeriod where
  /-- RECORD_NO, once stored. | 32 bits | 17 Table 17.4 | 0 -/
  number   : Nat
  /-- TRIGGER. | 8 bits | 17 Table 17.4 | 0 -/
  trigger  : Nat
  /-- HEAD. | 8 bits | 17 Table 17.4 | 0 -/
  head     : Nat
  /-- FLAGS[0]: a sample interval had no sample. | 1 bit | 17 Table 17.4 | false -/
  missed   : Bool
  /-- FLAGS[1]: start of the period lost. | 1 bit | 17 R423 | false -/
  startLost : Bool
  /-- START in 1/65,536 h. | 48 bits | 17 Table 17.4 | 0 -/
  start    : Nat
  /-- END in 1/65,536 h. | 48 bits | 17 Table 17.4 | 0 -/
  stop     : Nat
  /-- POWER_CYCLES. | 32 bits | 17 Table 17.4 | 0 -/
  cycles   : Nat
  /-- GAP_S. | 32 bits | 17 Table 17.4 | 0 -/
  gapS     : Nat
  /-- WALL at period start. | 64 bits | 17 Table 17.4 | 0 -/
  wall     : Nat
  /-- Histogram counts as (offset of the histogram, bin, count). | saturating 32 or 64 bits | 17 Table 17.4 | 0 each -/
  counts   : List (Nat × Nat × Nat)
  /-- Extremes. | 16 entries | 17 Table 17.5 | none -/
  extremes : List Extreme
deriving DecidableEq, Repr

/-- A record of a boot-flash settings block or image waiting to be programmed (17 R415, R416). -/
inductive FlashItem where
  | opHour (opNs cycles trialNs : Nat)
  | holdup (store sense : BitVec 64)
  | mgmt (m : MgmtSettings)
  | fenceList (units : List Nat)
  | logRecord (r : LogPeriod)
  | other
deriving DecidableEq, Repr

/-- A queued boot flash write with the flashes it has been programmed on. -/
structure FlashWrite where
  item  : FlashItem
  doneA : Bool
deriving DecidableEq, Repr

/-- The Keeper. -/
structure KeeperState where
  /-- Operating time with the chip domain out of reset, ns: KPR_HOURS shows it in 1/65,536 h. | 48 bits | 17 R419 KPR_HOURS | 0 -/
  opNs      : Nat
  /-- Restarts of each pair, as (pair, operating ns), newest first. | list | 17 R412 | none -/
  restarts  : List (Nat × Nat)
  /-- Pairs that have still to restart after the other, in order: 0 pair A, 1 pair B. | list | 17 R411, R414 | none -/
  toRestart : List Nat
  /-- Last samples. | 512 | 17 R417 | none -/
  sensors   : List Sensor
  /-- The current log period. | 4 KiB | 17 R420 | empty, START 0 -/
  period    : LogPeriod
  /-- Stored records, oldest first. | 16,384 | 17 R422 | none (DESIGN CHOICE of the boot flash's content, log 3) -/
  records   : List LogPeriod
  /-- Period length for the next period. | 1 to 168 h | 17 R424 | 24 -/
  periodNext : Nat
  /-- Operating time of the last fault flush, ns. | 64 bits | 17 R421 | none -/
  faultHour : Option Nat
  /-- The operating-hour record in boot flash: operating ns and power cycles, none on a new board. | 64 and 32 bits | 17 R419 | none (DESIGN CHOICE of the boot flash's content, log 3) -/
  hourRec   : Option (Nat × Nat)
  /-- A fault waits for its flush. | 1 bit | 17 R421 | false -/
  faultDue  : Bool
  /-- Queued boot flash writes, oldest first. | list | 17 R416 | none -/
  flashQ    : List FlashWrite
  /-- A two-copy commit has programmed and read back on both flashes since the fault. | 1 bit | 20 Table 20.3 cause 5 | false -/
  flashGood : Bool
  /-- Management settings in force, if any block is stored. | 1,024 bytes | 17 R427 | none (DESIGN CHOICE of the boot flash's content, log 3) -/
  mgmt      : Option MgmtSettings
  /-- The settings block submitted and not yet committed. | 1,024 bytes | 17 R427 | none -/
  mgmtNew   : Option MgmtSettings
  /-- Log records posted to the collector so far. | count | 17 R426 | 0 -/
  pushed    : Nat
  /-- Timebase of the last telemetry push, ns. | 64 bits | 17 R426 | 0 -/
  pushedAt  : Nat
  /-- EID of the I3C bus owner, which W2 is bound to while W2_EID is 0. | 8 bits | 17 R428 | 0 -/
  busOwner  : Nat
deriving DecidableEq, Repr

/-- An empty log period from operating hour 0 (17 R420). -/
def LogPeriod.empty : LogPeriod :=
  { number := 0, trigger := 0, head := 0, missed := false, startLost := false, start := 0, stop := 0, cycles := 0,
    gapS := 0, wall := 0, counts := [], extremes := [] }

/-- The Keeper right after reset. -/
def KeeperState.reset : KeeperState :=
  { opNs := 0, restarts := [], toRestart := [], sensors := [], period := .empty, records := [], periodNext := 24,
    faultHour := none, hourRec := none, faultDue := false, flashQ := [], flashGood := false, mgmt := none,
    mgmtNew := none, pushed := 0, pushedAt := 0, busOwner := 0 }

end Machine
end Sys2Proof
end

