-- ==== Sys2Proof/Machine/StateSig.lean ====
section
/-!
DEFINITION. State of the Signal controller (18_signal_controller.md).
SIG_HOST_SLEEP, SIG_EVQ_BASE, SIG_EVQ_CTRL, SIG_EVQ_HEAD, SIG_STATUS, SIG_ROUTE and SIG_COAL live in `State.regs`.
Each field's docstring ends with: width | file and rule | value at reset.
-/
namespace Sys2Proof

/-- An event record (18 Table 18.2). -/
structure EventRecord where
  stamp  : Nat
  source : Nat
  code   : Nat
  phase  : Bool
  detail : Nat
deriving DecidableEq, Repr

namespace Machine

/-- One MSI-X vector: its BAR4 table entry and its coalescer (18 R437, R438). -/
structure Vector_ where
  /-- Vector. | 0 to 2,047 | 18 R437 | no events -/
  index  : Nat
  /-- Message address. | 64 bits | 03 R74 | 0 -/
  addr   : BitVec 64
  /-- Message data. | 32 bits | 03 R74 | 0 -/
  data   : BitVec 32
  /-- Vector mask. | 1 bit | 03 R74 | true -/
  masked : Bool
  /-- PBA bit. | 1 bit | 18 R437 | false -/
  pba    : Bool
  /-- Events counted since the last write. | count | 18 R438 | 0 -/
  count  : Nat
  /-- Timebase of the first event of that count, ns. | 64 bits | 18 R438 | 0 -/
  since  : Nat
deriving DecidableEq, Repr

/-- The Signal controller. -/
structure SigState where
  /-- Pending sources, ascending. | 4,096 bits | 18 R431 | none -/
  pend      : List Nat
  /-- Write phase of the event ring. | 1 bit | 18 R436 | true -/
  phase     : Bool
  /-- Coalescing is suspended by SIG_HOST_SLEEP. | 1 bit | 18 R439 | false -/
  slept     : Bool
  /-- Coalescing is suspended by a link-started flush. | 1 bit | 18 R439 | false -/
  linkFlush : Bool
  /-- Vectors that differ from reset. | 2,048 | 18 R437, R438 | none -/
  vectors   : List Vector_
  /-- Running priority of each cluster core, as (cluster, core, priority). | 8 × 17 × 5 bits | 18 R435 | 0 each -/
  running   : List (Nat × Nat × Nat)
deriving DecidableEq, Repr

/-- The Signal controller right after reset. -/
def SigState.reset : SigState :=
  { pend := [], phase := true, slept := false, linkFlush := false, vectors := [], running := [] }

end Machine
end Sys2Proof
end

