-- ==== Sys2Proof/Machine/StateBoot.lean ====
section
/-!
DEFINITION. State of boot, fuses, the Boot Ledger and update (19_boot_trust_and_update.md).
Each field's docstring ends with: width | file and rule | value at reset.
-/
namespace Sys2Proof

/-- The states of a boot slot (19 Table 19.7), in the order UPD_STATUS numbers them (DESIGN CHOICE, log 41: the numbers). -/
inductive SlotTag where
  | empty | receiving | complete | verified | armed | active | old
deriving DecidableEq, Repr

/-- An image table entry of a manifest (19, after Table 19.5). `sha` is the tag that stands for its SHA-384. -/
structure ImageEntry where
  cls    : Nat
  sector : Nat
  secVersion : Nat
  firstPiece : Nat
  length : Nat
  sha    : BitVec 384
  imageId : BitVec 64
  lens   : Option LensImage
deriving DecidableEq, Repr

/-- A manifest (19 Table 19.5), field by field; signature outcomes and CRC are facts about its bytes. -/
structure Manifest where
  magicOk   : Bool
  format    : Nat
  hdrLen    : Nat
  packageId : BitVec 64
  pieces    : Nat
  lastLen   : Nat
  images    : List ImageEntry
  imageCount : Nat
  stepping  : Nat
  level     : Nat
  peerMin   : Nat
  rsvdZero  : Bool
  pieceSha  : List (BitVec 256)
  keyIndex  : Nat
  sigOk     : Bool
  ownerPresent : Nat
  ownerSigOk : Bool
  crcOk     : Bool
deriving DecidableEq, Repr

/-- What a stored piece holds: the tag that stands for its SHA-256, its length, the manifest when it is piece 0. -/
structure Piece where
  index    : Nat
  sha      : BitVec 256
  length   : Nat
  manifest : Option Manifest
deriving DecidableEq, Repr

/-- A Boot Ledger record (19 Table 19.4), fields the part decides. -/
structure LedgerRecord where
  bootCount : Nat
  kind      : Nat
  head      : Nat
  slot      : Nat
  attempt   : Nat
  ticks     : Nat
  cycles    : Nat
  flags     : Nat
  wall      : Nat
  aliasId   : BitVec 64
  packageId : BitVec 64
  measure   : List (BitVec 384)
  secVersion : List Nat
  fuseCount : List Nat
  prev      : BitVec 384
deriving DecidableEq, Repr

namespace Machine

/-- One boot slot (19 Table 19.7). -/
structure BootSlot where
  /-- State. | Table 19.7 | 19 R462 | EMPTY -/
  st       : SlotTag
  /-- PACKAGE_ID of the pieces. | 64 bits | 19 R458 | 0 -/
  package  : BitVec 64
  /-- Pieces stored: the resume bitmap and what they hold. | up to 1,016 | 19 R459 | none -/
  pieces   : List Piece
  /-- Images whose digest context has absorbed their last piece and matched, by first piece. | list | 19 R459 | none -/
  matched  : List Nat
deriving DecidableEq, Repr

/-- The fuses (19 Table 19.1). -/
structure Fuses where
  /-- HEDAVY_REVOKED. | 4 bits | 19 Table 19.1 | unblown (DESIGN CHOICE of the fuses' content, log 3) -/
  revoked  : List Nat
  /-- OWNER_KEY slots with any key bit blown. | 2 × 768 bits | 19 R444 | unblown (log 3) -/
  owner0   : Option (BitVec 768)
  owner1   : Option (BitVec 768)
  /-- OWNER_ENROLLED. | 2 bits | 19 R444 | unblown (log 3) -/
  enrolled : Bool × Bool
  /-- ROLLBACK: blown fuses of each class 0 to 3. | 4 × 0 to 64 | 19 R443 | 0 each (log 3) -/
  rollback : List Nat
  /-- JTAG_DISABLED. | 1 bit | 19 R452 | unblown (log 3) -/
  jtagOff  : Bool
  /-- UDS, the four Hedavy keys and ENDORSEMENT, by the tag of their content. | fuse bits | 19 Table 19.1 | 0 (log 3) -/
  identity : Nat
deriving DecidableEq, Repr

/-- The slot pointer (19 Table 19.6). -/
structure SlotPointer where
  /-- GEN. | 64 bits | 19 Table 19.6 | 0 -/
  gen      : Nat
  /-- ACTIVE. | 1 bit | 19 Table 19.6 | 0 -/
  active   : Nat
  /-- STATE: TRIAL. | 1 bit | 19 Table 19.6 | false -/
  trial    : Bool
  /-- ATTEMPTS. | 0 to 3 | 19 Table 19.6 | 0 -/
  attempts : Nat
  /-- OLD, none for 0xFF. | 8 bits | 19 Table 19.6 | none -/
  old      : Option Nat
  /-- HEALTHY_H. | 32 bits | 19 Table 19.6 | 0 -/
  healthyH : Nat
  /-- TRIAL_H, kept in operating ns since activation. | 32 bits of hours | 19 Table 19.6 | 0 -/
  trialNs  : Nat
  /-- LENS_STATE: TRIAL. | 1 bit | 19 Table 19.6 | false -/
  lensTrial : Bool
  /-- LENS_ATTEMPTS. | 0 to 3 | 19 Table 19.6 | 0 -/
  lensAttempts : Nat
  /-- ACTIVE_PKG. | 64 bits | 19 Table 19.6 | 0 -/
  activePkg : BitVec 64
  /-- OLD_PKG. | 64 bits | 19 Table 19.6 | 0 -/
  oldPkg   : BitVec 64
deriving DecidableEq, Repr

/-- The running set (19 R448, Table 19.2): what the Keeper has loaded. -/
structure RunningSet where
  /-- Slot it came from. | 8 bits | 19 Table 19.4 | 0 -/
  slot     : Nat
  /-- PACKAGE_ID. | 64 bits | 19 Table 19.4 | 0 -/
  package  : BitVec 64
  /-- LEVEL. | 32 bits | 19 Table 19.5 | 0 -/
  level    : Nat
  /-- PEER_MIN. | 32 bits | 19 Table 19.5 | 0 -/
  peerMin  : Nat
  /-- SEC_VERSION of classes 0 to 3. | 4 × 0 to 64 | 19 Table 19.4 | 0 each -/
  secVersion : List Nat
  /-- SHA-384 of classes 0, 1, 2. | 3 × 384 bits | 19 Table 19.2 | 0 each -/
  sha      : List (BitVec 384)
deriving DecidableEq, Repr

/-- An in-service reload (19 R465). -/
structure Reload where
  /-- It brings the previous set back. | 1 bit | 19 R466 | none -/
  revert  : Bool
  /-- Step reached: 1 committed, 2 the pairs restart, 3 the Lenses. | 1 to 3 | 19 R465 | none -/
  step    : Nat
  /-- Lens images that this reload has still to try. | up to 16 | 19 R465 | none -/
  lens    : List LensImage
deriving DecidableEq, Repr

/-- Boot, identity, ledger, update. -/
structure BootState where
  /-- Fuses. | 16,384 bits | 19 R442 | unblown (log 3) -/
  fuses     : Fuses
  /-- Slot pointer. | 64 bytes | 19 R461 | ACTIVE 0, CONFIRMED, no OLD (log 3) -/
  ptr       : SlotPointer
  /-- Slot 0 and slot 1. | 254 MiB each | 19 R462 | EMPTY (log 3) -/
  slot0     : BootSlot
  slot1     : BootSlot
  /-- The running set. | as Table 19.2 | 19 R448 | none loaded -/
  running   : RunningSet
  /-- The chip domain is held in reset. | 1 bit | 22 R514, R516, 21 R500 | false -/
  inReset   : Bool
  /-- The cold boot has run. | 1 bit | 19 R451 | false -/
  booted    : Bool
  /-- Boot recovery. | 1 bit | 19 R450 | false -/
  recovery  : Bool
  /-- UDS is locked. | 1 bit | 19 R447 | false -/
  udsLocked : Bool
  /-- Alias key in Keeper slot 0: ALIAS_ID, none before boot. | 64 bits | 19 R447 | none -/
  alias_    : Option (BitVec 64)
  /-- BOOT_COUNT. | 32 bits | 19 R453 | 0 (log 3) -/
  bootCount : Nat
  /-- Stored Boot Ledger records, oldest first. | 65,536 | 19 R454 | none (log 3) -/
  ledger    : List LedgerRecord
  /-- The current Boot Ledger record. | 512 bytes | 19 R454 | none -/
  current   : Option LedgerRecord
  /-- Alias records stored, as ALIAS_IDs. | 4,096 | 19 R455 | none (log 3) -/
  aliases   : List (BitVec 64)
  /-- HEALTHY_H of the set that is ARMED. | 16 bits | 19 Table 19.10 | 0 -/
  armedHours : Nat
  /-- JTAG is unlocked until this timebase, ns. | 64 bits | 19 R452 | none: locked -/
  jtagUntil : Option Nat
  /-- The Lens set record kept until confirmation: the previous one. | LiveLens | 19 R467 | none -/
  lensPrev  : Option LiveLens
  /-- Lens images of the active set that the Lens set record does not name yet. | up to 16 | 19 R465 | none (log 3) -/
  lensDue   : List LensImage
  /-- Pair A restarts on a trial set and ATTEMPTS has not risen for it yet. | 1 bit | 19 R466 | false -/
  attemptDue : Bool
  /-- Settings blocks are written in both formats until confirmation. | 1 bit | 19 R469 | false -/
  bothFormats : Bool
  /-- An in-service reload that runs. | Reload | 19 R465, R466 | none -/
  reload    : Option Reload
  /-- The head stays out of service because no DRAM serves it. | 1 bit | 16 R382 | false -/
  outOfService : Bool
  /-- TRIAL_H as the operating-hour record holds it, ns. | as TRIAL_H | 19 R468 | 0 (log 3) -/
  trialSaved : Nat
deriving DecidableEq, Repr

/-- An EMPTY boot slot. -/
def BootSlot.empty : BootSlot := { st := .empty, package := 0, pieces := [], matched := [] }

/-- The manifest that piece 0 of a slot holds. -/
def BootSlot.manifest (x : BootSlot) : Option Manifest := (x.pieces.find? (·.index == 0)).bind Piece.manifest

/-- A boot slot whose verification and arming are lost (19 R460, R462). -/
def BootSlot.kept (x : BootSlot) : BootSlot := if x.st == .verified || x.st == .armed then { x with st := .complete } else x

/-- Unblown fuses. -/
def Fuses.unblown : Fuses :=
  { revoked := [], owner0 := none, owner1 := none, enrolled := (false, false), rollback := [0, 0, 0, 0],
    jtagOff := false, identity := 0 }

/-- The slot pointer of a board whose slot 0 is confirmed and whose slot 1 has never held a set. -/
def SlotPointer.reset : SlotPointer :=
  { gen := 0, active := 0, trial := false, attempts := 0, old := none, healthyH := 0, trialNs := 0,
    lensTrial := false, lensAttempts := 0, activePkg := 0, oldPkg := 0 }

/-- Nothing loaded. -/
def RunningSet.empty : RunningSet :=
  { slot := 0, package := 0, level := 0, peerMin := 0, secVersion := [0, 0, 0, 0], sha := [0, 0, 0] }

/-- Boot, identity, ledger and update right after reset. -/
def BootState.reset : BootState :=
  { fuses := .unblown, ptr := .reset, slot0 := .empty, slot1 := .empty, running := .empty, inReset := false,
    booted := false, recovery := false, udsLocked := false, alias_ := none, bootCount := 0, ledger := [],
    current := none, aliases := [], armedHours := 0, jtagUntil := none, lensPrev := none, lensDue := [], attemptDue := false, bothFormats := false, reload := none, outOfService := false,
    trialSaved := 0 }

end Machine
end Sys2Proof
end

