-- ==== Sys2Proof/Config.lean ====
section
/-!
DEFINITION. What one implementation fixes and what the spec leaves open: constants without a body, so that no proof can see a value.
Each names its rule; the log entry that marks it stands in brackets.
-/
namespace Sys2Proof.Config

/-- The free value a step draws: `freeWord n` is the n-th one (16 R391, R404; log 5). -/
opaque freeWord : Nat → BitVec 64

/-- SHA-256 of a byte string (05 R121; log 6). -/
opaque sha256 : List Byte → BitVec 256

/-- SHA-384 of a byte string (02 R29, 19 R446; log 6). -/
opaque sha384 : List Byte → BitVec 384

/-- Length of the Zstandard frame that the compression unit makes of a grain, by level and dictionary (05 R129, R130; log 12). -/
opaque zstdLen : Nat → Nat → List Byte → Nat

/-- What a COMPRESS job writes, by Deflate or Zstandard, level, dictionary and input (15 R369; log 12). -/
opaque compressed : Bool → Nat → Option (List Byte) → List Byte → List Byte

/-- What a DECOMPRESS job makes of its input, with the dictionaries held: the output, and whether the input was well formed to its end (15 R371; log 12). -/
opaque expanded : Bool → List (Nat × List Byte) → List Byte → List Byte × Bool

/-- The Sieve bank, modulo 4, that holds a partition's bucket (16 R405: which is not stated; log 19). -/
opaque sieveBank : Nat → Nat → Nat

/-- CRC-32C of a stored payload as written, after encryption: key domain (none for CLEAR), grain ID, payload length, plaintext (05 Table 5.4; log 12). -/
opaque payloadCrc : Option Nat → Nat → Nat → List Byte → BitVec 32

/-- HMAC-SHA-384 under a partner's pre-shared key over both PAIR_IDs and both random values, the connecting side's first (13 R319; log 6). -/
opaque replMac : Nat → BitVec 128 → BitVec 128 → BitVec 256 → BitVec 256 → BitVec 384

/-- Digest of a message by MODE, with an HMAC key or none; the first bytes up to the digest length count (14 R345, R351; log 6). -/
opaque digest : Nat → Option (List Byte) → List Byte → BitVec 512

/-- One output byte of a cipher message by MODE, direction, key, IV and data unit length: the message up to the end of the byte's descriptor, the byte's place in it (14 R337, R338; log 6). -/
opaque cipherByte : Nat → Bool → List Byte → BitVec 128 → Nat → List Byte × Nat → BitVec 8

/-- GCM tag of a message under key and IV: additional data, then plaintext or ciphertext by direction (14 R339; log 6). -/
opaque gcmTag : Bool → List Byte → BitVec 128 → List Byte → List Byte → BitVec 128

/-- A P-384 signature verifies: digest, public key and signature as 240 bytes (14 R360; log 6). -/
opaque ecdsaVerify : List Byte → Bool

/-- A P-384 signature by private key, digest and per-signature secret (14 R360; log 6). -/
opaque ecdsaSign : List Byte → List Byte → BitVec 64 → BitVec 768

/-- The acceleration factor of R202 in 1/65,536, by activation energy in meV, reference temperature and temperature in 0.01 K (08 R202; log 15). -/
opaque accel : Nat → Nat → Nat → Nat

/-- An island has an internal register at an offset (20 Table 20.5: the offsets are not stated; log 20). -/
opaque internalReg : Nat → Nat → Bool

/-- SHA-384 of this Bardar's Daymark device public key (11 R271, Table 11.6; log 6). -/
opaque deviceId : BitVec 384

/-- ALIAS_ID: the first 8 bytes of SHA-384 of the alias public key, by the Keeper image's SHA-384, its SEC_VERSION and the owner key (19 R446, Table 19.3; log 6). -/
opaque aliasId : BitVec 384 → Nat → Option (BitVec 768) → BitVec 64

/-- SHA-384 of the live base Lens, by its LENS_ID (19 Table 19.2; log 6). -/
opaque baseLensSha : BitVec 64 → BitVec 384

/-- Measurement 5: SHA-384 over the SHA-384 of each live Sector Lens, by their LENS_IDs (19 Table 19.2; log 6). -/
opaque sectorSetSha : List (Nat × BitVec 64) → BitVec 384

/-- Measurement 6: SHA-384 over the settings copies in boot flash: Lens set record, partner and stream records, management settings (19 Table 19.2; log 6). -/
opaque settingsSha : Machine.LiveLens → List Machine.ReplPartner → List Nat → Option MgmtSettings → BitVec 384

/-- SHA-384 of a stored Boot Ledger record (19 Table 19.4 PREV; log 6). -/
opaque recordSha : LedgerRecord → BitVec 384

/-- What a register shows of work and wires that no row of the table moves, by field and timebase: host queues per PT, load, RS-FEC counts, lane polarity, hit rate (log 21). -/
opaque observed : Nat → Nat → Nat

end Sys2Proof.Config
end

