-- ==== Sys2Proof/Machine/StateEnv.lean ====
section
/-!
DEFINITION. State of repair, power, clocks, pins (20_environment_faults_and_repair.md, 21_power_clocks_and_thermal.md, 22_pins_electrical_and_package.md).
GLB_FOG_CAUSE, GLB_FOG_STATUS, GLB_BOARD_STATUS, GLB_GPIO, LNS_LAST_FENCE, PWR_DOMAIN_STATUS, PWR_ISLAND_FREQ, PWR_AVS_STATUS, PWR_THERM_STATUS, TMB_WALL_OFFSET, TMB_RATE and TMB_STATUS live in `State.regs`.
Each field's docstring ends with: width | file and rule | value at reset.
-/
namespace Sys2Proof.Machine

/-- A fence in force (20 R478 to R480). -/
structure Fence where
  /-- Unit: an island, or 512 + 32c + k for core k of SC island 100 + c. | 0 to 271, or a core | 20 R477, R478 | none -/
  unit      : Nat
  /-- CAUSE of LNS_LAST_FENCE. | 4 bits | 20 LNS_LAST_FENCE | none -/
  cause     : Nat
  /-- Timebase of the fence, ns. | 64 bits | 20 R480 | none -/
  at_       : Nat
  /-- REPAIRED. | 1 bit | 20 R480 | none -/
  repaired  : Bool
  /-- Permanent: no retest. | 1 bit | 20 R480 | none -/
  permanent : Bool
deriving DecidableEq, Repr

/-- An unrecoverable error of a unit within the sliding operating hour (20 R478): class 2 SRAM, 3 crossing. -/
structure UnitError where
  unit   : Nat
  kind   : Nat
  opNs   : Nat
deriving DecidableEq, Repr

/-- Repair, power, clocks and pins. -/
structure EnvState where
  /-- Fences in force. | islands and cores | 20 R478 | none -/
  fences    : List Fence
  /-- Fences of each unit since cold start, as (unit, count). | counts | 20 R480 | none -/
  fenceCounts : List (Nat × Nat)
  /-- The fence list in boot flash. | settings block of units | 20 R480 | none (DESIGN CHOICE of the boot flash's content, log 3) -/
  fenceList : List Nat
  /-- Units that raised Fog cause 3. | list | 20 Table 20.3 cause 3 | none -/
  fogUnits  : List Nat
  /-- Unit errors of the sliding operating hour. | list | 20 R478 | none -/
  errors    : List UnitError
  /-- Units whose substitution waits, as (unit, spare chosen, job). | list | 20 R481 | none -/
  toSub     : List (Nat × Nat × Option Nat)
  /-- The head has exited because of a DDR channel. | 1 bit | 20 R482 | false -/
  exited    : Bool
  /-- DDR channels withdrawn from the allocator in Lightship mode. | list | 20 R482 | none -/
  withdrawn : List Nat
  /-- Firings of a channel's bucket all of whose corrections erased one device, as (channel, DIMM, device, timebase). | list | 20 R482 | none -/
  erasedFirings : List (Nat × Nat × Nat × Nat)
  /-- Timebase at which the reference was lost, ns. | 64 bits | 20 R476 | none -/
  refLostAt : Option Nat
  /-- Isolated segments' next retry, as (segment, timebase). | 6 | 20 R474 | none -/
  segRetry  : List (Nat × Nat)
  /-- PFAIL_N. | pin | 22 Table 22.2 | high -/
  pfailHigh : Bool
  /-- PORST_N. | pin | 22 R514 | high: released -/
  porstHigh : Bool
  /-- PERST_N. | pin | 22 R515 | high -/
  perstHigh : Bool
  /-- HEAD_SEL. | pin | 22 R509 | low: head 0 -/
  headSel   : Bool
  /-- GPIO pad levels. | 16 pins | 22 R511 | 0 -/
  gpioIn    : BitVec 16
  /-- Supply ramps that wait their turn, as domain indexes. | list | 21 R495 | none -/
  rampQ     : List Nat
  /-- Ramps begun in the last 100 µs, as timebases. | at most 4 | 21 R495 | none -/
  ramps     : List Nat
  /-- Steps whose threshold the junction stays 2 °C below, as (step, timebase since), ns. | 2 × 64 bits | 21 R499 | none -/
  coolSince : List (Nat × Nat)
  /-- Timebase since which the AVS target has stood at 0.80 V with margins short, ns. | 64 bits | 21 R497 | none -/
  shortSince : Option Nat
  /-- Timebase of the last transmitter re-tune of each lane, as (lane, timebase). | list | 20 R488 | none -/
  retunes   : List (Nat × Nat)
  /-- Re-tunes in force on each lane, as (lane, count): one more for each that was kept. | list | 20 R488 | none -/
  tunes     : List (Nat × Nat)
  /-- PFAIL_N has been low since the release of PORST_N: that timebase, ns, and the store voltage then, mV. | 64 and 16 bits | 20 R475 | none -/
  stuckFrom : Option (Nat × Int)
  /-- Islands stepped down because their margin stays short, as (island, code). | 272 × 8 bits | 21 R497 | none -/
  slow      : List (Nat × Nat)
  /-- VDD_AON is lost. | supply | 22 R516 | false -/
  aonLost   : Bool
  /-- Idle states of each island, as islands parked. | 272 | 21 Table 21.2 | none -/
  parked    : List Nat
deriving DecidableEq, Repr

/-- Repair, power, clocks and pins right after reset. -/
def EnvState.reset : EnvState :=
  { fences := [], fenceCounts := [], fenceList := [], fogUnits := [], errors := [], toSub := [], exited := false, withdrawn := [],
    erasedFirings := [], refLostAt := none, segRetry := [], pfailHigh := true, porstHigh := true, perstHigh := true,
    headSel := false, gpioIn := 0, rampQ := [], ramps := [], coolSince := [], shortSince := none, retunes := [],
    tunes := [], stuckFrom := none, slow := [], aonLost := false, parked := [] }

end Sys2Proof.Machine
end

