-- ==== Sys2Proof/Machine/Types.lean ====
section
/-!
DEFINITION. What the commands carry: the operands of `Instr` that are more than numbers, and the messages they name.
-/
namespace Sys2Proof

/-- An entry of a bulk fragment list, as far as R60 checks it. -/
structure Frag where
  len      : Nat
  rsvdZero : Bool
deriving DecidableEq, Repr

/-- The token area at GO (03 Table 3.5); the outcomes of the digest and signature checks are facts about its bytes. -/
structure Token where
  nonce    : Word
  opcode   : Nat
  digestOk : Bool
  sigOk    : Bool
deriving DecidableEq, Repr

/-- A task command: what software wrote into the window before GO (03 R54), and how its bulk transfer went. -/
structure TaskReq where
  /-- Window. -/
  window    : Fin 4
  /-- Access path (03 Table 3.1). -/
  path      : Path
  /-- TSK_OPCODE.NOTIFY. -/
  notify    : Bool
  /-- TSK_ARG1 onwards; the rest are 0. -/
  args      : List Word
  /-- TSK_BULK_ADDR. -/
  bulkAddr  : Word
  /-- TSK_BULK_CTRL. -/
  bulkCtrl  : Word
  /-- Fragment list. -/
  frags     : List Frag
  /-- A PCIe completion error or poisoned TLP: in the list or in the data, at which byte offset (03 R60). -/
  bulkFault : Option (Bool × Nat)
  /-- Token area. -/
  token     : Token
  /-- The fresh random value TSK_NONCE takes after a GO in W1 (03 R61). -/
  nonce     : Word
  /-- The GO was held by a Keeper restart and runs now (03 R69). -/
  resume    : Bool
deriving DecidableEq, Repr

/-- Who claims a source (18 R435): a Keeper pair, or a cluster core at its current running priority. -/
inductive Claimer where
  | keeper (pair : Fin 2)
  | core (cluster : Fin 8) (core : Fin 17) (prio : Nat)
deriving DecidableEq, Repr

/-- What lets a pending vector through (18 R437, 03 R74): its mask cleared, or MSI-X enabled, or the function mask cleared. -/
inductive Unmask where
  | vector (v : Fin 2048) (addr : BitVec 64) (data : BitVec 32)
  | enable
  | function
deriving DecidableEq, Repr

/-- An MCTP message by what it asks (17 R428): Set Endpoint ID on a binding, or a message of a type of Table R428; `vdm` is PCIe VDM, else the I3C bus. -/
inductive MctpMsg where
  | setEid (eid : Nat)
  | control
  | pldm (typ : Nat)
  | spdm
  | secured
  | vendor
deriving DecidableEq, Repr

/-- What an ANA group reports (04 R93, R95 to R97). -/
inductive AnaState where
  | optimised | nonOptimised | inaccessible | change
deriving DecidableEq, Repr

/-- A grain's content as the read path returns it: 8 sectors, and the sectors that are lost (05 R111). -/
structure OldGrain where
  sectors : List Sector
  lost    : BitVec 8
deriving DecidableEq, Repr

/-- What the read of a verify-compare found (05 R127). -/
inductive VerifyRead where
  | equal | differs | lost
deriving DecidableEq, Repr

/-- The outcomes that a grain's passage through the pipeline takes from outside: contents read back by grain index, whether the index page is in DRAM, the verify-compare read, and whether the inline scan was passed over (05 R111, R124, R127; 15 R376). -/
structure GrainFacts where
  olds      : List (Nat × OldGrain)
  resident  : Bool
  verify    : VerifyRead
  unscanned : Bool
deriving DecidableEq, Repr

/-- What the read of a grain that is to be moved gave: its header as it stands, or rebuilt from its row, or nothing (08 R196). -/
inductive GrainRead where
  | clean (hdr : GrainHeader)
  | rebuilt (hdr : GrainHeader)
  | lost (cause : Nat)
deriving DecidableEq, Repr

/-- How the checks of R147 and R148 ended for a grain read from its own member. -/
inductive VerifyOutcome where
  | verified (sectors : List Sector)
  | failed
  | unreadable
deriving DecidableEq, Repr

/-- How a reconstruction ended (06 R151, R152, R154): the content that verified, with the second member found wrong, and whether the row's parity disagreed; or no hypothesis verified; or fewer than k members could be read. -/
inductive ReconOutcome where
  | verified (sectors : List Sector) (second : Option Nat) (parityWrong : Bool)
  | noHypothesis
  | tooFew
deriving DecidableEq, Repr

/-- An entry of MODULE_LIST SELECT 0 (09 Tables 9.6, 9.7). -/
structure ModuleEntry where
  desc     : Descriptor
  index    : Option Nat
  port     : Option Nat
  st       : Machine.ModState
  modPort  : Nat
  gen      : Nat
  otherGen : Nat
  fenced   : Bool
  otherFenced : Bool
  forwarded : Bool
  width    : Nat
  deadDies : Nat
deriving DecidableEq, Repr

/-- An entry of MODULE_LIST SELECT 2 (07 Table 7.7). -/
structure DomainEntry where
  domain   : Nat
  code     : Nat × Nat
  readOnly : Bool
  stalled  : Bool
  active   : Nat
  admitted : Nat
  native   : Nat
  free     : Int
  gcRes    : Nat
  rebuildRes : Nat
  margin   : Nat
  live     : Nat
deriving DecidableEq, Repr

/-- The values of the SMART/health log page (08 Table 8.5). -/
structure SmartLog where
  warning    : Nat
  composite  : Nat
  spare      : Nat
  used       : Nat
  unitsRead  : Nat
  unitsWritten : Nat
  readCmds   : Nat
  writeCmds  : Nat
  cycles     : Nat
  hours      : Nat
  unsafeStops : Nat
  integrity  : Nat
  sensor1    : Nat
  sensor2    : Nat
deriving DecidableEq, Repr

/-- A domain's entry of vendor page 0xC0 (08 Table 8.6). -/
structure ArrayEntry where
  native   : Nat
  free     : Int
  held     : Nat
  live     : Nat
  code     : Nat × Nat
  oneBit   : Nat
  freeNative : Nat
  queued   : Nat
deriving DecidableEq, Repr

/-- A DH-HMAC-CHAP message (04 R85): the host's offers by their codes (hash 1 to 3 SHA-256, -384, -512; group 0 null, 1 to 3 ffdhe2048, 3072, 4096), its reply, and the ends. -/
inductive AuthMsg where
  | negotiate (hashes groups : List Nat)
  | challenge (hash group : Nat)
  | reply (valid bidir : Bool)
  | success1
  | success2
  | failure
deriving DecidableEq, Repr

/-- What an admin or property read returns (04 R93, Table 4.3; 08 R211, R212; 11 R276). -/
inductive AdminData where
  /-- Identify Controller: controller ID, and the values of Table 4.3. -/
  | controller (cntlid mdts anagrpmax anatt acl aerl npss fwug : Nat)
  /-- Identify Namespace: size in blocks, block bytes, NAWUN, ANA group. -/
  | space (nsid size block nawun group : Nat)
  /-- A list of namespaces: active ones, or the Changed Namespace List. -/
  | spaces (nsids : List Nat)
  /-- The power state descriptors of Table 4.5: mW, ENLAT and EXLAT in µs. -/
  | powerStates (ps : List (Nat × Nat × Nat))
  /-- A property or feature value. -/
  | value (v : Nat)
  | apst (t : List Machine.ApstEntry)
  | errorLog (es : List (Nat × NvmeStatus))
  | smart (l : SmartLog)
  /-- Firmware Slot log: the slot that runs, and the one that the next reset activates. -/
  | slots (active : Nat) (next : Option Nat) (levels : List (Option Nat))
  /-- Commands Supported and Effects: the admin and I/O opcodes supported. -/
  | effects (admin io : List Nat)
  | ana (gs : List (Nat × AnaState))
  | rsvNotify (nsids : List Nat)
  /-- Discovery log: (head, port, index) of each interface entry and its transport. -/
  | discovery (es : List (Nat × Nat × Transport))
  | pageC0 (hour : Nat) (guess overflow : Bool) (ro losses worn : Nat) (ds : List ArrayEntry)
  | pageC1 (ms : List (Machine.Module × Nat × Nat))
  | pageC2 (p : Option Machine.LogPeriod)
  | reservations (r : Rsv)
  | message (m : AuthMsg)
deriving DecidableEq, Repr

/-- A host I/O command as a capsule carries it (04 R93, R106; 10 R262): what it asks, and the bytes its SGL describes. -/
structure IoCapsule where
  cntlid : Nat
  qid    : Nat
  cid    : Nat
  nsid   : Nat
  slba   : Nat
  nblk   : Nat
deriving DecidableEq, Repr

/-- A page of a metadata store by what it holds, as ADMIT CKPT_PAGE streams it (11 Table 11.8; 10 Table 10.1). -/
inductive StorePart where
  | page (p : MapPage)
  | dir (e : DirEntry)
  | index (e : FpEntry)
  | space (n : Namespace)
  | snap (x : Snapshot)
  | segment (x : Machine.Segment)
  | block (b : Machine.Block)
  | loss (l : Machine.LossEntry)
  | dict (d : Dict)
  | counters (gen grainNext snapNext segNext dictNext txn : Nat)
deriving DecidableEq, Repr

/-- An ADMIT DONE (11 Table 11.8): the phase it ends, the modules it tells of and those that failed, and what the joiner takes over with phase 1. -/
structure AdmitMsg where
  phase    : Nat
  modules  : List Nat
  failed   : List Nat
  owners   : List (Nat × Nat)
  ownGen   : Nat
  jseqNext : Nat
  lset     : List Nat
  lsetGen  : Nat
deriving DecidableEq, Repr

/-- A metadata page that is read: a map page, or a directory or index page with the grains in its range (10 Table 10.1). -/
inductive MetaPage where
  | map
  | grains (ids : List Nat)
deriving DecidableEq, Repr

/-- How the two copies of a metadata page read (10 R254, R255). -/
inductive PageOutcome where
  | equal | oneBad | genDiffer | conflict (keys : List Nat) | lost
deriving DecidableEq, Repr

/-- A grain header that a valid row of an open segment showed, with where it stands (08 R209). -/
structure ScanHit where
  hdr     : GrainHeader
  addr    : MediaAddr
  segment : Nat
  member  : Nat
  off16   : Nat
deriving DecidableEq, Repr

/-- What a takeover finds (11 R287): the partner's transactions read from its log on media, the scan of its open segments, which remote deltas stand in its log, as (transaction, index), and the partner's checkpoint where no shadow was kept. -/
structure TakeoverFacts where
  base   : List StorePart
  tail   : List Txn
  scan   : List ScanHit
  logged : List (Nat × Nat)
deriving DecidableEq, Repr

/-- Where a module's response comes from: a port with its tag, or SML_RSP of the partner (09 R222, R233). -/
inductive SmlVia where
  | port (p : Fin 256) (tag : Nat)
  | partner (tag : Nat)
deriving DecidableEq, Repr

/-- STATUS of a module's response (09 Table 9.3). -/
inductive SmlStatus where
  | ok | fenced | badAddress | programFail | eraseFail | casMismatch | dieFault | badCommand
deriving DecidableEq, Repr

/-- A module's response body (09 Table 9.3), with the lease slot 0 that a LEASE_READ returned. -/
structure SmlRsp where
  status   : SmlStatus
  dieWait  : Nat
  gen      : Nat
  otherGen : Nat
  fenced   : Bool
  heldSeq  : Nat
  lease    : Option LeaseBlock
deriving DecidableEq, Repr

/-- A frame of Uberuf Remote by TYPE (13 Table 13.3). A run's kind is 0 unmapped, 1 zero, 2 an error run (13 R322). The answers that share a type with their request have a constructor of their own. -/
inductive RrMsg where
  | hello (pairId : BitVec 128) (rand : BitVec 256)
  | helloAck (pairId : BitVec 128) (rand : BitVec 256) (mac : BitVec 384)
  | proof (mac : BitVec 384)
  | rekey (gen : Nat)
  | keepAlive
  | streamOpen (sync : Bool) (source target base snap cursor : Nat)
  | streamOpened (cursor : Nat)
  | fpBatch (last : Bool) (entries : List (Nat × BitVec 256))
  | fpWant (fseq : Nat) (keys : List Nat)
  | data (entries : List (Nat × List Sector))
  | mapRun (last : Bool) (runs : List (Nat × Nat × Nat))
  | cursor (key : Nat)
  | diffEnd (count : Nat)
  | diffDone (snap : Nat)
  | syncRec (jseq : Nat) (r : JRecord)
  | syncAck (jseq code : Nat)
  | close (code : Nat)
deriving DecidableEq, Repr

/-- The header of a frame as it arrives: connection, STREAM, FSEQ, KEY_GEN, and whether VERSION is 0x01 and the GCM tag holds (13 Table 13.2). -/
structure RrHead where
  conn   : Nat
  stream : Nat
  fseq   : Nat
  gen    : Nat
  intact : Bool
deriving DecidableEq, Repr

/-- A raw-class context image as its bytes say: MODE, whether its CRC holds, and what it stands for (14 Table 14.6). -/
structure CtxImage where
  mode  : Nat
  crcOk : Bool
  data  : List Byte
deriving DecidableEq, Repr

/-- A job descriptor of a cipher and digest channel (14 Table 14.2), with the fragment lengths its lists hold, the source bytes they name, and where a read or write of them fails (a poisoned burst or not, at which source byte). `rsvdZero` and `fragsZero` say that the reserved bits of the descriptor and of its fragment entries are zero. -/
structure CryDesc where
  mode      : Nat
  decrypt   : Bool
  compare   : Bool
  raw       : Bool
  restore   : Bool
  srcSpace  : Nat
  dstSpace  : Nat
  rsvdZero  : Bool
  key       : Nat
  ctx       : Nat
  total     : Nat
  aadLen    : Nat
  msgLen    : Nat
  iv        : BitVec 128
  duLen     : Nat
  srcFrags  : List Nat
  dstFrags  : List Nat
  fragsZero : Bool
  data      : List Byte
  image     : Option CtxImage
  fault     : Option (Bool × Nat)
deriving DecidableEq, Repr

/-- A wrapped key blob (14 Table 14.8); the reserved bytes and the tag under the KEK are facts about its bytes. -/
structure KeyBlob where
  kek      : Nat
  use      : Nat
  keyLen   : Nat
  target   : Nat
  rsvdZero : Bool
  length   : Nat
  key      : List Byte
  tagOk    : Bool
deriving DecidableEq, Repr

/-- A completion record of a CRY, CMP or PAT channel (14 Table 14.3, 15): index in the ring, CODE, CTX or 0, DETAIL, bytes out, compare result, OUT_VALID, PHASE, KEY_GEN or 0, stamp, and the further counts of PAT. -/
structure JobCpl where
  index   : Nat
  code    : Nat
  ctx     : Nat
  detail  : Nat
  bytes   : Nat
  compare : Nat
  valid   : Bool
  phase   : Bool
  keyGen  : Nat
  stamp   : Nat
  more    : List Nat
deriving DecidableEq, Repr

/-- One read of a codeword (09 Table 9.9): the raw bits the module returned, whether the decoder satisfied every check, and how many checks it left. -/
structure CwAttempt where
  raw         : BitVec 36864
  decoded     : Bool
  unsatisfied : Nat
deriving DecidableEq, Repr

namespace Machine

/-- Whose commit reaches T: a set's, or the partner's paired commit. -/
inductive SwitchOf where
  | set (n : Fin 8)
  | partner
deriving DecidableEq, Repr

/-- What the decoder makes of a burst: valid, valid with one device erased (DIMM, and device by rank, subchannel and place), the writer's marker, or uncorrectable. -/
inductive BurstRead where
  | clean
  | device (dimm : Fin 2) (dev : Fin 40)
  | marker
  | bad
deriving DecidableEq, Repr

/-- Who meets poisoned data, where its outcome is part of this step (16 Table 16.2). -/
inductive DramConsumer where
  | other
  | journal (jseq : Nat)
  | key (slot : Nat) (secondBad : Bool)
  | bar2 (offset : Nat)
deriving DecidableEq, Repr

/-- What reads a burst: an agent's read, the read of a partial write, or a task-started pass that has found `skip` clean bursts before it. -/
inductive DramReader where
  | demand (who : DramConsumer)
  | merge
  | pass (job : Nat) (skip : Nat)
deriving DecidableEq, Repr

/-- What an uncorrectable word of a class belongs to, where its outcome is part of this step. -/
inductive SramWhere where
  | sieveEntry (part bucket : Nat) (tag : BitVec 64)
  | sieveBank (bank : Fin 4)
  | cacheLine (slice : Fin 64) (line : Nat)
  | cacheTag (slice : Fin 64)
  | keeper (pair : Fin 2)
  | unit (unit : Nat)
  | context (index : Fin 3072)
  | other
deriving DecidableEq, Repr

/-- What the patrol, or a read, finds at a word. -/
inductive SramFind where
  | clean
  | corrected
  | bad (at_ : SramWhere)
deriving DecidableEq, Repr

/-- What reaches a slice between fills. -/
inductive CacheEvent where
  | request (q : Machine.CacheReq)
  | issue
  | written
deriving DecidableEq, Repr

/-- An error of a unit: an uncorrectable word of a SRAM class, or a protocol or class 7 parity failure at its crossings. -/
inductive UnitFailure where
  | sram (cls : Fin 8) (word : Nat)
  | crossing
deriving DecidableEq, Repr

/-- What an injected error meets: the device of a DRAM burst and the consumer of a bad one, or the SRAM word. -/
structure InjectAt where
  dimm : Fin 2
  dev  : Fin 40
  who  : DramConsumer
  word : Nat
  find : SramWhere
deriving DecidableEq, Repr

/-- What ends a shutdown beside the release of PORST_N. -/
inductive ShutdownEnd where
  | pfailHigh
  | aonReturn
deriving DecidableEq, Repr

/-- The supplies that R516 watches. -/
inductive Supply where
  | core | sram | sdsA | sdsH | ddr | io18 | io33
deriving DecidableEq, Repr

/-- What a restart finds beside the part's own record (08 R208, R209; 07 R175, R176; 10 R257; 11 R291; 12 R312). -/
structure RestartFacts where
  /-- A checkpoint record is found under R257. -/
  record   : Bool
  /-- The dump's pages read on one copy at least; the stream area reads. -/
  vault    : Bool
  stream   : Bool
  /-- Bit per copy of the dump from which any page was taken. -/
  copies   : Fin 4
  /-- The partner's copies of this head's unretired records; none when the partner's mirror is not available. -/
  mirror   : Option (List JRecord)
  /-- The first log page that neither copy holds. -/
  lostLog  : Option Nat
  /-- The open-segment scan: headers found, and the first row of each open segment all of whose pages read as erased. -/
  hits     : List ScanHit
  rows     : List (Nat × Nat)
  /-- Grains on rows whose parity disagrees (R176). -/
  rewrites : List Nat
  /-- Blocks of segments that read as erased (R197). -/
  erased   : List MediaAddr
  /-- What a takeover finds, for a head that restarts the partner's store too. -/
  peer     : TakeoverFacts
deriving DecidableEq, Repr

/-- A DIMM as its SPD describes it (16 R382). -/
structure Dimm where
  channel : Fin 16
  part    : Nat
  gib     : Nat
  ranks   : Nat
deriving DecidableEq, Repr

/-- What a cold boot finds (19 R449 to R451). -/
structure BootFacts where
  /-- Piece 0 and the Keeper image of slot 0, slot 1 read back with the SHA-384 of the manifest. -/
  read0    : Bool
  read1    : Bool
  /-- The Lens set verifies through CRY. -/
  lensOk   : Bool
  /-- Islands that fail their self-test at load. -/
  failed   : List (Fin 272)
  /-- The DIMMs fitted. -/
  dimms    : List Dimm
  /-- Channels that fail training. -/
  untrained : List (Fin 16)
deriving DecidableEq, Repr

/-- A piece as it arrives (19 R458, R459): its index, its data by length and SHA-256, the manifest that piece 0 holds, and the first pieces of the images that it completes with a digest other than the manifest's. -/
structure PieceIn where
  index    : Nat
  length   : Nat
  sha      : BitVec 256
  manifest : Option Manifest
  badImages : List Nat
deriving DecidableEq, Repr

/-- A requester's certificate chain and its proof of possession (19 R448). -/
structure SpdmChain where
  /-- It ends at the owner key. -/
  owner  : Bool
  /-- It ends at this Hedavy key. -/
  hedavy : Option (Fin 4)
  /-- Every signature of the chain and of the exchange verifies. -/
  sigs   : Bool
deriving DecidableEq, Repr

/-- An SPDM request by what it asks (19 R448). -/
inductive SpdmReq where
  | certificates
  | challenge
  | measurement (index : Fin 256)
  | keyExchange (requester : Option SpdmChain)
  | endSession
deriving DecidableEq, Repr

/-- A measurement as SPDM returns it (19 Table 19.2). -/
inductive Measurement where
  | digest (d : BitVec 384)
  | record (r : Option LedgerRecord)
deriving DecidableEq, Repr

/-- What an SPDM response holds; every response is signed with the alias key (19 R448). -/
inductive SpdmRsp where
  | certificates
  | challenge
  | measurement (m : Measurement)
  | session (w1 : Bool)
  | ended
  | error
deriving DecidableEq, Repr

/-- A token shifted into the TAP's unlock register (19 R452), field by field; digest and signature outcomes are facts about its bytes. -/
structure JtagToken where
  challengeOk : Bool
  device      : BitVec 384
  hours       : Nat
  keyIndex    : Nat
  sigOk       : Bool
  ownerPresent : Nat
  ownerSigOk  : Bool
deriving DecidableEq, Repr

/-- What a compression job meets next: no PT has time for it; a PT runs it, from its first byte; a PT finishes it. -/
inductive JobStep where
  | wait
  | run (pt : Fin 66)
  | finish (pt : Fin 66)
deriving DecidableEq, Repr

end Machine
end Sys2Proof
end

