-- ==== Sys2Proof/Machine/StateOut.lean ====
section
/-!
DEFINITION. What the part sends out of its pins and links: the messages the rules name.
The list of them in `State` is the model's own record, newest first, not state the spec gives the part (DESIGN CHOICE, log 4).
-/
namespace Sys2Proof

/-- What leaves the part. -/
inductive Output where
  /-- An MSI-X write (18 R437, R438). -/
  | msix (vector : Nat) (addr : BitVec 64) (data : BitVec 32)
  /-- An event record written to slot `index` of the ring (18 R436). -/
  | eventRecord (index : Nat) (r : EventRecord)
  /-- The value that a BAR0 read with an effect of its own returns (18 R437, 14 R349). -/
  | readData (off : Nat) (w : Word)
  /-- A BAR2 read completes with a poisoned TLP (16 Table 16.2). -/
  | poisonedRead (off : Nat)
  /-- A corrected burst is written back to DRAM, or its write-back is cancelled by a newer write (16 R386). -/
  | writeBack (addr : Nat) (cancelled : Bool)
  /-- A Keeper or cluster core claims a source, or finds none (18 R435). -/
  | claimed (source : Option Nat)
  /-- L1 entry acknowledged on the upstream link (18 R439). -/
  | l1Ack
  /-- Keeper's Log records by bulk transfer (17 R424). -/
  | bulkLog (rs : List Machine.LogPeriod)
  /-- Snapshot entries by bulk transfer (10 R263). -/
  | bulkSnaps (xs : List Snapshot)
  /-- Module, loss list and domain entries by bulk transfer (07 R169). -/
  | bulkModules (xs : List ModuleEntry)
  | bulkLosses (xs : List Machine.LossEntry)
  | bulkDomains (xs : List DomainEntry)
  /-- An island's trace by bulk transfer: island, trigger timebase, bytes (20 Table 20.5). -/
  | bulkTrace (island trigger bytes : Nat)
  /-- PMBus VOUT_COMMAND of VDD_CORE on segment 5, in 0.1 mV (21 R496). -/
  | voutCommand (mv10 : Nat)
  /-- An SPDM response signed with the alias key (19 R448). -/
  | spdm (aliasId : BitVec 64) (r : Machine.SpdmRsp)
  /-- What a PLDM component ends with (19 R458). -/
  | pldm (code : Nat)
  /-- Boot Ledger records and alias records by bulk transfer (19 Table 19.10). -/
  | bulkLedger (rs : List LedgerRecord)
  | bulkAliases (xs : List (BitVec 64))
  /-- A telemetry POST: the snapshot and the newly stored records (17 R426). -/
  | telemetry (snap : Machine.LogPeriod) (rs : List Machine.LogPeriod)
  /-- An MCTP message handed on or answered: its sender's EID (17 R428). -/
  | mctp (eid : Nat) (m : MctpMsg)
  /-- A completion posted to a queue, with Dword 0 (04 R91, R101). -/
  | completion (cntlid qid cid : Nat) (st : NvmeStatus) (dw0 : Nat)
  /-- FWD CPL: the completion of a forwarded command returns to the forwarding head (04 R95). -/
  | fwdCpl (tag : Nat) (st : NvmeStatus) (dw0 : Nat)
  /-- REMOTE_DELTA to the partner: transaction, index within it, delta (10 R244). -/
  | remoteDelta (txn index : Nat) (d : Delta)
  /-- REMOTE_ACK to the partner (10 R244). -/
  | remoteAck (txn index : Nat)
  /-- LOG_PAGE to the partner: a log page that this head programs, by its transactions (11 R275). -/
  | logPage (lpseq : Nat) (txns : List Txn)
  /-- MIRROR REC to the partner (05 R112, 11 R274). -/
  | mirrorRec (r : JRecord)
  /-- An SML frame sent on a media port (09 R219). -/
  | sml (port : Nat) (f : SmlFrame)
  /-- MEDIA SML_CMD to the partner: a command for a module that this head cannot reach (09 R233). -/
  | mediaCmd (tag module : Nat) (body : SmlCmdBody)
  /-- MEDIA SML_RSP and SML_DATA to the partner (09 R233). -/
  | mediaRsp (tag status : Nat)
  /-- RETIRE to the partner: PTL_JSEQ_RETIRED (11 R274). -/
  | retire (jseq : Nat)
  /-- A frame of Uberuf Remote: connection, STREAM, FSEQ, KEY_GEN, payload (13 R318). -/
  | remote (conn stream fseq gen : Nat) (m : RrMsg)
  /-- A changed partner or stream record, copied to the partner Bardar (13 R315). -/
  | replPartner (index : Nat) (r : Option Machine.ReplPartner)
  | replStream (x : Machine.Stream)
  /-- The requested sectors of a verified grain, sent to the host buffer, by number in the grain (04 R106, 06 R150). -/
  | hostData (cntlid qid cid : Nat) (key : Nat) (data : List (Nat × Sector))
  /-- FWD READ_DATA: the same for a forwarded read (04 R95). -/
  | fwdData (tag : Nat) (key : Nat) (data : List (Nat × Sector))
  /-- MIRROR FETCH of a record whose local copy fails its CRC (06 R145). -/
  | fetch (jseq : Nat)
  /-- The data of an admin command or property read to its host (04 R93). -/
  | adminData (cntlid cid : Nat) (d : AdminData)
  /-- R2T or RDMA READ: write data solicited from a host, in bytes (04 R81, R82, R106). -/
  | solicit (cntlid qid cid bytes : Nat)
  /-- FWD CMD with its DATA to the owner (04 R95). -/
  | fwdCmd (tag : Nat) (x : Machine.HostCmd)
  /-- FWD ABORT for a forwarded command, and the owner's ABORT_RSP (04 R101). -/
  | fwdAbort (tag : Nat)
  | abortRsp (tag : Nat) (aborted : Bool)
  /-- RSV_UPDATE and RSV_ACK (11 R276). -/
  | rsvUpdate (msg nsid : Nat) (r : Rsv)
  | rsvAck (msg : Nat)
  /-- Bytes that a job writes to its destination, in a space, and its completion record: block 0 CRY, 1 CMP, 2 PAT, and channel (14 R331, R334; 15). -/
  | jobData (block channel space : Nat) (bytes : List Byte)
  | jobCompletion (block channel : Nat) (c : JobCpl)
  /-- A TLS alert; the connection ends (04 R83, R84). -/
  | tlsAlert (conn : Nat) (badMac : Bool)
  /-- A connection or queue pair is torn down without completions (04 R103). -/
  | closed (cntlid : Nat)
  /-- A PTP event message's time stamp (04 R80). -/
  | ptpStamp (port : Nat) (t : Nat)
  /-- LINK frames of a group: TRAIN_ID, NAK (11 R271, R272). -/
  | trainId (group head : Nat) (letter : Nat) (identity : BitVec 64)
  | linkNak (group ackseq : Nat)
  /-- A replayed Uberuf frame: its LSEQ, class and MSG (11 R272). -/
  | replayed (group lseq cls msg : Nat)
  /-- A BEACON on a group (11 R277). -/
  | beacon (group : Nat) (m : BeaconMsg)
  /-- OWN messages of a paired commit (11 R289, R290). -/
  | prepare (pairT : Nat) (changes : List (Nat × Nat))
  | ownAck (pairT : Nat)
  | ownGo (pairT : Nat)
  | ownAbort (pairT : Nat)
  | drained (group jseq : Nat)
  /-- MIRROR REC_ACK (11 R274). -/
  | recAck (head jseq : Nat)
  /-- META PAGE_RSP and COUNTERS (11 R275, R276). -/
  | pageRsp (gen : Nat) (p : Option MapPage)
  | counters (t : Nat × Nat × Nat × Nat)
  /-- ADMIT messages: a page of a store, a journal record, the end of a phase (11 R292). -/
  | ckptPage (shadow : Bool) (x : StorePart)
  | ringCopy (r : JRecord)
  | admitDone (m : AdmitMsg)
  /-- A head's MARGIN_PCT, or MIR00 in or out of service, told to the partner (08 R204, 05 R116). -/
  | partnerMargin (pct : Nat)
  | mirState (out : Bool)
deriving DecidableEq, Repr

end Sys2Proof
end

