-- ==== Sys2Proof/Syntax.lean ====
section
/-!
DEFINITION. The commands of the part: one constructor for each row of the table, with the row's operands.
-/
namespace Sys2Proof
open Machine

set_option maxRecDepth 4000

/-- What can be done to the part, or happens to it. -/
inductive Instr where
  /-- A BAR0 write to a register with no behaviour of its own is range-checked and applied, or discarded whole with the code recorded in the block's ERR_CAPTURE (R64). -/
  | registerWrite (off : Fin 67108864) (whole : Bool) (w : Word)
  /-- A write to the BAR2 scratch window stores the data in a scratch way, or is discarded beyond the window with NOT_PERMITTED in GLB_BAR2_ERR (R73). -/
  | bar2ScratchWrite (off : Fin 67108864) (bytes : List Byte)
  /-- While LNS_STAGE_SELECT.EN is set, a write to a staged register goes to the selected set's shadow, claims the set's islands, and is refused with STATE_CONFLICT when the set is in the wrong state (R524). -/
  | stagedRegisterWrite (off : Fin 67108864) (w : Word)
  /-- LNS_SET_CTRL OP 0x01 opens a FREE stage set (R524). -/
  | lnsSetOpen (n : Fin 8) (lead : BitVec 32) (force : Bool)
  /-- LNS_SET_CTRL OP 0x02 checks a stage set against itself and the live state (R38). -/
  | lnsSetCheck (n : Fin 8) (lead : BitVec 32) (force : Bool)
  /-- LNS_SET_CTRL OP 0x03 commits a CHECKED set with LEAD_NS as its lead and sends the prepare (R38). -/
  | lnsSetCommit (n : Fin 8) (lead : BitVec 32) (force : Bool)
  /-- LNS_SET_CTRL OP 0x04 discards the shadows of a STAGING or CHECKED set (R38). -/
  | lnsSetDiscard (n : Fin 8) (lead : BitVec 32) (force : Bool)
  /-- LNS_SET_CTRL OP 0x00 writes LEAD_NS and FORCE alone (R50). -/
  | lnsSetNoOperation (n : Fin 8) (lead : BitVec 32) (force : Bool)
  /-- At T − 2 µs a PREPARING set becomes COMMITTING when every island has acknowledged, and otherwise aborts with EPOCH_MISSED (R38). -/
  | epochAckDeadline (n : Fin 8) (late : List Nat)
  /-- When the timebase reaches T, every island of the set swaps its shadow in and the live generation rises by 1 (R41). -/
  | epochSwitch (w : SwitchOf)
  /-- An island whose timebase copy falls outside ±2 ns sets its time-fault flag, withholds epoch acknowledgements and reports the fault (R16). -/
  | islandTimeFault (island : Fin 272)
  /-- When the last work accepted by the draining units has left them, the Lens epoch of a Sector re-lens is committed (R45). -/
  | relensDrainComplete
  /-- A changed island finishes its blob load and self-test; on success the return epoch follows, and on failure the previous blob is reloaded and the re-lens ends with HW_FAULT (R48). -/
  | islandLoadComplete (island : Fin 272) (ok : Bool)
  /-- Keeper A's two-copy commit of the Lens set record after a return epoch becomes durable (R49). -/
  | lensSetRecordDurable
  /-- Task command NOP completes with no action (R526). -/
  | nop (r : TaskReq)
  /-- Task command IDENTIFY returns part, stepping, head, running set, levels and live LENS_IDs (R526). -/
  | identify (r : TaskReq)
  /-- Task command JOB_STATUS returns the state, code and progress of a job handle (R526). -/
  | jobStatus (r : TaskReq)
  /-- Task command JOB_RESULT returns a finished job's code and results and frees its record (R58). -/
  | jobResult (r : TaskReq)
  /-- Task command JOB_CANCEL records a cancel so that the job stops at its next safe point, or reports that the job has already ended (R59). -/
  | jobCancel (r : TaskReq)
  /-- A job reaches its end or its safe point after a cancel, and its record takes the final code, firing the window source when NOTIFY is set (R59). -/
  | jobEnd (n : Nat)
  /-- Task command STAGE_OPEN opens the lowest-numbered FREE stage set (R524). -/
  | stageOpen (r : TaskReq)
  /-- Task command STAGE_LENS takes a Lens image in by bulk transfer and runs checks 1 to 5 of Table 2.5 on it (R36). -/
  | stageLens (r : TaskReq) (img : LensImage)
  /-- Task command STAGE_CHECK checks a set and records the live generation, or fails with CHECK_FAILED and DETAIL (R38). -/
  | stageCheck (r : TaskReq)
  /-- Task command STAGE_COMMIT repeats the check if needed, sets T = now + lead and sends the prepare (R38). -/
  | stageCommit (r : TaskReq)
  /-- Task command STAGE_DISCARD discards a set's shadows (R38). -/
  | stageDiscard (r : TaskReq)
  /-- Task command SECTOR_RELENS runs the drain, Lens and return epochs for a checked Sector Lens (R45). -/
  | sectorRelens (r : TaskReq)
  /-- A function-level or hot reset of the upstream endpoint resets the MSI-X table and fails any W0 bulk transfer in progress with HW_FAULT, without touching task registers or jobs (R68). -/
  | upstreamReset (reached : Nat)
  /-- A GO that arrives during a Keeper restart is held and runs when the Keeper returns, while jobs carried by the Keeper end with HW_FAULT (R69). -/
  | keeperRestartGoHeld (opcode : Nat) (r : TaskReq)
  /-- Task command NS_CREATE creates a namespace with its block size, ANA group, size, profile and key domain (R92). -/
  | nsCreate (r : TaskReq)
  /-- Task command NS_DELETE releases the namespace's root and deletes its snapshots (R267). -/
  | nsDelete (r : TaskReq)
  /-- Task command NS_MODIFY changes profile, level, verify-compare, de-duplication domain, anomaly threshold or guard settings (R138). -/
  | nsModify (r : TaskReq)
  /-- Task command HOST_ADD adds a host identity with its wrapped secrets to the access directory (R92). -/
  | hostAdd (r : TaskReq) (nqn : String) (secret : Option Nat) (psk : Option Nat) (opens : Bool)
  /-- Task command HOST_REMOVE removes a host identity and ends its associations (R92). -/
  | hostRemove (r : TaskReq)
  /-- Task command NS_ACCESS with bit 32 set grants a host access to a namespace (R89). -/
  | nsAccessGrant (r : TaskReq)
  /-- Task command NS_ACCESS with bit 32 clear revokes a grant and ends that host's unjournaled commands on the namespace (R107). -/
  | nsAccessRevoke (r : TaskReq)
  /-- Task command DICT_LOAD installs a new current compression dictionary and returns its Dictionary_ID (R131). -/
  | dictLoad (r : TaskReq) (bytes : List Byte) (valid : Bool) (unnamed : List Nat)
  /-- Task command SNAP_CREATE takes a snapshot whose CUT is PTL_JSEQ_NEXT at that moment (R265). -/
  | snapCreate (r : TaskReq)
  /-- Task command SNAP_DELETE puts a snapshot in DELETING and releases it once its pins are gone (R267). -/
  | snapDelete (r : TaskReq)
  /-- Task command CLONE_CREATE creates a writable clone whose root names a snapshot's root (R266). -/
  | cloneCreate (r : TaskReq)
  /-- Task command SNAP_LOCK sets, lengthens, or through W1 shortens or clears a retention lock (R268). -/
  | snapLock (r : TaskReq)
  /-- Task command SNAP_LIST returns snapshot entries by bulk transfer (R263). -/
  | snapList (r : TaskReq)
  /-- Task command ANA_STAGE stages a change of owner for an ANA group into a stage set (R289). -/
  | anaStage (r : TaskReq)
  /-- Task command PEER_STATUS returns the Beacon, lease and group state and the pair offset (R293). -/
  | peerStatus (r : TaskReq)
  /-- Task command BEACON_CONFIG sets the loss time and SEVER_MAX (R293). -/
  | beaconConfig (r : TaskReq)
  /-- Task command PEER_ADMIT runs the admission phases that return a joining partner to PAIRED (R292). -/
  | peerAdmit (r : TaskReq) (ifaceEqual : Bool) (fwEqual : Bool)
  /-- Task command KEY_LOAD unwraps a key blob into a slot's shadow bank within a stage set (R356). -/
  | keyLoad (r : TaskReq) (b : KeyBlob)
  /-- Task command KEY_ERASE puts a slot in ERASING and zeroises it once pins end or the timeout cuts them off (R355). -/
  | keyErase (r : TaskReq)
  /-- Task command KEY_STATUS returns a slot's state, use, generation, usage count and pins (R357). -/
  | keyStatus (r : TaskReq)
  /-- Task command UPD_PIECE stores one update piece in the inactive slot after checking its SHA-256 (R458). -/
  | updPiece (r : TaskReq) (p : PieceIn)
  /-- Task command UPD_STATUS returns the slot states, resume summary and trial state (R471). -/
  | updStatus (r : TaskReq)
  /-- Task command UPD_VERIFY reads the slot back and re-checks every digest and signature, making it VERIFIED (R460). -/
  | updVerify (r : TaskReq) (bad : Option Nat)
  /-- Task command UPD_ACTIVATE with action 0 commits the slot pointer for a trial of the new set (R465). -/
  | updActivate (r : TaskReq) (partner : Option (Nat × Nat))
  /-- Task command UPD_ACTIVATE with action 1 arms a VERIFIED set for activation by Firmware Commit (R462). -/
  | updArm (r : TaskReq)
  /-- Task command UPD_ACTIVATE with action 2 reverts a trial set to the previous confirmed set (R466). -/
  | updRevert (r : TaskReq)
  /-- Task command UPD_CONFIRM confirms the set or Lens set record on trial and raises anti-rollback counters (R468). -/
  | updConfirm (r : TaskReq)
  /-- Task command UPD_FETCH fetches update pieces by HTTPS over the management network (R471). -/
  | updFetch (r : TaskReq) (anchor : Bool) (sigs : Bool) (dates : Bool) (pieces : List PieceIn) (code : Fin 65536)
  /-- Task command LEDGER_EXPORT returns Boot Ledger or alias records by bulk transfer (R471). -/
  | ledgerExport (r : TaskReq)
  /-- FUSE_PROGRAM op 1 blows an owner public key into the lowest free slot and then its ENROLLED bit (R444). -/
  | fuseEnrolOwnerKey (r : TaskReq) (key : BitVec 768)
  /-- FUSE_PROGRAM op 2 raises a class's anti-rollback counter (R443). -/
  | fuseRaiseCounter (r : TaskReq)
  /-- FUSE_PROGRAM op 3 revokes a Hedavy key on a signature by another unrevoked Hedavy key (R471). -/
  | fuseRevokeHedavyKey (r : TaskReq) (sigOk : Bool)
  /-- FUSE_PROGRAM op 4 blows JTAG_DISABLED (R471). -/
  | fuseBlowJtagDisabled (r : TaskReq)
  /-- Task command REPL_PARTNER_ADD adds a partner array record (R315). -/
  | replPartnerAdd (r : TaskReq) (pairId : BitVec 128) (addrs : List (BitVec 128)) (psk : Nat)
  /-- Task command REPL_PARTNER_REMOVE removes a partner array that no stream names (R315). -/
  | replPartnerRemove (r : TaskReq)
  /-- Task command REPL_START starts an asynchronous source, synchronous source or target stream (R321). -/
  | replStart (r : TaskReq) (conn : Nat) (rand : BitVec 256)
  /-- Task command REPL_STOP stops a stream, sends CLOSE and releases its pins (R329). -/
  | replStop (r : TaskReq)
  /-- REPL_STOP with PROMOTE on a target replaces its root with the newest replica snapshot's root and makes it active (R329). -/
  | replPromote (r : TaskReq)
  /-- Task command REPL_STATUS returns a stream's state, lag, cursor and counters (R315). -/
  | replStatus (r : TaskReq)
  /-- Task command MODULE_LIST returns module descriptors, the loss list or placement domains (R169). -/
  | moduleList (r : TaskReq)
  /-- Task command MODULE_ADMIT admits a module to a placement and failure domain and writes the lease set (R169). -/
  | moduleAdmit (r : TaskReq) (bad : List (Nat × Nat × Nat))
  /-- Task command MODULE_RETIRE moves data off a module and retires it (R169). -/
  | moduleRetire (r : TaskReq)
  /-- Task command PORT_REBIND stages a media-port binding into a stage set (R231). -/
  | portRebind (r : TaskReq)
  /-- Task command LAYOUT_SET sets the k+m code for new data segments of a placement domain (R162). -/
  | layoutSet (r : TaskReq)
  /-- Task command SCRUB_RANGE reads and corrects every burst of a DRAM range once (R396). -/
  | scrubRange (r : TaskReq)
  /-- Task command BUCKET_CONFIG commits a leaky-bucket interval and threshold through its own stage set (R395). -/
  | bucketConfig (r : TaskReq)
  /-- Task command HEALTH_READ returns the media, Keeper or memory health summary (R429). -/
  | healthRead (r : TaskReq)
  /-- Task command LOG_READ returns stored Keeper's Log records or the current snapshot (R429). -/
  | logRead (r : TaskReq)
  /-- Task command LOG_CONFIG sets the Keeper's Log period from the next period start (R424). -/
  | logConfig (r : TaskReq)
  /-- Task command SENSOR_READ returns KPR_SENSOR images (R429). -/
  | sensorRead (r : TaskReq)
  /-- Task command HOLDUP_TEST runs a capacitance test now or sets the test interval (R303). -/
  | holdupTest (r : TaskReq) (v : Int) (rise : Int)
  /-- Task command FOG_CLEAR releases every masked Fog cause whose release condition holds (R484). -/
  | fogClear (r : TaskReq)
  /-- Task command SIG_ROUTE_STAGE stages one route for a run of sources into a stage set (R530). -/
  | sigRouteStage (r : TaskReq)
  /-- Task command UNIT_FENCE fences a unit (R478). -/
  | unitFence (r : TaskReq)
  /-- UNIT_FENCE with CLEAR through W3 removes an entry from the fence list (R480). -/
  | unitFenceClear (r : TaskReq)
  /-- Task command UNIT_SUBSTITUTE substitutes a free spare for a fenced unit (R481). -/
  | unitSubstitute (r : TaskReq)
  /-- UNIT_SUBSTITUTE with RESTORE returns a REPAIRED unit to service (R480). -/
  | unitSubstituteRestore (r : TaskReq)
  /-- Task command DIAG_INJECT injects an error into a named memory, link or island, where it acts as a real error (R489). -/
  | diagInject (r : TaskReq) (w : InjectAt)
  /-- Task command DIAG_TRACE captures an island trace and returns it by bulk transfer (R489). -/
  | diagTrace (r : TaskReq)
  /-- Task command DIAG_PEEK reads one island-internal register (R489). -/
  | diagPeek (r : TaskReq)
  /-- A host lane that fails receiver detect is marked OPEN, its port stays down and its source fires (R77). -/
  | hostLaneOpen (lane : Fin 32)
  /-- A host lane whose driver current monitor trips is turned off and marked SHORT (R77). -/
  | hostLaneShort (lane : Fin 32)
  /-- Every 10 s a faulty host lane is re-tested, and its port trains once the lane recovers (R77). -/
  | hostLaneRetest (lane : Fin 32) (good : Bool)
  /-- A host port completes auto-negotiation and training, correcting polarity and lane order, and comes up (R75). -/
  | hostPortTraining (port : Fin 32) (found : List (Nat × Bool × Nat))
  /-- An Ethernet frame arrives on a host port and is dropped and counted when it matches no interface (R78). -/
  | hostFrameReceive (port : Fin 32) (addr : BitVec 128) (vlan : Nat)
  /-- A RoCEv2 congestion notification cuts the flow's sending rate by CC_CUT (R79). -/
  | congestionNotification (cntlid : Nat) (qid : Nat)
  /-- The rate recovery timer of a RoCEv2 flow expires and its rate recovers (R79). -/
  | rateRecoveryTimer (cntlid : Nat) (qid : Nat)
  /-- A PTP event message is time-stamped and, on the selected port, disciplines the timebase (R80). -/
  | ptpEventMessage (port : Fin 32) (domain : Nat) (offset : Int) (ppb : Int)
  /-- A TLS 1.3 PSK handshake message is handled by the service cores, refusing unsupported options with handshake_failure (R83). -/
  | tlsHandshake (conn : Nat) (port : Fin 32) (host : Nat) (suiteOk : Bool) (groupOk : Bool) (earlyData : Bool) (certificate : Bool)
  /-- A TLS record is decrypted in the host quad, and one that fails its tag ends the connection with bad_record_mac (R84). -/
  | tlsRecord (conn : Nat) (tagOk : Bool)
  /-- A KeyUpdate message moves the connection to the next traffic key (R83). -/
  | tlsKeyUpdate (conn : Nat) (receive : Bool)
  /-- An NVMe Connect capsule creates an association or queue, checking the access directory, authentication and limits (R88). -/
  | connect (port : Fin 32) (kind : Transport) (nqn : String) (hostId : BitVec 128) (cntlid : Nat) (qid : Fin 65536) (entries : Nat) (cid : Nat) (kato : Nat) (conn : Option Nat)
  /-- An Authentication Send carries a DH-HMAC-CHAP message from the host (R85). -/
  | authenticationSend (cntlid : Nat) (cid : Nat) (m : AuthMsg)
  /-- An Authentication Receive returns the Bardar's DH-HMAC-CHAP message (R85). -/
  | authenticationReceive (cntlid : Nat) (cid : Nat)
  /-- A Property Set writes a controller property, and clearing CC.EN resets the controller and ends its commands (R103). -/
  | propertySet (cntlid : Nat) (cid : Nat) (en : Bool)
  /-- A Property Get returns a controller property (R93). -/
  | propertyGet (cntlid : Nat) (cid : Nat) (off : Nat)
  /-- An NVMe Write is checked against its SGL, and its data is solicited or taken in-capsule (R106). -/
  | nvmeWrite (c : IoCapsule) (sgl : Nat) (data : List Sector)
  /-- An NVMe Read resolves each grain against one map state and fetches and verifies each one (R144). -/
  | nvmeRead (c : IoCapsule) (sgl : Nat) (pt : Fin 66) (badCrc : List Nat)
  /-- Write Zeroes is journaled as zero markers with no data transfer (R110). -/
  | writeZeroes (c : IoCapsule)
  /-- Dataset Management deallocates up to 256 ranges (R93). -/
  | datasetManagement (c : IoCapsule) (dealloc : Bool) (ranges : List (Nat × Nat))
  /-- Compare reads the range and completes with Compare Failure on a mismatch (R93). -/
  | compare (c : IoCapsule) (sgl : Nat) (data : List Sector) (pt : Fin 66) (badCrc : List Nat)
  /-- Copy is journaled as a metadata-only record within one namespace (R262). -/
  | copy (c : IoCapsule) (ranges : List (Nat × Nat))
  /-- Flush completes once every write completed before it is journaled (R102). -/
  | flush (c : IoCapsule)
  /-- Abort races the named command's completion at its queue's arbiter, at the owner for a forwarded command (R101). -/
  | abort (cntlid : Nat) (cid : Nat) (sqid : Nat) (named : Nat)
  /-- Reservation Register changes reservation state at the owner, which completes after RSV_ACK (R276). -/
  | reservationRegister (c : IoCapsule) (action : Fin 8) (cur : BitVec 64) (new : BitVec 64) (iekey : Bool) (cptpl : Fin 4)
  /-- Reservation Acquire changes reservation state at the owner, which completes after RSV_ACK (R276). -/
  | reservationAcquire (c : IoCapsule) (action : Fin 8) (cur : BitVec 64) (prev : BitVec 64) (rtype : Fin 256)
  /-- Reservation Release changes reservation state at the owner, which completes after RSV_ACK (R276). -/
  | reservationRelease (c : IoCapsule) (action : Fin 8) (cur : BitVec 64) (rtype : Fin 256)
  /-- Reservation Report returns the namespace's reservation state (R93). -/
  | reservationReport (c : IoCapsule)
  /-- An NVMe Identify returns controller or namespace data with the values of Table 4.3 (R93). -/
  | nvmeIdentify (cntlid : Nat) (cid : Nat) (cns : Nat) (nsid : Nat)
  /-- Get Log Page returns a standard, discovery or vendor log page (R211). -/
  | getLogPage (cntlid : Nat) (cid : Nat) (lid : Nat)
  /-- Set Features sets a feature such as Number of Queues, Power Management or Keep Alive (R99). -/
  | setFeatures (cntlid : Nat) (cid : Nat) (fid : Nat) (value : Nat) (nsid : Nat) (apst : List ApstEntry)
  /-- Get Features returns a feature's value (R93). -/
  | getFeatures (cntlid : Nat) (cid : Nat) (fid : Nat) (nsid : Nat)
  /-- Keep Alive restarts the association's keep-alive timer (R93). -/
  | keepAlive (cntlid : Nat) (cid : Nat)
  /-- An Asynchronous Event Request is held until an enabled event is posted (R93). -/
  | asynchronousEventRequest (cntlid : Nat) (cid : Nat)
  /-- Namespace Management from an identity with NSMGMT creates or deletes a namespace, and otherwise fails with Operation Denied (R93). -/
  | namespaceManagement (cntlid : Nat) (cid : Nat) (create : Bool) (nsid : Nat) (size : Nat) (group : Nat) (small : Bool)
  /-- Namespace Attachment from an identity with NSMGMT attaches or detaches a namespace (R93). -/
  | namespaceAttachment (cntlid : Nat) (cid : Nat) (attach : Bool) (nsid : Nat) (controllers : List Nat)
  /-- Firmware Image Download delivers one update piece at a 256 KiB offset (R104). -/
  | firmwareImageDownload (cntlid : Nat) (cid : Nat) (offset : Nat) (p : PieceIn)
  /-- Firmware Commit with action 000b verifies the package (R104). -/
  | firmwareCommitVerify (cntlid : Nat) (cid : Nat) (bad : Option Nat)
  /-- Firmware Commit with action 001b, 010b or 011b activates an ARMED set at once (R463). -/
  | firmwareCommitActivate (cntlid : Nat) (cid : Nat) (action : Fin 8) (fwSlot : Fin 8) (partner : Option (Nat × Nat))
  /-- An unsupported admin or I/O opcode completes with Invalid Command Opcode (R93). -/
  | unsupportedOpcode (cntlid : Nat) (qid : Nat) (cid : Nat)
  /-- Keep-alive expiry ends the association and every outstanding command with the transport's abort behaviour (R103). -/
  | keepAliveExpiry (cntlid : Nat)
  /-- A transport error or closed connection ends the association and frees its contexts within 1 ms (R103). -/
  | transportConnectionLoss (cntlid : Nat)
  /-- A capsule that waited for a command context is admitted in arrival order once a context frees (R91). -/
  | capsuleContextAdmit
  /-- An NVMe/TCP H2CData PDU delivers write data, and one beyond the solicited range or with a data digest error is a fatal transport error (R106). -/
  | h2cDataPdu (cntlid : Nat) (qid : Nat) (cid : Nat) (data : List Sector) (digestOk : Bool) (badCrc : List Nat)
  /-- An RDMA READ delivers write data, and one that fails ends the write with Data Transfer Error (R106). -/
  | rdmaReadCompletion (cntlid : Nat) (qid : Nat) (cid : Nat) (ok : Bool) (data : List Sector) (badCrc : List Nat)
  /-- An association's APST idle timer expires and moves its demanded power state (R99). -/
  | apstIdleTimer (cntlid : Nat)
  /-- The chip power state changes and queues move to the new active units at the T of a self-committed epoch (R494). -/
  | chipPowerStateChange
  /-- A forwarded command arrives at the owner, which executes it as its own (R95). -/
  | fwdCmd (tag : Nat) (x : HostCmd) (badCrc : List Nat)
  /-- A forwarded command's completion returns to the forwarding head, which posts it to the host (R95). -/
  | fwdCpl (tag : Nat) (st : NvmeStatus) (dw0 : Nat) (data : List (Nat × List (Nat × Sector)))
  /-- A FWD ABORT message lets the owner decide the Abort race and answer with ABORT_RSP (R101). -/
  | fwdAbort (tag : Nat)
  /-- An ABORT_RSP lets the forwarding head complete the Abort and the command as the owner decided (R101). -/
  | abortRsp (tag : Nat) (aborted : Bool)
  /-- Once all its data has arrived and space is reserved, a write is appended to the local journal ring and sent to the partner as a MIRROR REC (R112). -/
  | journalAppend (cntlid : Nat) (qid : Nat) (cid : Nat) (fwd : Option Nat) (facts : GrainFacts)
  /-- A MIRROR REC arrives and, when whole and its CRC checks, is placed in the mirror ring and acknowledged with REC_ACK (R117). -/
  | mirrorRec (r : JRecord) (crcOk : Bool)
  /-- A REC_ACK lets the owner post the write's completion under the current acknowledgement mode (R115). -/
  | recAck (head : Nat) (jseq : Nat)
  /-- 4 µs after its first record entered it, an open vault page is programmed (R116). -/
  | vaultPageTimer
  /-- A vault page programs on both modules, and records whose last page it holds are completed under mode 1 or 2 (R116). -/
  | vaultPageProgrammed
  /-- A MIRROR RETIRE message carries the partner's PTL_JSEQ_RETIRED, and the mirror ring retires records on it (R274). -/
  | retire (jseq : Nat)
  /-- A record retires once the metadata log covers its deltas and its grains have left PENDING, freeing ring space for waiting writes (R114). -/
  | journalRecordRetire (jseq : Nat)
  /-- A journaled grain is merged if partial, fingerprinted, de-duplicated or compressed, enciphered and packed, in JSEQ order per namespace (R121). -/
  | grainFingerprint (jseq : Nat) (index : Nat) (pt : Fin 66) (f : GrainFacts)
  /-- A row that has received no grain for 5 ms is sealed with zero fill and parity (R135). -/
  | rowSealTimer (pt : Fin 68) (domain : Fin 8)
  /-- Every page of a row reports program success, its grains leave PENDING and the directory delta is logged (R172). -/
  | rowProgramSuccess (segment : Nat) (row : Nat)
  /-- A page of a row fails to program, the row is abandoned, its grains are repacked and the segment is sealed (R173). -/
  | rowProgramFail (segment : Nat) (row : Nat) (member : Nat)
  /-- Each second the compressibility histograms advance and each namespace's anomaly score is computed, taking a guard snapshot at the threshold (R141). -/
  | anomalyScoreTick
  /-- An MT takes a returned codeword through hard decode, read-retry and soft decode, or declares it unreadable (R239). -/
  | codewordReadEscalation (a : MediaAddr) (hard : List CwAttempt) (soft : Bool)
  /-- A PT checks a grain's header, deciphers, decompresses and verifies its fingerprint before sending any byte (R148). -/
  | grainVerify (cntlid : Nat) (qid : Nat) (cid : Nat) (fwd : Option Nat) (no : Nat) (out : VerifyOutcome)
  /-- A grain is rebuilt from k other members of its row, testing erasure hypotheses until one verifies or the grain is lost (R151). -/
  | grainReconstruction (pt : Fin 66) (grain : Nat) (out : ReconOutcome)
  /-- A journal grain that fails its CRC is fetched from the partner's mirror ring with FETCH and checked on FETCH_RSP (R145). -/
  | journalFetch (cntlid : Nat) (qid : Nat) (cid : Nat) (fwd : Option Nat) (no : Nat) (ok : Bool) (ss : List Sector)
  /-- A recovered grain is repacked with FLAGS[2] set and its directory entry takes the new address (R153). -/
  | repairInPlace (grain : Nat) (read : GrainRead)
  /-- Every 10 ms a module unreached for 2 s, or with more than a quarter of its dies failed, is marked FAILED (R233). -/
  | moduleReachCheck
  /-- A DIE_FAULT response is followed by DIE_RESET, and a third fault in 10 s marks the die failed (R233). -/
  | dieFault (module : Fin 256) (die : Fin 128)
  /-- The Bardar opens a segment, choosing W modules by least co-membership under the failure-domain rule (R171). -/
  | segmentOpen (domain : Fin 8) (use_ : Fin 4)
  /-- A degraded segment is rebuilt by substitution, relocation or folding in its class and priority order (R178). -/
  | rebuildSegment (reads : List (Nat × GrainRead))
  /-- A substitution's metadata transaction becomes durable, moving the member and its grains to the new block (R179). -/
  | rebuildTransactionDurable (segment : Nat)
  /-- A change of a domain's free space resumes a rebuild stalled on space and ends a read-only state when no condition remains (R185). -/
  | freeSpaceChange
  /-- Folding moves the live grains of the oldest sealed one-bit segment into a native segment while the one-bit pool is above its mark (R192). -/
  | fold (domain : Fin 8) (reads : List (Nat × GrainRead))
  /-- Garbage collection chooses the segment of highest score, or lowest use when urgent, and relocates it (R195). -/
  | garbageCollection (domain : Fin 8) (reads : List (Nat × GrainRead))
  /-- When the source segment's state 3 is durable and its read pins are released, its blocks are erased (R196). -/
  | relocationErase (segment : Nat)
  /-- An erase completes and the block becomes free, or it fails and the block is retired (R196). -/
  | blockEraseComplete (a : MediaAddr) (ok : Bool)
  /-- A segment on a block far below the module's mean erase count is relocated (R198). -/
  | staticWearLevelling (module : Fin 256) (reads : List (Nat × GrainRead))
  /-- A segment whose block reached its read or soft-decode mark is refreshed by relocation (R199). -/
  | readDisturbRefresh (reads : List (Nat × GrainRead))
  /-- Every 10 s Keeper B samples each module's NAND temperature and advances its equivalent hours (R202). -/
  | nandTemperatureSample (module : Fin 256) (temp : Option Nat)
  /-- Each hour of H every segment whose age reached RET_PCT is queued for refresh or folding (R203). -/
  | retentionCheck
  /-- When no wall-clock is known within WALL_WAIT_S of start, the power-off time is charged as OFF_UNKNOWN_H and RET_GUESS is set (R201). -/
  | wallWaitExpiry
  /-- Every 30 s or 4 GiB of log, a checkpoint writes dirty pages and a two-copy checkpoint record (R207). -/
  | checkpoint
  /-- Both copies of a checkpoint record become durable and it becomes the one restart uses (R207). -/
  | checkpointDurable
  /-- No checkpoint has become durable for 60 s, and the checkpoint source fires (R207). -/
  | checkpointOverdue
  /-- At start each head restores vault, checkpoint, log, open segments and journal before admitting host I/O (R208). -/
  | metadataRestart (f : RestartFacts)
  /-- A media lane fails receiver detect or trips its driver monitor, and the port trains x1 on its other lane (R217). -/
  | mediaLaneFault (port : Fin 256) (lane : Fin 2) (short : Bool)
  /-- Every 10 s a faulty media lane is tested again and the port returns to x2 at its next retrain (R217). -/
  | mediaLaneRetest (port : Fin 256) (good : List (Fin 2))
  /-- A media port trains at 32 GT/s or 16 GT/s, correcting polarity and lane swap (R215). -/
  | mediaPortTraining (port : Fin 256) (inv0 : Bool) (inv1 : Bool) (swapped : Bool) (eqOk : Bool)
  /-- A media port idle for LPI_IDLE_US enters low-power idle (R218). -/
  | lowPowerIdleTimer (port : Fin 256)
  /-- An SML frame arrives, and one failing CRC or out of sequence is dropped and answered with a NAK (R220). -/
  | smlFrameReceive (port : Fin 256) (crcOk : Bool) (control : Bool) (lseq : Fin 65536) (ackseq : Fin 65536) (cmdCredit : Fin 65536) (dataCredit : Fin 65536)
  /-- An SML NAK makes the sender replay from the frame after its ACKSEQ (R220). -/
  | smlNak (port : Fin 256) (ackseq : Fin 65536)
  /-- REPLAY_US passes without progress and the sender replays, retraining after 8 replays (R220). -/
  | smlReplayTimer (port : Fin 256)
  /-- A link-control credit advertisement sets the receive capacity of the other side (R221). -/
  | smlCreditAdvertisement (port : Fin 256) (cmd : Fin 65536) (data : Fin 65536)
  /-- After 100 µs with nothing to send outside low-power idle, a keep-alive is sent (R221). -/
  | smlKeepAliveTimer (port : Fin 256)
  /-- A module response ends its command by tag, with OK, FENCED, program or erase failure, CAS mismatch or die fault (R222). -/
  | smlResponse (via : SmlVia) (r : SmlRsp) (facts : TakeoverFacts)
  /-- A media port comes up, and IDENTIFY and OPEN match its WWID against the admitted modules (R230). -/
  | mediaPortUp (port : Fin 256) (desc : Descriptor) (modPort : Fin 2) (gen : Nat) (otherGen : Nat) (fenced : Bool) (otherFenced : Bool)
  /-- Commands for a module this head cannot reach are forwarded to the partner as MEDIA SML_CMD messages (R233). -/
  | mediaForward (port : Fin 256)
  /-- A forwarded MEDIA SML_CMD is issued by this head on the partner's behalf and answered with SML_RSP and SML_DATA (R233). -/
  | smlCmd (tag : Nat) (module : Fin 256) (b : SmlCmdBody)
  /-- 20 µs after its first delta, a metadata log page is programmed (R252). -/
  | logPageTimer
  /-- Both copies of a log page have programmed, and its closed transactions count (R251). -/
  | logPageDurable (lpseq : Nat)
  /-- A META LOG_PAGE message is applied to the shadow of the sender's metadata store (R275). -/
  | logPage (txns : List Txn)
  /-- A remote delta arrives, is logged by the keeper of the entry and answered with REMOTE_ACK (R244). -/
  | remoteDelta (txn : Nat) (index : Nat) (d : Delta)
  /-- A REMOTE_ACK lets the journal record that caused the remote delta retire (R244). -/
  | remoteAck (txn : Nat) (index : Nat)
  /-- A PAGE_PULL asks the partner for a page of its store, answered with PAGE_RSP (R275). -/
  | pagePull (gen : Nat)
  /-- A COUNTERS message carries the partner's host counters once per second (R276). -/
  | counters (t : Nat × Nat × Nat × Nat)
  /-- The background release walk lowers SHARE of children or grain counts of released pages, marking progress with RELEASE_MARK (R260). -/
  | releaseWalk
  /-- The namespace's map updates reach CUT and the snapshot takes the root and becomes READY (R265). -/
  | snapshotReady (id : Nat) (fps : List (Nat × BitVec 256))
  /-- A metadata page read compares both copies, using the valid or higher copy or fencing the page with METADATA_CONFLICT (R254). -/
  | metadataPageRead (gen : Nat) (page : MetaPage) (out : PageOutcome)
  /-- When the wall-clock becomes known, unconverted retention locks of the entries this head keeps are converted to expiries (R268). -/
  | wallClockKnown
  /-- A TRAIN_ID frame identifies the partner on a group, bringing it up, marking it SWAPPED or holding it down (R271). -/
  | trainId (group : Fin 2) (head : Fin 2) (letter : Fin 2) (identity : BitVec 64) (split : Bool)
  /-- An Uberuf frame arrives and is replayed on CRC error or NAK, retraining the group after 8 replays (R272). -/
  | uberufFrameReceive (group : Fin 2) (crcOk : Bool) (cls : Fin 256) (lseq : Fin 4294967296) (ackseq : Fin 4294967296) (nak : Bool) (credits : List (Nat × Nat))
  /-- REPLAY_US passes without progress on an Uberuf group and the sender replays (R272). -/
  | uberufReplayTimer (group : Fin 2)
  /-- Every 100 µs a BEACON is sent on each group (R277). -/
  | beaconSendTimer
  /-- A BEACON arrives, marks its group heard, updates the pair offset and drives the Beacon state machine (R278). -/
  | beacon (group : Fin 2) (m : BeaconMsg)
  /-- An edge on PHB_IN marks the pins heard (R277). -/
  | phbInEdge
  /-- A group or the pins stay silent for the loss time, moving the Beacon state to DEGRADED, SEVERED, RACING or ALONE (R280). -/
  | heartbeatLoss (which : Fin 3)
  /-- The PHB_OUT pad reads a level other than the one driven for 10 µs, marking PIN_SHORT and stopping the drive (R279). -/
  | phbOutReadbackFault
  /-- START_WAIT expires in ALONE with the partner unheard, and the head races unless its lease set is empty (R280). -/
  | startWaitExpiry
  /-- SEVER_MAX expires in SEVERED, head 1 fences itself and head 0 waits for the pins to fall silent (R280). -/
  | severMaxExpiry
  /-- RACE_DELAY_US after head 1 enters RACING, it issues its first takes (R283). -/
  | raceDelayExpiry
  /-- 100 ms pass in the lease race without a majority and the head loses (R283). -/
  | leaseRaceTimer
  /-- An OWN PREPARE makes the partner stage the same ownership change and acknowledge by T − 2 µs (R289). -/
  | prepare (pairT : Nat) (changes : List (Nat × Nat))
  /-- An OWN ACK tells the issuing head the partner is prepared for the paired commit (R289). -/
  | ownAck (pairT : Nat)
  /-- An OWN GO confirms the paired commit, which both heads apply at T (R289). -/
  | ownGo (pairT : Nat)
  /-- An OWN ABORT cancels a prepared paired commit (R289). -/
  | ownAbort (pairT : Nat)
  /-- A DRAINED message lets the new owner admit commands for the group after loading its metadata (R290). -/
  | drained (group : Nat) (jseq : Nat)
  /-- An RSV_UPDATE copies reservation state to the partner, which answers with RSV_ACK (R276). -/
  | rsvUpdate (msg : Nat) (nsid : Nat) (r : Rsv)
  /-- An RSV_ACK lets the owner complete the reservation command (R276). -/
  | rsvAck (msg : Nat)
  /-- An ADMIT CKPT_PAGE streams a dirty page of the joiner's store during admission (R292). -/
  | ckptPage (shadow : Bool) (x : StorePart)
  /-- An ADMIT RING_COPY copies unretired records into the other head's mirror ring (R292). -/
  | ringCopy (r : JRecord)
  /-- An ADMIT DONE ends a resynchronisation phase (R292). -/
  | admitDone (m : AdmitMsg)
  /-- Two heads in ALONE or JOINING that hear each other with a shared lease join without a command and enter PAIRED (R528). -/
  | coldJoin (ifaceEqual : Bool) (fwEqual : Bool)
  /-- At start a head reads slot 0 on its lease set and restarts, waits or enters LIGHTSHIP as the majority shows, retrying every 1 s (R529). -/
  | startLeaseRead (reads : List (Nat × LeaseBlock))
  /-- PFAIL_N low for 2 µs starts the power-fail sequence and the vault dump (R308). -/
  | pfailNAsserted
  /-- The dump's commit pages programme, DUMP_DONE is written and the Bardar shuts down (R310). -/
  | vaultDumpCommit (cut : Option Nat)
  /-- PFAIL_N high for 10 ms, PORST_N release or the return of VDD_AON ends shutdown with a cold start that restores the vault (R310). -/
  | shutdownExit (e : ShutdownEnd)
  /-- Every 1 ms the store voltage is sampled, E is computed, charge is controlled and arming is re-judged (R295). -/
  | storeSenseSample (v : Int)
  /-- Keeper B probes the energy store for reversal, short or open before charging (R297). -/
  | storeProbe (v : Int) (rise : Int)
  /-- Every 60 s in FAULT the store probe is repeated (R297). -/
  | storeProbeRepeat (v : Int) (rise : Int)
  /-- Every TEST_INTERVAL_H hours a capacitance test starts when E is at least 1.05 × ARM_J (R303). -/
  | capacitanceTestDue
  /-- A capacitance test ends at its drop, its 2 s or ARM_J, and the measured C re-judges arming (R302). -/
  | capacitanceTestEnd (v : Int) (t : Nat)
  /-- A vault member that fails, wears out, falls to x1 or is retired is replaced within 1 s (R304). -/
  | vaultMemberReplace
  /-- Dump areas are erased once restart step 6 is done and checkpoints cover every restored record (R313). -/
  | dumpAreaErase
  /-- After a commit that changes HUP_STORE_CFG or HUP_SENSE_CFG, Keeper A writes the hold-up settings block by two-copy commit (R299). -/
  | holdupSettingsWrite
  /-- A stream's interval falls due and the source takes snapshot S_n and begins the difference walk (R321). -/
  | replicationInterval (stream : Nat)
  /-- A HELLO frame opens an Uberuf Remote connection with the sender's PAIR_ID and random value (R319). -/
  | hello (conn : Nat) (h : RrHead) (id : BitVec 128) (rand : BitVec 256) (mine : BitVec 256)
  /-- A HELLO_ACK answers with PAIR_ID, random value and HMAC, which the connecting side checks (R319). -/
  | helloAck (h : RrHead) (id : BitVec 128) (rand : BitVec 256) (mac : BitVec 384)
  /-- A PROOF frame completes mutual proof, and a failing proof closes the connection (R319). -/
  | proof (h : RrHead) (mac : BitVec 384)
  /-- A REKEY frame moves the direction to the next key generation (R320). -/
  | rekey (h : RrHead) (gen : Nat)
  /-- After 2^31 frames or 24 h in one direction, the side sends REKEY (R320). -/
  | rekeyLimit (conn : Nat)
  /-- A KEEPALIVE frame keeps an idle connection open (R320). -/
  | keepalive (h : RrHead)
  /-- After 1 s idle a KEEPALIVE is sent (R320). -/
  | keepaliveIdleTimer (conn : Nat)
  /-- After 5 s of silence an Uberuf Remote connection is closed (R320). -/
  | connectionSilenceTimer (conn : Nat)
  /-- A STREAM_OPEN opens or resumes a stream, answered with the target's cursor (R328). -/
  | streamOpen (h : RrHead) (m : Sum (Nat × Nat) Nat) (fps : List (Nat × BitVec 256))
  /-- An FP_BATCH is looked up in the target scope and answered with FP_WANT (R322). -/
  | fpBatch (h : RrHead) (last : Bool) (entries : List (Nat × BitVec 256)) (resident : Bool) (held : List (Nat × List Sector))
  /-- An FP_WANT makes the source verify and send DATA for every wanted grain (R322). -/
  | fpWant (h : RrHead) (fseq : Nat) (keys : List Nat) (reads : List (Nat × List Sector))
  /-- A DATA frame's grains are checked against their fingerprints and ingested through the target's journal (R323). -/
  | data (h : RrHead) (entries : List (Nat × List Sector))
  /-- A MAP_RUN sets runs of grain indices to unmapped or zero at the target (R321). -/
  | mapRun (h : RrHead) (last : Bool) (runs : List (Nat × Nat × Nat))
  /-- A CURSOR tells the source the grain index below which every entry is durable at the target (R324). -/
  | cursor (h : RrHead) (key : Nat) (fps : List (Nat × BitVec 256))
  /-- A DIFF_END makes the target take a replica snapshot once the cycle is durable and answer with its ID (R324). -/
  | diffEnd (h : RrHead) (m : Sum Nat Nat)
  /-- A SYNC_REC is journaled at the target in source JSEQ order and answered with SYNC_ACK (R325). -/
  | syncRec (h : RrHead) (jseq : Nat) (r : JRecord)
  /-- A SYNC_ACK lets the source post a sync write's completion, or fractures the stream on a status other than OK (R325). -/
  | syncAck (h : RrHead) (jseq : Nat) (code : Nat)
  /-- A CLOSE frame ends a stream or connection with a status code (R318). -/
  | close (h : RrHead) (code : Nat)
  /-- SYNC_ACK missing for SYNC_HOLD_MS fractures the sync stream and starts marking the change map (R326). -/
  | syncHoldExpiry (stream : Nat)
  /-- Every 1 s after link loss the source retries each partner address in turn (R328). -/
  | reconnectRetry (partner : Fin 256) (conn : Nat) (rand : BitVec 256)
  /-- Descriptor OPEN allocates a context, pins the key generation and starts a cipher or digest message (R340). -/
  | cryOpen (ch : Fin 15) (d : CryDesc)
  /-- Descriptor UPDATE carries more data of an open message (R332). -/
  | cryUpdate (ch : Fin 15) (d : CryDesc)
  /-- Descriptor FINAL carries the last data and finishes the message, checking its length (R344). -/
  | cryFinal (ch : Fin 15) (d : CryDesc)
  /-- Descriptor SINGLE runs a whole message in one descriptor (R332). -/
  | crySingle (ch : Fin 15) (d : CryDesc)
  /-- Descriptor CLOSE abandons a message and frees its context (R344). -/
  | cryClose (ch : Fin 15) (d : CryDesc)
  /-- Descriptor SAVE writes a raw-class digest context image out and leaves it open (R347). -/
  | crySave (ch : Fin 15) (d : CryDesc)
  /-- Descriptor ECDSA_VERIFY checks a P-384 signature over a digest (R360). -/
  | ecdsaVerify (ch : Fin 15) (d : CryDesc)
  /-- Descriptor ECDSA_SIGN signs a digest with a SIGN slot through the hold buffer (R360). -/
  | ecdsaSign (ch : Fin 15) (d : CryDesc)
  /-- Clearing CRY_CH_CTRL.EN stops fetching further descriptors while fetched ones run to their end (R364). -/
  | cryChannelDisable (ch : Fin 15)
  /-- A context that receives no descriptor for IDLE_S is freed and its key pin released (R342). -/
  | cryContextIdleExpiry (ctx : Fin 3072)
  /-- At ERASE_TIMEOUT_MS the messages still pinning an erasing slot are cut off and the slot is zeroised (R355). -/
  | keyEraseTimeout (slot : Fin 4160)
  /-- A read of DIG_RESULT before DONE returns zeros and sets CODE to RESULT_NOT_READY (R349). -/
  | digResultRead (ctx : Fin 1024) (w : Fin 8)
  /-- A write of 1 to DIG_CTX_CTRL.RELEASE frees a DONE digest context (R348). -/
  | digCtxRelease (ctx : Fin 1024)
  /-- Descriptor COMPRESS writes one Zstandard frame or Deflate stream within OUT_LIMIT (R369). -/
  | compress (ch : Fin 14) (d : CmpDesc) (st : JobStep)
  /-- Descriptor DECOMPRESS expands one frame or stream within OUT_LIMIT, failing on malformed input (R371). -/
  | decompress (ch : Fin 14) (d : CmpDesc) (st : JobStep)
  /-- A compression job that finds no PT for 100 ms completes with NO_RESOURCE (R366). -/
  | compressionJobNoPt (ch : Fin 14)
  /-- Descriptor SCAN_BUFFER scans source fragments for patterns and writes counts and tags (R377). -/
  | scanBuffer (ch : Fin 12) (d : ScanDesc) (done : Bool)
  /-- Descriptor SCAN_SNAPSHOT scans a snapshot's grains through the read path for patterns (R377). -/
  | scanSnapshot (ch : Fin 12) (d : ScanDesc) (done : Option (List (Nat × List Byte)))
  /-- PAT_LOAD_CTRL.GO copies a pattern image into the shadow bank and checks it (R373). -/
  | patternLoad (len : Fin 16777216) (done : Option PatImage)
  /-- A DRAM burst read is decoded, corrected with write-back and counted, or delivered as POISONED (R385). -/
  | dramReadDecode (addr : Nat) (by_ : DramReader) (rewritten : Bool) (o : BurstRead)
  /-- A corrected burst is written back under its address lock unless a newer write cancels it (R386). -/
  | correctionWriteBack (addr : Nat) (cancelled : Bool)
  /-- Every INTERVAL_MS a bucket's count falls by 1 (R394). -/
  | leakyBucketLeak (b : Fin 24)
  /-- Keeper B issues a 1 GiB background scrub pass to cover DRAM every BG_PERIOD_H (R397). -/
  | backgroundScrubPass (found : List (Nat × BurstRead))
  /-- Each SECDED array's patrol reads, corrects and rewrites its words at least hourly (R390). -/
  | sramPatrol (cls : Fin 8) (word : Nat) (f : SramFind)
  /-- At start Keeper A zero-fills all DRAM, priority regions first, and sets MEM_FILL_STATUS.DONE (R392). -/
  | dramZeroFill (step : Nat)
  /-- Clearing MCC_CTRL.ENABLE moves a slice to DRAINING and writes back its dirty lines (R401). -/
  | mccDisable (k : Fin 64)
  /-- Setting MCC_CTRL.ENABLE in BYPASS returns the slice to ENABLED with every line invalid (R401). -/
  | mccEnable (k : Fin 64)
  /-- A draining slice has written back every dirty line and reads BYPASS (R401). -/
  | mccDrainComplete (k : Fin 64)
  /-- A slice's outstanding miss returns its line, and the next waiting miss proceeds (R400). -/
  | mapCacheMissFill (k : Fin 64) (evs : List CacheEvent)
  /-- A Keeper pair's cores disagree or its SRAM errs uncorrectably, and the pair restarts while the other carries its duties (R410). -/
  | keeperLockstepMismatch (pair : Fin 2) (logLost : Bool)
  /-- A pair's heartbeat lapses for TIMEOUT_MS and it is restarted (R411). -/
  | keeperWatchdogLapse (a : Bool) (b : Bool)
  /-- A restarting pair completes its self-test and resumes, or is fenced after failing or restarting too often (R412). -/
  | keeperRestartComplete (pair : Fin 2) (selfTest : Bool)
  /-- A sensor is sampled at its period into KPR_SENSOR, driving thermal steps and the Keeper's Log (R417). -/
  | sensorSample (idx : Fin 410) (v : Int)
  /-- Every operating hour Keeper B saves KPR_HOURS, power cycles and TRIAL_H by two-copy commit (R419). -/
  | operatingHourRecord
  /-- The Keeper's Log period ends and is flushed as one record (R420). -/
  | logPeriodEnd
  /-- A Fog raise or fenced Keeper pair flushes the current period at most once per operating hour (R421). -/
  | logFaultFlush
  /-- A queued boot flash write completes, or fails and sets its FLASH_x_FAULT flag (R416). -/
  | bootFlashWrite (ok : Bool)
  /-- Every TELEMETRY_S seconds the current snapshot and new records are posted to the collector (R426). -/
  | telemetryPush (anchor : Bool) (sigs : Bool) (dates : Bool) (code : Fin 65536)
  /-- KPR_MBOX_CTRL.GO submits the management settings block for checking and commit (R427). -/
  | managementSettingsSubmit
  /-- An MCTP message arrives on I3C or PCIe VDM and is handled as control, PLDM, SPDM or a W2 command (R428). -/
  | mctpMessage (vdm : Bool) (src : Fin 256) (msg : MctpMsg)
  /-- An SPDM request is answered by Keeper A, signed with the alias key (R448). -/
  | spdmRequest (vdm : Bool) (q : SpdmReq)
  /-- A PLDM Type 5 component delivers update pieces by offset (R458). -/
  | pldmFirmwareComponent (offset : Nat) (p : PieceIn)
  /-- An event sets a source's pending bit, writing an event record first for sources marked E (R431). -/
  | sourceEvent (source : Fin 4096) (code : Nat) (detail : Nat)
  /-- A write of 1 to SIG_PEND_SET sets a source's pending bit as an event does (R433). -/
  | sigPendSet (word : Fin 64) (w : Word)
  /-- A write of 1 to SIG_PEND_CLR clears a pending bit without delivery (R433). -/
  | sigPendClr (word : Fin 64) (w : Word)
  /-- A read of SIG_VEC_CLAIM returns and clears the lowest pending source of a vector (R437). -/
  | sigVecClaim (v : Fin 2048)
  /-- A Keeper or cluster core claims the most urgent pending source routed to it (R435). -/
  | sourceClaim (who : Claimer)
  /-- TIME_US after the first counted event, the vector's MSI-X write is sent (R438). -/
  | coalescerTimeTrigger (v : Fin 2048)
  /-- Unmasking a vector or enabling MSI-X delivers its pending write (R437). -/
  | msiXUnmask (u : Unmask)
  /-- Writing SIG_HOST_SLEEP flushes every coalescer and suspends coalescing until it is written 0 (R439). -/
  | sigHostSleep (sleep : Bool)
  /-- An upstream L1 entry request flushes every coalescer before acknowledgement (R439). -/
  | l1EntryRequest
  /-- Setting SIG_EVQ_CTRL.EN from 0 to 1 resets EVQ_TAIL and the write phase (R436). -/
  | eventQueueEnable (size : Fin 32)
  /-- At PORST_N release the boot ROM chooses a slot, verifies the Keeper image, derives Daymark keys and runs the cold boot (R449). -/
  | coldBoot (f : BootFacts)
  /-- A signed token shifted into the TAP's unlock register unlocks JTAG and opens W3 (R452). -/
  | jtagUnlockToken (t : JtagToken)
  /-- The validity of a JTAG unlock ends and JTAG locks (R452). -/
  | jtagUnlockExpiry
  /-- After activation Keeper A restarts both pairs and reloads microcode and Lenses unit by unit (R465). -/
  | inServiceReload
  /-- TRIAL_H reaches HEALTHY_H and the trial set or Lens set record is confirmed (R468). -/
  | trialAutoConfirm
  /-- Before pair A starts on a trial set ATTEMPTS rises, and at 3 the previous set is restored (R466). -/
  | trialStartAttempt
  /-- SDA or SCL of a segment held low for 35 ms is recovered with nine clocks or isolated (R474). -/
  | busStuckTimeout (seg : Fin 6) (free : Bool)
  /-- Every 10 s an isolated segment is tried again (R474). -/
  | busRetryTimer (seg : Fin 6) (free : Bool)
  /-- PFAIL_N low at PORST_N release for 2 s with the store steady marks PFAIL_STUCK (R475). -/
  | pfailStuckDetect
  /-- A reference with no edge for 10 µs is lost and islands hold their oscillator settings (R476). -/
  | refclkLoss
  /-- After 1 s of reference loss REFCLK_LOST is set and Fog Signal raised (R476). -/
  | refclkLostAlarm
  /-- When the reference returns, islands relock one at a time and realign (R476). -/
  | refclkReturn
  /-- An island with queued work completing nothing for HANG_US is fenced (R478). -/
  | islandHang (u : Nat)
  /-- A unit's third uncorrectable SRAM or crossing error within one operating hour fences it (R478). -/
  | unitErrorFence (u : Nat) (f : UnitFailure)
  /-- Ten seconds after a fence the island is reset and self-tested, returning, becoming REPAIRED or fenced permanently (R480). -/
  | fenceRetest (u : Nat) (pass : Bool)
  /-- A DDR channel that goes uncorrectable, fails retraining or is fenced makes the head exit (R482). -/
  | ddrChannelFail (ch : Fin 16) (lost : List Nat)
  /-- The FOG_N pad read back low while undriven sets EXT_LOW, or high while driven sets PIN_FAULT (R485). -/
  | fogNReadback (high : Bool)
  /-- A domain's park timer expires with its islands idle and they park (R493). -/
  | parkTimer (d : Fin 48)
  /-- A domain's deep-park timer expires with its islands parked and its supply is turned off (R493). -/
  | deepParkTimer (d : Fin 48)
  /-- A request at a crossing, or a power state needing the unit, wakes a parked or deep-parked island (R493). -/
  | parkedIslandWake (idx : Fin 272)
  /-- A waking domain's supply ramp, relock and restore complete and it returns to RUN (R495). -/
  | supplyRampComplete (d : Fin 48)
  /-- Every 100 µs the VDD_CORE target is set from the margin monitors and sent by PMBus (R496). -/
  | avsTick (wanted : Nat) (short : List Nat)
  /-- A margin monitor detects a droop and the island stretches its next clock cycle (R497). -/
  | supplyDroop (idx : Fin 272)
  /-- The junction crosses a threshold, or stays 2 °C below one for 1 s, and PT clocks step (R499). -/
  | thermalStep
  /-- Any sensor at 115 °C for 100 µs starts the dump and latches Fog cause 21 (R500). -/
  | thermalTrip (sensor : Fin 64)
  /-- With AUTO_START set, sensor 361 below 95 °C for 60 s cold-starts the chip (R501). -/
  | thermalAutoStart
  /-- A write of TMB_WALL_OFFSET with PTP off moves the wall-clock and sets WALL_KNOWN (R502). -/
  | tmbWallOffsetWrite (v : BitVec 64)
  /-- PORST_N asserted resets the chip and stops any vault dump at once (R514). -/
  | porstNAssert (pages : Nat)
  /-- PORST_N released samples HEAD_SEL and starts the cold boot (R509). -/
  | porstNRelease (headSel : Bool) (pfailHigh : Bool) (v : Int)
  /-- PERST_N resets island UP00 and the upstream configuration space, and the link trains after it rises (R515). -/
  | perstN (high : Bool) (reached : Nat)
  /-- A supply below its minimum holds the chip in reset or is treated as PFAIL_N (R516). -/
  | supplyBrownOut (x : Supply) (pages : Nat)
  /-- Loss of VDD_AON resets the always-on domain (R516). -/
  | vddAonLoss (pages : Nat)
  /-- A peer lane that fails receiver detect or trips its driver monitor makes its Uberuf group train x4 and sets LANE_FAULT (R270). -/
  | peerLaneFault (lane : Fin 16)
  /-- A periodic alignment pulse realigns an island's timebase copy to TMB00, clearing its time fault so that it again acknowledges prepares (R16). -/
  | timebaseAlignmentPulse (island : Fin 272)
  /-- A host port loses its Ethernet link without a lane fault, clearing HFE_PORT_STATUS.UP and firing its source (R108). -/
  | hostPortLinkDown (port : Fin 32)
  /-- The upstream PCIe data link layer goes down while the datapath and failover continue and W2 keeps serving (R473). -/
  | upstreamLinkDown
  /-- A management port's link goes down or comes back, and fetch and telemetry move to the other port (R473). -/
  | managementLinkChange (port : Fin 2) (up : Bool)
  /-- An Uberuf Remote connection fails at the transport, and its streams enter DISCONNECTED with their pins and change maps kept (R328). -/
  | replicationConnectionLoss (conn : Nat)
  /-- PFAIL_N held high for 10 ms after being marked stuck ends the stuck mode, so the pin again governs power-fail recognition (R475). -/
  | pfailNHigh
  /-- At most once an hour a lane's transmitter equalisation is re-tuned, in-band or at the next retrain, and undone when the error rate rises (R488). -/
  | transmitterEqualisationRetune (lane : Nat) (worse : Bool)
deriving DecidableEq, Repr

end Sys2Proof
end

