-- ==== Sys2Proof/Machine/State.lean ====
section
/-!
DEFINITION. The state of the part: every piece of state the spec gives it, as plain data, with the queue of waiting commands.
Each field's docstring ends with: width | file and rule | value at reset.
-/
namespace Sys2Proof.Machine

/-- The whole state of one Bardar. -/
structure State where
  /-- Commands waiting, first in, first out: the model's own queue, not the spec's. | list | DESIGN CHOICE log 1 | empty -/
  pending : List Instr
  /-- Timebase of TMB00 in ns: TMB_NOW shows it. | 64 bits | 01 R16, 21 TMB_NOW | 0 -/
  now     : Nat
  /-- BAR0 registers that differ from their reset value, by offset, offsets rising. | 64 bits each | 03 R53, R72 and every register table | none: every register at its table's reset value -/
  regs    : List (Nat × Word)
  /-- Scratch ways as bytes by BAR2 offset, offsets rising; an unlisted byte reads as 0 (DESIGN CHOICE, log 2). | 48 MiB | 03 R73, 16 R403 | none listed -/
  scratch : List Host.Cell
  /-- The Lens, islands and stage sets (chapters 1 and 2). -/
  lens    : LensState
  /-- The control interface (chapter 3). -/
  ctl     : CtlState
  /-- The host front end (chapter 4). -/
  host    : HostState
  /-- The write path (chapter 5). -/
  wr      : WriteState
  /-- The read path (chapter 6). -/
  rd      : ReadState
  /-- Placement, rebuild and flash management (chapters 7 and 8). -/
  media   : MediaState
  /-- The media links (chapter 9). -/
  sml     : SmlState
  /-- Metadata (chapter 10). -/
  md      : MetaState
  /-- The head pair (chapter 11). -/
  peer    : PeerState
  /-- Hold-up and vault (chapter 12). -/
  hup     : HupState
  /-- Replication (chapter 13). -/
  repl    : ReplState
  /-- Engines and memory (chapters 14 to 16). -/
  eng     : EngState
  /-- The Keeper (chapter 17). -/
  kpr     : KeeperState
  /-- The Signal controller (chapter 18). -/
  sig     : SigState
  /-- Boot and update (chapter 19). -/
  boot    : BootState
  /-- Repair, power, pins (chapters 20 to 22). -/
  env     : EnvState
  /-- Messages to the partner that wait for a group or a credit, as (class, message), oldest first. | list | 11 R273 | none -/
  ubQueue : List (Nat × Output)
  /-- Everything sent so far, newest first: the model's own record. | list | DESIGN CHOICE log 4 | none -/
  outputs : List Output
  /-- Free values drawn so far: the model's own counter, an argument of `Config.freeWord`. | count | DESIGN CHOICE log 5 | 0 -/
  free    : Nat
deriving DecidableEq, Repr

/-- Why a command stops the machine. -/
inductive Fault where
  /-- The command is no command of the part: its operands break `Instr.wf` (raised by REGISTER_WRITE and STAGED_REGISTER_WRITE for a GO whose task command takes data from outside its window, which is that command's own row). Safe. -/
  | illFormed
deriving DecidableEq, Repr

/-- Why a command has no meaning. -/
inductive Refusal where
  /-- The command's meaning is not written yet; raised by an arm of `exec` that names it. Safe. -/
  | notModelled (mnemonic : String)
deriving DecidableEq, Repr

/-- The part right after reset: registers at the reset values of their tables, nothing loaded, nothing queued. -/
def State.reset : State :=
  { pending := [], now := 0, regs := [], scratch := [], lens := .reset, ctl := .reset, host := .reset, wr := .reset,
    rd := .reset, media := .reset, sml := .reset, md := .reset, peer := .reset, hup := .reset, repl := .reset,
    eng := .reset, kpr := .reset, sig := .reset, boot := .reset, env := .reset, ubQueue := [], outputs := [], free := 0 }

end Sys2Proof.Machine
end

