-- ==== Sys2Proof/Machine/Regs.lean ====
section
/-!
DEFINITION. The BAR0 register map: every register table of the spec's chapters 2 to 22 as data, and the named fields
that the meanings read and write. Names are the manual's: REGISTER.FIELD (00, Conventions).
-/
namespace Sys2Proof.Machine

/-- Field access codes (00 Table 0.2). -/
inductive Access where
  | ro | rw | wo | w1c | w1s
deriving DecidableEq, Repr

/-- Reset domains (00 Table 0.3). -/
inductive Domain where
  | alwaysOn | chip | sector | island
deriving DecidableEq, Repr

/-- A named field of a register or of a register array with up to two indexes. -/
structure Fld where
  base    : Nat
  stride  : Nat
  stride2 : Nat
  hi      : Nat
  lo      : Nat
deriving DecidableEq, Repr

/-- A field as a register's table gives it; `min` to `max` are the values a write may give it. -/
structure RegField where
  hi  : Nat
  lo  : Nat
  acc : Access
  rst : Nat
  min : Nat
  max : Nat
deriving DecidableEq, Repr

/-- A register or register array as its header and table give it. -/
structure RegDef where
  base    : Nat
  stride  : Nat
  count   : Nat
  stride2 : Nat
  count2  : Nat
  dom     : Domain
  staged  : Bool
  fields  : List RegField
deriving DecidableEq, Repr

namespace Reg

/-- GLB_ERR_CAPTURE (chapter 3). -/
def GLB_ERR_CAPTURE : RegDef := ⟨0x000018, 0, 1, 0, 1, .chip, false,
  [⟨63, 63, .w1c, 0, 0, 1⟩,
   ⟨47, 32, .ro, 0, 0, 65535⟩,
   ⟨25, 0, .ro, 0, 0, 67108863⟩]⟩

/-- GLB_ERR_SUMMARY (chapter 3). -/
def GLB_ERR_SUMMARY : RegDef := ⟨0x000020, 0, 1, 0, 1, .chip, false,
  [⟨63, 56, .rw, 0, 0, 255⟩,
   ⟨17, 0, .ro, 0, 0, 262143⟩]⟩

/-- GLB_BAR2_ERR (chapter 3). -/
def GLB_BAR2_ERR : RegDef := ⟨0x000028, 0, 1, 0, 1, .chip, false,
  [⟨63, 63, .w1c, 0, 0, 1⟩,
   ⟨47, 32, .ro, 0, 0, 65535⟩,
   ⟨25, 0, .ro, 0, 0, 67108863⟩]⟩

/-- GLB_FOG_CAUSE (chapter 20). -/
def GLB_FOG_CAUSE : RegDef := ⟨0x000100, 0, 1, 0, 1, .alwaysOn, false,
  [⟨21, 0, .ro, 0, 0, 4194303⟩]⟩

/-- GLB_FOG_STATUS (chapter 20). -/
def GLB_FOG_STATUS : RegDef := ⟨0x000108, 0, 1, 0, 1, .alwaysOn, false,
  [⟨63, 48, .ro, 0, 0, 65535⟩,
   ⟨2, 2, .w1c, 0, 0, 1⟩,
   ⟨1, 1, .ro, 0, 0, 1⟩,
   ⟨0, 0, .ro, 0, 0, 1⟩]⟩

/-- GLB_BOARD_STATUS (chapter 20). -/
def GLB_BOARD_STATUS : RegDef := ⟨0x000110, 0, 1, 0, 1, .alwaysOn, false,
  [⟨39, 39, .ro, 0, 0, 1⟩,
   ⟨38, 38, .ro, 0, 0, 1⟩,
   ⟨37, 32, .ro, 0, 0, 63⟩,
   ⟨5, 0, .w1c, 0, 0, 63⟩]⟩

/-- GLB_GPIO (chapter 22). -/
def GLB_GPIO : RegDef := ⟨0x000118, 0, 1, 0, 1, .chip, false,
  [⟨47, 32, .ro, 0, 0, 65535⟩,
   ⟨31, 16, .rw, 0, 0, 65535⟩,
   ⟨15, 0, .rw, 0, 0, 65535⟩]⟩

/-- TSK_WIN_STATE (chapter 3). -/
def TSK_WIN_STATE : RegDef := ⟨0x010000, 0, 1, 0, 1, .chip, false,
  [⟨3, 3, .ro, 0, 0, 1⟩,
   ⟨2, 2, .ro, 0, 0, 1⟩,
   ⟨1, 1, .ro, 0, 0, 1⟩,
   ⟨0, 0, .ro, 0, 0, 1⟩]⟩

/-- TSK_ERR_CAPTURE (chapter 3). -/
def TSK_ERR_CAPTURE : RegDef := ⟨0x010018, 0, 1, 0, 1, .chip, false,
  [⟨63, 63, .w1c, 0, 0, 1⟩,
   ⟨47, 32, .ro, 0, 0, 65535⟩,
   ⟨25, 0, .ro, 0, 0, 67108863⟩]⟩

/-- TSK_OPCODE (chapter 3). -/
def TSK_OPCODE : RegDef := ⟨0x011000, 4096, 4, 0, 1, .chip, false,
  [⟨16, 16, .rw, 0, 0, 1⟩,
   ⟨15, 0, .rw, 0, 0, 65535⟩]⟩

/-- TSK_ARG (chapter 3). -/
def TSK_ARG : RegDef := ⟨0x011008, 4096, 4, 8, 31, .chip, false,
  [⟨63, 0, .rw, 0, 0, 2 ^ 64 - 1⟩]⟩

/-- TSK_GO (chapter 3). -/
def TSK_GO : RegDef := ⟨0x011100, 4096, 4, 0, 1, .chip, false,
  [⟨0, 0, .wo, 0, 0, 1⟩]⟩

/-- TSK_STATUS (chapter 3). -/
def TSK_STATUS : RegDef := ⟨0x011108, 4096, 4, 0, 1, .chip, false,
  [⟨63, 63, .ro, 0, 0, 1⟩,
   ⟨62, 62, .ro, 0, 0, 1⟩,
   ⟨47, 32, .ro, 0, 0, 65535⟩,
   ⟨31, 0, .ro, 0, 0, 4294967295⟩]⟩

/-- TSK_RES (chapter 3). -/
def TSK_RES : RegDef := ⟨0x011200, 4096, 4, 8, 30, .chip, false,
  [⟨63, 0, .ro, 0, 0, 2 ^ 64 - 1⟩]⟩

/-- TSK_BULK_ADDR (chapter 3). -/
def TSK_BULK_ADDR : RegDef := ⟨0x011300, 4096, 4, 0, 1, .chip, false,
  [⟨63, 6, .rw, 0, 0, 288230376151711743⟩]⟩

/-- TSK_BULK_CTRL (chapter 3). -/
def TSK_BULK_CTRL : RegDef := ⟨0x011308, 4096, 4, 0, 1, .chip, false,
  [⟨46, 34, .rw, 0, 0, 8191⟩,
   ⟨33, 33, .rw, 0, 0, 1⟩,
   ⟨32, 32, .rw, 0, 0, 1⟩,
   ⟨31, 0, .rw, 0, 0, 4294967295⟩]⟩

/-- TSK_NONCE (chapter 3). -/
def TSK_NONCE : RegDef := ⟨0x012400, 0, 1, 0, 1, .chip, false,
  [⟨63, 0, .ro, 0, 0, 2 ^ 64 - 1⟩]⟩

/-- TSK_TOKEN (chapter 3). -/
def TSK_TOKEN : RegDef := ⟨0x012800, 8, 32, 0, 1, .chip, false,
  [⟨63, 0, .rw, 0, 0, 2 ^ 64 - 1⟩]⟩

/-- LNS_STAGE_SELECT (chapter 2). -/
def LNS_STAGE_SELECT : RegDef := ⟨0x020000, 0, 1, 0, 1, .chip, false,
  [⟨7, 7, .rw, 0, 0, 1⟩,
   ⟨2, 0, .rw, 0, 0, 7⟩]⟩

/-- LNS_LIVE_GEN (chapter 2). -/
def LNS_LIVE_GEN : RegDef := ⟨0x020008, 0, 1, 0, 1, .chip, false,
  [⟨63, 0, .ro, 0, 0, 2 ^ 64 - 1⟩]⟩

/-- LNS_SECTOR_STATE (chapter 2). -/
def LNS_SECTOR_STATE : RegDef := ⟨0x020010, 0, 1, 0, 1, .chip, false,
  [⟨31, 0, .ro, 0, 0, 4294967295⟩]⟩

/-- LNS_ERR_CAPTURE (chapter 2). -/
def LNS_ERR_CAPTURE : RegDef := ⟨0x020018, 0, 1, 0, 1, .chip, false,
  [⟨63, 63, .w1c, 0, 0, 1⟩,
   ⟨47, 32, .ro, 0, 0, 65535⟩,
   ⟨25, 0, .ro, 0, 0, 67108863⟩]⟩

/-- LNS_SECTOR_LENS (chapter 2). -/
def LNS_SECTOR_LENS : RegDef := ⟨0x020040, 8, 15, 0, 1, .chip, false,
  [⟨63, 0, .ro, 0, 0, 2 ^ 64 - 1⟩]⟩

/-- LNS_SET_CTRL (chapter 2). -/
def LNS_SET_CTRL : RegDef := ⟨0x020100, 64, 8, 0, 1, .chip, false,
  [⟨63, 32, .rw, 20000, 0, 4294967295⟩,
   ⟨8, 8, .rw, 0, 0, 1⟩,
   ⟨7, 0, .wo, 0, 0, 255⟩]⟩

/-- LNS_SET_STATUS (chapter 2). -/
def LNS_SET_STATUS : RegDef := ⟨0x020108, 64, 8, 0, 1, .chip, false,
  [⟨63, 60, .ro, 0, 0, 15⟩,
   ⟨47, 32, .ro, 0, 0, 65535⟩,
   ⟨31, 0, .ro, 0, 0, 4294967295⟩]⟩

/-- LNS_SET_T (chapter 2). -/
def LNS_SET_T : RegDef := ⟨0x020110, 64, 8, 0, 1, .chip, false,
  [⟨63, 0, .ro, 0, 0, 2 ^ 64 - 1⟩]⟩

/-- LNS_SET_GEN (chapter 2). -/
def LNS_SET_GEN : RegDef := ⟨0x020118, 64, 8, 0, 1, .chip, false,
  [⟨63, 0, .ro, 0, 0, 2 ^ 64 - 1⟩]⟩

/-- LNS_REPAIR_CFG (chapter 20). -/
def LNS_REPAIR_CFG : RegDef := ⟨0x020400, 0, 1, 0, 1, .chip, true,
  [⟨16, 16, .rw, 1, 0, 1⟩,
   ⟨15, 0, .rw, 1000, 100, 65535⟩]⟩

/-- LNS_LAST_FENCE (chapter 20). -/
def LNS_LAST_FENCE : RegDef := ⟨0x020408, 0, 1, 0, 1, .chip, false,
  [⟨63, 60, .ro, 0, 0, 15⟩,
   ⟨47, 32, .ro, 0, 0, 65535⟩,
   ⟨20, 16, .ro, 0, 0, 31⟩,
   ⟨8, 0, .ro, 0, 0, 511⟩]⟩

/-- TMB_ERR_CAPTURE (chapter 3). -/
def TMB_ERR_CAPTURE : RegDef := ⟨0x030018, 0, 1, 0, 1, .chip, false,
  [⟨63, 63, .w1c, 0, 0, 1⟩,
   ⟨47, 32, .ro, 0, 0, 65535⟩,
   ⟨25, 0, .ro, 0, 0, 67108863⟩]⟩

/-- TMB_NOW (chapter 21). -/
def TMB_NOW : RegDef := ⟨0x030100, 0, 1, 0, 1, .alwaysOn, false,
  [⟨63, 0, .ro, 0, 0, 2 ^ 64 - 1⟩]⟩

/-- TMB_WALL_OFFSET (chapter 21). -/
def TMB_WALL_OFFSET : RegDef := ⟨0x030108, 0, 1, 0, 1, .alwaysOn, false,
  [⟨63, 0, .rw, 0, 0, 2 ^ 64 - 1⟩]⟩

/-- TMB_RATE (chapter 21). -/
def TMB_RATE : RegDef := ⟨0x030110, 0, 1, 0, 1, .alwaysOn, false,
  [⟨31, 0, .rw, 0, 0, 4294967295⟩]⟩

/-- TMB_STATUS (chapter 21). -/
def TMB_STATUS : RegDef := ⟨0x030118, 0, 1, 0, 1, .alwaysOn, false,
  [⟨63, 32, .ro, 0, 0, 4294967295⟩,
   ⟨1, 1, .ro, 0, 0, 1⟩,
   ⟨0, 0, .ro, 0, 0, 1⟩]⟩

/-- SIG_ERR_CAPTURE (chapter 3). -/
def SIG_ERR_CAPTURE : RegDef := ⟨0x040018, 0, 1, 0, 1, .chip, false,
  [⟨63, 63, .w1c, 0, 0, 1⟩,
   ⟨47, 32, .ro, 0, 0, 65535⟩,
   ⟨25, 0, .ro, 0, 0, 67108863⟩]⟩

/-- SIG_HOST_SLEEP (chapter 18). -/
def SIG_HOST_SLEEP : RegDef := ⟨0x040100, 0, 1, 0, 1, .chip, false,
  [⟨0, 0, .rw, 0, 0, 1⟩]⟩

/-- SIG_STATUS (chapter 18). -/
def SIG_STATUS : RegDef := ⟨0x040108, 0, 1, 0, 1, .chip, false,
  [⟨63, 63, .ro, 0, 0, 1⟩,
   ⟨62, 62, .ro, 0, 0, 1⟩,
   ⟨47, 32, .rw, 0, 0, 65535⟩,
   ⟨15, 0, .ro, 0, 0, 65535⟩]⟩

/-- SIG_EVQ_BASE (chapter 18). -/
def SIG_EVQ_BASE : RegDef := ⟨0x040110, 0, 1, 0, 1, .chip, false,
  [⟨63, 5, .rw, 0, 0, 576460752303423487⟩]⟩

/-- SIG_EVQ_CTRL (chapter 18). -/
def SIG_EVQ_CTRL : RegDef := ⟨0x040118, 0, 1, 0, 1, .chip, false,
  [⟨8, 8, .rw, 0, 0, 1⟩,
   ⟨4, 0, .rw, 8, 8, 16⟩]⟩

/-- SIG_EVQ_HEAD (chapter 18). -/
def SIG_EVQ_HEAD : RegDef := ⟨0x040120, 0, 1, 0, 1, .chip, false,
  [⟨15, 0, .rw, 0, 0, 65535⟩]⟩

/-- SIG_PEND_SET (chapter 18). -/
def SIG_PEND_SET : RegDef := ⟨0x041000, 8, 64, 0, 1, .chip, false,
  [⟨63, 0, .w1s, 0, 0, 2 ^ 64 - 1⟩]⟩

/-- SIG_PEND_CLR (chapter 18). -/
def SIG_PEND_CLR : RegDef := ⟨0x041200, 8, 64, 0, 1, .chip, false,
  [⟨63, 0, .w1c, 0, 0, 2 ^ 64 - 1⟩]⟩

/-- SIG_ROUTE (chapter 18). -/
def SIG_ROUTE : RegDef := ⟨0x044000, 8, 4096, 0, 1, .chip, true,
  [⟨31, 31, .rw, 0, 0, 1⟩,
   ⟨27, 24, .rw, 0, 0, 15⟩,
   ⟨17, 16, .rw, 0, 0, 3⟩,
   ⟨10, 0, .rw, 0, 0, 2047⟩]⟩

/-- SIG_COAL (chapter 18). -/
def SIG_COAL : RegDef := ⟨0x04C000, 8, 2048, 0, 1, .chip, true,
  [⟨47, 32, .rw, 0, 0, 65535⟩,
   ⟨7, 0, .rw, 0, 0, 255⟩]⟩

/-- SIG_VEC_CLAIM (chapter 18). -/
def SIG_VEC_CLAIM : RegDef := ⟨0x050000, 8, 2048, 0, 1, .chip, false,
  [⟨63, 63, .ro, 0, 0, 1⟩,
   ⟨11, 0, .ro, 0, 0, 4095⟩]⟩

/-- KPR_ERR_CAPTURE (chapter 3). -/
def KPR_ERR_CAPTURE : RegDef := ⟨0x080018, 0, 1, 0, 1, .chip, false,
  [⟨63, 63, .w1c, 0, 0, 1⟩,
   ⟨47, 32, .ro, 0, 0, 65535⟩,
   ⟨25, 0, .ro, 0, 0, 67108863⟩]⟩

/-- KPR_STATE (chapter 17). -/
def KPR_STATE : RegDef := ⟨0x080100, 0, 1, 0, 1, .chip, false,
  [⟨63, 48, .ro, 0, 0, 65535⟩,
   ⟨47, 32, .ro, 0, 0, 65535⟩,
   ⟨7, 4, .ro, 0, 0, 15⟩,
   ⟨3, 0, .ro, 0, 0, 15⟩]⟩

/-- KPR_WDOG_CFG (chapter 17). -/
def KPR_WDOG_CFG : RegDef := ⟨0x080108, 0, 1, 0, 1, .chip, true,
  [⟨23, 16, .rw, 3, 1, 15⟩,
   ⟨15, 0, .rw, 500, 100, 10000⟩]⟩

/-- KPR_HOURS (chapter 17). -/
def KPR_HOURS : RegDef := ⟨0x080110, 0, 1, 0, 1, .alwaysOn, false,
  [⟨47, 16, .ro, 0, 0, 4294967295⟩,
   ⟨15, 0, .ro, 0, 0, 65535⟩]⟩

/-- KPR_POWER_CYCLES (chapter 17). -/
def KPR_POWER_CYCLES : RegDef := ⟨0x080118, 0, 1, 0, 1, .alwaysOn, false,
  [⟨31, 0, .ro, 0, 0, 4294967295⟩]⟩

/-- KPR_LOG_STATUS (chapter 17). -/
def KPR_LOG_STATUS : RegDef := ⟨0x080120, 0, 1, 0, 1, .chip, false,
  [⟨63, 63, .ro, 0, 0, 1⟩,
   ⟨62, 62, .w1c, 0, 0, 1⟩,
   ⟨61, 61, .w1c, 0, 0, 1⟩,
   ⟨47, 40, .ro, 24, 0, 255⟩,
   ⟨14, 0, .ro, 0, 0, 32767⟩]⟩

/-- KPR_MCTP_CFG (chapter 17). -/
def KPR_MCTP_CFG : RegDef := ⟨0x080128, 0, 1, 0, 1, .chip, true,
  [⟨23, 16, .ro, 0, 0, 255⟩,
   ⟨15, 8, .ro, 0, 0, 255⟩,
   ⟨7, 0, .rw, 0, 0, 254⟩]⟩

/-- KPR_MBOX_CTRL (chapter 17). -/
def KPR_MBOX_CTRL : RegDef := ⟨0x080200, 0, 1, 0, 1, .chip, false,
  [⟨0, 0, .wo, 0, 0, 1⟩]⟩

/-- KPR_MBOX_STATUS (chapter 17). -/
def KPR_MBOX_STATUS : RegDef := ⟨0x080208, 0, 1, 0, 1, .chip, false,
  [⟨63, 63, .ro, 0, 0, 1⟩,
   ⟨62, 62, .ro, 0, 0, 1⟩,
   ⟨47, 32, .ro, 0, 0, 65535⟩,
   ⟨31, 0, .ro, 0, 0, 4294967295⟩]⟩

/-- KPR_MGMT_STATUS (chapter 17). -/
def KPR_MGMT_STATUS : RegDef := ⟨0x080300, 8, 2, 0, 1, .chip, false,
  [⟨47, 32, .ro, 0, 0, 65535⟩,
   ⟨2, 2, .ro, 0, 0, 1⟩,
   ⟨1, 1, .ro, 0, 0, 1⟩,
   ⟨0, 0, .ro, 0, 0, 1⟩]⟩

/-- KPR_MBOX_DATA (chapter 17). -/
def KPR_MBOX_DATA : RegDef := ⟨0x081000, 8, 128, 0, 1, .chip, false,
  [⟨63, 0, .rw, 0, 0, 2 ^ 64 - 1⟩]⟩

/-- KPR_SENSOR (chapter 17). -/
def KPR_SENSOR : RegDef := ⟨0x084000, 8, 512, 0, 1, .chip, false,
  [⟨63, 63, .ro, 0, 0, 1⟩,
   ⟨55, 48, .ro, 0, 0, 255⟩,
   ⟨47, 32, .ro, 0, 0, 65535⟩,
   ⟨31, 0, .ro, 0, 0, 4294967295⟩]⟩

/-- HFE_ERR_CAPTURE (chapter 3). -/
def HFE_ERR_CAPTURE : RegDef := ⟨0x100018, 0, 1, 0, 1, .chip, false,
  [⟨63, 63, .w1c, 0, 0, 1⟩,
   ⟨47, 32, .ro, 0, 0, 65535⟩,
   ⟨25, 0, .ro, 0, 0, 67108863⟩]⟩

/-- HFE_QOS_CFG (chapter 4). -/
def HFE_QOS_CFG : RegDef := ⟨0x100100, 8, 32, 0, 1, .sector, true,
  [⟨39, 32, .rw, 55, 1, 255⟩,
   ⟨31, 24, .rw, 128, 1, 255⟩,
   ⟨16, 16, .rw, 1, 0, 1⟩,
   ⟨10, 8, .rw, 3, 0, 7⟩,
   ⟨7, 0, .rw, 0, 0, 255⟩]⟩

/-- HFE_PTP_CFG (chapter 4). -/
def HFE_PTP_CFG : RegDef := ⟨0x100200, 0, 1, 0, 1, .sector, true,
  [⟨15, 8, .rw, 0, 0, 255⟩,
   ⟨7, 7, .rw, 0, 0, 1⟩,
   ⟨4, 0, .rw, 0, 0, 31⟩]⟩

/-- HFE_PWR_STATE (chapter 4). -/
def HFE_PWR_STATE : RegDef := ⟨0x100208, 0, 1, 0, 1, .chip, false,
  [⟨49, 48, .ro, 2, 0, 3⟩,
   ⟨47, 32, .ro, 0, 0, 65535⟩,
   ⟨31, 16, .ro, 0, 0, 65535⟩,
   ⟨15, 0, .ro, 0, 0, 65535⟩]⟩

/-- HFE_OCCUPANCY (chapter 4). -/
def HFE_OCCUPANCY : RegDef := ⟨0x100210, 0, 1, 0, 1, .chip, false,
  [⟨58, 40, .ro, 0, 0, 524287⟩,
   ⟨39, 22, .ro, 0, 0, 262143⟩,
   ⟨21, 0, .ro, 0, 0, 4194303⟩]⟩

/-- HFE_SUBNQN (chapter 4). -/
def HFE_SUBNQN : RegDef := ⟨0x100400, 8, 32, 0, 1, .sector, true,
  [⟨63, 0, .rw, 0, 0, 2 ^ 64 - 1⟩]⟩

/-- HFE_PORT_STATUS (chapter 4). -/
def HFE_PORT_STATUS : RegDef := ⟨0x101000, 8, 32, 0, 1, .sector, false,
  [⟨63, 32, .ro, 0, 0, 4294967295⟩,
   ⟨11, 8, .ro, 0, 0, 15⟩,
   ⟨3, 1, .ro, 0, 0, 7⟩,
   ⟨0, 0, .ro, 0, 0, 1⟩]⟩

/-- HFE_LANE_STATUS (chapter 4). -/
def HFE_LANE_STATUS : RegDef := ⟨0x101100, 8, 32, 0, 1, .sector, false,
  [⟨7, 7, .w1c, 0, 0, 1⟩,
   ⟨6, 6, .w1c, 0, 0, 1⟩,
   ⟨5, 5, .ro, 0, 0, 1⟩,
   ⟨1, 0, .ro, 0, 0, 3⟩]⟩

/-- HFE_IF (chapter 4). -/
def HFE_IF : RegDef := ⟨0x102000, 8, 2048, 0, 1, .sector, true,
  [⟨63, 0, .rw, 0, 0, 2 ^ 64 - 1⟩]⟩

/-- PTL_ERR_CAPTURE (chapter 3). -/
def PTL_ERR_CAPTURE : RegDef := ⟨0x200018, 0, 1, 0, 1, .chip, false,
  [⟨63, 63, .w1c, 0, 0, 1⟩,
   ⟨47, 32, .ro, 0, 0, 65535⟩,
   ⟨25, 0, .ro, 0, 0, 67108863⟩]⟩

/-- PTL_JRING_CFG (chapter 5). -/
def PTL_JRING_CFG : RegDef := ⟨0x200100, 0, 1, 0, 1, .chip, true,
  [⟨7, 0, .rw, 90, 50, 95⟩]⟩

/-- PTL_JRING_STATUS (chapter 5). -/
def PTL_JRING_STATUS : RegDef := ⟨0x200108, 0, 1, 0, 1, .chip, false,
  [⟨25, 24, .ro, 0, 0, 3⟩,
   ⟨15, 8, .ro, 0, 0, 255⟩,
   ⟨7, 0, .ro, 0, 0, 255⟩]⟩

/-- PTL_JSEQ_NEXT (chapter 5). -/
def PTL_JSEQ_NEXT : RegDef := ⟨0x200110, 0, 1, 0, 1, .chip, false,
  [⟨63, 0, .ro, 0, 0, 2 ^ 64 - 1⟩]⟩

/-- PTL_JSEQ_RETIRED (chapter 5). -/
def PTL_JSEQ_RETIRED : RegDef := ⟨0x200118, 0, 1, 0, 1, .chip, false,
  [⟨63, 0, .ro, 0, 0, 2 ^ 64 - 1⟩]⟩

/-- PTL_VERIFY_STATS (chapter 6). -/
def PTL_VERIFY_STATS : RegDef := ⟨0x200200, 0, 1, 0, 1, .chip, false,
  [⟨63, 48, .rw, 0, 0, 65535⟩,
   ⟨47, 32, .rw, 0, 0, 65535⟩,
   ⟨31, 16, .rw, 0, 0, 65535⟩,
   ⟨15, 0, .rw, 0, 0, 65535⟩]⟩

/-- PTL_LAST_LOSS (chapter 6). -/
def PTL_LAST_LOSS : RegDef := ⟨0x200208, 0, 1, 0, 1, .chip, false,
  [⟨63, 60, .ro, 0, 0, 15⟩,
   ⟨47, 0, .ro, 0, 0, 281474976710655⟩]⟩

/-- PTL_RECON_STATUS (chapter 6). -/
def PTL_RECON_STATUS : RegDef := ⟨0x200210, 0, 1, 0, 1, .chip, false,
  [⟨63, 32, .ro, 0, 0, 4294967295⟩,
   ⟨6, 0, .ro, 0, 0, 127⟩]⟩

/-- PTL_TILE_STATUS (chapter 5). -/
def PTL_TILE_STATUS : RegDef := ⟨0x201000, 8, 66, 0, 1, .island, false,
  [⟨39, 32, .ro, 0, 0, 255⟩,
   ⟨31, 16, .ro, 0, 0, 65535⟩,
   ⟨3, 0, .ro, 0, 0, 15⟩]⟩

/-- MTL_ERR_CAPTURE (chapter 3). -/
def MTL_ERR_CAPTURE : RegDef := ⟨0x400018, 0, 1, 0, 1, .chip, false,
  [⟨63, 63, .w1c, 0, 0, 1⟩,
   ⟨47, 32, .ro, 0, 0, 65535⟩,
   ⟨25, 0, .ro, 0, 0, 67108863⟩]⟩

/-- MTL_REBUILD_CFG (chapter 7). -/
def MTL_REBUILD_CFG : RegDef := ⟨0x400100, 0, 1, 0, 1, .chip, true,
  [⟨24, 24, .rw, 0, 0, 1⟩,
   ⟨23, 16, .rw, 30, 0, 100⟩,
   ⟨15, 8, .rw, 60, 10, 90⟩,
   ⟨7, 0, .rw, 40, 5, 80⟩]⟩

/-- MTL_REBUILD_STATUS (chapter 7). -/
def MTL_REBUILD_STATUS : RegDef := ⟨0x400108, 0, 1, 0, 1, .chip, false,
  [⟨63, 32, .ro, 0, 0, 4294967295⟩,
   ⟨31, 24, .ro, 0, 0, 255⟩,
   ⟨4, 4, .w1c, 0, 0, 1⟩,
   ⟨3, 2, .ro, 3, 0, 3⟩,
   ⟨1, 0, .ro, 0, 0, 3⟩]⟩

/-- MTL_REBUILD_COUNTS (chapter 7). -/
def MTL_REBUILD_COUNTS : RegDef := ⟨0x400110, 0, 1, 0, 1, .chip, false,
  [⟨44, 24, .ro, 0, 0, 2097151⟩,
   ⟨23, 0, .ro, 0, 0, 16777215⟩]⟩

/-- MTL_FM_CFG (chapter 8). -/
def MTL_FM_CFG : RegDef := ⟨0x400200, 0, 1, 0, 1, .chip, true,
  [⟨63, 56, .rw, 5, 2, 20⟩,
   ⟨55, 48, .rw, 5, 1, 50⟩,
   ⟨47, 40, .rw, 80, 50, 95⟩,
   ⟨39, 32, .rw, 2, 1, 10⟩,
   ⟨31, 24, .rw, 75, 30, 95⟩,
   ⟨23, 16, .rw, 25, 10, 90⟩,
   ⟨15, 8, .rw, 8, 2, 50⟩,
   ⟨7, 0, .rw, 20, 5, 60⟩]⟩

/-- MTL_RET_CFG (chapter 8). -/
def MTL_RET_CFG : RegDef := ⟨0x400208, 0, 1, 0, 1, .chip, true,
  [⟨63, 48, .rw, 720, 1, 65535⟩,
   ⟨47, 32, .rw, 900, 60, 3600⟩,
   ⟨31, 24, .rw, 70, 50, 90⟩]⟩

/-- MTL_FM_STATUS (chapter 8). -/
def MTL_FM_STATUS : RegDef := ⟨0x400210, 0, 1, 0, 1, .chip, false,
  [⟨63, 56, .ro, 0, 0, 255⟩,
   ⟨55, 48, .ro, 0, 0, 255⟩,
   ⟨47, 40, .ro, 0, 0, 255⟩,
   ⟨39, 32, .ro, 0, 0, 255⟩,
   ⟨31, 0, .ro, 0, 0, 4294967295⟩]⟩

/-- MTL_RET_STATUS (chapter 8). -/
def MTL_RET_STATUS : RegDef := ⟨0x400218, 0, 1, 0, 1, .chip, false,
  [⟨63, 63, .w1c, 0, 0, 1⟩,
   ⟨62, 62, .ro, 0, 0, 1⟩,
   ⟨31, 0, .ro, 0, 0, 4294967295⟩]⟩

/-- MTL_CKPT_STATUS (chapter 8). -/
def MTL_CKPT_STATUS : RegDef := ⟨0x400220, 0, 1, 0, 1, .chip, false,
  [⟨63, 48, .ro, 0, 0, 65535⟩,
   ⟨47, 32, .ro, 0, 0, 65535⟩,
   ⟨31, 0, .ro, 0, 0, 4294967295⟩]⟩

/-- MTL_LDPC_CFG (chapter 9). -/
def MTL_LDPC_CFG : RegDef := ⟨0x400300, 0, 1, 0, 1, .chip, true,
  [⟨31, 24, .rw, 40, 8, 64⟩,
   ⟨23, 16, .rw, 16, 4, 32⟩,
   ⟨11, 8, .rw, 6, 0, 15⟩,
   ⟨0, 0, .rw, 1, 0, 1⟩]⟩

/-- MTL_LDPC_STATS (chapter 9). -/
def MTL_LDPC_STATS : RegDef := ⟨0x400308, 0, 1, 0, 1, .chip, false,
  [⟨63, 48, .rw, 0, 0, 65535⟩,
   ⟨47, 32, .rw, 0, 0, 65535⟩,
   ⟨31, 0, .rw, 0, 0, 4294967295⟩]⟩

/-- MTL_META_STATUS (chapter 10). -/
def MTL_META_STATUS : RegDef := ⟨0x400400, 0, 1, 0, 1, .chip, false,
  [⟨63, 48, .ro, 0, 0, 65535⟩,
   ⟨47, 16, .ro, 0, 0, 4294967295⟩,
   ⟨15, 8, .ro, 0, 0, 255⟩,
   ⟨0, 0, .ro, 0, 0, 1⟩]⟩

/-- MTL_BG_CFG (chapter 20). -/
def MTL_BG_CFG : RegDef := ⟨0x400500, 0, 1, 0, 1, .chip, true,
  [⟨15, 8, .rw, 15, 1, 50⟩,
   ⟨7, 0, .rw, 30, 5, 80⟩]⟩

/-- SML_ERR_CAPTURE (chapter 3). -/
def SML_ERR_CAPTURE : RegDef := ⟨0x600018, 0, 1, 0, 1, .chip, false,
  [⟨63, 63, .w1c, 0, 0, 1⟩,
   ⟨47, 32, .ro, 0, 0, 65535⟩,
   ⟨25, 0, .ro, 0, 0, 67108863⟩]⟩

/-- SML_LINK_CFG (chapter 9). -/
def SML_LINK_CFG : RegDef := ⟨0x600100, 0, 1, 0, 1, .chip, true,
  [⟨23, 16, .rw, 50, 1, 255⟩,
   ⟨15, 8, .rw, 10, 2, 100⟩,
   ⟨0, 0, .rw, 0, 0, 1⟩]⟩

/-- SML_PORT_BIND (chapter 9). -/
def SML_PORT_BIND : RegDef := ⟨0x601000, 8, 256, 0, 1, .chip, true,
  [⟨8, 8, .rw, 0, 0, 1⟩,
   ⟨7, 0, .rw, 0, 0, 255⟩]⟩

/-- SML_PORT_STATUS (chapter 9). -/
def SML_PORT_STATUS : RegDef := ⟨0x602000, 8, 256, 0, 1, .sector, false,
  [⟨63, 32, .ro, 0, 0, 4294967295⟩,
   ⟨19, 19, .ro, 0, 0, 1⟩,
   ⟨18, 18, .w1c, 0, 0, 1⟩,
   ⟨17, 17, .w1c, 0, 0, 1⟩,
   ⟨16, 16, .ro, 0, 0, 1⟩,
   ⟨15, 14, .ro, 0, 0, 3⟩,
   ⟨13, 13, .w1c, 0, 0, 1⟩,
   ⟨12, 12, .w1c, 0, 0, 1⟩,
   ⟨11, 11, .w1c, 0, 0, 1⟩,
   ⟨10, 10, .w1c, 0, 0, 1⟩,
   ⟨9, 9, .ro, 0, 0, 1⟩,
   ⟨8, 8, .ro, 0, 0, 1⟩,
   ⟨7, 7, .ro, 0, 0, 1⟩,
   ⟨2, 1, .ro, 0, 0, 3⟩,
   ⟨0, 0, .ro, 0, 0, 1⟩]⟩

/-- SML_PORT_ERR (chapter 9). -/
def SML_PORT_ERR : RegDef := ⟨0x603000, 8, 256, 0, 1, .sector, false,
  [⟨63, 48, .rw, 0, 0, 65535⟩,
   ⟨47, 32, .rw, 0, 0, 65535⟩,
   ⟨31, 0, .rw, 0, 0, 4294967295⟩]⟩

/-- UBL_ERR_CAPTURE (chapter 3). -/
def UBL_ERR_CAPTURE : RegDef := ⟨0x700018, 0, 1, 0, 1, .chip, false,
  [⟨63, 63, .w1c, 0, 0, 1⟩,
   ⟨47, 32, .ro, 0, 0, 65535⟩,
   ⟨25, 0, .ro, 0, 0, 67108863⟩]⟩

/-- UBL_BEACON_CFG (chapter 11). -/
def UBL_BEACON_CFG : RegDef := ⟨0x700100, 0, 1, 0, 1, .chip, true,
  [⟨63, 48, .rw, 200, 10, 10000⟩,
   ⟨47, 32, .rw, 1000, 100, 10000⟩,
   ⟨31, 16, .rw, 30, 5, 600⟩,
   ⟨15, 8, .rw, 10, 2, 100⟩,
   ⟨7, 0, .rw, 2, 1, 50⟩]⟩

/-- UBL_PEER_STATE (chapter 11). -/
def UBL_PEER_STATE : RegDef := ⟨0x700108, 0, 1, 0, 1, .chip, false,
  [⟨63, 32, .ro, 0, 0, 4294967295⟩,
   ⟨7, 7, .w1c, 0, 0, 1⟩,
   ⟨6, 6, .w1c, 0, 0, 1⟩,
   ⟨5, 5, .ro, 0, 0, 1⟩,
   ⟨4, 4, .ro, 0, 0, 1⟩,
   ⟨3, 0, .ro, 0, 0, 15⟩]⟩

/-- UBL_PAIR_OFFSET (chapter 11). -/
def UBL_PAIR_OFFSET : RegDef := ⟨0x700110, 0, 1, 0, 1, .chip, false,
  [⟨63, 0, .ro, 0, 0, 2 ^ 64 - 1⟩]⟩

/-- UBL_LEASE_STATUS (chapter 11). -/
def UBL_LEASE_STATUS : RegDef := ⟨0x700118, 0, 1, 0, 1, .chip, false,
  [⟨63, 48, .ro, 0, 0, 65535⟩,
   ⟨47, 32, .ro, 0, 0, 65535⟩,
   ⟨31, 16, .ro, 0, 0, 65535⟩,
   ⟨1, 0, .ro, 0, 0, 3⟩]⟩

/-- UBL_GROUP_STATUS (chapter 11). -/
def UBL_GROUP_STATUS : RegDef := ⟨0x700200, 8, 2, 0, 1, .sector, false,
  [⟨63, 32, .ro, 0, 0, 4294967295⟩,
   ⟨31, 16, .w1c, 0, 0, 65535⟩,
   ⟨15, 8, .ro, 0, 0, 255⟩,
   ⟨7, 7, .w1c, 0, 0, 1⟩,
   ⟨6, 6, .w1c, 0, 0, 1⟩,
   ⟨5, 5, .ro, 0, 0, 1⟩,
   ⟨4, 4, .ro, 0, 0, 1⟩,
   ⟨3, 2, .ro, 0, 0, 3⟩,
   ⟨0, 0, .ro, 0, 0, 1⟩]⟩

/-- MEM_ERR_CAPTURE (chapter 3). -/
def MEM_ERR_CAPTURE : RegDef := ⟨0x800018, 0, 1, 0, 1, .chip, false,
  [⟨63, 63, .w1c, 0, 0, 1⟩,
   ⟨47, 32, .ro, 0, 0, 65535⟩,
   ⟨25, 0, .ro, 0, 0, 67108863⟩]⟩

/-- MEM_CONFIG (chapter 16). -/
def MEM_CONFIG : RegDef := ⟨0x800100, 0, 1, 0, 1, .chip, false,
  [⟨39, 32, .ro, 0, 0, 255⟩,
   ⟨31, 16, .ro, 0, 0, 65535⟩,
   ⟨7, 4, .ro, 0, 0, 15⟩,
   ⟨1, 0, .ro, 0, 0, 3⟩]⟩

/-- MEM_FILL_STATUS (chapter 16). -/
def MEM_FILL_STATUS : RegDef := ⟨0x800108, 0, 1, 0, 1, .chip, false,
  [⟨63, 63, .ro, 0, 0, 1⟩,
   ⟨31, 0, .ro, 0, 0, 4294967295⟩]⟩

/-- MEM_SCRUB_CFG (chapter 16). -/
def MEM_SCRUB_CFG : RegDef := ⟨0x800110, 0, 1, 0, 1, .chip, true,
  [⟨23, 16, .rw, 24, 1, 168⟩,
   ⟨7, 0, .rw, 100, 1, 200⟩]⟩

/-- MEM_SCRUB_STATUS (chapter 16). -/
def MEM_SCRUB_STATUS : RegDef := ⟨0x800118, 0, 1, 0, 1, .chip, false,
  [⟨63, 32, .ro, 0, 0, 4294967295⟩,
   ⟨10, 8, .ro, 0, 0, 7⟩,
   ⟨7, 0, .ro, 0, 0, 255⟩]⟩

/-- MEM_UE_LOG (chapter 16). -/
def MEM_UE_LOG : RegDef := ⟨0x800200, 0, 1, 0, 1, .chip, false,
  [⟨63, 63, .w1c, 0, 0, 1⟩,
   ⟨62, 62, .ro, 0, 0, 1⟩,
   ⟨61, 56, .ro, 0, 0, 63⟩,
   ⟨41, 0, .ro, 0, 0, 4398046511103⟩]⟩

/-- MEM_CH_STATUS (chapter 16). -/
def MEM_CH_STATUS : RegDef := ⟨0x801000, 8, 16, 0, 1, .sector, false,
  [⟨63, 32, .rw, 0, 0, 4294967295⟩,
   ⟨31, 16, .rw, 0, 0, 65535⟩,
   ⟨1, 0, .ro, 0, 0, 3⟩]⟩

/-- MEM_BUCKET_CFG (chapter 16). -/
def MEM_BUCKET_CFG : RegDef := ⟨0x802000, 8, 24, 0, 1, .chip, true,
  [⟨63, 32, .rw, 60000, 1, 86400000⟩,
   ⟨15, 0, .rw, 16, 0, 65535⟩]⟩

/-- MEM_BUCKET_STATUS (chapter 16). -/
def MEM_BUCKET_STATUS : RegDef := ⟨0x802100, 8, 24, 0, 1, .chip, false,
  [⟨63, 32, .ro, 0, 0, 4294967295⟩,
   ⟨16, 16, .ro, 0, 0, 1⟩,
   ⟨15, 0, .ro, 0, 0, 65535⟩]⟩

/-- MCC_ERR_CAPTURE (chapter 3). -/
def MCC_ERR_CAPTURE : RegDef := ⟨0x900018, 0, 1, 0, 1, .chip, false,
  [⟨63, 63, .w1c, 0, 0, 1⟩,
   ⟨47, 32, .ro, 0, 0, 65535⟩,
   ⟨25, 0, .ro, 0, 0, 67108863⟩]⟩

/-- MCC_STATS (chapter 16). -/
def MCC_STATS : RegDef := ⟨0x900100, 0, 1, 0, 1, .chip, false,
  [⟨63, 56, .ro, 0, 0, 255⟩,
   ⟨47, 24, .rw, 0, 0, 16777215⟩,
   ⟨23, 0, .rw, 0, 0, 16777215⟩]⟩

/-- MCC_SIEVE_STATUS (chapter 16). -/
def MCC_SIEVE_STATUS : RegDef := ⟨0x900200, 0, 1, 0, 1, .chip, false,
  [⟨43, 40, .w1c, 0, 0, 15⟩,
   ⟨39, 8, .ro, 0, 0, 4294967295⟩,
   ⟨4, 0, .ro, 0, 0, 31⟩]⟩

/-- MCC_CTRL (chapter 16). -/
def MCC_CTRL : RegDef := ⟨0x901000, 8, 64, 0, 1, .island, false,
  [⟨11, 8, .ro, 0, 0, 15⟩,
   ⟨2, 1, .ro, 0, 0, 3⟩,
   ⟨0, 0, .rw, 1, 0, 1⟩]⟩

/-- CRY_ERR_CAPTURE (chapter 3). -/
def CRY_ERR_CAPTURE : RegDef := ⟨0xA00018, 0, 1, 0, 1, .chip, false,
  [⟨63, 63, .w1c, 0, 0, 1⟩,
   ⟨47, 32, .ro, 0, 0, 65535⟩,
   ⟨25, 0, .ro, 0, 0, 67108863⟩]⟩

/-- CRY_CFG (chapter 14). -/
def CRY_CFG : RegDef := ⟨0xA00100, 0, 1, 0, 1, .chip, true,
  [⟨47, 32, .rw, 600, 1, 3600⟩,
   ⟨15, 0, .rw, 10, 1, 1000⟩]⟩

/-- CRY_STATUS (chapter 14). -/
def CRY_STATUS : RegDef := ⟨0xA00108, 0, 1, 0, 1, .island, false,
  [⟨40, 40, .ro, 0, 0, 1⟩,
   ⟨39, 28, .ro, 2048, 0, 4095⟩,
   ⟨11, 0, .ro, 1024, 0, 4095⟩]⟩

/-- CRY_SINGLE_EXPECT (chapter 14). -/
def CRY_SINGLE_EXPECT : RegDef := ⟨0xA00800, 64, 15, 8, 8, .island, false,
  [⟨63, 0, .wo, 0, 0, 2 ^ 64 - 1⟩]⟩

/-- CRY_CH_RING (chapter 14). -/
def CRY_CH_RING : RegDef := ⟨0xA01000, 256, 15, 0, 1, .chip, false,
  [⟨63, 6, .rw, 0, 0, 288230376151711743⟩]⟩

/-- CRY_CH_CPL (chapter 14). -/
def CRY_CH_CPL : RegDef := ⟨0xA01008, 256, 15, 0, 1, .chip, false,
  [⟨63, 5, .rw, 0, 0, 576460752303423487⟩]⟩

/-- CRY_CH_CTRL (chapter 14). -/
def CRY_CH_CTRL : RegDef := ⟨0xA01010, 256, 15, 0, 1, .chip, false,
  [⟨8, 8, .rw, 0, 0, 1⟩,
   ⟨4, 0, .rw, 6, 6, 16⟩]⟩

/-- CRY_CH_TAIL (chapter 14). -/
def CRY_CH_TAIL : RegDef := ⟨0xA01018, 256, 15, 0, 1, .chip, false,
  [⟨15, 0, .rw, 0, 0, 65535⟩]⟩

/-- CRY_CH_STATUS (chapter 14). -/
def CRY_CH_STATUS : RegDef := ⟨0xA01020, 256, 15, 0, 1, .chip, false,
  [⟨31, 31, .w1c, 0, 0, 1⟩,
   ⟨16, 16, .ro, 1, 0, 1⟩,
   ⟨15, 0, .ro, 0, 0, 65535⟩]⟩

/-- DIG_CTX_STATUS (chapter 14). -/
def DIG_CTX_STATUS : RegDef := ⟨0xA40000, 256, 1024, 0, 1, .island, false,
  [⟨63, 60, .ro, 0, 0, 15⟩,
   ⟨59, 56, .ro, 0, 0, 15⟩,
   ⟨55, 52, .ro, 0, 0, 15⟩,
   ⟨47, 32, .ro, 0, 0, 65535⟩,
   ⟨7, 0, .ro, 0, 0, 255⟩]⟩

/-- DIG_LAST_WORD (chapter 14). -/
def DIG_LAST_WORD : RegDef := ⟨0xA40008, 256, 1024, 0, 1, .island, false,
  [⟨63, 0, .rw, 0, 0, 2 ^ 64 - 1⟩]⟩

/-- DIG_LAST_COUNT (chapter 14). -/
def DIG_LAST_COUNT : RegDef := ⟨0xA40010, 256, 1024, 0, 1, .island, false,
  [⟨3, 0, .rw, 0, 0, 8⟩]⟩

/-- DIG_CTX_CTRL (chapter 14). -/
def DIG_CTX_CTRL : RegDef := ⟨0xA40018, 256, 1024, 0, 1, .island, false,
  [⟨0, 0, .wo, 0, 0, 1⟩]⟩

/-- DIG_RESULT (chapter 14). -/
def DIG_RESULT : RegDef := ⟨0xA40040, 256, 1024, 8, 8, .island, false,
  [⟨63, 0, .ro, 0, 0, 2 ^ 64 - 1⟩]⟩

/-- DIG_EXPECT (chapter 14). -/
def DIG_EXPECT : RegDef := ⟨0xA40080, 256, 1024, 8, 8, .island, false,
  [⟨63, 0, .wo, 0, 0, 2 ^ 64 - 1⟩]⟩

/-- CMP_ERR_CAPTURE (chapter 3). -/
def CMP_ERR_CAPTURE : RegDef := ⟨0xC00018, 0, 1, 0, 1, .chip, false,
  [⟨63, 63, .w1c, 0, 0, 1⟩,
   ⟨47, 32, .ro, 0, 0, 65535⟩,
   ⟨25, 0, .ro, 0, 0, 67108863⟩]⟩

/-- CMP_CFG (chapter 15). -/
def CMP_CFG : RegDef := ⟨0xC00100, 0, 1, 0, 1, .chip, true,
  [⟨7, 0, .rw, 10, 1, 50⟩]⟩

/-- CMP_STATUS (chapter 15). -/
def CMP_STATUS : RegDef := ⟨0xC00108, 0, 1, 0, 1, .chip, false,
  [⟨63, 32, .ro, 0, 0, 4294967295⟩,
   ⟨4, 0, .ro, 0, 0, 31⟩]⟩

/-- CMP_CH_RING (chapter 15). -/
def CMP_CH_RING : RegDef := ⟨0xC01000, 256, 14, 0, 1, .chip, false,
  [⟨63, 6, .rw, 0, 0, 288230376151711743⟩]⟩

/-- CMP_CH_CPL (chapter 15). -/
def CMP_CH_CPL : RegDef := ⟨0xC01008, 256, 14, 0, 1, .chip, false,
  [⟨63, 5, .rw, 0, 0, 576460752303423487⟩]⟩

/-- CMP_CH_CTRL (chapter 15). -/
def CMP_CH_CTRL : RegDef := ⟨0xC01010, 256, 14, 0, 1, .chip, false,
  [⟨8, 8, .rw, 0, 0, 1⟩,
   ⟨4, 0, .rw, 6, 6, 16⟩]⟩

/-- CMP_CH_TAIL (chapter 15). -/
def CMP_CH_TAIL : RegDef := ⟨0xC01018, 256, 14, 0, 1, .chip, false,
  [⟨15, 0, .rw, 0, 0, 65535⟩]⟩

/-- CMP_CH_STATUS (chapter 15). -/
def CMP_CH_STATUS : RegDef := ⟨0xC01020, 256, 14, 0, 1, .chip, false,
  [⟨31, 31, .w1c, 0, 0, 1⟩,
   ⟨16, 16, .ro, 1, 0, 1⟩,
   ⟨15, 0, .ro, 0, 0, 65535⟩]⟩

/-- PAT_ERR_CAPTURE (chapter 3). -/
def PAT_ERR_CAPTURE : RegDef := ⟨0xD00018, 0, 1, 0, 1, .chip, false,
  [⟨63, 63, .w1c, 0, 0, 1⟩,
   ⟨47, 32, .ro, 0, 0, 65535⟩,
   ⟨25, 0, .ro, 0, 0, 67108863⟩]⟩

/-- PAT_CFG (chapter 15). -/
def PAT_CFG : RegDef := ⟨0xD00100, 0, 1, 0, 1, .chip, true,
  [⟨1, 1, .rw, 1, 0, 1⟩,
   ⟨0, 0, .rw, 0, 0, 1⟩]⟩

/-- PAT_LOAD_ADDR (chapter 15). -/
def PAT_LOAD_ADDR : RegDef := ⟨0xD00108, 0, 1, 0, 1, .chip, false,
  [⟨63, 6, .rw, 0, 0, 288230376151711743⟩]⟩

/-- PAT_LOAD_CTRL (chapter 15). -/
def PAT_LOAD_CTRL : RegDef := ⟨0xD00110, 0, 1, 0, 1, .chip, false,
  [⟨63, 63, .wo, 0, 0, 1⟩,
   ⟨23, 0, .rw, 0, 0, 16777215⟩]⟩

/-- PAT_LOAD_STATUS (chapter 15). -/
def PAT_LOAD_STATUS : RegDef := ⟨0xD00118, 0, 1, 0, 1, .chip, false,
  [⟨63, 63, .ro, 0, 0, 1⟩,
   ⟨62, 62, .ro, 0, 0, 1⟩,
   ⟨47, 32, .ro, 0, 0, 65535⟩,
   ⟨11, 0, .ro, 0, 0, 4095⟩]⟩

/-- PAT_STATUS (chapter 15). -/
def PAT_STATUS : RegDef := ⟨0xD00120, 0, 1, 0, 1, .chip, false,
  [⟨63, 32, .rw, 0, 0, 4294967295⟩,
   ⟨2, 1, .ro, 0, 0, 3⟩,
   ⟨0, 0, .ro, 0, 0, 1⟩]⟩

/-- PAT_CH_RING (chapter 15). -/
def PAT_CH_RING : RegDef := ⟨0xD01000, 256, 12, 0, 1, .chip, false,
  [⟨63, 6, .rw, 0, 0, 288230376151711743⟩]⟩

/-- PAT_CH_CPL (chapter 15). -/
def PAT_CH_CPL : RegDef := ⟨0xD01008, 256, 12, 0, 1, .chip, false,
  [⟨63, 5, .rw, 0, 0, 576460752303423487⟩]⟩

/-- PAT_CH_CTRL (chapter 15). -/
def PAT_CH_CTRL : RegDef := ⟨0xD01010, 256, 12, 0, 1, .chip, false,
  [⟨8, 8, .rw, 0, 0, 1⟩,
   ⟨4, 0, .rw, 6, 6, 16⟩]⟩

/-- PAT_CH_TAIL (chapter 15). -/
def PAT_CH_TAIL : RegDef := ⟨0xD01018, 256, 12, 0, 1, .chip, false,
  [⟨15, 0, .rw, 0, 0, 65535⟩]⟩

/-- PAT_CH_STATUS (chapter 15). -/
def PAT_CH_STATUS : RegDef := ⟨0xD01020, 256, 12, 0, 1, .chip, false,
  [⟨31, 31, .w1c, 0, 0, 1⟩,
   ⟨16, 16, .ro, 1, 0, 1⟩,
   ⟨15, 0, .ro, 0, 0, 65535⟩]⟩

/-- PAT_HITS (chapter 15). -/
def PAT_HITS : RegDef := ⟨0xD10000, 8, 4096, 0, 1, .chip, false,
  [⟨63, 0, .ro, 0, 0, 2 ^ 64 - 1⟩]⟩

/-- HUP_ERR_CAPTURE (chapter 3). -/
def HUP_ERR_CAPTURE : RegDef := ⟨0xE00018, 0, 1, 0, 1, .chip, false,
  [⟨63, 63, .w1c, 0, 0, 1⟩,
   ⟨47, 32, .ro, 0, 0, 65535⟩,
   ⟨25, 0, .ro, 0, 0, 67108863⟩]⟩

/-- HUP_CFG (chapter 12). -/
def HUP_CFG : RegDef := ⟨0xE00100, 0, 1, 0, 1, .chip, true,
  [⟨31, 16, .rw, 24, 0, 8760⟩,
   ⟨4, 0, .rw, 16, 2, 16⟩]⟩

/-- HUP_STORE_CFG (chapter 12). -/
def HUP_STORE_CFG : RegDef := ⟨0xE00108, 0, 1, 0, 1, .alwaysOn, true,
  [⟨63, 48, .rw, 420, 420, 4000⟩,
   ⟨47, 32, .rw, 0, 0, 65535⟩,
   ⟨31, 16, .rw, 0, 0, 65535⟩,
   ⟨15, 0, .rw, 0, 0, 65535⟩]⟩

/-- HUP_SENSE_CFG (chapter 12). -/
def HUP_SENSE_CFG : RegDef := ⟨0xE00110, 0, 1, 0, 1, .alwaysOn, true,
  [⟨47, 32, .rw, 200, 50, 2000⟩,
   ⟨31, 16, .rw, 5000, 100, 50000⟩,
   ⟨15, 0, .rw, 1000, 1, 65535⟩]⟩

/-- HUP_STATUS (chapter 12). -/
def HUP_STATUS : RegDef := ⟨0xE00118, 0, 1, 0, 1, .alwaysOn, false,
  [⟨16, 16, .ro, 0, 0, 1⟩,
   ⟨15, 15, .w1c, 0, 0, 1⟩,
   ⟨14, 14, .w1c, 0, 0, 1⟩,
   ⟨13, 13, .ro, 0, 0, 1⟩,
   ⟨12, 12, .w1c, 0, 0, 1⟩,
   ⟨11, 11, .w1c, 0, 0, 1⟩,
   ⟨10, 10, .w1c, 0, 0, 1⟩,
   ⟨9, 9, .ro, 0, 0, 1⟩,
   ⟨8, 8, .ro, 0, 0, 1⟩,
   ⟨2, 0, .ro, 0, 0, 7⟩]⟩

/-- HUP_MEAS (chapter 12). -/
def HUP_MEAS : RegDef := ⟨0xE00120, 0, 1, 0, 1, .alwaysOn, false,
  [⟨63, 48, .ro, 0, 0, 65535⟩,
   ⟨47, 32, .ro, 0, 0, 65535⟩,
   ⟨15, 0, .ro, 0, 0, 65535⟩]⟩

/-- HUP_VAULT_STATUS (chapter 12). -/
def HUP_VAULT_STATUS : RegDef := ⟨0xE00128, 0, 1, 0, 1, .chip, false,
  [⟨63, 32, .ro, 0, 0, 4294967295⟩,
   ⟨3, 2, .ro, 0, 0, 3⟩,
   ⟨1, 0, .ro, 0, 0, 3⟩]⟩

/-- PWR_ERR_CAPTURE (chapter 3). -/
def PWR_ERR_CAPTURE : RegDef := ⟨0xE10018, 0, 1, 0, 1, .chip, false,
  [⟨63, 63, .w1c, 0, 0, 1⟩,
   ⟨47, 32, .ro, 0, 0, 65535⟩,
   ⟨25, 0, .ro, 0, 0, 67108863⟩]⟩

/-- PWR_AVS_STATUS (chapter 21). -/
def PWR_AVS_STATUS : RegDef := ⟨0xE10100, 0, 1, 0, 1, .chip, false,
  [⟨33, 33, .ro, 0, 0, 1⟩,
   ⟨32, 32, .w1c, 0, 0, 1⟩,
   ⟨15, 0, .ro, 0, 0, 65535⟩]⟩

/-- PWR_THERM_CFG (chapter 21). -/
def PWR_THERM_CFG : RegDef := ⟨0xE10108, 0, 1, 0, 1, .alwaysOn, true,
  [⟨0, 0, .rw, 1, 0, 1⟩]⟩

/-- PWR_THERM_STATUS (chapter 21). -/
def PWR_THERM_STATUS : RegDef := ⟨0xE10110, 0, 1, 0, 1, .alwaysOn, false,
  [⟨63, 63, .w1c, 0, 0, 1⟩,
   ⟨55, 48, .ro, 0, 0, 255⟩,
   ⟨33, 32, .ro, 0, 0, 3⟩,
   ⟨15, 0, .ro, 0, 0, 65535⟩]⟩

/-- PWR_DOMAIN_STATUS (chapter 21). -/
def PWR_DOMAIN_STATUS : RegDef := ⟨0xE11000, 8, 48, 0, 1, .alwaysOn, false,
  [⟨63, 32, .ro, 0, 0, 4294967295⟩,
   ⟨9, 8, .ro, 0, 0, 3⟩,
   ⟨2, 0, .ro, 0, 0, 7⟩]⟩

/-- PWR_ISLAND_FREQ (chapter 21). -/
def PWR_ISLAND_FREQ : RegDef := ⟨0xE12000, 8, 272, 0, 1, .island, false,
  [⟨63, 32, .ro, 0, 0, 4294967295⟩,
   ⟨15, 8, .ro, 0, 0, 255⟩,
   ⟨7, 0, .ro, 0, 0, 255⟩]⟩

def fGLB_ERR_CAPTURE_VALID : Fld := ⟨0x000018, 0, 0, 63, 63⟩
def fGLB_ERR_CAPTURE_CODE : Fld := ⟨0x000018, 0, 0, 47, 32⟩
def fGLB_ERR_CAPTURE_OFFSET : Fld := ⟨0x000018, 0, 0, 25, 0⟩
def fGLB_ERR_SUMMARY_LOST : Fld := ⟨0x000020, 0, 0, 63, 56⟩
def fGLB_ERR_SUMMARY_VALID_MAP : Fld := ⟨0x000020, 0, 0, 17, 0⟩
def fGLB_BAR2_ERR_VALID : Fld := ⟨0x000028, 0, 0, 63, 63⟩
def fGLB_BAR2_ERR_CODE : Fld := ⟨0x000028, 0, 0, 47, 32⟩
def fGLB_BAR2_ERR_OFFSET : Fld := ⟨0x000028, 0, 0, 25, 0⟩
def fGLB_FOG_CAUSE_CAUSE : Fld := ⟨0x000100, 0, 0, 21, 0⟩
def fGLB_FOG_STATUS_RAISES : Fld := ⟨0x000108, 0, 0, 63, 48⟩
def fGLB_FOG_STATUS_PIN_FAULT : Fld := ⟨0x000108, 0, 0, 2, 2⟩
def fGLB_FOG_STATUS_EXT_LOW : Fld := ⟨0x000108, 0, 0, 1, 1⟩
def fGLB_FOG_STATUS_DRIVEN : Fld := ⟨0x000108, 0, 0, 0, 0⟩
def fGLB_BOARD_STATUS_REFCLK_LOST : Fld := ⟨0x000110, 0, 0, 39, 39⟩
def fGLB_BOARD_STATUS_PFAIL_STUCK : Fld := ⟨0x000110, 0, 0, 38, 38⟩
def fGLB_BOARD_STATUS_ISOLATED : Fld := ⟨0x000110, 0, 0, 37, 32⟩
def fGLB_BOARD_STATUS_RECOVERED : Fld := ⟨0x000110, 0, 0, 5, 0⟩
def fGLB_GPIO_IN : Fld := ⟨0x000118, 0, 0, 47, 32⟩
def fGLB_GPIO_OE : Fld := ⟨0x000118, 0, 0, 31, 16⟩
def fGLB_GPIO_OUT : Fld := ⟨0x000118, 0, 0, 15, 0⟩
def fTSK_WIN_STATE_W3_OPEN : Fld := ⟨0x010000, 0, 0, 3, 3⟩
def fTSK_WIN_STATE_W2_BOUND : Fld := ⟨0x010000, 0, 0, 2, 2⟩
def fTSK_WIN_STATE_W1_SESSION : Fld := ⟨0x010000, 0, 0, 1, 1⟩
def fTSK_WIN_STATE_TOKEN_PATH : Fld := ⟨0x010000, 0, 0, 0, 0⟩
def fTSK_ERR_CAPTURE_VALID : Fld := ⟨0x010018, 0, 0, 63, 63⟩
def fTSK_ERR_CAPTURE_CODE : Fld := ⟨0x010018, 0, 0, 47, 32⟩
def fTSK_ERR_CAPTURE_OFFSET : Fld := ⟨0x010018, 0, 0, 25, 0⟩
def fTSK_OPCODE_NOTIFY : Fld := ⟨0x011000, 4096, 0, 16, 16⟩
def fTSK_OPCODE_OPCODE : Fld := ⟨0x011000, 4096, 0, 15, 0⟩
def fTSK_ARG_ARG : Fld := ⟨0x011008, 4096, 8, 63, 0⟩
def fTSK_GO_GO : Fld := ⟨0x011100, 4096, 0, 0, 0⟩
def fTSK_STATUS_BUSY : Fld := ⟨0x011108, 4096, 0, 63, 63⟩
def fTSK_STATUS_DONE : Fld := ⟨0x011108, 4096, 0, 62, 62⟩
def fTSK_STATUS_CODE : Fld := ⟨0x011108, 4096, 0, 47, 32⟩
def fTSK_STATUS_DETAIL : Fld := ⟨0x011108, 4096, 0, 31, 0⟩
def fTSK_RES_RES : Fld := ⟨0x011200, 4096, 8, 63, 0⟩
def fTSK_BULK_ADDR_ADDR : Fld := ⟨0x011300, 4096, 0, 63, 6⟩
def fTSK_BULK_CTRL_FRAGS : Fld := ⟨0x011308, 4096, 0, 46, 34⟩
def fTSK_BULK_CTRL_LIST : Fld := ⟨0x011308, 4096, 0, 33, 33⟩
def fTSK_BULK_CTRL_DIR : Fld := ⟨0x011308, 4096, 0, 32, 32⟩
def fTSK_BULK_CTRL_LEN : Fld := ⟨0x011308, 4096, 0, 31, 0⟩
def fTSK_NONCE_NONCE : Fld := ⟨0x012400, 0, 0, 63, 0⟩
def fTSK_TOKEN_BYTES : Fld := ⟨0x012800, 8, 0, 63, 0⟩
def fLNS_STAGE_SELECT_EN : Fld := ⟨0x020000, 0, 0, 7, 7⟩
def fLNS_STAGE_SELECT_SET : Fld := ⟨0x020000, 0, 0, 2, 0⟩
def fLNS_LIVE_GEN_GEN : Fld := ⟨0x020008, 0, 0, 63, 0⟩
def fLNS_SECTOR_STATE_STATE : Fld := ⟨0x020010, 0, 0, 31, 0⟩
def fLNS_ERR_CAPTURE_VALID : Fld := ⟨0x020018, 0, 0, 63, 63⟩
def fLNS_ERR_CAPTURE_CODE : Fld := ⟨0x020018, 0, 0, 47, 32⟩
def fLNS_ERR_CAPTURE_OFFSET : Fld := ⟨0x020018, 0, 0, 25, 0⟩
def fLNS_SECTOR_LENS_LENS_ID : Fld := ⟨0x020040, 8, 0, 63, 0⟩
def fLNS_SET_CTRL_LEAD_NS : Fld := ⟨0x020100, 64, 0, 63, 32⟩
def fLNS_SET_CTRL_FORCE : Fld := ⟨0x020100, 64, 0, 8, 8⟩
def fLNS_SET_CTRL_OP : Fld := ⟨0x020100, 64, 0, 7, 0⟩
def fLNS_SET_STATUS_STATE : Fld := ⟨0x020108, 64, 0, 63, 60⟩
def fLNS_SET_STATUS_CODE : Fld := ⟨0x020108, 64, 0, 47, 32⟩
def fLNS_SET_STATUS_DETAIL : Fld := ⟨0x020108, 64, 0, 31, 0⟩
def fLNS_SET_T_T : Fld := ⟨0x020110, 64, 0, 63, 0⟩
def fLNS_SET_GEN_CHECKED_GEN : Fld := ⟨0x020118, 64, 0, 63, 0⟩
def fLNS_REPAIR_CFG_AUTO_SUB : Fld := ⟨0x020400, 0, 0, 16, 16⟩
def fLNS_REPAIR_CFG_HANG_US : Fld := ⟨0x020400, 0, 0, 15, 0⟩
def fLNS_LAST_FENCE_CAUSE : Fld := ⟨0x020408, 0, 0, 63, 60⟩
def fLNS_LAST_FENCE_FENCED_NOW : Fld := ⟨0x020408, 0, 0, 47, 32⟩
def fLNS_LAST_FENCE_CORE : Fld := ⟨0x020408, 0, 0, 20, 16⟩
def fLNS_LAST_FENCE_ISLAND : Fld := ⟨0x020408, 0, 0, 8, 0⟩
def fTMB_ERR_CAPTURE_VALID : Fld := ⟨0x030018, 0, 0, 63, 63⟩
def fTMB_ERR_CAPTURE_CODE : Fld := ⟨0x030018, 0, 0, 47, 32⟩
def fTMB_ERR_CAPTURE_OFFSET : Fld := ⟨0x030018, 0, 0, 25, 0⟩
def fTMB_NOW_NS : Fld := ⟨0x030100, 0, 0, 63, 0⟩
def fTMB_WALL_OFFSET_OFFSET : Fld := ⟨0x030108, 0, 0, 63, 0⟩
def fTMB_RATE_PPB : Fld := ⟨0x030110, 0, 0, 31, 0⟩
def fTMB_STATUS_TIME_FAULTS : Fld := ⟨0x030118, 0, 0, 63, 32⟩
def fTMB_STATUS_PTP_LOCKED : Fld := ⟨0x030118, 0, 0, 1, 1⟩
def fTMB_STATUS_WALL_KNOWN : Fld := ⟨0x030118, 0, 0, 0, 0⟩
def fSIG_ERR_CAPTURE_VALID : Fld := ⟨0x040018, 0, 0, 63, 63⟩
def fSIG_ERR_CAPTURE_CODE : Fld := ⟨0x040018, 0, 0, 47, 32⟩
def fSIG_ERR_CAPTURE_OFFSET : Fld := ⟨0x040018, 0, 0, 25, 0⟩
def fSIG_HOST_SLEEP_SLEEP : Fld := ⟨0x040100, 0, 0, 0, 0⟩
def fSIG_STATUS_SUSPENDED : Fld := ⟨0x040108, 0, 0, 63, 63⟩
def fSIG_STATUS_L1_HELD : Fld := ⟨0x040108, 0, 0, 62, 62⟩
def fSIG_STATUS_EVQ_LOST : Fld := ⟨0x040108, 0, 0, 47, 32⟩
def fSIG_STATUS_EVQ_TAIL : Fld := ⟨0x040108, 0, 0, 15, 0⟩
def fSIG_EVQ_BASE_ADDR : Fld := ⟨0x040110, 0, 0, 63, 5⟩
def fSIG_EVQ_CTRL_EN : Fld := ⟨0x040118, 0, 0, 8, 8⟩
def fSIG_EVQ_CTRL_SIZE_LOG2 : Fld := ⟨0x040118, 0, 0, 4, 0⟩
def fSIG_EVQ_HEAD_HEAD : Fld := ⟨0x040120, 0, 0, 15, 0⟩
def fSIG_PEND_SET_PEND : Fld := ⟨0x041000, 8, 0, 63, 0⟩
def fSIG_PEND_CLR_PEND : Fld := ⟨0x041200, 8, 0, 63, 0⟩
def fSIG_ROUTE_EN : Fld := ⟨0x044000, 8, 0, 31, 31⟩
def fSIG_ROUTE_PRIO : Fld := ⟨0x044000, 8, 0, 27, 24⟩
def fSIG_ROUTE_KIND : Fld := ⟨0x044000, 8, 0, 17, 16⟩
def fSIG_ROUTE_TARGET : Fld := ⟨0x044000, 8, 0, 10, 0⟩
def fSIG_COAL_TIME_US : Fld := ⟨0x04C000, 8, 0, 47, 32⟩
def fSIG_COAL_COUNT : Fld := ⟨0x04C000, 8, 0, 7, 0⟩
def fSIG_VEC_CLAIM_VALID : Fld := ⟨0x050000, 8, 0, 63, 63⟩
def fSIG_VEC_CLAIM_SOURCE : Fld := ⟨0x050000, 8, 0, 11, 0⟩
def fKPR_ERR_CAPTURE_VALID : Fld := ⟨0x080018, 0, 0, 63, 63⟩
def fKPR_ERR_CAPTURE_CODE : Fld := ⟨0x080018, 0, 0, 47, 32⟩
def fKPR_ERR_CAPTURE_OFFSET : Fld := ⟨0x080018, 0, 0, 25, 0⟩
def fKPR_STATE_B_RESTARTS : Fld := ⟨0x080100, 0, 0, 63, 48⟩
def fKPR_STATE_A_RESTARTS : Fld := ⟨0x080100, 0, 0, 47, 32⟩
def fKPR_STATE_B_STATE : Fld := ⟨0x080100, 0, 0, 7, 4⟩
def fKPR_STATE_A_STATE : Fld := ⟨0x080100, 0, 0, 3, 0⟩
def fKPR_WDOG_CFG_REPEAT_LIMIT : Fld := ⟨0x080108, 0, 0, 23, 16⟩
def fKPR_WDOG_CFG_TIMEOUT_MS : Fld := ⟨0x080108, 0, 0, 15, 0⟩
def fKPR_HOURS_HOURS : Fld := ⟨0x080110, 0, 0, 47, 16⟩
def fKPR_HOURS_FRAC : Fld := ⟨0x080110, 0, 0, 15, 0⟩
def fKPR_POWER_CYCLES_COUNT : Fld := ⟨0x080118, 0, 0, 31, 0⟩
def fKPR_LOG_STATUS_FULL : Fld := ⟨0x080120, 0, 0, 63, 63⟩
def fKPR_LOG_STATUS_FLASH_A_FAULT : Fld := ⟨0x080120, 0, 0, 62, 62⟩
def fKPR_LOG_STATUS_FLASH_B_FAULT : Fld := ⟨0x080120, 0, 0, 61, 61⟩
def fKPR_LOG_STATUS_PERIOD_H : Fld := ⟨0x080120, 0, 0, 47, 40⟩
def fKPR_LOG_STATUS_STORED : Fld := ⟨0x080120, 0, 0, 14, 0⟩
def fKPR_MCTP_CFG_VDM_EID : Fld := ⟨0x080128, 0, 0, 23, 16⟩
def fKPR_MCTP_CFG_I3C_EID : Fld := ⟨0x080128, 0, 0, 15, 8⟩
def fKPR_MCTP_CFG_W2_EID : Fld := ⟨0x080128, 0, 0, 7, 0⟩
def fKPR_MBOX_CTRL_GO : Fld := ⟨0x080200, 0, 0, 0, 0⟩
def fKPR_MBOX_STATUS_BUSY : Fld := ⟨0x080208, 0, 0, 63, 63⟩
def fKPR_MBOX_STATUS_DONE : Fld := ⟨0x080208, 0, 0, 62, 62⟩
def fKPR_MBOX_STATUS_CODE : Fld := ⟨0x080208, 0, 0, 47, 32⟩
def fKPR_MBOX_STATUS_DETAIL : Fld := ⟨0x080208, 0, 0, 31, 0⟩
def fKPR_MGMT_STATUS_LAST_CODE : Fld := ⟨0x080300, 8, 0, 47, 32⟩
def fKPR_MGMT_STATUS_NO_DATES : Fld := ⟨0x080300, 8, 0, 2, 2⟩
def fKPR_MGMT_STATUS_ADDR_OK : Fld := ⟨0x080300, 8, 0, 1, 1⟩
def fKPR_MGMT_STATUS_UP : Fld := ⟨0x080300, 8, 0, 0, 0⟩
def fKPR_MBOX_DATA_BYTES : Fld := ⟨0x081000, 8, 0, 63, 0⟩
def fKPR_SENSOR_VALID : Fld := ⟨0x084000, 8, 0, 63, 63⟩
def fKPR_SENSOR_CLASS : Fld := ⟨0x084000, 8, 0, 55, 48⟩
def fKPR_SENSOR_AGE_MS : Fld := ⟨0x084000, 8, 0, 47, 32⟩
def fKPR_SENSOR_VALUE : Fld := ⟨0x084000, 8, 0, 31, 0⟩
def fHFE_ERR_CAPTURE_VALID : Fld := ⟨0x100018, 0, 0, 63, 63⟩
def fHFE_ERR_CAPTURE_CODE : Fld := ⟨0x100018, 0, 0, 47, 32⟩
def fHFE_ERR_CAPTURE_OFFSET : Fld := ⟨0x100018, 0, 0, 25, 0⟩
def fHFE_QOS_CFG_CC_RECOVER_US : Fld := ⟨0x100100, 8, 0, 39, 32⟩
def fHFE_QOS_CFG_CC_CUT : Fld := ⟨0x100100, 8, 0, 31, 24⟩
def fHFE_QOS_CFG_ECN_EN : Fld := ⟨0x100100, 8, 0, 16, 16⟩
def fHFE_QOS_CFG_ROCE_PRIO : Fld := ⟨0x100100, 8, 0, 10, 8⟩
def fHFE_QOS_CFG_PFC_MASK : Fld := ⟨0x100100, 8, 0, 7, 0⟩
def fHFE_PTP_CFG_DOMAIN : Fld := ⟨0x100200, 0, 0, 15, 8⟩
def fHFE_PTP_CFG_EN : Fld := ⟨0x100200, 0, 0, 7, 7⟩
def fHFE_PTP_CFG_PORT : Fld := ⟨0x100200, 0, 0, 4, 0⟩
def fHFE_PWR_STATE_CHIP_PS : Fld := ⟨0x100208, 0, 0, 49, 48⟩
def fHFE_PWR_STATE_N_PS0 : Fld := ⟨0x100208, 0, 0, 47, 32⟩
def fHFE_PWR_STATE_N_PS1 : Fld := ⟨0x100208, 0, 0, 31, 16⟩
def fHFE_PWR_STATE_N_PS2 : Fld := ⟨0x100208, 0, 0, 15, 0⟩
def fHFE_OCCUPANCY_QPAIRS : Fld := ⟨0x100210, 0, 0, 58, 40⟩
def fHFE_OCCUPANCY_ASSOC : Fld := ⟨0x100210, 0, 0, 39, 22⟩
def fHFE_OCCUPANCY_CONTEXTS : Fld := ⟨0x100210, 0, 0, 21, 0⟩
def fHFE_SUBNQN_BYTES : Fld := ⟨0x100400, 8, 0, 63, 0⟩
def fHFE_PORT_STATUS_FEC_UNCORR : Fld := ⟨0x101000, 8, 0, 63, 32⟩
def fHFE_PORT_STATUS_LANES : Fld := ⟨0x101000, 8, 0, 11, 8⟩
def fHFE_PORT_STATUS_TYPE : Fld := ⟨0x101000, 8, 0, 3, 1⟩
def fHFE_PORT_STATUS_UP : Fld := ⟨0x101000, 8, 0, 0, 0⟩
def fHFE_LANE_STATUS_SHORT : Fld := ⟨0x101100, 8, 0, 7, 7⟩
def fHFE_LANE_STATUS_OPEN : Fld := ⟨0x101100, 8, 0, 6, 6⟩
def fHFE_LANE_STATUS_RX_INV : Fld := ⟨0x101100, 8, 0, 5, 5⟩
def fHFE_LANE_STATUS_LOGICAL : Fld := ⟨0x101100, 8, 0, 1, 0⟩
def fHFE_IF_WORD : Fld := ⟨0x102000, 8, 0, 63, 0⟩
def fPTL_ERR_CAPTURE_VALID : Fld := ⟨0x200018, 0, 0, 63, 63⟩
def fPTL_ERR_CAPTURE_CODE : Fld := ⟨0x200018, 0, 0, 47, 32⟩
def fPTL_ERR_CAPTURE_OFFSET : Fld := ⟨0x200018, 0, 0, 25, 0⟩
def fPTL_JRING_CFG_HWM_PCT : Fld := ⟨0x200100, 0, 0, 7, 0⟩
def fPTL_JRING_STATUS_ACK_MODE : Fld := ⟨0x200108, 0, 0, 25, 24⟩
def fPTL_JRING_STATUS_MIRROR_FILL : Fld := ⟨0x200108, 0, 0, 15, 8⟩
def fPTL_JRING_STATUS_LOCAL_FILL : Fld := ⟨0x200108, 0, 0, 7, 0⟩
def fPTL_JSEQ_NEXT_JSEQ : Fld := ⟨0x200110, 0, 0, 63, 0⟩
def fPTL_JSEQ_RETIRED_JSEQ : Fld := ⟨0x200118, 0, 0, 63, 0⟩
def fPTL_VERIFY_STATS_LOST : Fld := ⟨0x200200, 0, 0, 63, 48⟩
def fPTL_VERIFY_STATS_REPAIRED : Fld := ⟨0x200200, 0, 0, 47, 32⟩
def fPTL_VERIFY_STATS_RECONSTRUCTED : Fld := ⟨0x200200, 0, 0, 31, 16⟩
def fPTL_VERIFY_STATS_VERIFY_FAIL : Fld := ⟨0x200200, 0, 0, 15, 0⟩
def fPTL_LAST_LOSS_CAUSE : Fld := ⟨0x200208, 0, 0, 63, 60⟩
def fPTL_LAST_LOSS_GRAIN_ID : Fld := ⟨0x200208, 0, 0, 47, 0⟩
def fPTL_RECON_STATUS_REPAIR_QUEUED : Fld := ⟨0x200210, 0, 0, 63, 32⟩
def fPTL_RECON_STATUS_TABLE_PEAK : Fld := ⟨0x200210, 0, 0, 6, 0⟩
def fPTL_TILE_STATUS_LOAD_PCT : Fld := ⟨0x201000, 8, 0, 39, 32⟩
def fPTL_TILE_STATUS_QUEUES : Fld := ⟨0x201000, 8, 0, 31, 16⟩
def fPTL_TILE_STATUS_STATE : Fld := ⟨0x201000, 8, 0, 3, 0⟩
def fMTL_ERR_CAPTURE_VALID : Fld := ⟨0x400018, 0, 0, 63, 63⟩
def fMTL_ERR_CAPTURE_CODE : Fld := ⟨0x400018, 0, 0, 47, 32⟩
def fMTL_ERR_CAPTURE_OFFSET : Fld := ⟨0x400018, 0, 0, 25, 0⟩
def fMTL_REBUILD_CFG_PAUSE : Fld := ⟨0x400100, 0, 0, 24, 24⟩
def fMTL_REBUILD_CFG_RELOCATE_PCT : Fld := ⟨0x400100, 0, 0, 23, 16⟩
def fMTL_REBUILD_CFG_CRIT_PCT : Fld := ⟨0x400100, 0, 0, 15, 8⟩
def fMTL_REBUILD_CFG_MAX_PCT : Fld := ⟨0x400100, 0, 0, 7, 0⟩
def fMTL_REBUILD_STATUS_LEFT_GIB : Fld := ⟨0x400108, 0, 0, 63, 32⟩
def fMTL_REBUILD_STATUS_MODULES : Fld := ⟨0x400108, 0, 0, 31, 24⟩
def fMTL_REBUILD_STATUS_LOSS_OVERFLOW : Fld := ⟨0x400108, 0, 0, 4, 4⟩
def fMTL_REBUILD_STATUS_MIN_R : Fld := ⟨0x400108, 0, 0, 3, 2⟩
def fMTL_REBUILD_STATUS_STATE : Fld := ⟨0x400108, 0, 0, 1, 0⟩
def fMTL_REBUILD_COUNTS_LOSS_ENTRIES : Fld := ⟨0x400110, 0, 0, 44, 24⟩
def fMTL_REBUILD_COUNTS_CRIT_SEGS : Fld := ⟨0x400110, 0, 0, 23, 0⟩
def fMTL_FM_CFG_MARGIN_PCT : Fld := ⟨0x400200, 0, 0, 63, 56⟩
def fMTL_FM_CFG_WL_DELTA_PCT : Fld := ⟨0x400200, 0, 0, 55, 48⟩
def fMTL_FM_CFG_READ_PCT : Fld := ⟨0x400200, 0, 0, 47, 40⟩
def fMTL_FM_CFG_BUF_PCT : Fld := ⟨0x400200, 0, 0, 39, 32⟩
def fMTL_FM_CFG_FOLD_URGENT_PCT : Fld := ⟨0x400200, 0, 0, 31, 24⟩
def fMTL_FM_CFG_FOLD_START_PCT : Fld := ⟨0x400200, 0, 0, 23, 16⟩
def fMTL_FM_CFG_GC_URGENT_PCT : Fld := ⟨0x400200, 0, 0, 15, 8⟩
def fMTL_FM_CFG_GC_START_PCT : Fld := ⟨0x400200, 0, 0, 7, 0⟩
def fMTL_RET_CFG_OFF_UNKNOWN_H : Fld := ⟨0x400208, 0, 0, 63, 48⟩
def fMTL_RET_CFG_WALL_WAIT_S : Fld := ⟨0x400208, 0, 0, 47, 32⟩
def fMTL_RET_CFG_RET_PCT : Fld := ⟨0x400208, 0, 0, 31, 24⟩
def fMTL_FM_STATUS_ONEBIT_FILL : Fld := ⟨0x400210, 0, 0, 63, 56⟩
def fMTL_FM_STATUS_FREE_MIN : Fld := ⟨0x400210, 0, 0, 55, 48⟩
def fMTL_FM_STATUS_RO_DOMAINS : Fld := ⟨0x400210, 0, 0, 47, 40⟩
def fMTL_FM_STATUS_WORN : Fld := ⟨0x400210, 0, 0, 39, 32⟩
def fMTL_FM_STATUS_REFRESH_QUEUED : Fld := ⟨0x400210, 0, 0, 31, 0⟩
def fMTL_RET_STATUS_RET_GUESS : Fld := ⟨0x400218, 0, 0, 63, 63⟩
def fMTL_RET_STATUS_WALL_KNOWN : Fld := ⟨0x400218, 0, 0, 62, 62⟩
def fMTL_RET_STATUS_HOUR : Fld := ⟨0x400218, 0, 0, 31, 0⟩
def fMTL_CKPT_STATUS_AGE_S : Fld := ⟨0x400220, 0, 0, 63, 48⟩
def fMTL_CKPT_STATUS_LOG_MIB : Fld := ⟨0x400220, 0, 0, 47, 32⟩
def fMTL_CKPT_STATUS_COUNT : Fld := ⟨0x400220, 0, 0, 31, 0⟩
def fMTL_LDPC_CFG_SOFT_ITER : Fld := ⟨0x400300, 0, 0, 31, 24⟩
def fMTL_LDPC_CFG_HARD_ITER : Fld := ⟨0x400300, 0, 0, 23, 16⟩
def fMTL_LDPC_CFG_RETRY_MAX : Fld := ⟨0x400300, 0, 0, 11, 8⟩
def fMTL_LDPC_CFG_STICKY : Fld := ⟨0x400300, 0, 0, 0, 0⟩
def fMTL_LDPC_STATS_UNREADABLE : Fld := ⟨0x400308, 0, 0, 63, 48⟩
def fMTL_LDPC_STATS_SOFT_OK : Fld := ⟨0x400308, 0, 0, 47, 32⟩
def fMTL_LDPC_STATS_RETRY_OK : Fld := ⟨0x400308, 0, 0, 31, 0⟩
def fMTL_META_STATUS_CONFLICT_PAGES : Fld := ⟨0x400400, 0, 0, 63, 48⟩
def fMTL_META_STATUS_RELEASE_LEFT : Fld := ⟨0x400400, 0, 0, 47, 16⟩
def fMTL_META_STATUS_LOG_ROWS : Fld := ⟨0x400400, 0, 0, 15, 8⟩
def fMTL_META_STATUS_META_RO : Fld := ⟨0x400400, 0, 0, 0, 0⟩
def fMTL_BG_CFG_REPL_PCT : Fld := ⟨0x400500, 0, 0, 15, 8⟩
def fMTL_BG_CFG_BG_PCT : Fld := ⟨0x400500, 0, 0, 7, 0⟩
def fSML_ERR_CAPTURE_VALID : Fld := ⟨0x600018, 0, 0, 63, 63⟩
def fSML_ERR_CAPTURE_CODE : Fld := ⟨0x600018, 0, 0, 47, 32⟩
def fSML_ERR_CAPTURE_OFFSET : Fld := ⟨0x600018, 0, 0, 25, 0⟩
def fSML_LINK_CFG_LPI_IDLE_US : Fld := ⟨0x600100, 0, 0, 23, 16⟩
def fSML_LINK_CFG_REPLAY_US : Fld := ⟨0x600100, 0, 0, 15, 8⟩
def fSML_LINK_CFG_MAX_RATE : Fld := ⟨0x600100, 0, 0, 0, 0⟩
def fSML_PORT_BIND_BOUND : Fld := ⟨0x601000, 8, 0, 8, 8⟩
def fSML_PORT_BIND_MODULE : Fld := ⟨0x601000, 8, 0, 7, 0⟩
def fSML_PORT_STATUS_GEN : Fld := ⟨0x602000, 8, 0, 63, 32⟩
def fSML_PORT_STATUS_FENCED : Fld := ⟨0x602000, 8, 0, 19, 19⟩
def fSML_PORT_STATUS_WWID_CONFLICT : Fld := ⟨0x602000, 8, 0, 18, 18⟩
def fSML_PORT_STATUS_REMAPPED : Fld := ⟨0x602000, 8, 0, 17, 17⟩
def fSML_PORT_STATUS_FORWARDED : Fld := ⟨0x602000, 8, 0, 16, 16⟩
def fSML_PORT_STATUS_RATE : Fld := ⟨0x602000, 8, 0, 15, 14⟩
def fSML_PORT_STATUS_L1_SHORT : Fld := ⟨0x602000, 8, 0, 13, 13⟩
def fSML_PORT_STATUS_L0_SHORT : Fld := ⟨0x602000, 8, 0, 12, 12⟩
def fSML_PORT_STATUS_L1_OPEN : Fld := ⟨0x602000, 8, 0, 11, 11⟩
def fSML_PORT_STATUS_L0_OPEN : Fld := ⟨0x602000, 8, 0, 10, 10⟩
def fSML_PORT_STATUS_L1_INV : Fld := ⟨0x602000, 8, 0, 9, 9⟩
def fSML_PORT_STATUS_L0_INV : Fld := ⟨0x602000, 8, 0, 8, 8⟩
def fSML_PORT_STATUS_SWAPPED : Fld := ⟨0x602000, 8, 0, 7, 7⟩
def fSML_PORT_STATUS_WIDTH : Fld := ⟨0x602000, 8, 0, 2, 1⟩
def fSML_PORT_STATUS_UP : Fld := ⟨0x602000, 8, 0, 0, 0⟩
def fSML_PORT_ERR_RETRAINS : Fld := ⟨0x603000, 8, 0, 63, 48⟩
def fSML_PORT_ERR_REPLAYS : Fld := ⟨0x603000, 8, 0, 47, 32⟩
def fSML_PORT_ERR_CRC_ERRORS : Fld := ⟨0x603000, 8, 0, 31, 0⟩
def fUBL_ERR_CAPTURE_VALID : Fld := ⟨0x700018, 0, 0, 63, 63⟩
def fUBL_ERR_CAPTURE_CODE : Fld := ⟨0x700018, 0, 0, 47, 32⟩
def fUBL_ERR_CAPTURE_OFFSET : Fld := ⟨0x700018, 0, 0, 25, 0⟩
def fUBL_BEACON_CFG_SEVER_MS : Fld := ⟨0x700100, 0, 0, 63, 48⟩
def fUBL_BEACON_CFG_RACE_DELAY_US : Fld := ⟨0x700100, 0, 0, 47, 32⟩
def fUBL_BEACON_CFG_START_WAIT_S : Fld := ⟨0x700100, 0, 0, 31, 16⟩
def fUBL_BEACON_CFG_REPLAY_US : Fld := ⟨0x700100, 0, 0, 15, 8⟩
def fUBL_BEACON_CFG_LOSS_MS : Fld := ⟨0x700100, 0, 0, 7, 0⟩
def fUBL_PEER_STATE_OWN_GEN : Fld := ⟨0x700108, 0, 0, 63, 32⟩
def fUBL_PEER_STATE_PIN_SHORT : Fld := ⟨0x700108, 0, 0, 7, 7⟩
def fUBL_PEER_STATE_PIN_FAULT : Fld := ⟨0x700108, 0, 0, 6, 6⟩
def fUBL_PEER_STATE_DEGRADED : Fld := ⟨0x700108, 0, 0, 5, 5⟩
def fUBL_PEER_STATE_HEAD : Fld := ⟨0x700108, 0, 0, 4, 4⟩
def fUBL_PEER_STATE_STATE : Fld := ⟨0x700108, 0, 0, 3, 0⟩
def fUBL_PAIR_OFFSET_OFFSET : Fld := ⟨0x700110, 0, 0, 63, 0⟩
def fUBL_LEASE_STATUS_WON : Fld := ⟨0x700118, 0, 0, 63, 48⟩
def fUBL_LEASE_STATUS_LOST : Fld := ⟨0x700118, 0, 0, 47, 32⟩
def fUBL_LEASE_STATUS_N : Fld := ⟨0x700118, 0, 0, 31, 16⟩
def fUBL_LEASE_STATUS_LEASE : Fld := ⟨0x700118, 0, 0, 1, 0⟩
def fUBL_GROUP_STATUS_REPLAYS : Fld := ⟨0x700200, 8, 0, 63, 32⟩
def fUBL_GROUP_STATUS_LANE_FAULT : Fld := ⟨0x700200, 8, 0, 31, 16⟩
def fUBL_GROUP_STATUS_LANE_INV : Fld := ⟨0x700200, 8, 0, 15, 8⟩
def fUBL_GROUP_STATUS_HEAD_CONFLICT : Fld := ⟨0x700200, 8, 0, 7, 7⟩
def fUBL_GROUP_STATUS_MISWIRED : Fld := ⟨0x700200, 8, 0, 6, 6⟩
def fUBL_GROUP_STATUS_SWAPPED : Fld := ⟨0x700200, 8, 0, 5, 5⟩
def fUBL_GROUP_STATUS_HEARD : Fld := ⟨0x700200, 8, 0, 4, 4⟩
def fUBL_GROUP_STATUS_WIDTH : Fld := ⟨0x700200, 8, 0, 3, 2⟩
def fUBL_GROUP_STATUS_UP : Fld := ⟨0x700200, 8, 0, 0, 0⟩
def fMEM_ERR_CAPTURE_VALID : Fld := ⟨0x800018, 0, 0, 63, 63⟩
def fMEM_ERR_CAPTURE_CODE : Fld := ⟨0x800018, 0, 0, 47, 32⟩
def fMEM_ERR_CAPTURE_OFFSET : Fld := ⟨0x800018, 0, 0, 25, 0⟩
def fMEM_CONFIG_DIMM_GIB : Fld := ⟨0x800100, 0, 0, 39, 32⟩
def fMEM_CONFIG_RATE_MTS : Fld := ⟨0x800100, 0, 0, 31, 16⟩
def fMEM_CONFIG_RANKS : Fld := ⟨0x800100, 0, 0, 7, 4⟩
def fMEM_CONFIG_DPC : Fld := ⟨0x800100, 0, 0, 1, 0⟩
def fMEM_FILL_STATUS_DONE : Fld := ⟨0x800108, 0, 0, 63, 63⟩
def fMEM_FILL_STATUS_FILLED_GIB : Fld := ⟨0x800108, 0, 0, 31, 0⟩
def fMEM_SCRUB_CFG_BG_PERIOD_H : Fld := ⟨0x800110, 0, 0, 23, 16⟩
def fMEM_SCRUB_CFG_JOB_RATE : Fld := ⟨0x800110, 0, 0, 7, 0⟩
def fMEM_SCRUB_STATUS_BG_PASSES : Fld := ⟨0x800118, 0, 0, 63, 32⟩
def fMEM_SCRUB_STATUS_JOBS : Fld := ⟨0x800118, 0, 0, 10, 8⟩
def fMEM_SCRUB_STATUS_BG_PCT : Fld := ⟨0x800118, 0, 0, 7, 0⟩
def fMEM_UE_LOG_VALID : Fld := ⟨0x800200, 0, 0, 63, 63⟩
def fMEM_UE_LOG_WRITER_POISON : Fld := ⟨0x800200, 0, 0, 62, 62⟩
def fMEM_UE_LOG_SOURCE : Fld := ⟨0x800200, 0, 0, 61, 56⟩
def fMEM_UE_LOG_ADDR : Fld := ⟨0x800200, 0, 0, 41, 0⟩
def fMEM_CH_STATUS_CORRECTED : Fld := ⟨0x801000, 8, 0, 63, 32⟩
def fMEM_CH_STATUS_UNCORR : Fld := ⟨0x801000, 8, 0, 31, 16⟩
def fMEM_CH_STATUS_STATE : Fld := ⟨0x801000, 8, 0, 1, 0⟩
def fMEM_BUCKET_CFG_INTERVAL_MS : Fld := ⟨0x802000, 8, 0, 63, 32⟩
def fMEM_BUCKET_CFG_THRESHOLD : Fld := ⟨0x802000, 8, 0, 15, 0⟩
def fMEM_BUCKET_STATUS_OVERFLOWS : Fld := ⟨0x802100, 8, 0, 63, 32⟩
def fMEM_BUCKET_STATUS_OVER : Fld := ⟨0x802100, 8, 0, 16, 16⟩
def fMEM_BUCKET_STATUS_COUNT : Fld := ⟨0x802100, 8, 0, 15, 0⟩
def fMCC_ERR_CAPTURE_VALID : Fld := ⟨0x900018, 0, 0, 63, 63⟩
def fMCC_ERR_CAPTURE_CODE : Fld := ⟨0x900018, 0, 0, 47, 32⟩
def fMCC_ERR_CAPTURE_OFFSET : Fld := ⟨0x900018, 0, 0, 25, 0⟩
def fMCC_STATS_HIT_PCT : Fld := ⟨0x900100, 0, 0, 63, 56⟩
def fMCC_STATS_VICTIM_RECALLS : Fld := ⟨0x900100, 0, 0, 47, 24⟩
def fMCC_STATS_WB_FORWARDS : Fld := ⟨0x900100, 0, 0, 23, 0⟩
def fMCC_SIEVE_STATUS_FAULT_BANKS : Fld := ⟨0x900200, 0, 0, 43, 40⟩
def fMCC_SIEVE_STATUS_RESIDENT : Fld := ⟨0x900200, 0, 0, 39, 8⟩
def fMCC_SIEVE_STATUS_PARTITIONS : Fld := ⟨0x900200, 0, 0, 4, 0⟩
def fMCC_CTRL_SCRATCH_WAYS : Fld := ⟨0x901000, 8, 0, 11, 8⟩
def fMCC_CTRL_STATE : Fld := ⟨0x901000, 8, 0, 2, 1⟩
def fMCC_CTRL_ENABLE : Fld := ⟨0x901000, 8, 0, 0, 0⟩
def fCRY_ERR_CAPTURE_VALID : Fld := ⟨0xA00018, 0, 0, 63, 63⟩
def fCRY_ERR_CAPTURE_CODE : Fld := ⟨0xA00018, 0, 0, 47, 32⟩
def fCRY_ERR_CAPTURE_OFFSET : Fld := ⟨0xA00018, 0, 0, 25, 0⟩
def fCRY_CFG_IDLE_S : Fld := ⟨0xA00100, 0, 0, 47, 32⟩
def fCRY_CFG_ERASE_TIMEOUT_MS : Fld := ⟨0xA00100, 0, 0, 15, 0⟩
def fCRY_STATUS_HOLD_BUSY : Fld := ⟨0xA00108, 0, 0, 40, 40⟩
def fCRY_STATUS_CIPH_FREE : Fld := ⟨0xA00108, 0, 0, 39, 28⟩
def fCRY_STATUS_DIG_FREE : Fld := ⟨0xA00108, 0, 0, 11, 0⟩
def fCRY_SINGLE_EXPECT_BYTES : Fld := ⟨0xA00800, 64, 8, 63, 0⟩
def fCRY_CH_RING_ADDR : Fld := ⟨0xA01000, 256, 0, 63, 6⟩
def fCRY_CH_CPL_ADDR : Fld := ⟨0xA01008, 256, 0, 63, 5⟩
def fCRY_CH_CTRL_EN : Fld := ⟨0xA01010, 256, 0, 8, 8⟩
def fCRY_CH_CTRL_SIZE_LOG2 : Fld := ⟨0xA01010, 256, 0, 4, 0⟩
def fCRY_CH_TAIL_TAIL : Fld := ⟨0xA01018, 256, 0, 15, 0⟩
def fCRY_CH_STATUS_FAULT : Fld := ⟨0xA01020, 256, 0, 31, 31⟩
def fCRY_CH_STATUS_PHASE : Fld := ⟨0xA01020, 256, 0, 16, 16⟩
def fCRY_CH_STATUS_HEAD : Fld := ⟨0xA01020, 256, 0, 15, 0⟩
def fDIG_CTX_STATUS_STATE : Fld := ⟨0xA40000, 256, 0, 63, 60⟩
def fDIG_CTX_STATUS_OWNER : Fld := ⟨0xA40000, 256, 0, 59, 56⟩
def fDIG_CTX_STATUS_SERIAL : Fld := ⟨0xA40000, 256, 0, 55, 52⟩
def fDIG_CTX_STATUS_CODE : Fld := ⟨0xA40000, 256, 0, 47, 32⟩
def fDIG_CTX_STATUS_MODE : Fld := ⟨0xA40000, 256, 0, 7, 0⟩
def fDIG_LAST_WORD_WORD : Fld := ⟨0xA40008, 256, 0, 63, 0⟩
def fDIG_LAST_COUNT_COUNT : Fld := ⟨0xA40010, 256, 0, 3, 0⟩
def fDIG_CTX_CTRL_RELEASE : Fld := ⟨0xA40018, 256, 0, 0, 0⟩
def fDIG_RESULT_BYTES : Fld := ⟨0xA40040, 256, 8, 63, 0⟩
def fDIG_EXPECT_BYTES : Fld := ⟨0xA40080, 256, 8, 63, 0⟩
def fCMP_ERR_CAPTURE_VALID : Fld := ⟨0xC00018, 0, 0, 63, 63⟩
def fCMP_ERR_CAPTURE_CODE : Fld := ⟨0xC00018, 0, 0, 47, 32⟩
def fCMP_ERR_CAPTURE_OFFSET : Fld := ⟨0xC00018, 0, 0, 25, 0⟩
def fCMP_CFG_SHARE_PCT : Fld := ⟨0xC00100, 0, 0, 7, 0⟩
def fCMP_STATUS_RESTARTS : Fld := ⟨0xC00108, 0, 0, 63, 32⟩
def fCMP_STATUS_RUNNING : Fld := ⟨0xC00108, 0, 0, 4, 0⟩
def fCMP_CH_RING_ADDR : Fld := ⟨0xC01000, 256, 0, 63, 6⟩
def fCMP_CH_CPL_ADDR : Fld := ⟨0xC01008, 256, 0, 63, 5⟩
def fCMP_CH_CTRL_EN : Fld := ⟨0xC01010, 256, 0, 8, 8⟩
def fCMP_CH_CTRL_SIZE_LOG2 : Fld := ⟨0xC01010, 256, 0, 4, 0⟩
def fCMP_CH_TAIL_TAIL : Fld := ⟨0xC01018, 256, 0, 15, 0⟩
def fCMP_CH_STATUS_FAULT : Fld := ⟨0xC01020, 256, 0, 31, 31⟩
def fCMP_CH_STATUS_PHASE : Fld := ⟨0xC01020, 256, 0, 16, 16⟩
def fCMP_CH_STATUS_HEAD : Fld := ⟨0xC01020, 256, 0, 15, 0⟩
def fPAT_ERR_CAPTURE_VALID : Fld := ⟨0xD00018, 0, 0, 63, 63⟩
def fPAT_ERR_CAPTURE_CODE : Fld := ⟨0xD00018, 0, 0, 47, 32⟩
def fPAT_ERR_CAPTURE_OFFSET : Fld := ⟨0xD00018, 0, 0, 25, 0⟩
def fPAT_CFG_INLINE_EN : Fld := ⟨0xD00100, 0, 0, 1, 1⟩
def fPAT_CFG_BANK : Fld := ⟨0xD00100, 0, 0, 0, 0⟩
def fPAT_LOAD_ADDR_ADDR : Fld := ⟨0xD00108, 0, 0, 63, 6⟩
def fPAT_LOAD_CTRL_GO : Fld := ⟨0xD00110, 0, 0, 63, 63⟩
def fPAT_LOAD_CTRL_LEN : Fld := ⟨0xD00110, 0, 0, 23, 0⟩
def fPAT_LOAD_STATUS_BUSY : Fld := ⟨0xD00118, 0, 0, 63, 63⟩
def fPAT_LOAD_STATUS_VALID : Fld := ⟨0xD00118, 0, 0, 62, 62⟩
def fPAT_LOAD_STATUS_CODE : Fld := ⟨0xD00118, 0, 0, 47, 32⟩
def fPAT_LOAD_STATUS_PATTERNS : Fld := ⟨0xD00118, 0, 0, 11, 0⟩
def fPAT_STATUS_UNSCANNED : Fld := ⟨0xD00120, 0, 0, 63, 32⟩
def fPAT_STATUS_RATE_STEP : Fld := ⟨0xD00120, 0, 0, 2, 1⟩
def fPAT_STATUS_LIVE_BANK : Fld := ⟨0xD00120, 0, 0, 0, 0⟩
def fPAT_CH_RING_ADDR : Fld := ⟨0xD01000, 256, 0, 63, 6⟩
def fPAT_CH_CPL_ADDR : Fld := ⟨0xD01008, 256, 0, 63, 5⟩
def fPAT_CH_CTRL_EN : Fld := ⟨0xD01010, 256, 0, 8, 8⟩
def fPAT_CH_CTRL_SIZE_LOG2 : Fld := ⟨0xD01010, 256, 0, 4, 0⟩
def fPAT_CH_TAIL_TAIL : Fld := ⟨0xD01018, 256, 0, 15, 0⟩
def fPAT_CH_STATUS_FAULT : Fld := ⟨0xD01020, 256, 0, 31, 31⟩
def fPAT_CH_STATUS_PHASE : Fld := ⟨0xD01020, 256, 0, 16, 16⟩
def fPAT_CH_STATUS_HEAD : Fld := ⟨0xD01020, 256, 0, 15, 0⟩
def fPAT_HITS_HITS : Fld := ⟨0xD10000, 8, 0, 63, 0⟩
def fHUP_ERR_CAPTURE_VALID : Fld := ⟨0xE00018, 0, 0, 63, 63⟩
def fHUP_ERR_CAPTURE_CODE : Fld := ⟨0xE00018, 0, 0, 47, 32⟩
def fHUP_ERR_CAPTURE_OFFSET : Fld := ⟨0xE00018, 0, 0, 25, 0⟩
def fHUP_CFG_TEST_INTERVAL_H : Fld := ⟨0xE00100, 0, 0, 31, 16⟩
def fHUP_CFG_VAULT_MODS : Fld := ⟨0xE00100, 0, 0, 4, 0⟩
def fHUP_STORE_CFG_ARM_J : Fld := ⟨0xE00108, 0, 0, 63, 48⟩
def fHUP_STORE_CFG_C_RATED : Fld := ⟨0xE00108, 0, 0, 47, 32⟩
def fHUP_STORE_CFG_V_MIN_MV : Fld := ⟨0xE00108, 0, 0, 31, 16⟩
def fHUP_STORE_CFG_V_FULL_MV : Fld := ⟨0xE00108, 0, 0, 15, 0⟩
def fHUP_SENSE_CFG_TEST_DROP_MV : Fld := ⟨0xE00110, 0, 0, 47, 32⟩
def fHUP_SENSE_CFG_I_TEST_MA : Fld := ⟨0xE00110, 0, 0, 31, 16⟩
def fHUP_SENSE_CFG_RATIO : Fld := ⟨0xE00110, 0, 0, 15, 0⟩
def fHUP_STATUS_UNCONFIGURED : Fld := ⟨0xE00118, 0, 0, 16, 16⟩
def fHUP_STATUS_COUNTERS_PARTIAL : Fld := ⟨0xE00118, 0, 0, 15, 15⟩
def fHUP_STATUS_TEST_SHORT : Fld := ⟨0xE00118, 0, 0, 14, 14⟩
def fHUP_STATUS_TEST_OFF : Fld := ⟨0xE00118, 0, 0, 13, 13⟩
def fHUP_STATUS_SHORT : Fld := ⟨0xE00118, 0, 0, 12, 12⟩
def fHUP_STATUS_OPEN : Fld := ⟨0xE00118, 0, 0, 11, 11⟩
def fHUP_STATUS_REVERSED : Fld := ⟨0xE00118, 0, 0, 10, 10⟩
def fHUP_STATUS_VAULT_READY : Fld := ⟨0xE00118, 0, 0, 9, 9⟩
def fHUP_STATUS_ARMED : Fld := ⟨0xE00118, 0, 0, 8, 8⟩
def fHUP_STATUS_STATE : Fld := ⟨0xE00118, 0, 0, 2, 0⟩
def fHUP_MEAS_E_J : Fld := ⟨0xE00120, 0, 0, 63, 48⟩
def fHUP_MEAS_C_MEAS : Fld := ⟨0xE00120, 0, 0, 47, 32⟩
def fHUP_MEAS_V_MV : Fld := ⟨0xE00120, 0, 0, 15, 0⟩
def fHUP_VAULT_STATUS_PAGES : Fld := ⟨0xE00128, 0, 0, 63, 32⟩
def fHUP_VAULT_STATUS_RESTORED : Fld := ⟨0xE00128, 0, 0, 3, 2⟩
def fHUP_VAULT_STATUS_COPY_USED : Fld := ⟨0xE00128, 0, 0, 1, 0⟩
def fPWR_ERR_CAPTURE_VALID : Fld := ⟨0xE10018, 0, 0, 63, 63⟩
def fPWR_ERR_CAPTURE_CODE : Fld := ⟨0xE10018, 0, 0, 47, 32⟩
def fPWR_ERR_CAPTURE_OFFSET : Fld := ⟨0xE10018, 0, 0, 25, 0⟩
def fPWR_AVS_STATUS_HELD : Fld := ⟨0xE10100, 0, 0, 33, 33⟩
def fPWR_AVS_STATUS_CEILING : Fld := ⟨0xE10100, 0, 0, 32, 32⟩
def fPWR_AVS_STATUS_TARGET_MV10 : Fld := ⟨0xE10100, 0, 0, 15, 0⟩
def fPWR_THERM_CFG_AUTO_START : Fld := ⟨0xE10108, 0, 0, 0, 0⟩
def fPWR_THERM_STATUS_TRIPPED : Fld := ⟨0xE10110, 0, 0, 63, 63⟩
def fPWR_THERM_STATUS_TRIP_SENSOR : Fld := ⟨0xE10110, 0, 0, 55, 48⟩
def fPWR_THERM_STATUS_PT_STEP : Fld := ⟨0xE10110, 0, 0, 33, 32⟩
def fPWR_THERM_STATUS_JUNCTION : Fld := ⟨0xE10110, 0, 0, 15, 0⟩
def fPWR_DOMAIN_STATUS_DEEP_PARKS : Fld := ⟨0xE11000, 8, 0, 63, 32⟩
def fPWR_DOMAIN_STATUS_MODE : Fld := ⟨0xE11000, 8, 0, 9, 8⟩
def fPWR_DOMAIN_STATUS_STATE : Fld := ⟨0xE11000, 8, 0, 2, 0⟩
def fPWR_ISLAND_FREQ_STRETCHES : Fld := ⟨0xE12000, 8, 0, 63, 32⟩
def fPWR_ISLAND_FREQ_PLANNED : Fld := ⟨0xE12000, 8, 0, 15, 8⟩
def fPWR_ISLAND_FREQ_NOW : Fld := ⟨0xE12000, 8, 0, 7, 0⟩

/-- Piece 1 of the register map. -/
def table0 : List RegDef :=
  [GLB_ERR_CAPTURE, GLB_ERR_SUMMARY, GLB_BAR2_ERR, GLB_FOG_CAUSE, GLB_FOG_STATUS, GLB_BOARD_STATUS, GLB_GPIO, TSK_WIN_STATE, TSK_ERR_CAPTURE, TSK_OPCODE, TSK_ARG, TSK_GO, TSK_STATUS, TSK_RES, TSK_BULK_ADDR, TSK_BULK_CTRL]

/-- Piece 2 of the register map. -/
def table1 : List RegDef :=
  [TSK_NONCE, TSK_TOKEN, LNS_STAGE_SELECT, LNS_LIVE_GEN, LNS_SECTOR_STATE, LNS_ERR_CAPTURE, LNS_SECTOR_LENS, LNS_SET_CTRL, LNS_SET_STATUS, LNS_SET_T, LNS_SET_GEN, LNS_REPAIR_CFG, LNS_LAST_FENCE, TMB_ERR_CAPTURE, TMB_NOW, TMB_WALL_OFFSET]

/-- Piece 3 of the register map. -/
def table2 : List RegDef :=
  [TMB_RATE, TMB_STATUS, SIG_ERR_CAPTURE, SIG_HOST_SLEEP, SIG_STATUS, SIG_EVQ_BASE, SIG_EVQ_CTRL, SIG_EVQ_HEAD, SIG_PEND_SET, SIG_PEND_CLR, SIG_ROUTE, SIG_COAL, SIG_VEC_CLAIM, KPR_ERR_CAPTURE, KPR_STATE, KPR_WDOG_CFG]

/-- Piece 4 of the register map. -/
def table3 : List RegDef :=
  [KPR_HOURS, KPR_POWER_CYCLES, KPR_LOG_STATUS, KPR_MCTP_CFG, KPR_MBOX_CTRL, KPR_MBOX_STATUS, KPR_MGMT_STATUS, KPR_MBOX_DATA, KPR_SENSOR, HFE_ERR_CAPTURE, HFE_QOS_CFG, HFE_PTP_CFG, HFE_PWR_STATE, HFE_OCCUPANCY, HFE_SUBNQN, HFE_PORT_STATUS]

/-- Piece 5 of the register map. -/
def table4 : List RegDef :=
  [HFE_LANE_STATUS, HFE_IF, PTL_ERR_CAPTURE, PTL_JRING_CFG, PTL_JRING_STATUS, PTL_JSEQ_NEXT, PTL_JSEQ_RETIRED, PTL_VERIFY_STATS, PTL_LAST_LOSS, PTL_RECON_STATUS, PTL_TILE_STATUS, MTL_ERR_CAPTURE, MTL_REBUILD_CFG, MTL_REBUILD_STATUS, MTL_REBUILD_COUNTS, MTL_FM_CFG]

/-- Piece 6 of the register map. -/
def table5 : List RegDef :=
  [MTL_RET_CFG, MTL_FM_STATUS, MTL_RET_STATUS, MTL_CKPT_STATUS, MTL_LDPC_CFG, MTL_LDPC_STATS, MTL_META_STATUS, MTL_BG_CFG, SML_ERR_CAPTURE, SML_LINK_CFG, SML_PORT_BIND, SML_PORT_STATUS, SML_PORT_ERR, UBL_ERR_CAPTURE, UBL_BEACON_CFG, UBL_PEER_STATE]

/-- Piece 7 of the register map. -/
def table6 : List RegDef :=
  [UBL_PAIR_OFFSET, UBL_LEASE_STATUS, UBL_GROUP_STATUS, MEM_ERR_CAPTURE, MEM_CONFIG, MEM_FILL_STATUS, MEM_SCRUB_CFG, MEM_SCRUB_STATUS, MEM_UE_LOG, MEM_CH_STATUS, MEM_BUCKET_CFG, MEM_BUCKET_STATUS, MCC_ERR_CAPTURE, MCC_STATS, MCC_SIEVE_STATUS, MCC_CTRL]

/-- Piece 8 of the register map. -/
def table7 : List RegDef :=
  [CRY_ERR_CAPTURE, CRY_CFG, CRY_STATUS, CRY_SINGLE_EXPECT, CRY_CH_RING, CRY_CH_CPL, CRY_CH_CTRL, CRY_CH_TAIL, CRY_CH_STATUS, DIG_CTX_STATUS, DIG_LAST_WORD, DIG_LAST_COUNT, DIG_CTX_CTRL, DIG_RESULT, DIG_EXPECT, CMP_ERR_CAPTURE]

/-- Piece 9 of the register map. -/
def table8 : List RegDef :=
  [CMP_CFG, CMP_STATUS, CMP_CH_RING, CMP_CH_CPL, CMP_CH_CTRL, CMP_CH_TAIL, CMP_CH_STATUS, PAT_ERR_CAPTURE, PAT_CFG, PAT_LOAD_ADDR, PAT_LOAD_CTRL, PAT_LOAD_STATUS, PAT_STATUS, PAT_CH_RING, PAT_CH_CPL, PAT_CH_CTRL]

/-- Piece 10 of the register map. -/
def table9 : List RegDef :=
  [PAT_CH_TAIL, PAT_CH_STATUS, PAT_HITS, HUP_ERR_CAPTURE, HUP_CFG, HUP_STORE_CFG, HUP_SENSE_CFG, HUP_STATUS, HUP_MEAS, HUP_VAULT_STATUS, PWR_ERR_CAPTURE, PWR_AVS_STATUS, PWR_THERM_CFG, PWR_THERM_STATUS, PWR_DOMAIN_STATUS, PWR_ISLAND_FREQ]

/-- The register map, offsets of the first registers rising. -/
def table : List RegDef :=
  table0 ++ table1 ++ table2 ++ table3 ++ table4 ++ table5 ++ table6 ++ table7 ++ table8 ++ table9

end Reg

/-- `off` is one of the registers of `d`. -/
def RegDef.holds (d : RegDef) (off : Nat) : Bool :=
  let r := off - d.base
  let i := if d.stride = 0 then 0 else r / d.stride
  let j := if d.stride2 = 0 then 0 else (r - i * d.stride) / d.stride2
  decide (d.base ≤ off) && decide (i < d.count) && decide (j < d.count2) &&
    decide (i * d.stride + j * d.stride2 = r)

/-- The register at `off`, if the spec gives one there. -/
def regAt (off : Nat) : Option RegDef := Reg.table.find? (·.holds off)

/-- A field's value within a word. -/
def bits (w : Word) (hi lo : Nat) : Nat := (w.toNat >>> lo) % 2 ^ (hi + 1 - lo)

/-- `w` with bits `hi` to `lo` set to `v`. -/
def setBits (w : Word) (hi lo v : Nat) : Word :=
  let m : Nat := (2 ^ (hi + 1 - lo) - 1) <<< lo
  (w &&& ~~~ BitVec.ofNat 64 m) ||| BitVec.ofNat 64 ((v % 2 ^ (hi + 1 - lo)) <<< lo)

/-- The reset value of a register. -/
def RegDef.reset (d : RegDef) : Word := d.fields.foldl (fun w f => setBits w f.hi f.lo f.rst) 0

/-- The reset value at an offset; a reserved offset reads zero (00 R9). -/
def resetWord (off : Nat) : Word := ((regAt off).map RegDef.reset).getD 0

end Sys2Proof.Machine
end

