-- ==== Sys2Proof/Machine/Ops.lean ====
section
/-!
DEFINITION. The named operations over the state: lists, BAR0 registers and their views, scratch memory, time, free values, what is sent.
-/
namespace Sys2Proof.Machine

/-! ## Lists kept by a key -/

/-- Replace the entry with `x`'s key, or add `x` at the end. -/
def putBy {α : Type} (key : α → Nat) (x : α) : List α → List α
  | [] => [x]
  | y :: t => if key y = key x then x :: t else y :: putBy key x t

/-- Entry `n` of a list becomes `x`; entries that the list does not have count as `d`. -/
def putNth {α : Type} (d x : α) : Nat → List α → List α
  | 0, [] => [x]
  | 0, _ :: t => x :: t
  | n + 1, [] => d :: putNth d x n []
  | n + 1, y :: t => y :: putNth d x n t

/-- The value under `k`, or `d`. -/
def lookupD {β : Type} (d : β) (k : Nat) : List (Nat × β) → β
  | [] => d
  | (a, b) :: t => if a = k then b else lookupD d k t

/-- Set the value under `k`. -/
def setKey {β : Type} (k : Nat) (v : β) (l : List (Nat × β)) : List (Nat × β) := putBy Prod.fst (k, v) l

/-- Change every entry that satisfies `p`. -/
def updateIf {α : Type} (p : α → Bool) (f : α → α) (l : List α) : List α := l.map fun x => if p x then f x else x

/-- Add `n` to an ascending list of numbers without repeats. -/
def insertNat (n : Nat) : List Nat → List Nat
  | [] => [n]
  | m :: t => if n < m then n :: m :: t else if n = m then m :: t else m :: insertNat n t

/-- The least of a list by a measure, the first among equals. -/
def leastBy {α : Type} (f : α → Nat) : List α → Option α
  | [] => none
  | x :: t => match leastBy f t with
    | none => some x
    | some y => if f y < f x then some y else some x

/-- `a + b` held at `top`: a saturating count. -/
def satAdd (top a b : Nat) : Nat := min top (a + b)

/-- `n` of `d` in per cent, 0 for nothing of nothing. -/
def pct (n d : Nat) : Nat := if d = 0 then 0 else n * 100 / d

/-! ## Sparse data: a list of keys and values in one canonical form -/

/-- The value at a key: the listed one, or the default `d` gives it. -/
def readAt {β : Type} (d : Nat → β) (k : Nat) : List (Nat × β) → β
  | [] => d k
  | (a, v) :: t => if a = k then v else readAt d k t

/-- Put a value in its place among rising keys. -/
def insertAt {β : Type} (k : Nat) (v : β) : List (Nat × β) → List (Nat × β)
  | [] => [(k, v)]
  | (a, x) :: t => if k < a then (k, v) :: (a, x) :: t else if k = a then (k, v) :: t else (a, x) :: insertAt k v t

/-- Store a value at a key; storing the default removes the entry. -/
def storeAt {β : Type} [DecidableEq β] (d : Nat → β) (k : Nat) (v : β) (l : List (Nat × β)) : List (Nat × β) :=
  if v = d k then l.filter (fun e => e.1 != k) else insertAt k v l

/-- The one canonical form: keys strictly rising, no entry equal to its default. -/
def canon {β : Type} [DecidableEq β] (d : Nat → β) (l : List (Nat × β)) : Bool :=
  decide (l.Pairwise fun a b => a.1 < b.1) && l.all fun e => e.2 ≠ d e.1

/-! ## BAR0 registers -/

/-- Put a register's word into the list, offsets kept rising, no entry equal to its reset value. -/
def putReg (off : Nat) (w : Word) (l : List (Nat × Word)) : List (Nat × Word) := storeAt resetWord off w l

/-- The word at an offset: the listed one, or the reset value. -/
def wordAt (off : Nat) (l : List (Nat × Word)) : Word := readAt resetWord off l

/-- The register list is in its one canonical form. -/
def regsWf (l : List (Nat × Word)) : Bool := canon resetWord l

/-- The stored word of a register. -/
def State.word (s : State) (off : Nat) : Word := wordAt off s.regs

/-- Store a register's word. -/
def State.setWord (s : State) (off : Nat) (w : Word) : State := { s with regs := putReg off w s.regs }

/-- The offset of a field's register for indexes `i` and `j`. -/
def Fld.off (f : Fld) (i j : Nat) : Nat := f.base + f.stride * i + f.stride2 * j

/-- The stored value of a field. -/
def State.fld (s : State) (f : Fld) (i : Nat := 0) (j : Nat := 0) : Nat := bits (s.word (f.off i j)) f.hi f.lo

/-- Store a field. -/
def State.setFld (s : State) (f : Fld) (v : Nat) (i : Nat := 0) (j : Nat := 0) : State :=
  s.setWord (f.off i j) (setBits (s.word (f.off i j)) f.hi f.lo v)

/-- A one-bit field as a Bool. -/
def State.flag (s : State) (f : Fld) (i : Nat := 0) (j : Nat := 0) : Bool := s.fld f i j == 1

/-- Store a one-bit field. -/
def State.setFlag (s : State) (f : Fld) (b : Bool) (i : Nat := 0) (j : Nat := 0) : State :=
  s.setFld f (if b then 1 else 0) i j

/-- Add to a counting field, saturating at its width. -/
def State.bump (s : State) (f : Fld) (n : Nat := 1) (i : Nat := 0) (j : Nat := 0) : State :=
  s.setFld f (satAdd (2 ^ (f.hi + 1 - f.lo) - 1) (s.fld f i j) n) i j

/-- A signed number in `w` bits, two's complement. -/
def signed (w n : Nat) : Int := if n < 2 ^ (w - 1) then n else (n : Int) - 2 ^ w

/-- A signed number as its two's complement field of `w` bits. -/
def unsigned (w : Nat) (i : Int) : Nat := (i % (2 ^ w : Nat)).toNat

/-! ## Time -/

/-- One millisecond, one microsecond, one second, one hour in ns (00 R4). -/
def us : Nat := 1000
def ms : Nat := 1000000
def sec : Nat := 1000000000
def hour : Nat := 3600 * sec

/-- The timebase reaches `t`; it never runs back. Operating time and trial time run with it while the chip domain is out of reset (17 R419, 19 R468). -/
def State.reach (s : State) (t : Nat) : State :=
  let d := t - s.now
  if s.boot.inReset then { s with now := max s.now t } else
  { s with now := max s.now t,
           kpr := { s.kpr with opNs := s.kpr.opNs + d },
           boot := { s.boot with ptr := if s.boot.ptr.trial || s.boot.ptr.lensTrial
                                        then { s.boot.ptr with trialNs := s.boot.ptr.trialNs + d } else s.boot.ptr } }

/-- Operating time in 1/65,536 h, as KPR_HOURS shows it (17 R419). -/
def State.opTicks (s : State) : Nat := s.kpr.opNs * 65536 / hour

/-- Whole operating hours. -/
def State.opHours (s : State) : Nat := s.kpr.opNs / hour

/-- The wall-clock in ns: timebase plus TMB_WALL_OFFSET, if WALL_KNOWN (21 R502). -/
def State.wall (s : State) : Option Nat :=
  if s.flag Reg.fTMB_STATUS_WALL_KNOWN then
    some ((s.now : Int) + signed 64 (s.fld Reg.fTMB_WALL_OFFSET_OFFSET)).toNat
  else none

/-- The chip serves: its domain is out of reset and the Bardar has not shut down (12 R310, 22 R514, R516). -/
def State.up (s : State) : Bool := !s.boot.inReset && !s.hup.shutdown

/-- The next state of a command that acts only while the chip serves. -/
def act (f : State → State) (s : State) : Host.Outcome State Fault Refusal := .next (if s.up then f s else s)

/-! ## What leaves the part, free values -/

/-- The message class of what goes to the partner (11 Table 11.3); none for what leaves the part elsewhere, and for classes 0 and 1. -/
def ubClass : Output → Option Nat
  | .prepare _ _ | .ownAck _ | .ownGo _ | .ownAbort _ | .drained _ _ | .rsvUpdate _ _ _ | .rsvAck _ => some 2
  | .mirrorRec _ | .recAck _ _ | .retire _ | .fetch _ => some 3
  | .logPage _ _ | .remoteDelta _ _ _ | .remoteAck _ _ | .pageRsp _ _ | .counters _ => some 4
  | .fwdCmd _ _ | .fwdCpl _ _ _ | .fwdData _ _ _ | .fwdAbort _ | .abortRsp _ _ => some 5
  | .mediaCmd _ _ _ | .mediaRsp _ _ => some 6
  | .ckptPage _ _ | .ringCopy _ | .admitDone _ => some 7
  | _ => none

/-- Frames of a message: fragments of at most 16,384 bytes; all but records and write data fit one (11 R272). -/
def ubFrames : Output → Nat
  | .mirrorRec r | .ringCopy r => max 1 ((128 + 8 * r.grains.length + 4096 * (r.grains.filter (!·.zero)).length + 16383) / 16384)
  | .fwdCmd _ x => 1 + (512 * x.data.length + 16383) / 16384
  | _ => 1

/-- Record what leaves the part. -/
def State.emit (s : State) (o : Output) : State := { s with outputs := o :: s.outputs }

/-- A group by number. -/
def State.group (s : State) (g : Nat) : UbGroup := (s.peer.groups[g]?).getD .down

/-- Store a group. -/
def State.putGroup (s : State) (g : Nat) (x : UbGroup) : State := { s with peer := { s.peer with groups := putNth .down x g s.peer.groups } }

/-- The group that carries a message: by MSG parity, or the one that is up (11 R273). -/
def groupFor (s : State) (msg : Nat) : Option Nat :=
  let g := msg % 2
  if (s.group g).up then some g else if (s.group (1 - g)).up then some (1 - g) else none

/-- Transmit a message of a class: a credit goes, each frame takes the next LSEQ and is kept until covered (11 R272, R273). None while no group is up or no credit is held. -/
def transmit (c : Nat) (o : Output) (s : State) : Option State :=
  let msg := lookupD 0 c s.peer.msgNext
  match groupFor s msg with
  | none => none
  | some g =>
    let x := s.group g
    let credit := lookupD 0 c x.credits
    if credit = 0 then none
    else
      let n := ubFrames o
      let frames := (List.range n).map fun i => ((x.txSeq + i) % 2 ^ 32, c, msg)
      let x := { x with txSeq := (x.txSeq + n) % 2 ^ 32, unacked := x.unacked ++ frames, credits := setKey c (credit - 1) x.credits,
                        progressAt := if x.unacked.isEmpty then s.now else x.progressAt }
      let s := s.putGroup g x
      some ({ s with peer := { s.peer with msgNext := setKey c (msg + 1) s.peer.msgNext } }.emit o)

/-- Send a message to the partner: behind those of its class that wait. -/
def sendPeer (c : Nat) (o : Output) (s : State) : State :=
  let wait := { s with ubQueue := s.ubQueue ++ [(c, o)] }
  if s.ubQueue.any (·.1 == c) then wait else (transmit c o s).getD wait

/-- Transmit what waits, the class higher in the table first, each class in order (11 R273). -/
def pumpPeer (s : State) : State :=
  let q := (List.range' 2 6).flatMap fun c => s.ubQueue.filter (·.1 == c)
  q.foldl (fun s m => sendPeer m.1 m.2 s) { s with ubQueue := [] }

/-- Send something. -/
def State.send (s : State) (o : Output) : State :=
  match ubClass o with
  | some c => sendPeer c o s
  | none => s.emit o

/-- Send several, the first first. -/
def State.sendAll (s : State) (os : List Output) : State := os.foldl State.send s

/-- Draw a free value (log 5). -/
def State.draw (s : State) : Word × State := (Config.freeWord s.free, { s with free := s.free + 1 })

/-! ## Status codes (03 Table 3.6) -/

/-- The status codes. -/
abbrev cOK : Nat := 0x0000
abbrev cACCEPTED : Nat := 0x0001
abbrev cBAD_OPCODE : Nat := 0x0101
abbrev cBAD_FIELD : Nat := 0x0102
abbrev cBAD_ALIGN : Nat := 0x0103
abbrev cBAD_LENGTH : Nat := 0x0104
abbrev cLENGTH_MISMATCH : Nat := 0x0105
abbrev cSTATE_CONFLICT : Nat := 0x0106
abbrev cNO_RESOURCE : Nat := 0x0107
abbrev cRESULT_NOT_READY : Nat := 0x0108
abbrev cNOT_PERMITTED : Nat := 0x0109
abbrev cCANCELLED : Nat := 0x010A
abbrev cNOT_STAGED : Nat := 0x0201
abbrev cCHECK_FAILED : Nat := 0x0202
abbrev cEPOCH_MISSED : Nat := 0x0203
abbrev cSECTOR_BUSY : Nat := 0x0204
abbrev cLENS_INCOMPATIBLE : Nat := 0x0205
abbrev cKEY_ABSENT : Nat := 0x0301
abbrev cKEY_SPENT : Nat := 0x0302
abbrev cAUTH_FAIL : Nat := 0x0303
abbrev cKEY_PINNED : Nat := 0x0304
abbrev cMEDIA_UNRECOVERED : Nat := 0x0401
abbrev cCAPACITY_EXHAUSTED : Nat := 0x0402
abbrev cOUTPUT_LIMIT : Nat := 0x0403
abbrev cCORRUPT_INPUT : Nat := 0x0404
abbrev cMETADATA_CONFLICT : Nat := 0x0405
abbrev cREAD_ONLY : Nat := 0x0406
abbrev cIMAGE_BAD_SIGNATURE : Nat := 0x0501
abbrev cIMAGE_ROLLBACK : Nat := 0x0502
abbrev cIMAGE_INCOMPLETE : Nat := 0x0503
abbrev cPIECE_BAD_DIGEST : Nat := 0x0504
abbrev cPEER_ABSENT : Nat := 0x0601
abbrev cNOT_OWNER : Nat := 0x0602
abbrev cFENCED : Nat := 0x0603
abbrev cQUORUM_LOST : Nat := 0x0604
abbrev cHW_FAULT : Nat := 0x0701
abbrev cPOISONED : Nat := 0x0702

/-! ## Scratch memory (03 R73) -/

/-- What a scratch byte that nothing has written reads as (log 2). -/
def scratchDefault : BitVec 8 := 0

/-- One byte of scratch. -/
def memRead (a : Nat) (m : List Host.Cell) : BitVec 8 := readAt (fun _ => scratchDefault) a m

/-- Store one byte, keeping the canonical form. -/
def memWrite (a : Nat) (v : BitVec 8) (m : List Host.Cell) : List Host.Cell := storeAt (fun _ => scratchDefault) a v m

/-- Store bytes from `a` up. -/
def memWriteAll (a : Nat) : List (BitVec 8) → List Host.Cell → List Host.Cell
  | [], m => m
  | v :: vs, m => memWriteAll (a + 1) vs (memWrite a v m)

/-- The memory is in its one canonical form: addresses strictly rising, no entry equal to what an unlisted address reads as. -/
def Memory.wf (m : List Host.Cell) : Bool := canon (fun _ => scratchDefault) m

end Sys2Proof.Machine
end

