-- ==== Sys2Proof/Machine/Events.lean ====
section
/-!
DEFINITION. Events: firing a source of the Signal controller, its event record, its route and coalescer (18_signal_controller.md);
raising Fog (20 R483); capturing a discarded register write (03 R64 to R67).
-/
namespace Sys2Proof.Machine

/-! ## Sources (18 Table 18.1) -/

/-- The sources the table assigns (18 R432). -/
def assignedSource (n : Nat) : Bool :=
  n ≤ 17 || (32 ≤ n && n ≤ 35) || (40 ≤ n && n ≤ 48) || (64 ≤ n && n ≤ 128) || (136 ≤ n && n ≤ 141) ||
  (144 ≤ n && n ≤ 152) || (256 ≤ n && n ≤ 517) || (528 ≤ n && n ≤ 529) || (544 ≤ n && n ≤ 558) ||
  (560 ≤ n && n ≤ 589) || (592 ≤ n && n ≤ 604) || (608 ≤ n && n ≤ 631) || (640 ≤ n && n ≤ 663) ||
  (672 ≤ n && n ≤ 674) || (680 ≤ n && n ≤ 683) || n == 688 || (696 ≤ n && n ≤ 747) ||
  (768 ≤ n && n ≤ 1023) || (2048 ≤ n && n ≤ 4095)

/-- The sources marked E: each fire writes an event record (18 R432). -/
def eventSource (n : Nat) : Bool :=
  n == 48 || (138 ≤ n && n ≤ 141) || (144 ≤ n && n ≤ 152) || (512 ≤ n && n ≤ 517) || (528 ≤ n && n ≤ 529) ||
  n == 575 || (608 ≤ n && n ≤ 631) || (672 ≤ n && n ≤ 674) || n == 688 || (696 ≤ n && n ≤ 747) ||
  (768 ≤ n && n ≤ 1023)

/-- The vector `v` as it stands; unlisted, it is as after reset (03 R74). -/
def State.vector (s : State) (v : Nat) : Vector_ :=
  (s.sig.vectors.find? (·.index == v)).getD
    { index := v, addr := 0, data := 0, masked := true, pba := false, count := 0, since := 0 }

/-- Store a vector. -/
def State.setVector (s : State) (v : Vector_) : State :=
  { s with sig := { s.sig with vectors := putBy Vector_.index v s.sig.vectors } }

/-- Send the vector's MSI-X write, or set its PBA bit while it is masked or MSI-X is off (18 R437, 03 R74). The coalescer starts again, and a write that leaves brings the link back to L0 (18 R439). -/
def sendVector (v : Nat) (s : State) : State :=
  let x := { s.vector v with count := 0 }
  if x.masked || s.ctl.msixMask || !s.ctl.msixEnable then s.setVector { x with pba := true }
  else
    let s := (s.setVector { x with pba := false }).send (.msix v x.addr x.data)
    { s with sig := { s.sig with linkFlush := false } }

/-- Coalescing is suspended (18 R439). -/
def State.suspended (s : State) : Bool := s.sig.slept || s.sig.linkFlush

/-- An event routed to a vector: it counts, and the write is sent at once or when COUNT is reached (18 R438). -/
def countVector (v : Nat) (s : State) : State :=
  let cnt := s.fld Reg.fSIG_COAL_COUNT v
  let tus := s.fld Reg.fSIG_COAL_TIME_US v
  if s.suspended || (cnt == 0 && tus == 0) then sendVector v s
  else
    let x := s.vector v
    let y := { x with count := x.count + 1, since := if x.count = 0 then s.now else x.since }
    let s := s.setVector y
    if cnt != 0 && cnt ≤ y.count then sendVector v s else s

/-- Hand a pending source to its target: a vector gets it now, a Keeper or a cluster claims it later (18 R434, R435). -/
def routeSource (n : Nat) (s : State) : State :=
  if s.flag Reg.fSIG_ROUTE_EN n && s.fld Reg.fSIG_ROUTE_KIND n == 0 then countVector (s.fld Reg.fSIG_ROUTE_TARGET n) s
  else s

/-- Write an event record, or count it lost when the ring is full (18 R436). -/
def writeRecord (n code detail : Nat) (s : State) : State :=
  if s.flag Reg.fSIG_EVQ_CTRL_EN then
    let size := 2 ^ s.fld Reg.fSIG_EVQ_CTRL_SIZE_LOG2
    let tail := s.fld Reg.fSIG_STATUS_EVQ_TAIL
    let next := (tail + 1) % size
    if next == s.fld Reg.fSIG_EVQ_HEAD_HEAD then s.bump Reg.fSIG_STATUS_EVQ_LOST
    else
      let s := s.send (.eventRecord tail { stamp := s.now, source := n, code := code, phase := s.sig.phase, detail := detail })
      let s := s.setFld Reg.fSIG_STATUS_EVQ_TAIL next
      if next == 0 then { s with sig := { s.sig with phase := !s.sig.phase } } else s
  else s

/-- Set a source's pending bit and deliver it; an event on a pending source merges into it and is not counted (18 R431; log 7). -/
def pendSource (n : Nat) (s : State) : State :=
  if n ∈ s.sig.pend then s
  else routeSource n { s with sig := { s.sig with pend := insertNat n s.sig.pend } }

/-- An event of source `n`: the record first, then the pending bit (18 R431, R436). A reserved source never fires (18 R432). -/
def fire (n : Nat) (s : State) (code : Nat := 0) (detail : Nat := 0) : State :=
  if assignedSource n then pendSource n (if eventSource n then writeRecord n code detail s else s) else s

/-! ## Fog Signal (20 R483) -/

/-- Raise a Fog cause: latch its bit, count the raise, drive FOG_N, fire source 688, and owe the Keeper's Log a fault flush (17 R421). -/
def raiseFog (cause : Nat) (s : State) (arg : Nat := 0) (code : Nat := 0) : State :=
  let s := s.setFld Reg.fGLB_FOG_CAUSE_CAUSE (s.fld Reg.fGLB_FOG_CAUSE_CAUSE ||| 2 ^ cause)
  let s := (s.bump Reg.fGLB_FOG_STATUS_RAISES).setFlag Reg.fGLB_FOG_STATUS_DRIVEN true
  fire 688 { s with kpr := { s.kpr with faultDue := true } } code (cause + 256 * (arg % 2 ^ 56))

/-- A cause is latched. -/
def State.fog (s : State) (cause : Nat) : Bool := (s.fld Reg.fGLB_FOG_CAUSE_CAUSE).testBit cause

/-! ## Discarded writes (03 R64 to R67) -/

/-- The blocks of BAR0: base and size, in the bit order of GLB_ERR_SUMMARY.VALID_MAP (03 Table 3.9). -/
def blocks : List (Nat × Nat) :=
  [(0x000000, 0x10000), (0x010000, 0x10000), (0x020000, 0x10000), (0x030000, 0x10000), (0x040000, 0x40000),
   (0x080000, 0x80000), (0x100000, 0x100000), (0x200000, 0x200000), (0x400000, 0x200000), (0x600000, 0x100000),
   (0x700000, 0x100000), (0x800000, 0x100000), (0x900000, 0x100000), (0xA00000, 0x200000), (0xC00000, 0x100000),
   (0xD00000, 0x100000), (0xE00000, 0x10000), (0xE10000, 0xF0000)]

/-- The block whose range holds an offset; GLB for an offset in none (03 R67). -/
def blockOf (off : Nat) : Nat := ((blocks.findIdx? fun b => b.1 ≤ off && off < b.1 + b.2).getD 0)

/-- Base of a block. -/
def blockBase (b : Nat) : Nat := ((blocks[b]?).getD (0, 0)).1

/-- Fill a capture register, or count the write lost while VALID is set (03 R64, R65). -/
def fillCapture (cap code off : Nat) (src : Option Nat) (s : State) : State :=
  if bits (s.word cap) 63 63 = 1 then s.bump Reg.fGLB_ERR_SUMMARY_LOST
  else
    let s := s.setWord cap (setBits (setBits (setBits 0 63 63 1) 47 32 code) 25 0 off)
    match src with
    | some n => fire n s
    | none => s

/-- A register write is discarded: its block's ERR_CAPTURE records the code and the offset (03 R64, R67). -/
def captureErr (code off : Nat) (s : State) : State :=
  fillCapture (blockBase (blockOf off) + 0x18) code off (some (blockOf off)) s

end Sys2Proof.Machine
end

