-- ==== Sys2Proof/Machine/Task.lean ====
section
/-!
DEFINITION. The task windows: the gate every task command passes, bulk checks, tokens, job records (03 R51 to R63, R68, R69).
-/
namespace Sys2Proof

/-- TSK_ARGa. -/
def TaskReq.arg (r : TaskReq) (a : Nat) : Nat := ((r.args[a - 1]?).getD 0).toNat

/-- Bits of an argument. -/
def TaskReq.argBits (r : TaskReq) (a hi lo : Nat) : Nat := (r.arg a >>> lo) % 2 ^ (hi + 1 - lo)

/-- The lowest argument with a bit outside its mask; an argument with no mask has none (03 R63). -/
def TaskReq.badArg (r : TaskReq) (masks : List (Nat × Nat)) : Option Nat :=
  (List.range' 1 31).find? fun a => r.arg a != r.arg a &&& Machine.lookupD 0 a masks

/-- The mask of bits `hi` to `lo`. -/
def mask (hi lo : Nat) : Nat := (2 ^ (hi + 1 - lo) - 1) <<< lo

/-- All 64 bits. -/
def mask64 : Nat := 2 ^ 64 - 1

namespace Machine

/-- What a task command's own part answers: a failure that changes nothing, the state it leaves with code, DETAIL and results, or a state in which the command still runs. -/
inductive TaskOut where
  | fail (code : Nat) (detail : Nat := 0) (res : List Word := [])
  | done (s : State) (code : Nat := cOK) (detail : Nat := 0) (res : List Word := [])
  | later (s : State)

/-- What an opcode needs of the bulk path, with the length its arguments declare, if they do. -/
inductive BulkNeed where
  | none
  | take (len : Option Nat)
  | give (len : Option Nat)

/-- A row of 03 Table 3.4: opcode, windows, bulk data. -/
structure TaskSpec where
  opcode  : Nat
  windows : List Nat
  bulk    : BulkNeed := .none

/-- DETAIL for a fault in bulk data or in the fragment list at a byte offset (03 R63). -/
def bulkDetail (inList : Bool) (off : Nat) : Nat := 2 ^ 31 + (if inList then 2 ^ 30 else 0) + off % 2 ^ 30

/-- The checks of R60 on an opcode that moves data: direction bit and declared length. -/
def bulkCheckData (dir : Nat) (len : Option Nat) (r : TaskReq) : Option (Nat × Nat) :=
  let c := r.bulkCtrl
  let n := bits c 31 0
  let list := bits c 33 33 == 1
  let frags := bits c 46 34
  let fs := r.frags.take frags
  if r.window == 2 then some (cNOT_PERMITTED, 0)
  else if n == 0 then some (cBAD_LENGTH, 32)
  else if bits c 32 32 != dir || bits c 63 47 != 0 then some (cBAD_FIELD, 32)
  else if n > 128 * 1024 * 1024 || (list && (frags == 0 || frags > 4096)) then some (cBAD_LENGTH, 32)
  else if !list && frags != 0 then some (cBAD_FIELD, 32)
  else match r.bulkFault, list with
  | some (true, off), true => some (cHW_FAULT, bulkDetail true off)
  | _, _ =>
    match (if list then fs.findIdx? (fun f => !f.rsvdZero) else Option.none) with
    | some i => some (cBAD_FIELD, bulkDetail true (16 * i + 12))
    | Option.none =>
      if list && (fs.map Frag.len).sum != n then some (cLENGTH_MISMATCH, 0)
      else match len with
      | some l => if l != n then some (cLENGTH_MISMATCH, 0) else Option.none
      | Option.none => Option.none

/-- The checks of R60 in their order. -/
def bulkCheck (need : BulkNeed) (r : TaskReq) : Option (Nat × Nat) :=
  match need with
  | .none => if r.bulkCtrl != 0 then some (cBAD_FIELD, 32) else Option.none
  | .take len => bulkCheckData 0 len r
  | .give len => bulkCheckData 1 len r

/-- The data transfer itself: it fails with HW_FAULT and the byte offset reached (03 R60). -/
def moved (r : TaskReq) (k : TaskOut) : TaskOut :=
  match r.bulkFault with
  | some (false, off) => .fail cHW_FAULT (bulkDetail false off)
  | _ => k

/-! ## The window -/

/-- Drop the listed registers from `lo` to `hi`: they read their reset value 0. -/
def clearRegs (lo hi : Nat) (s : State) : State :=
  { s with regs := s.regs.filter fun x => !(lo ≤ x.1 && x.1 ≤ hi) }

/-- Base of a window. -/
def winBase (w : Nat) : Nat := 0x11000 + 0x1000 * w

/-- Store words at 8-byte steps. -/
def storeWords (base : Nat) : List Word → State → State
  | [], s => s
  | w :: ws, s => storeWords (base + 8) ws (s.setWord base w)

/-- What software wrote before GO stands in the window (03 R54). -/
def loadWindow (opcode : Nat) (r : TaskReq) (s : State) : State :=
  let b := winBase r.window
  let s := clearRegs (b + 8) (b + 0xF8) s
  let s := storeWords (b + 8) (r.args.take 31) s
  let s := (s.setWord (b + 0x300) (r.bulkAddr &&& ~~~0x3F#64)).setWord (b + 0x308) r.bulkCtrl
  s.setWord b (BitVec.ofNat 64 (opcode + if r.notify then 2 ^ 16 else 0))

/-- The command ends: DONE with CODE and DETAIL, results, the window's source on NOTIFY (03 R54, R55). -/
def finish (r : TaskReq) (code detail : Nat) (res : List Word) (s : State) : State :=
  let b := winBase r.window
  let s := clearRegs (b + 0x200) (b + 0x2E8) s
  let s := storeWords (b + 0x200) (res.take 30) s
  let s := s.setWord (b + 0x108) (BitVec.ofNat 64 (2 ^ 62 + code * 2 ^ 32 + detail % 2 ^ 32))
  if r.notify then fire (32 + r.window) s else s

/-- A command that still ran in a window ends there. -/
def finishWindow (w code detail : Nat) (s : State) : State :=
  let b := winBase w
  let s := s.setWord (b + 0x108) (BitVec.ofNat 64 (2 ^ 62 + code * 2 ^ 32 + detail % 2 ^ 32))
  if s.flag Reg.fTSK_OPCODE_NOTIFY w then fire (32 + w) s else s

/-- A command runs on in its window: BUSY, results cleared. -/
def stayBusy (w : Nat) (s : State) : State :=
  let s := clearRegs (winBase w + 0x200) (winBase w + 0x2E8) s
  s.setWord (winBase w + 0x108) (BitVec.ofNat 64 (2 ^ 63))

/-- BUSY of a window. -/
def State.busy (s : State) (w : Nat) : Bool := bits (s.word (winBase w + 0x108)) 63 63 == 1

/-- JTAG is unlocked (19 R452). -/
def State.jtagOpen (s : State) : Bool :=
  match s.boot.jtagUntil with
  | some t => s.now < t
  | none => false

/-- An owner key is enrolled (19 R444). -/
def State.ownerKey (s : State) : Bool := s.boot.fuses.enrolled.1 || s.boot.fuses.enrolled.2

/-- Who carries Keeper A's duties: true a pair, false a pair that is restarting; none when both pairs are fenced (17 R410, R412, R413). -/
def State.keeperA (s : State) : Option Bool :=
  let a := s.fld Reg.fKPR_STATE_A_STATE
  let b := s.fld Reg.fKPR_STATE_B_STATE
  if a == 2 then (if b == 2 then none else some (b != 1)) else some (a != 1)

/-- Who carries Keeper B's duties. -/
def State.keeperB (s : State) : Option Bool :=
  let a := s.fld Reg.fKPR_STATE_A_STATE
  let b := s.fld Reg.fKPR_STATE_B_STATE
  if b != 0 && b != 3 then (if a == 2 then (if b == 2 then none else some false) else some (a != 1)) else some true

/-- The access path may write the window (03 Table 3.1, R52). -/
def pathOpen (r : TaskReq) (s : State) : Bool :=
  match r.window.val, r.path with
  | 0, .bar0 => true
  | 1, .bar0 => true
  | 1, .session => s.ctl.session
  | 2, .mctp => s.ctl.bound
  | 3, .bar0 => s.jtagOpen
  | 3, .jtag => s.jtagOpen
  | _, _ => false

/-- What fails of a W1 command token, in the order R61 numbers it: 1 nonce, 2 opcode, 3 digest, 4 signature, 5 no owner key. With no owner key there is nothing to check (log 8: 5 comes first). -/
def tokenFault (opcode : Nat) (r : TaskReq) (s : State) : Option Nat :=
  if r.window != 1 || r.path != .bar0 then none
  else if !s.ownerKey then some 5
  else if r.token.nonce != s.word 0x12400 then some 1
  else if r.token.opcode != opcode then some 2
  else if !r.token.digestOk then some 3
  else if !r.token.sigOk then some 4
  else none

/-- Opcodes that boot recovery accepts in W0 (19 R450). -/
def recoveryOps : List Nat := [0x0001, 0x0002, 0x0003, 0x0004, 0x0005, 0x0601, 0x0602, 0x0603]

/-- A command that has been started: opcode and window, token, bulk checks, then its own part (03 R52, R60 to R63; order: log 8). -/
def runStarted (t : TaskSpec) (r : TaskReq) (body : State → TaskOut) (s : State) : State :=
  let tok := tokenFault t.opcode r s
  let s := if r.window == 1 then s.setWord 0x12400 r.nonce else s
  match s.keeperA with
  | none => finish r cHW_FAULT 2 [] s
  | some _ =>
    if !(t.windows.contains r.window.val) || (s.boot.recovery && !(recoveryOps.contains t.opcode)) then
      finish r cNOT_PERMITTED 0 [] s
    else match tok with
    | some d => finish r cNOT_PERMITTED d [] s
    | none =>
      match bulkCheck t.bulk r with
      | some (c, d) => finish r c d [] s
      | none =>
        match body s with
        | .fail c d res => finish r c d res s
        | .done s' c d res => finish r c d res s'
        | .later s' => stayBusy r.window s'

/-- A GO that arrives during a Keeper restart is held with BUSY set (03 R69). -/
def holdGo (opcode : Nat) (r : TaskReq) (s : State) : State :=
  let s := stayBusy r.window s
  { s with ctl := { s.ctl with held := s.ctl.held ++ [{ window := r.window, opcode := opcode }] } }

/-- GO of a task command: discarded where the path may not write the window or the window is busy, held while the Keeper restarts, else run (03 R52, R55, R69). -/
def runTask (t : TaskSpec) (r : TaskReq) (body : State → TaskOut) (s : State) : State :=
  let held := s.ctl.held.contains { window := r.window, opcode := t.opcode }
  if r.resume then
    if held && s.keeperA != some false then
      let s := { s with ctl := { s.ctl with held := s.ctl.held.erase { window := r.window, opcode := t.opcode } } }
      runStarted t r body s
    else s
  else if !pathOpen r s || (s.boot.recovery && r.window != 0) then
    if r.path == .bar0 then captureErr cNOT_PERMITTED (winBase r.window + 0x100) s else s
  else if s.busy r.window then
    if r.path == .bar0 then captureErr cSTATE_CONFLICT (winBase r.window + 0x100) s else s
  else
    let s := loadWindow t.opcode r s
    if s.keeperA == some false then holdGo t.opcode r s else runStarted t r body s

/-- A task command: its argument masks, then its body (03 R63). -/
def taskCmd (t : TaskSpec) (masks : List (Nat × Nat)) (r : TaskReq) (body : State → TaskOut) : State → Host.Outcome State Fault Refusal :=
  act fun s => runTask t r (fun s => match r.badArg masks with
    | some a => .fail cBAD_FIELD a
    | none => body s) s

/-! ## Job records (03 R57 to R59) -/

/-- The lowest-numbered free record, unless the window holds 256 already (03 R57). -/
def freeRecord (w : Nat) (s : State) : Option Nat :=
  if 256 ≤ (s.ctl.jobs.filter (·.window == w)).length then none
  else (List.range 1024).find? fun n => !(s.ctl.jobs.any (·.slot == n))

/-- The handle of a job (03 Table 3.3). -/
def handleOf (j : Job) : Word := BitVec.ofNat 64 (j.window * 2 ^ 62 + j.seq % 2 ^ 32 * 2 ^ 16 + j.slot)

/-- What a new job is: the record without slot, window and SEQ. -/
structure JobPlan where
  carrier     : Carrier := .unit
  cancellable : Bool := false
  bulk        : Bool := false
  code        : Nat := cOK
  detail      : Nat := 0
  results     : List Word := []
  work        : JobWork := .nothing

/-- The record that a command starts (03 R57). -/
def plannedJob (op : Nat) (r : TaskReq) (p : JobPlan) (s : State) (n : Nat) : Job :=
  { slot := n, window := r.window.val, seq := (s.ctl.seqs[r.window.val]?).getD 0 + 1, opcode := op, notify := r.notify, carrier := p.carrier,
    cancellable := p.cancellable, bulk := p.bulk, stopping := false, ended := false, code := p.code,
    detail := p.detail, results := p.results, progress := 0, work := p.work }

/-- The state with that record, lowest free number `n`. -/
def withJob (op : Nat) (r : TaskReq) (p : JobPlan) (s : State) (n : Nat) : State :=
  { s with ctl := { s.ctl with jobs := s.ctl.jobs ++ [plannedJob op r p s n],
                               seqs := putNth 0 ((s.ctl.seqs[r.window.val]?).getD 0 + 1) r.window.val s.ctl.seqs } }

/-- Start a job: the record, ACCEPTED and its handle in RES1; NO_RESOURCE and nothing else when no record is free (03 R57). `k` gets the record number. -/
def startJob (opcode : Nat) (r : TaskReq) (p : JobPlan) (s : State) (k : Nat → State → State) : TaskOut :=
  match freeRecord r.window s with
  | none => .fail cNO_RESOURCE
  | some n => .done (k n (withJob opcode r p s n)) cACCEPTED 0 [handleOf (plannedJob opcode r p s n)]

/-- A job record. -/
def State.job (s : State) (n : Nat) : Option Job := s.ctl.jobs.find? (·.slot == n)

/-- Store a job record. -/
def State.setJob (s : State) (j : Job) : State := { s with ctl := { s.ctl with jobs := putBy Job.slot j s.ctl.jobs } }

/-- A job ends: its record takes the final code and the window's source fires on NOTIFY (03 R54, R59). -/
def endJob (n code detail : Nat) (res : List Word) (s : State) : State :=
  match s.job n with
  | none => s
  | some j =>
    if j.ended then s else
    let s := s.setJob { j with ended := true, stopping := false, code := code, detail := detail, results := res, progress := 1000, work := .nothing }
    if j.notify then fire (32 + j.window) s else s

/-- A job ends with the code it was started for. -/
def endJobPlanned (n : Nat) (s : State) : State :=
  match s.job n with
  | none => s
  | some j => endJob n j.code j.detail j.results s

/-- What a handle names (03 R58): an illegal handle, or a record. -/
def handleJob (h : Nat) (s : State) : Option Job :=
  s.ctl.jobs.find? fun j => (handleOf j).toNat == h

/-- Jobs carried by the Keeper end with HW_FAULT and DETAIL 1 (03 R69). -/
def endKeeperJobs (s : State) : State :=
  (s.ctl.jobs.filter fun j => j.carrier == .keeper && !j.ended).foldl (fun s j => endJob j.slot cHW_FAULT 1 [] s) s

end Machine
end Sys2Proof
end

