-- ==== Sys2Proof/WellFormed.lean ====
section
/-!
DEFINITION. Which terms of `Instr` are commands of the part: what the operand types do not say.
-/
namespace Sys2Proof

/-- A task command as a window can hold it: 31 arguments, an opcode of 16 bits in the token (03 R53, Table 3.5). -/
def TaskReq.wf (r : TaskReq) : Bool := decide (r.args.length ≤ 31) && decide (r.token.opcode < 65536)

/-- An I/O capsule as NVMe numbers it: 16-bit controller, queue and command identifiers, 32-bit namespace, at most 65,536 blocks (04 R81, R101). -/
def IoCapsule.wf (c : IoCapsule) : Bool :=
  decide (c.cntlid < 65536) && decide (c.qid < 65536) && decide (c.cid < 65536) && decide (c.nsid < 2 ^ 32) && decide (c.nblk ≤ 65536)

namespace Instr

/-- The task command that a command is. -/
def task : Instr → Option TaskReq
  | .nop r | .identify r | .jobStatus r | .jobResult r | .jobCancel r | .stageOpen r | .stageLens r _ | .stageCheck r
  | .stageCommit r | .stageDiscard r | .sectorRelens r | .keeperRestartGoHeld _ r | .nsCreate r | .nsDelete r | .nsModify r
  | .hostAdd r _ _ _ _ | .hostRemove r | .nsAccessGrant r | .nsAccessRevoke r | .dictLoad r _ _ _ | .snapCreate r | .snapDelete r
  | .cloneCreate r | .snapLock r | .snapList r | .anaStage r | .peerStatus r | .beaconConfig r | .peerAdmit r _ _ | .keyLoad r _
  | .keyErase r | .keyStatus r | .updPiece r _ | .updStatus r | .updVerify r _ | .updActivate r _ | .updArm r | .updRevert r
  | .updConfirm r | .updFetch r _ _ _ _ _ | .ledgerExport r | .fuseEnrolOwnerKey r _ | .fuseRaiseCounter r
  | .fuseRevokeHedavyKey r _ | .fuseBlowJtagDisabled r | .replPartnerAdd r _ _ _ | .replPartnerRemove r | .replStart r _ _
  | .replStop r | .replPromote r | .replStatus r | .moduleList r | .moduleAdmit r _ | .moduleRetire r | .portRebind r | .layoutSet r
  | .scrubRange r | .bucketConfig r | .healthRead r | .logRead r | .logConfig r | .sensorRead r | .holdupTest r _ _ | .fogClear r
  | .sigRouteStage r | .unitFence r | .unitFenceClear r | .unitSubstitute r | .unitSubstituteRestore r | .diagInject r _
  | .diagTrace r | .diagPeek r => some r
  | .registerWrite .. | .bar2ScratchWrite .. | .stagedRegisterWrite .. | .lnsSetOpen .. | .lnsSetCheck .. | .lnsSetCommit ..
  | .lnsSetDiscard .. | .lnsSetNoOperation .. | .epochAckDeadline .. | .epochSwitch .. | .islandTimeFault .. | .relensDrainComplete
  | .islandLoadComplete .. | .lensSetRecordDurable | .jobEnd .. | .upstreamReset .. | .hostLaneOpen .. | .hostLaneShort ..
  | .hostLaneRetest .. | .hostPortTraining .. | .hostFrameReceive .. | .congestionNotification .. | .rateRecoveryTimer ..
  | .ptpEventMessage .. | .tlsHandshake .. | .tlsRecord .. | .tlsKeyUpdate .. | .connect .. | .authenticationSend ..
  | .authenticationReceive .. | .propertySet .. | .propertyGet .. | .nvmeWrite .. | .nvmeRead .. | .writeZeroes ..
  | .datasetManagement .. | .compare .. | .copy .. | .flush .. | .abort .. | .reservationRegister .. | .reservationAcquire ..
  | .reservationRelease .. | .reservationReport .. | .nvmeIdentify .. | .getLogPage .. | .setFeatures .. | .getFeatures ..
  | .keepAlive .. | .asynchronousEventRequest .. | .namespaceManagement .. | .namespaceAttachment .. | .firmwareImageDownload ..
  | .firmwareCommitVerify .. | .firmwareCommitActivate .. | .unsupportedOpcode .. | .keepAliveExpiry ..
  | .transportConnectionLoss .. | .capsuleContextAdmit | .h2cDataPdu .. | .rdmaReadCompletion .. | .apstIdleTimer ..
  | .chipPowerStateChange | .fwdCmd .. | .fwdCpl .. | .fwdAbort .. | .abortRsp .. | .journalAppend .. | .mirrorRec .. | .recAck ..
  | .vaultPageTimer | .vaultPageProgrammed | .retire .. | .journalRecordRetire .. | .grainFingerprint .. | .rowSealTimer ..
  | .rowProgramSuccess .. | .rowProgramFail .. | .anomalyScoreTick | .codewordReadEscalation .. | .grainVerify ..
  | .grainReconstruction .. | .journalFetch .. | .repairInPlace .. | .moduleReachCheck | .dieFault .. | .segmentOpen ..
  | .rebuildSegment .. | .rebuildTransactionDurable .. | .freeSpaceChange | .fold .. | .garbageCollection .. | .relocationErase ..
  | .blockEraseComplete .. | .staticWearLevelling .. | .readDisturbRefresh .. | .nandTemperatureSample .. | .retentionCheck
  | .wallWaitExpiry | .checkpoint | .checkpointDurable | .checkpointOverdue | .metadataRestart .. | .mediaLaneFault ..
  | .mediaLaneRetest .. | .mediaPortTraining .. | .lowPowerIdleTimer .. | .smlFrameReceive .. | .smlNak .. | .smlReplayTimer ..
  | .smlCreditAdvertisement .. | .smlKeepAliveTimer .. | .smlResponse .. | .mediaPortUp .. | .mediaForward .. | .smlCmd ..
  | .logPageTimer | .logPageDurable .. | .logPage .. | .remoteDelta .. | .remoteAck .. | .pagePull .. | .counters .. | .releaseWalk
  | .snapshotReady .. | .metadataPageRead .. | .wallClockKnown | .trainId .. | .uberufFrameReceive .. | .uberufReplayTimer ..
  | .beaconSendTimer | .beacon .. | .phbInEdge | .heartbeatLoss .. | .phbOutReadbackFault | .startWaitExpiry | .severMaxExpiry
  | .raceDelayExpiry | .leaseRaceTimer | .prepare .. | .ownAck .. | .ownGo .. | .ownAbort .. | .drained .. | .rsvUpdate ..
  | .rsvAck .. | .ckptPage .. | .ringCopy .. | .admitDone .. | .coldJoin .. | .startLeaseRead .. | .pfailNAsserted
  | .vaultDumpCommit .. | .shutdownExit .. | .storeSenseSample .. | .storeProbe .. | .storeProbeRepeat .. | .capacitanceTestDue
  | .capacitanceTestEnd .. | .vaultMemberReplace | .dumpAreaErase | .holdupSettingsWrite | .replicationInterval .. | .hello ..
  | .helloAck .. | .proof .. | .rekey .. | .rekeyLimit .. | .keepalive .. | .keepaliveIdleTimer .. | .connectionSilenceTimer ..
  | .streamOpen .. | .fpBatch .. | .fpWant .. | .data .. | .mapRun .. | .cursor .. | .diffEnd .. | .syncRec .. | .syncAck ..
  | .close .. | .syncHoldExpiry .. | .reconnectRetry .. | .cryOpen .. | .cryUpdate .. | .cryFinal .. | .crySingle .. | .cryClose ..
  | .crySave .. | .ecdsaVerify .. | .ecdsaSign .. | .cryChannelDisable .. | .cryContextIdleExpiry .. | .keyEraseTimeout ..
  | .digResultRead .. | .digCtxRelease .. | .compress .. | .decompress .. | .compressionJobNoPt .. | .scanBuffer ..
  | .scanSnapshot .. | .patternLoad .. | .dramReadDecode .. | .correctionWriteBack .. | .leakyBucketLeak ..
  | .backgroundScrubPass .. | .sramPatrol .. | .dramZeroFill .. | .mccDisable .. | .mccEnable .. | .mccDrainComplete ..
  | .mapCacheMissFill .. | .keeperLockstepMismatch .. | .keeperWatchdogLapse .. | .keeperRestartComplete .. | .sensorSample ..
  | .operatingHourRecord | .logPeriodEnd | .logFaultFlush | .bootFlashWrite .. | .telemetryPush .. | .managementSettingsSubmit
  | .mctpMessage .. | .spdmRequest .. | .pldmFirmwareComponent .. | .sourceEvent .. | .sigPendSet .. | .sigPendClr ..
  | .sigVecClaim .. | .sourceClaim .. | .coalescerTimeTrigger .. | .msiXUnmask .. | .sigHostSleep .. | .l1EntryRequest
  | .eventQueueEnable .. | .coldBoot .. | .jtagUnlockToken .. | .jtagUnlockExpiry | .inServiceReload | .trialAutoConfirm
  | .trialStartAttempt | .busStuckTimeout .. | .busRetryTimer .. | .pfailStuckDetect | .refclkLoss | .refclkLostAlarm
  | .refclkReturn | .islandHang .. | .unitErrorFence .. | .fenceRetest .. | .ddrChannelFail .. | .fogNReadback .. | .parkTimer ..
  | .deepParkTimer .. | .parkedIslandWake .. | .supplyRampComplete .. | .avsTick .. | .supplyDroop .. | .thermalStep
  | .thermalTrip .. | .thermalAutoStart | .tmbWallOffsetWrite .. | .porstNAssert .. | .porstNRelease .. | .perstN ..
  | .supplyBrownOut .. | .vddAonLoss .. | .peerLaneFault .. | .timebaseAlignmentPulse .. | .hostPortLinkDown .. | .upstreamLinkDown
  | .managementLinkChange .. | .replicationConnectionLoss .. | .pfailNHigh | .transmitterEqualisationRetune .. => none

/-- The I/O capsule that a command is. -/
def capsule : Instr → Option IoCapsule
  | .nvmeWrite c _ _ | .nvmeRead c _ _ _ | .writeZeroes c | .datasetManagement c _ _ | .compare c _ _ _ _ | .copy c _ | .flush c
  | .reservationRegister c _ _ _ _ _ | .reservationAcquire c _ _ _ _ | .reservationRelease c _ _ _ | .reservationReport c => some c
  | .registerWrite .. | .bar2ScratchWrite .. | .stagedRegisterWrite .. | .lnsSetOpen .. | .lnsSetCheck .. | .lnsSetCommit ..
  | .lnsSetDiscard .. | .lnsSetNoOperation .. | .epochAckDeadline .. | .epochSwitch .. | .islandTimeFault .. | .relensDrainComplete
  | .islandLoadComplete .. | .lensSetRecordDurable | .nop .. | .identify .. | .jobStatus .. | .jobResult .. | .jobCancel ..
  | .jobEnd .. | .stageOpen .. | .stageLens .. | .stageCheck .. | .stageCommit .. | .stageDiscard .. | .sectorRelens ..
  | .upstreamReset .. | .keeperRestartGoHeld .. | .nsCreate .. | .nsDelete .. | .nsModify .. | .hostAdd .. | .hostRemove ..
  | .nsAccessGrant .. | .nsAccessRevoke .. | .dictLoad .. | .snapCreate .. | .snapDelete .. | .cloneCreate .. | .snapLock ..
  | .snapList .. | .anaStage .. | .peerStatus .. | .beaconConfig .. | .peerAdmit .. | .keyLoad .. | .keyErase .. | .keyStatus ..
  | .updPiece .. | .updStatus .. | .updVerify .. | .updActivate .. | .updArm .. | .updRevert .. | .updConfirm .. | .updFetch ..
  | .ledgerExport .. | .fuseEnrolOwnerKey .. | .fuseRaiseCounter .. | .fuseRevokeHedavyKey .. | .fuseBlowJtagDisabled ..
  | .replPartnerAdd .. | .replPartnerRemove .. | .replStart .. | .replStop .. | .replPromote .. | .replStatus .. | .moduleList ..
  | .moduleAdmit .. | .moduleRetire .. | .portRebind .. | .layoutSet .. | .scrubRange .. | .bucketConfig .. | .healthRead ..
  | .logRead .. | .logConfig .. | .sensorRead .. | .holdupTest .. | .fogClear .. | .sigRouteStage .. | .unitFence ..
  | .unitFenceClear .. | .unitSubstitute .. | .unitSubstituteRestore .. | .diagInject .. | .diagTrace .. | .diagPeek ..
  | .hostLaneOpen .. | .hostLaneShort .. | .hostLaneRetest .. | .hostPortTraining .. | .hostFrameReceive ..
  | .congestionNotification .. | .rateRecoveryTimer .. | .ptpEventMessage .. | .tlsHandshake .. | .tlsRecord .. | .tlsKeyUpdate ..
  | .connect .. | .authenticationSend .. | .authenticationReceive .. | .propertySet .. | .propertyGet .. | .abort ..
  | .nvmeIdentify .. | .getLogPage .. | .setFeatures .. | .getFeatures .. | .keepAlive .. | .asynchronousEventRequest ..
  | .namespaceManagement .. | .namespaceAttachment .. | .firmwareImageDownload .. | .firmwareCommitVerify ..
  | .firmwareCommitActivate .. | .unsupportedOpcode .. | .keepAliveExpiry .. | .transportConnectionLoss .. | .capsuleContextAdmit
  | .h2cDataPdu .. | .rdmaReadCompletion .. | .apstIdleTimer .. | .chipPowerStateChange | .fwdCmd .. | .fwdCpl .. | .fwdAbort ..
  | .abortRsp .. | .journalAppend .. | .mirrorRec .. | .recAck .. | .vaultPageTimer | .vaultPageProgrammed | .retire ..
  | .journalRecordRetire .. | .grainFingerprint .. | .rowSealTimer .. | .rowProgramSuccess .. | .rowProgramFail ..
  | .anomalyScoreTick | .codewordReadEscalation .. | .grainVerify .. | .grainReconstruction .. | .journalFetch ..
  | .repairInPlace .. | .moduleReachCheck | .dieFault .. | .segmentOpen .. | .rebuildSegment .. | .rebuildTransactionDurable ..
  | .freeSpaceChange | .fold .. | .garbageCollection .. | .relocationErase .. | .blockEraseComplete .. | .staticWearLevelling ..
  | .readDisturbRefresh .. | .nandTemperatureSample .. | .retentionCheck | .wallWaitExpiry | .checkpoint | .checkpointDurable
  | .checkpointOverdue | .metadataRestart .. | .mediaLaneFault .. | .mediaLaneRetest .. | .mediaPortTraining ..
  | .lowPowerIdleTimer .. | .smlFrameReceive .. | .smlNak .. | .smlReplayTimer .. | .smlCreditAdvertisement ..
  | .smlKeepAliveTimer .. | .smlResponse .. | .mediaPortUp .. | .mediaForward .. | .smlCmd .. | .logPageTimer | .logPageDurable ..
  | .logPage .. | .remoteDelta .. | .remoteAck .. | .pagePull .. | .counters .. | .releaseWalk | .snapshotReady ..
  | .metadataPageRead .. | .wallClockKnown | .trainId .. | .uberufFrameReceive .. | .uberufReplayTimer .. | .beaconSendTimer
  | .beacon .. | .phbInEdge | .heartbeatLoss .. | .phbOutReadbackFault | .startWaitExpiry | .severMaxExpiry | .raceDelayExpiry
  | .leaseRaceTimer | .prepare .. | .ownAck .. | .ownGo .. | .ownAbort .. | .drained .. | .rsvUpdate .. | .rsvAck .. | .ckptPage ..
  | .ringCopy .. | .admitDone .. | .coldJoin .. | .startLeaseRead .. | .pfailNAsserted | .vaultDumpCommit .. | .shutdownExit ..
  | .storeSenseSample .. | .storeProbe .. | .storeProbeRepeat .. | .capacitanceTestDue | .capacitanceTestEnd ..
  | .vaultMemberReplace | .dumpAreaErase | .holdupSettingsWrite | .replicationInterval .. | .hello .. | .helloAck .. | .proof ..
  | .rekey .. | .rekeyLimit .. | .keepalive .. | .keepaliveIdleTimer .. | .connectionSilenceTimer .. | .streamOpen .. | .fpBatch ..
  | .fpWant .. | .data .. | .mapRun .. | .cursor .. | .diffEnd .. | .syncRec .. | .syncAck .. | .close .. | .syncHoldExpiry ..
  | .reconnectRetry .. | .cryOpen .. | .cryUpdate .. | .cryFinal .. | .crySingle .. | .cryClose .. | .crySave .. | .ecdsaVerify ..
  | .ecdsaSign .. | .cryChannelDisable .. | .cryContextIdleExpiry .. | .keyEraseTimeout .. | .digResultRead .. | .digCtxRelease ..
  | .compress .. | .decompress .. | .compressionJobNoPt .. | .scanBuffer .. | .scanSnapshot .. | .patternLoad ..
  | .dramReadDecode .. | .correctionWriteBack .. | .leakyBucketLeak .. | .backgroundScrubPass .. | .sramPatrol .. | .dramZeroFill ..
  | .mccDisable .. | .mccEnable .. | .mccDrainComplete .. | .mapCacheMissFill .. | .keeperLockstepMismatch ..
  | .keeperWatchdogLapse .. | .keeperRestartComplete .. | .sensorSample .. | .operatingHourRecord | .logPeriodEnd | .logFaultFlush
  | .bootFlashWrite .. | .telemetryPush .. | .managementSettingsSubmit | .mctpMessage .. | .spdmRequest ..
  | .pldmFirmwareComponent .. | .sourceEvent .. | .sigPendSet .. | .sigPendClr .. | .sigVecClaim .. | .sourceClaim ..
  | .coalescerTimeTrigger .. | .msiXUnmask .. | .sigHostSleep .. | .l1EntryRequest | .eventQueueEnable .. | .coldBoot ..
  | .jtagUnlockToken .. | .jtagUnlockExpiry | .inServiceReload | .trialAutoConfirm | .trialStartAttempt | .busStuckTimeout ..
  | .busRetryTimer .. | .pfailStuckDetect | .refclkLoss | .refclkLostAlarm | .refclkReturn | .islandHang .. | .unitErrorFence ..
  | .fenceRetest .. | .ddrChannelFail .. | .fogNReadback .. | .parkTimer .. | .deepParkTimer .. | .parkedIslandWake ..
  | .supplyRampComplete .. | .avsTick .. | .supplyDroop .. | .thermalStep | .thermalTrip .. | .thermalAutoStart
  | .tmbWallOffsetWrite .. | .porstNAssert .. | .porstNRelease .. | .perstN .. | .supplyBrownOut .. | .vddAonLoss ..
  | .peerLaneFault .. | .timebaseAlignmentPulse .. | .hostPortLinkDown .. | .upstreamLinkDown | .managementLinkChange ..
  | .replicationConnectionLoss .. | .pfailNHigh | .transmitterEqualisationRetune .. => none

/-- Rows that share an opcode or a register differ by an argument: the argument names the row (04 R89, 13 R329, 19 Table 19.10, 20 Table 20.5). -/
def selects : Instr → Bool
  | .updArm r => r.arg 1 == 1
  | .updRevert r => r.arg 1 == 2
  | .updActivate r _ => r.arg 1 != 1 && r.arg 1 != 2
  | .fuseRaiseCounter r => r.arg 1 == 2
  | .fuseRevokeHedavyKey r _ => r.arg 1 == 3
  | .fuseBlowJtagDisabled r => r.arg 1 == 4
  | .fuseEnrolOwnerKey r _ => r.arg 1 != 2 && r.arg 1 != 3 && r.arg 1 != 4
  | .nsAccessGrant r => r.argBits 2 32 32 == 1
  | .nsAccessRevoke r => r.argBits 2 32 32 == 0
  | .replStop r => r.argBits 2 0 0 == 0
  | .replPromote r => r.argBits 2 0 0 == 1
  | .unitFence r => r.argBits 1 25 25 == 0
  | .unitFenceClear r => r.argBits 1 25 25 == 1
  | .unitSubstitute r => r.argBits 1 24 24 == 0
  | .unitSubstituteRestore r => r.argBits 1 24 24 == 1
  | .registerWrite .. | .bar2ScratchWrite .. | .stagedRegisterWrite .. | .lnsSetOpen .. | .lnsSetCheck .. | .lnsSetCommit ..
  | .lnsSetDiscard .. | .lnsSetNoOperation .. | .epochAckDeadline .. | .epochSwitch .. | .islandTimeFault .. | .relensDrainComplete
  | .islandLoadComplete .. | .lensSetRecordDurable | .nop .. | .identify .. | .jobStatus .. | .jobResult .. | .jobCancel ..
  | .jobEnd .. | .stageOpen .. | .stageLens .. | .stageCheck .. | .stageCommit .. | .stageDiscard .. | .sectorRelens ..
  | .upstreamReset .. | .keeperRestartGoHeld .. | .nsCreate .. | .nsDelete .. | .nsModify .. | .hostAdd .. | .hostRemove ..
  | .dictLoad .. | .snapCreate .. | .snapDelete .. | .cloneCreate .. | .snapLock .. | .snapList .. | .anaStage .. | .peerStatus ..
  | .beaconConfig .. | .peerAdmit .. | .keyLoad .. | .keyErase .. | .keyStatus .. | .updPiece .. | .updStatus .. | .updVerify ..
  | .updConfirm .. | .updFetch .. | .ledgerExport .. | .replPartnerAdd .. | .replPartnerRemove .. | .replStart .. | .replStatus ..
  | .moduleList .. | .moduleAdmit .. | .moduleRetire .. | .portRebind .. | .layoutSet .. | .scrubRange .. | .bucketConfig ..
  | .healthRead .. | .logRead .. | .logConfig .. | .sensorRead .. | .holdupTest .. | .fogClear .. | .sigRouteStage ..
  | .diagInject .. | .diagTrace .. | .diagPeek .. | .hostLaneOpen .. | .hostLaneShort .. | .hostLaneRetest .. | .hostPortTraining ..
  | .hostFrameReceive .. | .congestionNotification .. | .rateRecoveryTimer .. | .ptpEventMessage .. | .tlsHandshake ..
  | .tlsRecord .. | .tlsKeyUpdate .. | .connect .. | .authenticationSend .. | .authenticationReceive .. | .propertySet ..
  | .propertyGet .. | .nvmeWrite .. | .nvmeRead .. | .writeZeroes .. | .datasetManagement .. | .compare .. | .copy .. | .flush ..
  | .abort .. | .reservationRegister .. | .reservationAcquire .. | .reservationRelease .. | .reservationReport .. | .nvmeIdentify ..
  | .getLogPage .. | .setFeatures .. | .getFeatures .. | .keepAlive .. | .asynchronousEventRequest .. | .namespaceManagement ..
  | .namespaceAttachment .. | .firmwareImageDownload .. | .firmwareCommitVerify .. | .firmwareCommitActivate ..
  | .unsupportedOpcode .. | .keepAliveExpiry .. | .transportConnectionLoss .. | .capsuleContextAdmit | .h2cDataPdu ..
  | .rdmaReadCompletion .. | .apstIdleTimer .. | .chipPowerStateChange | .fwdCmd .. | .fwdCpl .. | .fwdAbort .. | .abortRsp ..
  | .journalAppend .. | .mirrorRec .. | .recAck .. | .vaultPageTimer | .vaultPageProgrammed | .retire .. | .journalRecordRetire ..
  | .grainFingerprint .. | .rowSealTimer .. | .rowProgramSuccess .. | .rowProgramFail .. | .anomalyScoreTick
  | .codewordReadEscalation .. | .grainVerify .. | .grainReconstruction .. | .journalFetch .. | .repairInPlace ..
  | .moduleReachCheck | .dieFault .. | .segmentOpen .. | .rebuildSegment .. | .rebuildTransactionDurable .. | .freeSpaceChange
  | .fold .. | .garbageCollection .. | .relocationErase .. | .blockEraseComplete .. | .staticWearLevelling ..
  | .readDisturbRefresh .. | .nandTemperatureSample .. | .retentionCheck | .wallWaitExpiry | .checkpoint | .checkpointDurable
  | .checkpointOverdue | .metadataRestart .. | .mediaLaneFault .. | .mediaLaneRetest .. | .mediaPortTraining ..
  | .lowPowerIdleTimer .. | .smlFrameReceive .. | .smlNak .. | .smlReplayTimer .. | .smlCreditAdvertisement ..
  | .smlKeepAliveTimer .. | .smlResponse .. | .mediaPortUp .. | .mediaForward .. | .smlCmd .. | .logPageTimer | .logPageDurable ..
  | .logPage .. | .remoteDelta .. | .remoteAck .. | .pagePull .. | .counters .. | .releaseWalk | .snapshotReady ..
  | .metadataPageRead .. | .wallClockKnown | .trainId .. | .uberufFrameReceive .. | .uberufReplayTimer .. | .beaconSendTimer
  | .beacon .. | .phbInEdge | .heartbeatLoss .. | .phbOutReadbackFault | .startWaitExpiry | .severMaxExpiry | .raceDelayExpiry
  | .leaseRaceTimer | .prepare .. | .ownAck .. | .ownGo .. | .ownAbort .. | .drained .. | .rsvUpdate .. | .rsvAck .. | .ckptPage ..
  | .ringCopy .. | .admitDone .. | .coldJoin .. | .startLeaseRead .. | .pfailNAsserted | .vaultDumpCommit .. | .shutdownExit ..
  | .storeSenseSample .. | .storeProbe .. | .storeProbeRepeat .. | .capacitanceTestDue | .capacitanceTestEnd ..
  | .vaultMemberReplace | .dumpAreaErase | .holdupSettingsWrite | .replicationInterval .. | .hello .. | .helloAck .. | .proof ..
  | .rekey .. | .rekeyLimit .. | .keepalive .. | .keepaliveIdleTimer .. | .connectionSilenceTimer .. | .streamOpen .. | .fpBatch ..
  | .fpWant .. | .data .. | .mapRun .. | .cursor .. | .diffEnd .. | .syncRec .. | .syncAck .. | .close .. | .syncHoldExpiry ..
  | .reconnectRetry .. | .cryOpen .. | .cryUpdate .. | .cryFinal .. | .crySingle .. | .cryClose .. | .crySave .. | .ecdsaVerify ..
  | .ecdsaSign .. | .cryChannelDisable .. | .cryContextIdleExpiry .. | .keyEraseTimeout .. | .digResultRead .. | .digCtxRelease ..
  | .compress .. | .decompress .. | .compressionJobNoPt .. | .scanBuffer .. | .scanSnapshot .. | .patternLoad ..
  | .dramReadDecode .. | .correctionWriteBack .. | .leakyBucketLeak .. | .backgroundScrubPass .. | .sramPatrol .. | .dramZeroFill ..
  | .mccDisable .. | .mccEnable .. | .mccDrainComplete .. | .mapCacheMissFill .. | .keeperLockstepMismatch ..
  | .keeperWatchdogLapse .. | .keeperRestartComplete .. | .sensorSample .. | .operatingHourRecord | .logPeriodEnd | .logFaultFlush
  | .bootFlashWrite .. | .telemetryPush .. | .managementSettingsSubmit | .mctpMessage .. | .spdmRequest ..
  | .pldmFirmwareComponent .. | .sourceEvent .. | .sigPendSet .. | .sigPendClr .. | .sigVecClaim .. | .sourceClaim ..
  | .coalescerTimeTrigger .. | .msiXUnmask .. | .sigHostSleep .. | .l1EntryRequest | .eventQueueEnable .. | .coldBoot ..
  | .jtagUnlockToken .. | .jtagUnlockExpiry | .inServiceReload | .trialAutoConfirm | .trialStartAttempt | .busStuckTimeout ..
  | .busRetryTimer .. | .pfailStuckDetect | .refclkLoss | .refclkLostAlarm | .refclkReturn | .islandHang .. | .unitErrorFence ..
  | .fenceRetest .. | .ddrChannelFail .. | .fogNReadback .. | .parkTimer .. | .deepParkTimer .. | .parkedIslandWake ..
  | .supplyRampComplete .. | .avsTick .. | .supplyDroop .. | .thermalStep | .thermalTrip .. | .thermalAutoStart
  | .tmbWallOffsetWrite .. | .porstNAssert .. | .porstNRelease .. | .perstN .. | .supplyBrownOut .. | .vddAonLoss ..
  | .peerLaneFault .. | .timebaseAlignmentPulse .. | .hostPortLinkDown .. | .upstreamLinkDown | .managementLinkChange ..
  | .replicationConnectionLoss .. | .pfailNHigh | .transmitterEqualisationRetune .. => true

/-- Bytes of BAR2 that a command writes lie in BAR2 (03 R72). -/
def inBar2 : Instr → Bool
  | .bar2ScratchWrite off bytes => decide (off.val + bytes.length ≤ 67108864)
  | .registerWrite .. | .stagedRegisterWrite .. | .lnsSetOpen .. | .lnsSetCheck .. | .lnsSetCommit .. | .lnsSetDiscard ..
  | .lnsSetNoOperation .. | .epochAckDeadline .. | .epochSwitch .. | .islandTimeFault .. | .relensDrainComplete
  | .islandLoadComplete .. | .lensSetRecordDurable | .nop .. | .identify .. | .jobStatus .. | .jobResult .. | .jobCancel ..
  | .jobEnd .. | .stageOpen .. | .stageLens .. | .stageCheck .. | .stageCommit .. | .stageDiscard .. | .sectorRelens ..
  | .upstreamReset .. | .keeperRestartGoHeld .. | .nsCreate .. | .nsDelete .. | .nsModify .. | .hostAdd .. | .hostRemove ..
  | .nsAccessGrant .. | .nsAccessRevoke .. | .dictLoad .. | .snapCreate .. | .snapDelete .. | .cloneCreate .. | .snapLock ..
  | .snapList .. | .anaStage .. | .peerStatus .. | .beaconConfig .. | .peerAdmit .. | .keyLoad .. | .keyErase .. | .keyStatus ..
  | .updPiece .. | .updStatus .. | .updVerify .. | .updActivate .. | .updArm .. | .updRevert .. | .updConfirm .. | .updFetch ..
  | .ledgerExport .. | .fuseEnrolOwnerKey .. | .fuseRaiseCounter .. | .fuseRevokeHedavyKey .. | .fuseBlowJtagDisabled ..
  | .replPartnerAdd .. | .replPartnerRemove .. | .replStart .. | .replStop .. | .replPromote .. | .replStatus .. | .moduleList ..
  | .moduleAdmit .. | .moduleRetire .. | .portRebind .. | .layoutSet .. | .scrubRange .. | .bucketConfig .. | .healthRead ..
  | .logRead .. | .logConfig .. | .sensorRead .. | .holdupTest .. | .fogClear .. | .sigRouteStage .. | .unitFence ..
  | .unitFenceClear .. | .unitSubstitute .. | .unitSubstituteRestore .. | .diagInject .. | .diagTrace .. | .diagPeek ..
  | .hostLaneOpen .. | .hostLaneShort .. | .hostLaneRetest .. | .hostPortTraining .. | .hostFrameReceive ..
  | .congestionNotification .. | .rateRecoveryTimer .. | .ptpEventMessage .. | .tlsHandshake .. | .tlsRecord .. | .tlsKeyUpdate ..
  | .connect .. | .authenticationSend .. | .authenticationReceive .. | .propertySet .. | .propertyGet .. | .nvmeWrite ..
  | .nvmeRead .. | .writeZeroes .. | .datasetManagement .. | .compare .. | .copy .. | .flush .. | .abort ..
  | .reservationRegister .. | .reservationAcquire .. | .reservationRelease .. | .reservationReport .. | .nvmeIdentify ..
  | .getLogPage .. | .setFeatures .. | .getFeatures .. | .keepAlive .. | .asynchronousEventRequest .. | .namespaceManagement ..
  | .namespaceAttachment .. | .firmwareImageDownload .. | .firmwareCommitVerify .. | .firmwareCommitActivate ..
  | .unsupportedOpcode .. | .keepAliveExpiry .. | .transportConnectionLoss .. | .capsuleContextAdmit | .h2cDataPdu ..
  | .rdmaReadCompletion .. | .apstIdleTimer .. | .chipPowerStateChange | .fwdCmd .. | .fwdCpl .. | .fwdAbort .. | .abortRsp ..
  | .journalAppend .. | .mirrorRec .. | .recAck .. | .vaultPageTimer | .vaultPageProgrammed | .retire .. | .journalRecordRetire ..
  | .grainFingerprint .. | .rowSealTimer .. | .rowProgramSuccess .. | .rowProgramFail .. | .anomalyScoreTick
  | .codewordReadEscalation .. | .grainVerify .. | .grainReconstruction .. | .journalFetch .. | .repairInPlace ..
  | .moduleReachCheck | .dieFault .. | .segmentOpen .. | .rebuildSegment .. | .rebuildTransactionDurable .. | .freeSpaceChange
  | .fold .. | .garbageCollection .. | .relocationErase .. | .blockEraseComplete .. | .staticWearLevelling ..
  | .readDisturbRefresh .. | .nandTemperatureSample .. | .retentionCheck | .wallWaitExpiry | .checkpoint | .checkpointDurable
  | .checkpointOverdue | .metadataRestart .. | .mediaLaneFault .. | .mediaLaneRetest .. | .mediaPortTraining ..
  | .lowPowerIdleTimer .. | .smlFrameReceive .. | .smlNak .. | .smlReplayTimer .. | .smlCreditAdvertisement ..
  | .smlKeepAliveTimer .. | .smlResponse .. | .mediaPortUp .. | .mediaForward .. | .smlCmd .. | .logPageTimer | .logPageDurable ..
  | .logPage .. | .remoteDelta .. | .remoteAck .. | .pagePull .. | .counters .. | .releaseWalk | .snapshotReady ..
  | .metadataPageRead .. | .wallClockKnown | .trainId .. | .uberufFrameReceive .. | .uberufReplayTimer .. | .beaconSendTimer
  | .beacon .. | .phbInEdge | .heartbeatLoss .. | .phbOutReadbackFault | .startWaitExpiry | .severMaxExpiry | .raceDelayExpiry
  | .leaseRaceTimer | .prepare .. | .ownAck .. | .ownGo .. | .ownAbort .. | .drained .. | .rsvUpdate .. | .rsvAck .. | .ckptPage ..
  | .ringCopy .. | .admitDone .. | .coldJoin .. | .startLeaseRead .. | .pfailNAsserted | .vaultDumpCommit .. | .shutdownExit ..
  | .storeSenseSample .. | .storeProbe .. | .storeProbeRepeat .. | .capacitanceTestDue | .capacitanceTestEnd ..
  | .vaultMemberReplace | .dumpAreaErase | .holdupSettingsWrite | .replicationInterval .. | .hello .. | .helloAck .. | .proof ..
  | .rekey .. | .rekeyLimit .. | .keepalive .. | .keepaliveIdleTimer .. | .connectionSilenceTimer .. | .streamOpen .. | .fpBatch ..
  | .fpWant .. | .data .. | .mapRun .. | .cursor .. | .diffEnd .. | .syncRec .. | .syncAck .. | .close .. | .syncHoldExpiry ..
  | .reconnectRetry .. | .cryOpen .. | .cryUpdate .. | .cryFinal .. | .crySingle .. | .cryClose .. | .crySave .. | .ecdsaVerify ..
  | .ecdsaSign .. | .cryChannelDisable .. | .cryContextIdleExpiry .. | .keyEraseTimeout .. | .digResultRead .. | .digCtxRelease ..
  | .compress .. | .decompress .. | .compressionJobNoPt .. | .scanBuffer .. | .scanSnapshot .. | .patternLoad ..
  | .dramReadDecode .. | .correctionWriteBack .. | .leakyBucketLeak .. | .backgroundScrubPass .. | .sramPatrol .. | .dramZeroFill ..
  | .mccDisable .. | .mccEnable .. | .mccDrainComplete .. | .mapCacheMissFill .. | .keeperLockstepMismatch ..
  | .keeperWatchdogLapse .. | .keeperRestartComplete .. | .sensorSample .. | .operatingHourRecord | .logPeriodEnd | .logFaultFlush
  | .bootFlashWrite .. | .telemetryPush .. | .managementSettingsSubmit | .mctpMessage .. | .spdmRequest ..
  | .pldmFirmwareComponent .. | .sourceEvent .. | .sigPendSet .. | .sigPendClr .. | .sigVecClaim .. | .sourceClaim ..
  | .coalescerTimeTrigger .. | .msiXUnmask .. | .sigHostSleep .. | .l1EntryRequest | .eventQueueEnable .. | .coldBoot ..
  | .jtagUnlockToken .. | .jtagUnlockExpiry | .inServiceReload | .trialAutoConfirm | .trialStartAttempt | .busStuckTimeout ..
  | .busRetryTimer .. | .pfailStuckDetect | .refclkLoss | .refclkLostAlarm | .refclkReturn | .islandHang .. | .unitErrorFence ..
  | .fenceRetest .. | .ddrChannelFail .. | .fogNReadback .. | .parkTimer .. | .deepParkTimer .. | .parkedIslandWake ..
  | .supplyRampComplete .. | .avsTick .. | .supplyDroop .. | .thermalStep | .thermalTrip .. | .thermalAutoStart
  | .tmbWallOffsetWrite .. | .porstNAssert .. | .porstNRelease .. | .perstN .. | .supplyBrownOut .. | .vddAonLoss ..
  | .peerLaneFault .. | .timebaseAlignmentPulse .. | .hostPortLinkDown .. | .upstreamLinkDown | .managementLinkChange ..
  | .replicationConnectionLoss .. | .pfailNHigh | .transmitterEqualisationRetune .. => true

/-- The term is a command. -/
def wf (i : Instr) : Bool := (i.task.all TaskReq.wf) && (i.capsule.all IoCapsule.wf) && i.selects && i.inBar2

end Instr
end Sys2Proof
end

