-- ==== Sys2Proof/Machine/Lens.lean ====
section
/-!
DEFINITION. Islands and Sectors, the Lens image checks of Table 2.5, and what a Lens changes of the live set (01, 02 R27 to R36).
-/
namespace Sys2Proof.Machine

/-! ## Islands and Sectors (01 Tables 1.2, 1.3; 20 R477) -/

/-- Number of the first island of each prefix, in the order of R477. -/
abbrev iPT : Nat := 0
abbrev iMT : Nat := 66
abbrev iSC : Nat := 100
abbrev iHQ : Nat := 108
abbrev iMP : Nat := 116
abbrev iMX : Nat := 148
abbrev iDDR : Nat := 152
abbrev iMC : Nat := 168
abbrev iSV : Nat := 232
abbrev iCRY : Nat := 236
abbrev iPAT : Nat := 237
abbrev iUB : Nat := 245
abbrev iMIR : Nat := 247
abbrev iNOC : Nat := 248
abbrev iKPA : Nat := 264
abbrev iKPB : Nat := 265
abbrev iSIG : Nat := 266
abbrev iTMB : Nat := 267
abbrev iHUP : Nat := 268
abbrev iUP : Nat := 269
abbrev iMG : Nat := 270

/-- Every island. -/
def allIslands : List Nat := List.range 272

/-- The Sector of an island (01 Table 1.2). -/
def sectorOf (i : Nat) : Nat :=
  if i < 64 then i / 8
  else if i < 66 then 12
  else if i < 98 then 8 + (i - 66) / 8
  else if i < 100 then 12
  else if i < 108 then i - 100
  else if i < 116 then i - 108
  else if i < 148 then 8 + (i - 116) / 8
  else if i < 152 then 8 + (i - 148)
  else if i < 245 then 14
  else if i < 248 then 13
  else if i < 264 then i - 248
  else 15

/-- The islands of a Sector. -/
def islandsOf (sector : Nat) : List Nat := allIslands.filter (sectorOf · == sector)

/-- Nominal frequency code of an island (01 Table 1.3, 02 R33). -/
def nominalCode (i : Nat) : Nat :=
  if i < 66 then 80 else if i < 100 then 64 else if i < 108 then 80 else if i < 116 then 64 else if i < 148 then 40
  else if i < 152 then 64 else if i < 237 then 80 else if i < 245 then 64 else if i < 248 then 64 else if i < 264 then 80
  else if i < 266 then 48 else if i < 270 then 40 else 32

/-- The islands of a power domain (21 Table 21.1). -/
def domainIslands (d : Nat) : List Nat :=
  if d < 16 then List.range' (4 * d) 4
  else if d = 16 then [64, 65]
  else if d < 25 then List.range' (66 + 4 * (d - 17)) 4
  else if d = 25 then [98, 99]
  else if d < 34 then [100 + (d - 26)]
  else if d < 38 then List.range' (152 + 4 * (d - 34)) 4
  else if d < 42 then [232 + (d - 38)]
  else if d = 42 then List.range' 168 32
  else if d = 43 then List.range' 200 32
  else if d = 44 then List.range' 237 8
  else if d = 45 then [236]
  else if d = 46 then [245, 246, 247]
  else if d = 47 then [264, 265, 267, 268]
  else []

/-- Role of a PT or MT under a plan; an island with no role entry is not unused. -/
def roleOf (l : LiveLens) (i : Nat) : Nat := lookupD 1 i l.roles

/-! ## Section rules (02 R29 to R34, 21 R492) -/

/-- TYPE number of a section body (02 Table 2.2). -/
def LensSection.typ : LensSection → Nat
  | .portBinding _ _ => 1
  | .tiles _ _ _ _ => 2
  | .profiles _ => 3
  | .sram _ _ => 4
  | .freq _ => 5
  | .power _ => 6
  | .routes _ => 7
  | .iface _ => 8
  | .blobs _ => 9

/-- A profile is legal: its stages run in order and the six that every profile has are present (02 R31). -/
def Profile.legal (p : Profile) : Bool :=
  p.stages == (List.range 9).filter (p.stages.contains ·) && [0, 1, 2, 3, 7, 8].all (p.stages.contains ·) && p.pdom < 8

/-- A power plan entry is legal (02 R34, 21 R492), given which islands are unused. -/
def PowerEntry.legal (unused : Nat → Bool) (e : PowerEntry) : Bool :=
  e.domain < 48 && e.mode ≤ 3 && e.rsvd == 0 && e.parkUs < 65536 && e.deepMs < 65536 &&
  (if [34, 35, 36, 37, 42, 43, 46, 47].contains e.domain then e.mode == 1 else true) &&
  (if e.mode == 0 then (domainIslands e.domain).all unused else true)

/-- Bits set in a core mask. -/
def popcount (w n : Nat) : Nat := ((List.range n).filter (w.testBit ·)).length

/-- Field values of one section are legal (check 5 of Table 2.5). -/
def sectionLegal (base : Bool) (unused : Nat → Bool) : LensSection → Bool
  | .portBinding quads groups =>
    quads.all (fun q => q.1 < 8 && (q.2 ≤ 3 || q.2 == 0xFF)) && groups.all (fun g => g.1 < 32 && g.2 ≤ 33) &&
    (!base || 2 ≤ (quads.filter (·.2 != 0xFF)).length)
  | .tiles roles homes cores subst =>
    roles.all (fun r => r.1 < 100 && r.2 ≤ 2) && homes.all (fun h => h.1 < 66 && h.2 < 8) &&
    cores.all (fun c => c.1 < 8 && popcount c.2.toNat 17 == 16) &&
    (roles.filter (fun r => r.2 == 1)).all (fun r => subst.any (·.unit == r.1)) &&
    (roles.filter (fun r => r.1 < 66 && r.2 == 1)).length ≤ 64 &&
    (roles.filter (fun r => 66 ≤ r.1 && r.2 == 1)).length ≤ 32
  | .profiles ps => ps.length ≤ 8 && ps.all Profile.legal
  | .sram ways units =>
    [0, 4, 8, 12].contains ways && 1 ≤ units.length && units.length ≤ 16 && units.all (0 < ·) && units.sum == 64
  | .freq codes =>
    codes.all fun c => c.1 < 272 && (if c.2 == 0 then unused c.1 else 8 ≤ c.2 && c.2 ≤ nominalCode c.1)
  | .power es => es.all (PowerEntry.legal unused)
  | .routes _ => true
  | .iface _ => true
  | .blobs bs => bs.all fun b => b.island < 272 && b.shaOk

/-! ## What a Lens makes live -/

/-- Replace the entries whose key the new list names. -/
def mergeKeys {β : Type} (old new : List (Nat × β)) : List (Nat × β) := new.foldl (fun l x => setKey x.1 x.2 l) old

/-- A section's part of the live set. -/
def applySection (sector : Nat) (l : LiveLens) : LensSection → LiveLens
  | .portBinding q g => { l with quadMode := mergeKeys l.quadMode q, groupMt := mergeKeys l.groupMt g }
  | .tiles r h c t =>
    { l with roles := mergeKeys l.roles r, homes := mergeKeys l.homes h, coreMasks := mergeKeys l.coreMasks c,
             subst := t ++ l.subst.filter fun e => !(t.any (·.unit == e.unit)) }
  | .profiles ps => { l with profiles := setKey sector ps l.profiles }
  | .sram w u => { l with scratchWays := w, sieveUnits := u }
  | .freq cs => { l with freq := mergeKeys l.freq cs }
  | .power es => { l with power := es ++ l.power.filter fun e => !(es.any (·.domain == e.domain)) }
  | .routes t => { l with routes := setKey sector t l.routes }
  | .iface _ => l
  | .blobs bs => { l with blobs := mergeKeys l.blobs (bs.map fun b => (b.island, b.tag)) }

/-- The live set with an image in it: a Sector Lens adds its Sector, a base Lens begins a new set (02 R29, R49). -/
def applyLens (img : LensImage) (l : LiveLens) : LiveLens :=
  if img.kind == 0 then
    img.sections.foldl (fun l e => applySection e.sector l e.body)
      { LiveLens.empty with loaded := true, baseId := img.lensId, secVersion := img.secVersion, ifaceTag := img.ifaceTag,
                            powerMw := [(0xFF, img.powerMw)], coreMa := [(0xFF, img.coreMa)] }
  else
    img.sections.foldl (fun l e => applySection img.sector l e.body)
      { l with sectorIds := setKey img.sector img.lensId l.sectorIds, powerMw := setKey img.sector img.powerMw l.powerMw,
               coreMa := setKey img.sector img.coreMa l.coreMa, secVersion := max l.secVersion img.secVersion }

/-- Islands whose blob an image changes; the others are carried (02, "Re-lensing"). -/
def changedIslands (img : LensImage) (l : LiveLens) : List Nat :=
  (img.sections.flatMap fun e => match e.body with
    | .blobs bs => bs
    | _ => []).filterMap fun b => if lookupD 0 b.island l.blobs == b.tag then none else some b.island

/-! ## The staging checks (02 Table 2.5) -/

/-- Check 1: the image is well formed and every CRC-32C holds. -/
def lensCheck1 (img : LensImage) : Bool :=
  img.magic == 0x4E4C4442 && img.format == 1 && img.hdrLen == 0x80 && img.imageLen != 0 && img.crcOk &&
  img.sectionCount == img.sections.length &&
  img.sections.all fun e => e.length != 0 && e.offset % 64 == 0 && 128 + 16 * img.sectionCount ≤ e.offset &&
    e.offset + e.length + 256 ≤ img.imageLen && e.crcOk

/-- A Hedavy signature by an unrevoked key, and the owner countersignature when an owner key is enrolled (19 R445). -/
def signatureOk (s : State) (keyIndex : Nat) (sigOk : Bool) (ownerPresent : Nat) (ownerSigOk : Bool) : Bool :=
  keyIndex < 4 && !(s.boot.fuses.revoked.contains keyIndex) && sigOk &&
  (!s.ownerKey || (ownerPresent == 1 && ownerSigOk))

/-- The anti-rollback count of a class (19 R443). -/
def State.rollback (s : State) (cls : Nat) : Nat := (s.boot.fuses.rollback[cls]?).getD 0

/-- Check 4: stepping, kind, Sector, section types, interface tag. -/
def lensCheck4 (img : LensImage) (s : State) : Bool :=
  img.stepping == 0x3142 && img.kind ≤ 1 && 1 ≤ img.sections.length && img.sections.length ≤ 64 &&
  img.sections.all (fun e => e.typ == LensSection.typ e.body) &&
  ((img.sections.map fun e => (e.typ, e.sector)).eraseDups.length == img.sections.length) &&
  (if img.kind == 0 then
     img.sector == 0xFF && (List.range' 1 9).all (fun t => img.sections.any (·.typ == t))
   else
     img.sector ≤ 14 && img.ifaceTag == s.lens.live.ifaceTag &&
     img.sections.all fun e => e.sector == img.sector &&
       ([1, 2, 5, 6, 7, 9].contains e.typ || (e.typ == 3 && img.sector < 8)))

/-- Check 5: field values. -/
def lensCheck5 (img : LensImage) (s : State) : Bool :=
  let after := applyLens img s.lens.live
  let unused := fun i => roleOf after i == 0
  img.flags == 0 && img.rsvdZero && img.secVersion ≤ 64 &&
  img.sections.all (fun e => e.flags == 0 && sectionLegal (img.kind == 0) unused e.body)

/-- Checks 1 to 5 in order: the code of the first failure. -/
def lensChecks (img : LensImage) (s : State) : Option Nat :=
  if !lensCheck1 img then some cCORRUPT_INPUT
  else if !signatureOk s img.keyIndex img.sigOk img.ownerPresent img.ownerSigOk then some cIMAGE_BAD_SIGNATURE
  else if img.secVersion < s.rollback 3 then some cIMAGE_ROLLBACK
  else if !lensCheck4 img s then some cLENS_INCOMPATIBLE
  else if !lensCheck5 img s then some cBAD_FIELD
  else none

/-- Check 6: declared power and current of the new image with the live Sectors it does not replace; DETAIL of kind 2 (02 R523). -/
def lensCheck6 (img : LensImage) (s : State) : Option (Nat × Nat) :=
  let after := applyLens img s.lens.live
  if img.powerMw == 0 || 400000 < (after.powerMw.map Prod.snd).sum then some (cCHECK_FAILED, 2 * 2 ^ 30 + 1)
  else if img.coreMa == 0 || 430000 < (after.coreMa.map Prod.snd).sum then some (cCHECK_FAILED, 2 * 2 ^ 30 + 2)
  else none

/-- A unit is out of service. -/
def State.isFenced (s : State) (i : Nat) : Bool := s.lens.fenced.contains i

/-- Check 7: the Sector's work fits the remaining units, and any spare in use stays carried. -/
def lensCheck7 (img : LensImage) (s : State) : Bool :=
  let changed := changedIslands img s.lens.live
  let left := fun lo n => (List.range' lo n).any fun i =>
    !changed.contains i && !s.isFenced i && roleOf s.lens.live i != 0
  (!(changed.any (· < 66)) || left 0 66) && (!(changed.any fun i => 66 ≤ i && i < 100) || left 66 34) &&
  s.lens.sparesUsed.all fun p => !changed.contains p.1

end Sys2Proof.Machine
end

