-- ==== Sys2Proof/Machine/Stage.lean ====
section
/-!
DEFINITION. Stage sets: what staging claims, staging writes, the check, the commit up to its prepare (02 R37 to R43, R522 to R525).
-/
namespace Sys2Proof.Machine

/-! ## Claims (02 Table 2.11) -/

/-- Islands that a staged register claims (02 R522); none for a register that is not staged. -/
def regClaims (off : Nat) : List Nat :=
  if (Reg.SIG_ROUTE.holds off || Reg.SIG_COAL.holds off) then [iSIG]
  else if Reg.SML_PORT_BIND.holds off then [iMP + (off - 0x601000) / 64]
  else if Reg.HFE_QOS_CFG.holds off then [iHQ + (off - 0x100100) / 32]
  else if Reg.HFE_IF.holds off then [iHQ + (off - 0x102000) / 0x800]
  else if Reg.HFE_PTP_CFG.holds off || Reg.HFE_SUBNQN.holds off then List.range' iHQ 8
  else if Reg.PTL_JRING_CFG.holds off || Reg.CMP_CFG.holds off then List.range 66
  else if Reg.MTL_LDPC_CFG.holds off then List.range' iMT 34
  else if Reg.MTL_REBUILD_CFG.holds off || Reg.MTL_FM_CFG.holds off || Reg.MTL_RET_CFG.holds off ||
      Reg.MTL_BG_CFG.holds off then List.range' iSC 8
  else if Reg.SML_LINK_CFG.holds off then List.range' iMP 32
  else if Reg.UBL_BEACON_CFG.holds off then [iMIR]
  else if Reg.MEM_SCRUB_CFG.holds off || Reg.MEM_BUCKET_CFG.holds off then List.range' iDDR 16
  else if Reg.CRY_CFG.holds off then [iCRY]
  else if Reg.PAT_CFG.holds off then List.range' iPAT 8
  else if Reg.HUP_CFG.holds off || Reg.HUP_STORE_CFG.holds off || Reg.HUP_SENSE_CFG.holds off then [iHUP]
  else if Reg.KPR_WDOG_CFG.holds off || Reg.KPR_MCTP_CFG.holds off || Reg.LNS_REPAIR_CFG.holds off then [iKPA, iKPB]
  else if Reg.PWR_THERM_CFG.holds off then [iKPB]
  else []

/-- Islands that an item claims. -/
def itemClaims : StagedItem → List Nat
  | .lens img => if img.kind == 0 then allIslands else islandsOf img.sector
  | .subst spare unit => if 512 ≤ unit then [100 + (unit - 512) / 32] else [spare, unit]
  | .restore unit => if 512 ≤ unit then [100 + (unit - 512) / 32] else [unit]
  | .owner _ _ => List.range' iHQ 8
  | .key _ _ => [iCRY]

/-! ## Sets -/

/-- A stage set. -/
def State.set (s : State) (n : Nat) : StageSet := (s.lens.sets[n]?).getD .free

/-- Store a stage set; a change of STATE fires its source (02 R50). -/
def State.putSet (s : State) (n : Nat) (x : StageSet) : State :=
  let old := (s.set n).st
  let s := { s with lens := { s.lens with sets := putNth .free x n s.lens.sets } }
  if x.st == old then s else fire (40 + n) s

/-- The set a set becomes when it is done with: FREE, with the result of its last operation (02 Table 2.6). -/
def StageSet.freed (x : StageSet) (code detail : Nat) : StageSet :=
  { StageSet.free with code := code, detail := detail, switchT := x.switchT, checkedGen := x.checkedGen }

/-- Record the result of an operation that leaves the set as it is. -/
def State.setResult (s : State) (n code detail : Nat) : State :=
  s.putSet n { s.set n with code := code, detail := detail }

/-- Islands claimed by the other open sets. -/
def claimedElsewhere (n : Nat) (s : State) (claims : List Nat) : Bool :=
  (List.range 8).any fun m => m != n && (s.set m).st != .free && (s.set m).claims.any (claims.contains ·)

/-- The set takes a staging write that claims these islands (02 R524). -/
def canStage (n : Nat) (s : State) (claims : List Nat) : Bool :=
  ((s.set n).st == .staging || (s.set n).st == .checked) && !claimedElsewhere n s claims

/-- A set after a staging write: STAGING, its islands claimed (02 R524). -/
def StageSet.claim (x : StageSet) (claims : List Nat) : StageSet :=
  { x with st := .staging, claims := claims.foldl (fun l i => insertNat i l) x.claims }

/-- Stage a register value. -/
def stageReg (n off : Nat) (w : Word) (s : State) : State :=
  let x := (s.set n).claim (regClaims off)
  s.putSet n { x with writes := setKey off w x.writes }

/-- Stage an item. -/
def stageItem (n : Nat) (i : StagedItem) (s : State) : State :=
  let x := (s.set n).claim (itemClaims i)
  s.putSet n { x with items := x.items ++ [i] }

/-- Nothing is staged in the set. -/
def StageSet.empty (x : StageSet) : Bool := x.writes.isEmpty && x.items.isEmpty

/-! ## The check (02 Table 2.6, R523) -/

/-- DETAIL of kind 0: the register and the lowest bit of the offending field (02 Table 2.10). -/
def detailReg (off low : Nat) : Nat := low * 2 ^ 23 + off / 8

/-- DETAIL of kind 2 for R139: rule 3 and the profile. -/
def detailProfile (p : Nat) : Nat := 2 * 2 ^ 30 + p * 2 ^ 8 + 3

/-- The value a register would have with the set's shadows in. -/
def shadowed (x : StageSet) (s : State) (off : Nat) : Word := lookupD (s.word off) off x.writes

/-- An entry of the port interface table: its four words by port and index (04 Table 4.1). -/
def ifWord (x : StageSet) (s : State) (port index word : Nat) : Word :=
  shadowed x s (0x102000 + 0x200 * port + 0x20 * index + 8 * word)

/-- Two valid interfaces of one port with one address (04, after Table 4.1). -/
def ifDuplicate (x : StageSet) (s : State) (port index : Nat) : Bool :=
  (List.range 16).any fun j => j != index && bits (ifWord x s port j 0) 0 0 == 1 &&
    ifWord x s port j 1 == ifWord x s port index 1 && ifWord x s port j 2 == ifWord x s port index 2 &&
    bits (ifWord x s port j 0) 1 1 == bits (ifWord x s port index 0) 1 1

/-- Bytes of the subsystem NQN before its first zero byte. -/
def subnqnLen (x : StageSet) (s : State) : Nat :=
  ((List.range 256).takeWhile fun i =>
    bits (shadowed x s (0x100400 + 8 * (i / 8))) (8 * (i % 8) + 7) (8 * (i % 8)) != 0).length

/-- The pattern image of a bank (15 R373). -/
def State.bank (s : State) (b : Nat) : Option PatImage := if b = 0 then s.eng.bank0 else s.eng.bank1

/-- Every namespace of the pair: this head's and the partner's as the shadow holds them. -/
def State.namespaces (s : State) : List Namespace := s.md.store.nss ++ s.md.shadow.nss

/-- Patterns of a group in an image. -/
def groupCount (p : PatImage) (g : Nat) : Nat := ((p.groups[g]?).getD (0, 0)).2

/-- The first offending field of one staged register, by its lowest bit. -/
def checkReg (x : StageSet) (s : State) (off : Nat) (w : Word) : Option Nat :=
  if Reg.SIG_ROUTE.holds off then
    if w != 0 && !assignedSource ((off - 0x44000) / 8) then
      some (if bits w 10 0 != 0 then 0 else if bits w 17 16 != 0 then 16 else if bits w 27 24 != 0 then 24 else 31)
    else none
  else if Reg.HFE_IF.holds off then
    let port := (off - 0x102000) / 0x200
    let index := (off - 0x102000) % 0x200 / 0x20
    let flags := ifWord x s port index 0
    if bits flags 0 0 == 1 && bits flags 3 2 == 0 then some 0
    else if bits flags 0 0 == 1 && ifDuplicate x s port index then some 0
    else none
  else if Reg.HUP_STORE_CFG.holds off then
    if bits w 15 0 == 0 then some 0
    else if bits w 31 16 == 0 || bits w 15 0 ≤ bits w 31 16 then some 16
    else if bits w 47 32 == 0 then some 32
    else none
  else if Reg.PAT_CFG.holds off then
    let b := bits w 0 0
    if b == s.fld Reg.fPAT_CFG_BANK then none
    else match s.bank b with
    | none => some 0
    | some img =>
      if !s.flag Reg.fPAT_LOAD_STATUS_VALID then some 0
      else if s.namespaces.any fun n => n.guardOn && groupCount img n.guard == 0
      then some 0 else none
  else none

/-- The first staged register that offends, as DETAIL of kind 0. The subsystem NQN is checked as a whole and named by its first register. -/
def checkRegs (x : StageSet) (s : State) : Option Nat :=
  x.writes.findSome? fun p =>
    if Reg.HFE_SUBNQN.holds p.1 then
      (if subnqnLen x s == 0 || 223 < subnqnLen x s then some (detailReg 0x100400 0) else none)
    else (checkReg x s p.1 p.2).map (detailReg p.1)

/-- The profile of a number in a host Sector under a plan. -/
def profileIn (l : LiveLens) (sector p : Nat) : Option Profile := (lookupD [] sector l.profiles)[p]?

/-- A profile that some namespace selects and that the plan breaks: not the same stages in every host Sector (05 R139), or a placement domain with no code (07 R162). -/
def badProfile (l : LiveLens) (s : State) : Option Nat :=
  (s.namespaces.map (·.profile)).find? fun p =>
    let ps := (List.range 8).filterMap fun h => profileIn l h p
    (ps.map (·.stages)).eraseDups.length > 1 ||
    ps.any fun q => ((s.media.domains[q.pdom]?).bind (·.code)).isNone

/-- The check of one item. -/
def checkItem (s : State) : StagedItem → Option (Nat × Nat)
  | .lens img =>
    match lensCheck6 img s with
    | some e => some e
    | none =>
      match badProfile (applyLens img s.lens.live) s with
      | some p => some (cCHECK_FAILED, detailProfile p)
      | none => if lensCheck7 img s then none else some (cSECTOR_BUSY, 0)
  | .subst spare _ => if s.isFenced spare then some (cCHECK_FAILED, 2 ^ 30 + spare) else none
  | .restore _ => none
  | .owner _ _ => none
  | .key _ _ => none

/-- The whole check of a set: the first failure, registers in the order staged, then the other settings. -/
def checkSet (n : Nat) (s : State) : Option (Nat × Nat) :=
  let x := s.set n
  match checkRegs x s with
  | some d => some (cCHECK_FAILED, d)
  | none => x.items.findSome? (checkItem s)

/-- CHECK of a set that holds shadows (02 Table 2.6): CHECKED with the live generation recorded, or back to STAGING with the code. -/
def runCheck (n : Nat) (s : State) : State :=
  match checkSet n s with
  | none => s.putSet n { s.set n with st := .checked, code := cOK, detail := 0, checkedGen := s.lens.liveGen }
  | some (c, d) => s.putSet n { s.set n with st := .staging, code := c, detail := d }

/-- Why CHECK is refused, if it is: wrong state, or nothing staged. -/
def checkRefused (n : Nat) (s : State) : Option Nat :=
  if (s.set n).st != .staging then some cSTATE_CONFLICT
  else if (s.set n).empty then some cNOT_STAGED else none

/-! ## The commit (02 Table 2.6, R38 to R40) -/

/-- Why COMMIT is refused, if it is: the set's state first, then the lead (02 R524). -/
def commitRefused (n lead : Nat) (s : State) : Option Nat :=
  if (s.set n).st == .checked then (if 5000 ≤ lead && lead ≤ 10000000 then none else some cBAD_FIELD)
  else if (s.set n).st == .staging && (s.set n).empty then some cNOT_STAGED
  else some cSTATE_CONFLICT

/-- Send the prepare: the set is PREPARING with T = now + lead. -/
def sendPrepare (n lead : Nat) (kind : CommitKind) (s : State) : State :=
  s.putSet n { s.set n with st := .preparing, switchT := s.now + lead, kind := kind, code := cOK, detail := 0 }

/-- COMMIT of a CHECKED set: the check is repeated if the live generation has moved; a failure frees the set, else the prepare is sent (02 Table 2.6, R42). -/
def commitSet (n lead : Nat) (kind : CommitKind) (s : State) : State :=
  if (s.set n).checkedGen == s.lens.liveGen then sendPrepare n lead kind s
  else match checkSet n s with
  | none => sendPrepare n lead kind s
  | some (c, d) => s.putSet n ((s.set n).freed c d)

/-- DISCARD is legal. -/
def canDiscard (n : Nat) (s : State) : Bool := (s.set n).st == .staging || (s.set n).st == .checked

/-- An island acknowledges the prepare (02 R40): it is not fenced and its timebase copy is within its bound; `late` are islands whose stamp came after T − 2 µs. -/
def acks (late : List Nat) (s : State) (i : Nat) : Bool :=
  !s.isFenced i && !(s.lens.timeFault.contains i) && !(late.contains i)

/-- The live generation rises by 1 (02 R42). -/
def bumpGen (s : State) : State := { s with lens := { s.lens with liveGen := s.lens.liveGen + 1 } }

/-- A register takes a committed or written word: the writable fields take the word's, the rest stay (00 Table 0.2). -/
def mergeWord (d : RegDef) (old new : Word) : Word :=
  d.fields.foldl (fun w f => if f.acc == .rw then setBits w f.hi f.lo (bits new f.hi f.lo) else w) old

/-- A staged register takes its shadow. -/
def swapReg (s : State) (p : Nat × Word) : State :=
  match regAt p.1 with
  | some d => s.setWord p.1 (mergeWord d (s.word p.1) p.2)
  | none => s

end Sys2Proof.Machine
end

