-- ==== Sys2Proof/Machine/Keys.lean ====
section
/-!
DEFINITION. Key slots and the contexts that pin them (14 R340, R352 to R355, R363).
-/
namespace Sys2Proof.Machine

/-- A key slot that nothing has touched. -/
def KeySlot.fresh (k : Nat) : KeySlot :=
  { slot := k, st := .empty, key := none, gen := 0, usage := 0, previous := none, copies := 2, eraseAt := none, eraseJob := none }

/-- A key slot by number; Keeper slot k is 4,096 + k. -/
def State.slot (s : State) (k : Nat) : KeySlot := (s.eng.slots.find? (·.slot == k)).getD (.fresh k)

/-- Store a key slot. -/
def State.putSlot (s : State) (k : KeySlot) : State := { s with eng := { s.eng with slots := putBy KeySlot.slot k s.eng.slots } }

/-- A context that holds a message. -/
def Ctx.busy (c : Ctx) : Bool := c.st != .free

/-- A context by index, if it is allocated. -/
def State.ctx (s : State) (i : Nat) : Option Ctx := s.eng.ctxs.find? fun c => c.index == i && c.busy

/-- Store a context. -/
def State.putCtx (s : State) (c : Ctx) : State := { s with eng := { s.eng with ctxs := putBy Ctx.index c s.eng.ctxs } }

/-- Messages that pin a generation of a slot. -/
def pins (s : State) (slot gen : Nat) : Nat := (s.eng.ctxs.filter fun c => c.busy && c.pin == some { slot := slot, gen := gen }).length

/-- Messages that pin a slot. -/
def pinsAny (s : State) (slot : Nat) : List Ctx := s.eng.ctxs.filter fun c => c.busy && c.pin.any (·.slot == slot)

/-- Both banks zeroised, the slot EMPTY; its erase job ends. The generation stays (14 R354, R355). -/
def zeroise (k : KeySlot) (detail : Nat) (s : State) : State :=
  let s := s.putSlot { k with st := .empty, key := none, previous := none, usage := 0, eraseAt := none, eraseJob := none }
  match k.eraseJob with
  | some j => endJob j cOK detail [] s
  | none => s

/-- A pin has ended: the old key goes with its last message, and an erase completes with the last of all (14 R354, R355). -/
def settleSlot (slot : Nat) (s : State) : State :=
  let k := s.slot slot
  let s := match k.previous with
    | some p => if pins s slot p.1 == 0 then s.putSlot { k with previous := none } else s
    | none => s
  if k.st == .erasing && (pinsAny s slot).isEmpty then zeroise (s.slot slot) 0 s else s

/-- Free a context; its key pin is released. Its serial stays. -/
def freeCtx (c : Ctx) (s : State) : State :=
  let s := s.putCtx { c with st := .free, pin := none, data := [], result := [], code := 0, mode := 0, cut := none, early := false }
  match c.pin with
  | some p => settleSlot p.slot s
  | none => s

/-- Messages of a channel fail: their contexts are freed (14 R363). -/
def failChannel (ch : Nat) (s : State) : State := (s.eng.ctxs.filter fun c => c.busy && c.owner == ch).foldl (fun s c => freeCtx c s) s

/-- A namespace names the key domain, or a stored grain used it (05 R134). -/
def keyInUse (s : State) (slot : Nat) : Bool :=
  (s.namespaces.any fun n => n.key == slot && (s.lens.live.profiles.any fun p => (p.2[n.profile]?).any fun q => q.stages.contains 6)) ||
  ((s.md.store.index ++ s.md.shadow.index).any fun e => !e.scope.clear && e.scope.key == slot)

/-- A KEY_LOAD of the slot is staged. -/
def keyStaged (s : State) (slot : Nat) : Bool :=
  (List.range 8).any fun n => (s.set n).items.any fun i => match i with
    | .key k _ => k == slot
    | _ => false

/-- The commit of a staged key: the generation rises, the usage starts at 0, the old key stays while it is pinned (14 R353, R354). -/
def commitKey (slot : Nat) (k : KeyImage) (s : State) : State :=
  let x := s.slot slot
  let old := x.key.bind fun o => if pins s slot x.gen == 0 then none else some (x.gen, o)
  s.putSlot { x with st := .active, key := some k, gen := x.gen + 1, usage := 0, previous := old }

end Sys2Proof.Machine
end

