-- ==== Sys2Proof/Machine/Sig.lean ====
section
/-!
DEFINITION. Meanings of the Signal controller's commands (18_signal_controller.md).
-/
namespace Sys2Proof.Machine

/-- SOURCE_EVENT (18 R431, R436): the record first for a source marked E, then the pending bit, then delivery. -/
def execSourceEvent (source : Fin 4096) (code detail : Nat) : State → Host.Outcome State Fault Refusal :=
  act fun s => fire source s code detail

/-- The sources that a word of pending bits names. -/
def namedSources (word : Nat) (w : Word) : List Nat := ((List.range 64).filter (w.toNat.testBit ·)).map (64 * word + ·)

/-- SIG_PEND_SET (18 R433): the pending bits as an event sets them, reserved sources excepted; no record is written (log 9). -/
def execSigPendSet (word : Fin 64) (w : Word) : State → Host.Outcome State Fault Refusal :=
  act fun s => ((namedSources word w).filter assignedSource).foldl (fun s n => pendSource n s) s

/-- SIG_PEND_CLR (18 R433): pending bits cleared without delivery. -/
def execSigPendClr (word : Fin 64) (w : Word) : State → Host.Outcome State Fault Refusal :=
  act fun s => { s with sig := { s.sig with pend := s.sig.pend.filter fun n => !((namedSources word w).contains n) } }

/-- Clear a claimed source's pending bit. -/
def claimSource (n : Nat) (s : State) : State :=
  { s with sig := { s.sig with pend := s.sig.pend.filter (· != n) } }

/-- The pending sources routed to a vector, lowest first. -/
def vectorSources (v : Nat) (s : State) : List Nat :=
  s.sig.pend.filter fun n => s.flag Reg.fSIG_ROUTE_EN n && s.fld Reg.fSIG_ROUTE_KIND n == 0 &&
    s.fld Reg.fSIG_ROUTE_TARGET n == v

/-- SIG_VEC_CLAIM (18 R437): the lowest pending source of the vector, cleared; VALID 0 when there is none. -/
def execSigVecClaim (v : Fin 2048) : State → Host.Outcome State Fault Refusal :=
  act fun s => match vectorSources v s with
  | n :: _ => (claimSource n s).send (.readData (0x50000 + 8 * v) (BitVec.ofNat 64 (2 ^ 63 + n)))
  | [] => s.send (.readData (0x50000 + 8 * v) 0)

/-- The pair that serves a Keeper route: the named one, or the other while it is fenced (17 R412, 18 R435). -/
def servingPair (pair : Nat) (s : State) : Nat :=
  if pair = 0 then (if s.fld Reg.fKPR_STATE_A_STATE == 2 then 1 else 0)
  else (if s.fld Reg.fKPR_STATE_B_STATE == 2 then 0 else 1)

/-- Pending sources of a target, with their priorities. -/
def targetSources (kind : Nat) (target : Nat → Bool) (s : State) : List (Nat × Nat) :=
  (s.sig.pend.filter fun n => s.flag Reg.fSIG_ROUTE_EN n && s.fld Reg.fSIG_ROUTE_KIND n == kind &&
    target (s.fld Reg.fSIG_ROUTE_TARGET n)).map fun n => (n, s.fld Reg.fSIG_ROUTE_PRIO n)

/-- The most urgent of a list of sources, lowest number first among equals (18 R435). -/
def mostUrgent (l : List (Nat × Nat)) : Option (Nat × Nat) := leastBy (fun p => (15 - p.2) * 4096 + p.1) l

/-- The running priority of a cluster core. -/
def runningPrio (s : State) (c k : Nat) : Nat :=
  ((s.sig.running.find? fun x => x.1 == c && x.2.1 == k).map (·.2.2)).getD 0

/-- Set a core's running priority. -/
def setRunning (c k p : Nat) (s : State) : State :=
  { s with sig := { s.sig with running := (c, k, p) :: s.sig.running.filter fun x => !(x.1 == c && x.2.1 == k) } }

/-- The active members of a cluster that are not fenced, a core that stands in for another among them (18 R435, 20 R481). -/
def activeCores (c : Nat) (s : State) : List Nat :=
  (List.range 17).filter fun k => ((lookupD 0x0FFFF#17 c s.lens.live.coreMasks).toNat.testBit k || s.lens.sparesUsed.any (·.1 == 512 + 32 * c + k)) &&
    !(s.lens.coresFenced.contains (c, k)) && !s.isFenced (100 + c)

/-- The member that a cluster's sources are offered to: the lowest running priority, lowest index on a tie. -/
def offeredCore (c : Nat) (s : State) : Option Nat := leastBy (fun k => runningPrio s c k * 32 + k) (activeCores c s)

/-- SOURCE_CLAIM (18 R435): the most urgent source routed to the claimer, cleared; a core takes one only when it is the member offered and the source's priority exceeds its own. -/
def execSourceClaim (who : Claimer) : State → Host.Outcome State Fault Refusal :=
  act fun s => match who with
  | .keeper p =>
    let l := (if servingPair 0 s == p.val then targetSources 1 (fun _ => true) s else []) ++
      (if servingPair 1 s == p.val then targetSources 2 (fun _ => true) s else [])
    match mostUrgent l with
    | some (n, _) => (claimSource n s).send (.claimed (some n))
    | none => s.send (.claimed none)
  | .core c k prio =>
    let s := setRunning c k prio s
    match mostUrgent (targetSources 3 (· == c.val) s) with
    | some (n, p) =>
      if offeredCore c s == some k.val && prio < p then (claimSource n (setRunning c k p s)).send (.claimed (some n))
      else s.send (.claimed none)
    | none => s.send (.claimed none)

/-- COALESCER_TIME_TRIGGER (18 R438): TIME_US after the first event of the count, the vector's write is sent. -/
def execCoalescerTimeTrigger (v : Fin 2048) : State → Host.Outcome State Fault Refusal :=
  act fun s =>
    let x := s.vector v
    if x.count != 0 && s.fld Reg.fSIG_COAL_TIME_US v != 0 then
      sendVector v (s.reach (x.since + s.fld Reg.fSIG_COAL_TIME_US v * us))
    else s

/-- Deliver a vector whose PBA bit is set. -/
def deliverPending (v : Nat) (s : State) : State := if (s.vector v).pba then sendVector v s else s

/-- MSI_X_UNMASK (18 R437, 03 R74): what was due while masked is delivered. -/
def execMsiXUnmask (u : Unmask) : State → Host.Outcome State Fault Refusal :=
  act fun s => match u with
  | .vector v a d => deliverPending v (s.setVector { s.vector v with addr := a, data := d, masked := false })
  | .enable =>
    let s := { s with ctl := { s.ctl with msixEnable := true } }
    (s.sig.vectors.map (·.index)).foldl (fun s v => deliverPending v s) s
  | .function =>
    let s := { s with ctl := { s.ctl with msixMask := false } }
    (s.sig.vectors.map (·.index)).foldl (fun s v => deliverPending v s) s

/-- Every vector with a counted event sends its write (18 R439). -/
def flushCoalescers (s : State) : State :=
  ((s.sig.vectors.filter (·.count != 0)).map (·.index)).foldl (fun s v => sendVector v s) s

/-- SIG_HOST_SLEEP (18 R439): 1 flushes and suspends coalescing, 0 ends the suspension. -/
def execSigHostSleep (sleep : Bool) : State → Host.Outcome State Fault Refusal :=
  act fun s =>
    let s := s.setFlag Reg.fSIG_HOST_SLEEP_SLEEP sleep
    let s := if sleep then flushCoalescers s else s
    { s with sig := { s.sig with slept := sleep } }

/-- L1_ENTRY_REQUEST (18 R439): the flush is posted before L1 is acknowledged, and coalescing stays suspended until the link is next in L0. -/
def execL1EntryRequest : State → Host.Outcome State Fault Refusal :=
  act fun s =>
    let s := (flushCoalescers s).send .l1Ack
    { s with sig := { s.sig with linkFlush := true } }

/-- EVENT_QUEUE_ENABLE (18 R436): EN from 0 to 1 sets EVQ_TAIL to 0 and the phase to 1; an illegal size or a change of size while EN is 1 is discarded (03 R64). -/
def execEventQueueEnable (size : Fin 32) : State → Host.Outcome State Fault Refusal :=
  act fun s =>
    if size.val < 8 || 16 < size.val then captureErr cBAD_FIELD 0x40118 s
    else if s.flag Reg.fSIG_EVQ_CTRL_EN then
      (if s.fld Reg.fSIG_EVQ_CTRL_SIZE_LOG2 == size.val then s else captureErr cSTATE_CONFLICT 0x40118 s)
    else
      let s := (s.setFld Reg.fSIG_EVQ_CTRL_SIZE_LOG2 size).setFlag Reg.fSIG_EVQ_CTRL_EN true
      let s := s.setFld Reg.fSIG_STATUS_EVQ_TAIL 0
      { s with sig := { s.sig with phase := true } }

end Sys2Proof.Machine
end

