-- ==== Sys2Proof/Machine/Keeper.lean ====
section
/-!
DEFINITION. The Keeper: pairs, boot flash writes, the Keeper's Log, management network, its task commands (17_keeper.md).
-/
namespace Sys2Proof.Machine

/-! ## The Keeper's Log (17 R420 to R424) -/

/-- Count one sample into a bin of the histogram at `off`, `w` bytes a count, saturating (17 Table 17.4). -/
def LogPeriod.count (p : LogPeriod) (off bin : Nat) (w : Nat := 4) : LogPeriod :=
  let old := ((p.counts.find? fun c => c.1 == off && c.2.1 == bin).map (·.2.2)).getD 0
  { p with counts := (off, bin, satAdd (2 ^ (8 * w) - 1) old 1) :: p.counts.filter fun c => !(c.1 == off && c.2.1 == bin) }

/-- Count into the current period. -/
def logCount (off bin : Nat) (s : State) (n : Nat := 1) : State :=
  { s with kpr := { s.kpr with period := (List.range n).foldl (fun p _ => p.count off bin) s.kpr.period } }

/-- Keep an extreme of the current period: `better new old` says that the new value replaces the old (17 Table 17.5). -/
def logExtreme (entry : Nat) (value : Int) (source : Nat) (better : Int → Int → Bool) (s : State) : State :=
  let p := s.kpr.period
  let new : Extreme := { entry := entry, value := value, ticks := s.opTicks, source := source }
  let keep := match p.extremes.find? (·.entry == entry) with
    | some e => !better value e.value
    | none => false
  if keep then s else { s with kpr := { s.kpr with period := { p with extremes := putBy Extreme.entry new p.extremes } } }

/-- Mean erase count of a module's blocks of one mode that are not retired, in ‰ of its rated endurance (08 R198, Table 8.7). -/
def wearOf (m : Module) (oneBit : Bool) (s : State) : Nat :=
  let bs := s.md.store.blocks.filter fun b => b.module == m.index && b.oneBit == oneBit && b.st != .retired && !b.aside
  let rated := if oneBit then m.desc.endOneBit else m.desc.endNative
  if bs.isEmpty || rated == 0 then 0 else (bs.map Block.erases).sum * 1000 / bs.length / rated

/-- The MODULES histograms of a record, taken at the flush (17 Table 17.4). -/
def moduleCounts (s : State) (p : LogPeriod) : LogPeriod :=
  (s.media.modules.filter fun m => m.st == .active).foldl (fun p m =>
    let spare := if m.desc.spares = 0 then 0 else min 15 (m.sparesLeft * 16 / m.desc.spares)
    let wear := min 15 (wearOf m false s * 2 / 125)
    (p.count 0x5E0 spare).count 0x620 wear) p

/-- The record that a flush of the current period makes (17 Table 17.4). -/
def periodRecord (number trigger : Nat) (s : State) : LogPeriod :=
  { moduleCounts s s.kpr.period with number := number, trigger := trigger, head := s.peer.head, stop := s.opTicks,
                                     cycles := s.fld Reg.fKPR_POWER_CYCLES_COUNT }

/-- A period that starts now (17 R420). -/
def newPeriod (s : State) : LogPeriod :=
  { LogPeriod.empty with head := s.peer.head, start := s.opTicks, wall := s.wall.getD 0 }

/-- Put a boot flash write into the queue; the power-fail flush goes ahead of every write not in progress (17 R416). -/
def queueFlash (i : FlashItem) (s : State) (first : Bool := false) : State :=
  let w : FlashWrite := { item := i, doneA := false }
  { s with kpr := { s.kpr with flashQ := if first then
      (s.kpr.flashQ.takeWhile (·.doneA)) ++ w :: s.kpr.flashQ.dropWhile (·.doneA) else s.kpr.flashQ ++ [w] } }

/-- Log records stored and on their way to boot flash. -/
def State.logRecords (s : State) : Nat :=
  s.kpr.records.length + (s.kpr.flashQ.filter fun w => match w.item with
    | .logRecord _ => true
    | _ => false).length

/-- Flush the current period and start a new one of full length; with 16,384 records nothing is stored and FULL is set once (17 R421, R422). -/
def flushLog (trigger : Nat) (s : State) : State :=
  let s :=
    if s.logRecords < 16384 then queueFlash (.logRecord (periodRecord s.logRecords trigger s)) s (trigger == 3)
    else if s.flag Reg.fKPR_LOG_STATUS_FULL then s
    else fire 681 (s.setFlag Reg.fKPR_LOG_STATUS_FULL true)
  let s := s.setFld Reg.fKPR_LOG_STATUS_PERIOD_H s.kpr.periodNext
  { s with kpr := { s.kpr with period := newPeriod s } }

/-- Operating time reaches a whole number of ticks: the timebase moves with it. -/
def State.reachOp (s : State) (ns : Nat) : State := s.reach (s.now + (ns - s.kpr.opNs))

/-- Keeper B's duties run: some pair carries them (17 R413, R425), and no dump has stopped background work (12 R308). -/
def State.background (s : State) : Bool := s.keeperB == some true && !s.hup.dumping

/-- LOG_PERIOD_END (17 R420, R421): PERIOD_H operating hours after its start the period is flushed. -/
def execLogPeriodEnd : State → Host.Outcome State Fault Refusal :=
  act fun s =>
    if s.background then
      let ticks := s.kpr.period.start + s.fld Reg.fKPR_LOG_STATUS_PERIOD_H * 65536
      flushLog 1 (s.reachOp ((ticks * hour + 65535) / 65536))
    else s

/-- LOG_FAULT_FLUSH (17 R421): at most one fault flush in an operating hour; a fault in the same hour stays in the current period. -/
def execLogFaultFlush : State → Host.Outcome State Fault Refusal :=
  act fun s =>
    if !s.kpr.faultDue || !s.background then s
    else
      let recent : Bool := match s.kpr.faultHour with
        | some t => s.kpr.opNs < t + hour
        | none => false
      let s := { s with kpr := { s.kpr with faultDue := false } }
      if recent then s else flushLog 2 { s with kpr := { s.kpr with faultHour := some s.kpr.opNs } }

/-- OPERATING_HOUR_RECORD (17 R419): each operating hour KPR_HOURS and the power cycles go to the operating-hour record. -/
def execOperatingHourRecord : State → Host.Outcome State Fault Refusal :=
  act fun s =>
    if s.background then
      let last := match s.kpr.hourRec with
        | some r => r.1
        | none => 0
      let s := s.reachOp ((last / hour + 1) * hour)
      queueFlash (.opHour s.kpr.opNs (s.fld Reg.fKPR_POWER_CYCLES_COUNT) s.boot.ptr.trialNs) s
    else s

/-! ## Pairs (17 R410 to R414) -/

/-- State of pair 0 (A) or 1 (B): 0 RUNNING, 1 RESTARTING, 2 FENCED, 3 carrying both duties. -/
def State.pair (s : State) (p : Nat) : Nat :=
  if p = 0 then s.fld Reg.fKPR_STATE_A_STATE else s.fld Reg.fKPR_STATE_B_STATE

/-- Set a pair's state; a change fires source 680 (17 R430, 18 Table 18.1). -/
def State.setPair (s : State) (p v : Nat) : State :=
  if s.pair p == v then s
  else fire 680 (if p = 0 then s.setFld Reg.fKPR_STATE_A_STATE v else s.setFld Reg.fKPR_STATE_B_STATE v)

/-- The other pair takes up both duties when it runs (01 R26). -/
def takeOver (p : Nat) (s : State) : State := if s.pair (1 - p) == 0 then s.setPair (1 - p) 3 else s

/-- A pair restarts: the other carries its duties, the messages of its channels fail (14 R363), jobs that a pair with Keeper A's duties carries end, and a verified set is only COMPLETE again (17 R410, 03 R69, 19 R460). Both never restart at once: the second waits (17 R411). -/
def restartPair (p : Nat) (s : State) : State :=
  if s.pair p == 2 || s.pair p == 1 then s
  else if s.pair (1 - p) == 1 then
    { s with kpr := { s.kpr with toRestart := if p ∈ s.kpr.toRestart then s.kpr.toRestart else s.kpr.toRestart ++ [p] } }
  else
    let hadA := p == 0 || s.pair p == 3
    let s := if p = 0 then s.bump Reg.fKPR_STATE_A_RESTARTS else s.bump Reg.fKPR_STATE_B_RESTARTS
    let s := takeOver p (s.setPair p 1)
    let s := { s with kpr := { s.kpr with restarts := (p, s.kpr.opNs) :: s.kpr.restarts } }
    let s := failChannel (12 + p) s
    let s := { s with boot := { s.boot with slot0 := s.boot.slot0.kept, slot1 := s.boot.slot1.kept } }
    let s := if p = 0 && s.boot.ptr.trial then { s with boot := { s.boot with attemptDue := true } } else s
    if hadA then endKeeperJobs (failChannel 12 s) else s

/-- KEEPER_LOCKSTEP_MISMATCH (17 R410): the pair stops and restarts; an uncorrectable error in the accumulators marks the period (17 R423). -/
def execKeeperLockstepMismatch (pair : Fin 2) (logLost : Bool) : State → Host.Outcome State Fault Refusal :=
  act fun s =>
    let s := if logLost then { s with kpr := { s.kpr with period := { s.kpr.period with startLost := true } } } else s
    restartPair pair.val s

/-- KEEPER_WATCHDOG_LAPSE (17 R411): a lapsed pair is restarted; when both lapse, pair A first and pair B once A runs. -/
def execKeeperWatchdogLapse (a b : Bool) : State → Host.Outcome State Fault Refusal :=
  act fun s =>
    let s := if a then restartPair 0 s else s
    if b then restartPair 1 s else s

/-- Restarts of a pair within the last operating hour (17 R412). -/
def recentRestarts (p : Nat) (s : State) : Nat := (s.kpr.restarts.filter fun r => r.1 == p && s.kpr.opNs < r.2 + hour).length

/-- The next waiting pair restarts once no pair is restarting (17 R411, R414). -/
def nextRestart (s : State) : State :=
  match s.kpr.toRestart with
  | [] => s
  | p :: t => restartPair p { s with kpr := { s.kpr with toRestart := t } }

/-- KEEPER_RESTART_COMPLETE (17 R410, R412): the pair resumes, or is fenced after a failed self-test or too many restarts, with Fog cause 4. Pair A starts on a trial set only once its attempt is committed (19 R466). -/
def execKeeperRestartComplete (pair : Fin 2) (selfTest : Bool) : State → Host.Outcome State Fault Refusal :=
  act fun s =>
    let p := pair.val
    if s.pair p != 1 || (p = 0 && s.boot.attemptDue) then s
    else if !selfTest || s.fld Reg.fKPR_WDOG_CFG_REPEAT_LIMIT < recentRestarts p s then
      nextRestart (raiseFog 4 (takeOver p (s.setPair p 2)) (arg := p))
    else
      let s := if s.pair (1 - p) == 2 then s.setPair p 3 else s.setPair p 0
      nextRestart (if s.pair (1 - p) == 3 then s.setPair (1 - p) 0 else s)

/-! ## Boot flash writes (17 R415, R416) -/

/-- A record has been committed: what it changes. -/
def flashDone (i : FlashItem) (s : State) : State :=
  match i with
  | .opHour ns c t => { s with kpr := { s.kpr with hourRec := some (ns, c) }, boot := { s.boot with trialSaved := min t s.boot.ptr.trialNs } }
  | .holdup a b => { s with hup := { s.hup with settings := some (a, b) } }
  | .mgmt m =>
    let s := { s with kpr := { s.kpr with mgmt := some m, mgmtNew := none } }
    let s := (List.range 2).foldl (fun s p => s.setFlag Reg.fKPR_MGMT_STATUS_ADDR_OK
      ((if p = 0 then m.port0 else m.port1).flags.testBit 0) p) s
    fire 683 (s.setWord 0x80208 (setBits 0 62 62 1))
  | .fenceList u => { s with env := { s.env with fenceList := u } }
  | .logRecord r => { s with kpr := { s.kpr with records := s.kpr.records ++ [r] } }
  | .other => s

/-- A flash fails: its flag, source 682, Fog cause 5 (17 R415). -/
def flashFault (b : Bool) (s : State) : State :=
  let s := if b then s.setFlag Reg.fKPR_LOG_STATUS_FLASH_B_FAULT true else s.setFlag Reg.fKPR_LOG_STATUS_FLASH_A_FAULT true
  raiseFog 5 (fire 682 { s with kpr := { s.kpr with flashGood := false } }) (arg := if b then 1 else 0)

/-- BOOT_FLASH_WRITE (17 R415, R416): the write at the front is programmed on flash A, then on flash B, a flash with its fault flag set being left out; `ok` says how the programming under way ends. -/
def execBootFlashWrite (ok : Bool) : State → Host.Outcome State Fault Refusal :=
  act fun s => match s.kpr.flashQ with
  | [] => s
  | w :: t =>
    let badA := s.flag Reg.fKPR_LOG_STATUS_FLASH_A_FAULT
    let badB := s.flag Reg.fKPR_LOG_STATUS_FLASH_B_FAULT
    let onA := !w.doneA && !badA
    if onA then
      let s := if ok then s else flashFault false s
      if badB then (if ok then flashDone w.item { s with kpr := { s.kpr with flashQ := t } }
                    else { s with kpr := { s.kpr with flashQ := t } })
      else { s with kpr := { s.kpr with flashQ := { w with doneA := true } :: t } }
    else
      let s := { s with kpr := { s.kpr with flashQ := t } }
      if badB then (if badA then s else flashDone w.item s)
      else
        let s := if ok then { s with kpr := { s.kpr with flashGood := s.kpr.flashGood || !badA } } else flashFault true s
        if ok || !badA then flashDone w.item s else s

/-! ## Management network (17 R426 to R428) -/

/-- The management port that carries fetch and telemetry: the first that is up with an address (20 Table 20.1). -/
def mgmtPort (s : State) : Option Nat :=
  (List.range 2).find? fun p => s.flag Reg.fKPR_MGMT_STATUS_UP p && s.flag Reg.fKPR_MGMT_STATUS_ADDR_OK p

/-- A server is accepted (17 R426): an anchor in its chain, every signature below it good, every date good when the wall-clock is known. -/
def serverOk (anchor sigs dates : Bool) (s : State) : Bool := anchor && sigs && (dates || s.wall.isNone)

/-- TELEMETRY_PUSH (17 R426): every TELEMETRY_S seconds the snapshot and each newly stored record are posted; the server's certificate facts, and the status code the push ends with, come from outside. -/
def execTelemetryPush (anchor sigs dates : Bool) (code : Fin 65536) : State → Host.Outcome State Fault Refusal :=
  act fun s => match s.kpr.mgmt, mgmtPort s with
  | some m, some p =>
    if m.telemetryS == 0 || !s.background then s
    else
      let s := s.reach (s.kpr.pushedAt + m.telemetryS * sec)
      let s := { s with kpr := { s.kpr with pushedAt := s.now } }
      let s := s.setFlag Reg.fKPR_MGMT_STATUS_NO_DATES s.wall.isNone p
      let s := s.setFld Reg.fKPR_MGMT_STATUS_LAST_CODE code p
      if serverOk anchor sigs dates s && code == 0 then
        let s := s.send (.telemetry (periodRecord s.logRecords 0 s) (s.kpr.records.drop s.kpr.pushed))
        { s with kpr := { s.kpr with pushed := s.kpr.records.length } }
      else s
  | _, _ => s

/-- The bytes of KPR_MBOX_DATA. -/
def mboxBytes (s : State) : List Byte := (List.range 128).flatMap fun i => wordBytes (s.word (0x81000 + 8 * i))

/-- A port entry of Table 17.7 from its 64 bytes. -/
def parseMgmtPort (b : List Byte) : MgmtPort :=
  { flags := leValue (slice b 0 1), prefix_ := leValue (slice b 1 1), vlan := leValue (slice b 2 2),
    rsvdZero := allZero (slice b 4 12), addr := BitVec.ofNat 128 (leValue (slice b 16 16)),
    gateway := BitVec.ofNat 128 (leValue (slice b 32 16)), dns := BitVec.ofNat 128 (leValue (slice b 48 16)) }

/-- The block of Table 17.7 from its 1,024 bytes. -/
def parseMgmt (b : List Byte) : MgmtSettings :=
  { format := leValue (slice b 0 2), rsvdZero := allZero (slice b 0x95 11) && allZero (slice b 0x320 220),
    port0 := parseMgmtPort (slice b 0x10 64), port1 := parseMgmtPort (slice b 0x50 64),
    telemetryS := leValue (slice b 0x90 4), anchors := leValue (slice b 0x94 1), url := slice b 0xA0 256,
    hashes := (List.range 8).map fun i => BitVec.ofNat 384 (leValue (slice b (0x1A0 + 48 * i) 48)),
    crcOk := crc32c (slice b 0 0x3FC) == BitVec.ofNat 32 (leValue (slice b 0x3FC 4)) }

/-- The first illegal byte of a port entry, from its start. -/
def mgmtPortFault (p : MgmtPort) : Option Nat :=
  if 8 ≤ p.flags then some 0
  else if (if p.flags.testBit 2 then 128 else 32) < p.prefix_ then some 1
  else if 4096 ≤ p.vlan then some 2
  else if !p.rsvdZero then some 4
  else none

/-- The byte offset of the first illegal field of a settings block (17 Table 17.7). -/
def mgmtFault (m : MgmtSettings) (b : List Byte) : Option Nat :=
  if m.format != 1 then some 0
  else if !(allZero (slice b 2 14)) then some 2
  else match mgmtPortFault m.port0 with
  | some o => some (0x10 + o)
  | none => match mgmtPortFault m.port1 with
  | some o => some (0x50 + o)
  | none =>
    if m.telemetryS != 0 && (m.telemetryS < 10 || 86400 < m.telemetryS) then some 0x90
    else if 8 < m.anchors then some 0x94
    else if !(allZero (slice b 0x95 11)) then some 0x95
    else if !(allZero (m.url.dropWhile (· != 0))) then some 0xA0
    else match (List.range 8).find? fun i => m.anchors ≤ i && (m.hashes[i]?).getD 0 != 0 with
    | some i => some (0x1A0 + 48 * i)
    | none => if !(allZero (slice b 0x320 220)) then some 0x320 else none

/-- MANAGEMENT_SETTINGS_SUBMIT (17 R427): KPR_MBOX_CTRL.GO; the whole block is checked, then committed in two copies and applied; DONE once it is final. -/
def execManagementSettingsSubmit : State → Host.Outcome State Fault Refusal :=
  act fun s =>
    if s.flag Reg.fKPR_MBOX_STATUS_BUSY then captureErr cSTATE_CONFLICT 0x80200 s
    else
      let b := mboxBytes s
      let m := parseMgmt b
      let fin := fun (s : State) (code detail : Nat) =>
        fire 683 (s.setWord 0x80208 (setBits (setBits (setBits 0 62 62 1) 47 32 code) 31 0 detail))
      if !m.crcOk then fin s cCORRUPT_INPUT 0x3FC
      else match mgmtFault m b with
      | some o => fin s cBAD_FIELD o
      | none =>
        let s := s.setWord 0x80208 (setBits 0 63 63 1)
        queueFlash (.mgmt m) { s with kpr := { s.kpr with mgmtNew := some m } }

/-- The endpoint that W2 is bound to: W2_EID, or the I3C bus owner while that is 0 (17 R428). -/
def w2Eid (s : State) : Nat :=
  if s.fld Reg.fKPR_MCTP_CFG_W2_EID == 0 then s.kpr.busOwner else s.fld Reg.fKPR_MCTP_CFG_W2_EID

/-- MCTP_MESSAGE (17 R428): an EID assignment takes effect; W2 is bound once the endpoint it names speaks; a vendor message from another endpoint carries no W2 command; the rest goes to its own handler. -/
def execMctpMessage (vdm : Bool) (src : Fin 256) (msg : MctpMsg) : State → Host.Outcome State Fault Refusal :=
  act fun s =>
    let s := match msg with
      | .setEid e =>
        let s := if vdm then s.setFld Reg.fKPR_MCTP_CFG_VDM_EID e else s.setFld Reg.fKPR_MCTP_CFG_I3C_EID e
        if vdm then s else { s with kpr := { s.kpr with busOwner := src.val } }
      | _ => s
    let s := if src.val != 0 && w2Eid s == src.val then
        { s with ctl := { s.ctl with bound := true } } else s
    if msg == .vendor && w2Eid s != src.val then s else s.send (.mctp src.val msg)

/-! ## Task commands (17 Table 17.8) -/

/-- LOG_READ (17 Table 17.8). -/
def execLogRead (r : TaskReq) : State → Host.Outcome State Fault Refusal :=
  let n := r.arg 2
  taskCmd { opcode := 0x0A02, windows := [0, 3], bulk := .give (if 1 ≤ n && n ≤ 32 then some (4096 * n) else none) }
    [(1, mask 31 0), (2, mask64)] r fun s =>
    let first := r.arg 1
    if n == 0 || 32 < n || (first == 0xFFFFFFFF && n != 1) then .fail cBAD_FIELD 2
    else if first != 0xFFFFFFFF && s.kpr.records.length ≤ first then .fail cBAD_FIELD 1
    else
      let rs := if first == 0xFFFFFFFF then [periodRecord s.logRecords 0 s] else (s.kpr.records.drop first).take n
      moved r (startJob 0x0A02 r { carrier := .keeper, bulk := true,
                                   results := [BitVec.ofNat 64 rs.length, BitVec.ofNat 64 s.kpr.records.length] } s
        fun _ s => s.send (.bulkLog rs))

/-- LOG_CONFIG (17 R424, Table 17.8): the period from the next period start. -/
def execLogConfig (r : TaskReq) : State → Host.Outcome State Fault Refusal :=
  taskCmd { opcode := 0x0A03, windows := [0] } [(1, mask 7 0)] r fun s =>
    if r.arg 1 == 0 || 168 < r.arg 1 then .fail cBAD_FIELD 1
    else .done { s with kpr := { s.kpr with periodNext := r.arg 1 } }

/-- Sampling period of a sensor in ns (17 Table 17.3); 0 for a reserved index. -/
def sensorPeriod (i : Nat) : Nat :=
  if i < 72 then ms else if i < 104 then sec else if i < 360 then 10 * sec else if i < 362 then ms
  else if i < 410 then sec else 0

/-- CLASS of a sensor: 1 temperature, 2 voltage, 3 current (17 Table 17.3, KPR_SENSOR). -/
def sensorClass (i : Nat) : Nat :=
  if i < 64 then 1 else if i < 72 then 2 else if i < 360 then 1 else if i == 360 then 2 else if i == 361 then 1
  else if i < 410 then (if (i - 362) % 3 == 0 then 2 else if (i - 362) % 3 == 1 then 3 else 1) else 0

/-- A sensor's two-wire segment is isolated, so it reads VALID 0 (20 R474). -/
def sensorCut (i : Nat) (s : State) : Bool :=
  let iso := fun n => (s.fld Reg.fGLB_BOARD_STATUS_ISOLATED).testBit n
  if 72 ≤ i && i < 104 then iso (1 + (i - 72) / 8) else if 362 ≤ i && i < 410 then iso 5 else false

/-- KPR_SENSOR_i as it reads (17 R417). -/
def sensorImage (i : Nat) (s : State) : Word :=
  if 410 ≤ i then 0
  else match s.kpr.sensors.find? (·.index == i) with
  | none => setBits 0 55 48 (sensorClass i)
  | some x =>
    let age := s.now - x.at_
    let w := setBits (setBits 0 55 48 (sensorClass i)) 47 32 (min 65535 (age / ms))
    setBits (setBits w 31 0 (unsigned 32 x.value)) 63 63 (if age ≤ 3 * sensorPeriod i && !sensorCut i s then 1 else 0)

/-- SENSOR_READ (17 Table 17.8). -/
def execSensorRead (r : TaskReq) : State → Host.Outcome State Fault Refusal :=
  taskCmd { opcode := 0x0A04, windows := [0, 1, 2, 3] } [(1, mask64), (2, mask64)] r fun s =>
    if r.arg 2 == 0 || 30 < r.arg 2 then .fail cBAD_FIELD 2
    else if 512 < r.arg 1 + r.arg 2 then .fail cBAD_FIELD 1
    else .done s cOK 0 ((List.range (r.arg 2)).map fun k => sensorImage (r.arg 1 + k) s)

end Sys2Proof.Machine
end

