-- ==== Sys2Proof/Machine/HostOps.lean ====
section
/-!
DEFINITION. Operations the datapath shares: completions, command contexts, ANA state, the acknowledgement mode and what it lets through
(04_host_front_end.md, 05_write_path.md R115).
-/
namespace Sys2Proof.Machine

/-- The datapath runs: the chip is up and no dump runs (12 R308). -/
def State.pipes (s : State) : Bool := s.up && !s.hup.dumping

/-- A meaning of the datapath, which also serves journal replay at restart (08 R210). -/
def actPipe (f : State → State) (s : State) : Host.Outcome State Fault Refusal := .next (if s.pipes then f s else s)

/-- Host I/O is served: the datapath runs and the metadata restart has admitted it (08 R208). -/
def State.serves (s : State) : Bool := s.pipes && s.media.ioAdmitted

/-- A meaning that acts only while host I/O is served. -/
def actIO (f : State → State) (s : State) : Host.Outcome State Fault Refusal := .next (if s.serves then f s else s)

/-! ## Associations and command contexts (04 R86 to R91) -/

/-- An open association. -/
def State.assoc (s : State) (c : Nat) : Option Assoc := s.host.assocs.find? (·.cntlid == c)

/-- Store an association. -/
def State.putAssoc (s : State) (a : Assoc) : State := { s with host := { s.host with assocs := putBy Assoc.cntlid a s.host.assocs } }

/-- The directory entry of an association's host. -/
def State.identOf (s : State) (a : Assoc) : Option HostIdent := s.host.directory.find? (·.index == a.host)

/-- A command is the one that a controller, queue and command ID name. -/
def HostCmd.is (x : HostCmd) (c q i : Nat) : Bool := x.cntlid == c && x.qid == q && x.cid == i

/-- A command that came from a host of this head. -/
def State.hostCmd (s : State) (c q i : Nat) : Option HostCmd := s.host.cmds.find? fun x => x.is c q i && x.fwdTag.isNone

/-- Change a command. -/
def State.putCmd (s : State) (x : HostCmd) : State :=
  { s with host := { s.host with cmds := updateIf (fun y => y.is x.cntlid x.qid x.cid && y.fwdTag == x.fwdTag) (fun _ => x) s.host.cmds } }

/-- Free a command's context. -/
def State.dropCmd (s : State) (x : HostCmd) : State :=
  { s with host := { s.host with cmds := s.host.cmds.filter fun y => !(y.is x.cntlid x.qid x.cid && y.fwdTag == x.fwdTag) } }

/-- Contexts that an association holds. -/
def contextsOf (s : State) (c : Nat) : Nat := (s.host.cmds.filter fun x => x.cntlid == c && x.fwdTag.isNone).length

/-- A context is free for an association: one of its 64, or one of the shared rest (04 R91). -/
def contextFree (s : State) (c : Nat) : Bool :=
  contextsOf s c < 64 ||
  ((s.host.assocs.map fun a => contextsOf s a.cntlid - 64).sum < 2097152 - 64 * s.host.assocs.length)

/-- The ANA group of a namespace, in either store. -/
def groupOf (s : State) (nsid : Nat) : Option Nat :=
  ((s.md.store.nss ++ s.md.shadow.nss).find? (·.nsid == nsid)).map (·.group)

/-- A command is being served here: accepted, not held, not forwarded. -/
def served (x : HostCmd) : Bool := x.phase != .held && x.phase != .receiving && x.phase != .forwarded

/-- Grains (steps) of a record: its table, or one step for a range record. -/
def recordSteps (r : JRecord) : Nat := if r.kind == .data then r.grains.length else 1

/-- The partner takes this head's log pages: the pair is PAIRED, or its shadows have started at admission or at a cold join (11 R275, Table 11.8, R528). -/
def State.logShared (s : State) : Bool := s.peer.st == .paired || 2 ≤ s.peer.phase || 3 ≤ s.peer.coldStep

/-- A log page is programmed on both copies, and sent to the partner (10 R252, 11 R275). -/
def sendLogPage (p : LogPage) (s : State) : State :=
  let s := { s with md := { s.md with log := updateIf (·.lpseq == p.lpseq) (fun p => { p with sent := true }) s.md.log } }
  if s.logShared then s.send (.logPage p.lpseq p.txns) else s

/-- The old owner of a group in Change sends DRAINED once it has completed what it accepted before T and its records of the group have passed the map update, with its log page behind them (11 R290). -/
def settleDrain (s : State) : State :=
  (s.peer.changes.filter fun c => c.away && !c.drained).foldl (fun s c =>
    if (s.host.cmds.any fun x => served x && groupOf s x.nsid == some c.group) ||
       (s.wr.ring.any fun e => e.rec_.group == c.group && e.mapped.length < recordSteps e.rec_) then s
    else
      let s := match s.md.log.getLast? with
        | some p => if p.sent then s else sendLogPage p s
        | none => s
      let j := ((s.wr.ring.filter fun e => e.rec_.group == c.group).map fun e => e.rec_.jseq).foldl max c.lastJseq
      ({ s with peer := { s.peer with changes := updateIf (·.group == c.group) (fun c => { c with drained := true, lastJseq := j }) s.peer.changes } }).send
        (.drained c.group j)) s

/-- Complete a command: a completion on its queue, or the completion of a forwarded command back to the other head (04 R95, R101). A read's or Abort's Dword 0 rides along. During a dump no completion is posted (12 R308). -/
def complete (x : HostCmd) (st : NvmeStatus) (s : State) (dw0 : Nat := 0) : State :=
  if s.hup.dumping then s else
  let s := s.dropCmd x
  settleDrain (match x.fwdTag with
  | none => s.send (.completion x.cntlid x.qid x.cid st dw0)
  | some t => s.send (.fwdCpl t st dw0))

/-- Complete a command that holds no context yet. -/
def answer (c q i : Nat) (st : NvmeStatus) (s : State) (dw0 : Nat := 0) : State :=
  if s.hup.dumping then s else s.send (.completion c q i st dw0)

/-! ## ANA (04 R95 to R97) -/

/-- Owner of an ANA group. -/
def State.owner (s : State) (g : Nat) : Nat := lookupD 0 g s.peer.owners

/-- What this head reports of a group. -/
def anaState (s : State) (g : Nat) : AnaState :=
  if s.peer.st == .fenced then .inaccessible
  else if s.peer.changes.any (·.group == g) then .change
  else match s.peer.st with
  | .lightship => .optimised
  | .severed => if s.owner g == s.peer.head then .optimised else .inaccessible
  | .racing => if s.owner g == s.peer.head then .optimised else .inaccessible
  | _ => if s.owner g == s.peer.head then .optimised else .nonOptimised

/-! ## Acknowledgement (05 R115, Table 5.2) -/

/-- MIR00 of this head is changed by a re-lens or fenced. -/
def mirOut (s : State) : Bool :=
  s.isFenced iMIR || (match s.lens.relens with
    | some r => r.changed.contains iMIR
    | none => false)

/-- The mode that Table 5.2 gives. -/
def modeNow (s : State) : Nat :=
  match s.peer.st with
  | .paired => if s.wr.partnerMir || mirOut s then 2 else if s.hup.armed then 0 else 1
  | .lightship => if 4 ≤ s.peer.phase then (if s.hup.armed then 0 else 1) else 2
  | _ => 3

/-- Records are mirrored: the pair is PAIRED, or phase 3 of an admission or step 4 of a cold join has come (11 Table 11.8, R528). -/
def State.mirrors (s : State) : Bool := s.peer.st == .paired || 3 ≤ s.peer.phase || 4 ≤ s.peer.coldStep

/-- A record may be acknowledged in a mode. -/
def RingEntry.ackable (e : RingEntry) (mode : Nat) : Bool :=
  !e.syncWait && match mode with
    | 0 => e.mirrored
    | 1 => e.mirrored && 2 ≤ e.vaulted
    | 2 => 2 ≤ e.vaulted
    | _ => false

/-- Bytes of a journal record (05 R113). -/
def recordLen (r : JRecord) : Nat :=
  64 + (8 * r.grains.length + 63) / 64 * 64 + 4096 * (r.grains.filter (!·.zero)).length + 64

/-- Fill vault pages with a record's bytes; a full page is sent (05 R116). `fuel` bounds the pages. -/
def vaultFill (jseq : Nat) : Nat → Nat → State → State
  | 0, _, s => s
  | fuel + 1, n, s =>
    let p : VaultPage := ((s.wr.pages.getLast?).filter (!·.sent)).getD { bytes := 0, records := [], since := s.now, copies := 0, sent := false }
    let rest := if (s.wr.pages.getLast?).any (!·.sent) then s.wr.pages.dropLast else s.wr.pages
    let room := 16320 - p.bytes
    if n ≤ room then
      { s with wr := { s.wr with pages := rest ++ [{ p with bytes := p.bytes + n, records := p.records ++ [(jseq, true)], sent := n == room }] } }
    else
      vaultFill jseq fuel (n - room)
        { s with wr := { s.wr with pages := rest ++ [{ p with bytes := 16320, records := p.records ++ [(jseq, false)], sent := true }] } }

/-- Pack a record into vault pages in modes 1 and 2 (05 R116). -/
def vaultRecord (r : JRecord) (s : State) : State :=
  if s.wr.ackMode == 1 || s.wr.ackMode == 2 then vaultFill r.jseq 128 (recordLen r) s else s

/-- Records that wait when a vaulting mode begins are vaulted (05 R116). -/
def vaultWaiting (s : State) : State :=
  (s.wr.ring.filter fun e => !e.posted && e.vaulted == 0 && !(s.wr.pages.any fun p => p.records.any (·.1 == e.rec_.jseq))).foldl
    (fun s e => vaultRecord e.rec_ s) s

/-! ## Frames to other arrays (13 R318) -/

/-- Store a stream. -/
def State.putStream (s : State) (x : Stream) : State := { s with repl := { s.repl with streams := putBy Stream.id x s.repl.streams } }

/-- Store a connection. -/
def State.putConn (s : State) (c : ReplConn) : State := { s with repl := { s.repl with conns := putBy ReplConn.conn c s.repl.conns } }

/-- STREAM of a stream's frames: its ID as issued at the source. -/
def Stream.tag (x : Stream) : Nat := if x.role == .target then x.peerId else x.id

/-- The connection that carries a stream: the proved ones of its partner, spread by stream ID (13 R318). -/
def connFor (s : State) (x : Stream) : Option ReplConn :=
  let cs := s.repl.conns.filter fun c => c.proved && c.partner == x.partner
  cs[x.tag % max 1 cs.length]?

/-- Send a frame on a connection; HELLO and HELLO_ACK carry KEY_GEN 0xFFFF. -/
def sendConn (c : ReplConn) (stream : Nat) (m : RrMsg) (s : State) : State :=
  let gen := match m with
    | .hello _ _ => 0xFFFF
    | .helloAck _ _ _ => 0xFFFF
    | _ => c.txGen
  (s.putConn { c with txSeq := c.txSeq + 1, frames := c.frames + 1, txAt := s.now }).emit (.remote c.conn stream c.txSeq gen m)

/-- Send a frame of a stream; none goes while its partner has no proved connection. -/
def sendStream (x : Stream) (m : RrMsg) (s : State) : State :=
  match connFor s x with
  | some c => sendConn c x.tag m s
  | none => s

/-- A sync target acknowledges the records that its own acknowledgement condition lets through (13 R325). -/
def settleSyncAcks (s : State) : State :=
  (s.repl.streams.filter fun x => !x.acks.isEmpty).foldl (fun (s : State) x =>
    let ok := fun (a : Nat × Nat) => (s.wr.ring.find? fun e => e.rec_.jseq == a.1).all RingEntry.posted
    let s' := s.putStream { x with acks := x.acks.filter fun a => !ok a }
    (x.acks.filter ok).foldl (fun s a => sendStream x (.syncAck a.2 cOK) s) s') s

/-- Every record of a write is acknowledged: posted, or retired after its post. -/
def writeDone (s : State) (x : HostCmd) : Bool :=
  x.phase == .journaled && x.jseqs.all fun j => (s.wr.ring.find? fun e => e.rec_.jseq == j).all RingEntry.posted

/-- Post what the mode lets through: records, then the completions of writes whose records are all posted (05 R115, 04 R101). -/
def postWrites (s : State) : State :=
  if s.hup.dumping || s.wr.ackMode == 3 then s
  else
    let ring := s.wr.ring.map fun e => if e.ackable s.wr.ackMode then { e with posted := true } else e
    let s := { s with wr := { s.wr with ring := ring } }
    settleSyncAcks ((s.host.cmds.filter (writeDone s)).foldl (fun s x => complete x .success s) s)

/-- The acknowledgement mode follows its conditions; a change fires source 136 (05 Table 5.2). -/
def settleAck (s : State) : State :=
  let m := modeNow s
  if m == s.wr.ackMode then s
  else postWrites (vaultWaiting (fire 136 { s with wr := { s.wr with ackMode := m } }))

end Sys2Proof.Machine
end

