-- ==== Sys2Proof/Machine/Hup.lean ====
section
/-!
DEFINITION. The energy store: sense, probe, arming, capacitance test, vault sets (12_hold_up_and_vault.md R295 to R305, R313).
The dump itself is in Vault.lean.
-/
namespace Sys2Proof.Machine

/-! ## Energy (12 R296) -/

/-- C in 0.01 F: the last measured, or C_RATED before the first test. -/
def storeC (s : State) : Nat := s.hup.cMeas.getD (s.fld Reg.fHUP_STORE_CFG_C_RATED)

/-- Twice the usable energy at a voltage, in units of 10^-8 J: C × (V² − V_MIN²). -/
def energy2 (s : State) (v : Int) : Int :=
  (storeC s : Int) * (v * v - (s.fld Reg.fHUP_STORE_CFG_V_MIN_MV : Int) ^ 2)

/-- E is at least `num`/`den` of ARM_J at a voltage below which the store does not count. -/
def energyAtLeast (s : State) (v : Int) (num den : Nat) : Bool :=
  0 ≤ v && (s.fld Reg.fHUP_STORE_CFG_ARM_J * 200000000 * num : Int) ≤ energy2 s v * den

/-- E in J, as HUP_MEAS shows it. -/
def energyJ (s : State) : Nat := (energy2 s s.hup.vMv / 200000000).toNat

/-- C_RATED, V_FULL_MV or V_MIN_MV is 0 (12 R299). -/
def unconfigured (s : State) : Bool :=
  s.fld Reg.fHUP_STORE_CFG_C_RATED == 0 || s.fld Reg.fHUP_STORE_CFG_V_FULL_MV == 0 || s.fld Reg.fHUP_STORE_CFG_V_MIN_MV == 0

/-! ## Vault sets (12 R304, R305) -/

/-- A module by index. -/
def State.module (s : State) (m : Nat) : Option Module := s.media.modules.find? (·.index == m)

/-- Store a module. -/
def State.putModule (s : State) (m : Module) : State :=
  { s with media := { s.media with modules := putBy Module.index m s.media.modules } }

/-- The port bound to a module (09 R230). -/
def portOf (s : State) (m : Nat) : Option Nat :=
  (List.range 256).find? fun p => s.flag Reg.fSML_PORT_BIND_BOUND p && s.fld Reg.fSML_PORT_BIND_MODULE p == m

/-- A module sits on a port that is up at x2. -/
def onX2 (s : State) (m : Nat) : Bool :=
  match portOf s m with
  | some p => s.flag Reg.fSML_PORT_STATUS_UP p && s.fld Reg.fSML_PORT_STATUS_WIDTH p == 2
  | none => false

/-- A module that can be a vault member: ACTIVE, on a x2 port, at least 16 dies, not the partner's. -/
def vaultEligible (s : State) (m : Module) : Bool :=
  m.st == .active && onX2 s m.index && 16 ≤ m.desc.dies && !(s.hup.partnerSets.contains m.index)

/-- The failure domains that serve set 1 and set 2: those in use stay, the rest go to the side with fewer modules, the lower number first (log 11). -/
def splitDomains (el : List Module) (a b : List Nat) : List Nat × List Nat :=
  let count := fun ds => (el.filter fun m => ds.contains m.fdom).length
  ((List.range 64).filter fun d => el.any (·.fdom == d)).foldl (fun (p : List Nat × List Nat) d =>
    if p.1.contains d || p.2.contains d then p
    else if count p.1 ≤ count p.2 then (p.1 ++ [d], p.2) else (p.1, p.2 ++ [d])) (a, b)

/-- Fill a set to `n` members from candidates, lowest index first; a set that cannot be filled is unassigned. -/
def fillSet (n : Nat) (keep : List VaultMember) (cands : List Nat) : List VaultMember :=
  let new := (cands.filter fun m => !(keep.any (·.module == m))).map fun m => { module := m, erased := false : VaultMember }
  let l := (keep ++ new).take n
  if l.length == n then l else []

/-- The two vault sets as R304 gives them from the modules of now: members that still serve stay, the others are replaced. -/
def assignVault (s : State) : State :=
  let n := s.fld Reg.fHUP_CFG_VAULT_MODS
  let el := s.media.modules.filter (vaultEligible s)
  let keep := fun (l : List VaultMember) => l.filter fun m => el.any (·.index == m.module)
  let doms := fun (l : List VaultMember) => (el.filter fun m => l.any (·.module == m.index)).map (·.fdom)
  let one := (el.map (·.fdom)).eraseDups.length ≤ 1
  let sides := if one then ((List.range 64), (List.range 64)) else splitDomains el (doms (keep s.hup.set1)) (doms (keep s.hup.set2))
  let idx := fun (ds : List Nat) => (el.filter fun m => ds.contains m.fdom).map (·.index)
  let taken2 := (keep s.hup.set2).map (·.module)
  let s1 := fillSet n (keep s.hup.set1) ((idx sides.1).filter fun m => !taken2.contains m)
  let s2 := fillSet n (keep s.hup.set2) ((idx sides.2).filter fun m => !(s1.any (·.module == m)))
  { s with hup := { s.hup with set1 := s1, set2 := s2 } }

/-- The vault conditions of R300: both sets assigned, members ACTIVE on x2 ports, dump areas erased. -/
def vaultReady (s : State) : Bool :=
  let n := s.fld Reg.fHUP_CFG_VAULT_MODS
  let ok := fun (l : List VaultMember) => l.length == n && l.all fun m => m.erased &&
    (s.module m.module).any (vaultEligible s)
  ok s.hup.set1 && ok s.hup.set2

/-! ## Arming (12 R300, R301) -/

/-- Move the hold-up state; a change of STATE fires source 528 (12 R314). -/
def setHup (t : HupStateTag) (s : State) : State :=
  if s.hup.st == t then s else fire 528 { s with hup := { s.hup with st := t } }

/-- Judge R300 anew: UNARMED and ARMED follow it, ARMED as told follows, and the acknowledgement mode with it. A stuck PFAIL_N keeps the block unarmed (20 R475). -/
def rejudge (s : State) : State :=
  let ok := energyAtLeast s s.hup.vMv 1 1 && vaultReady s && !s.flag Reg.fGLB_BOARD_STATUS_PFAIL_STUCK
  let s := if s.hup.st == .unarmed && ok then setHup .armed s
    else if s.hup.st == .armed && !ok then setHup .unarmed s else s
  let now := ok && (s.hup.st == .armed || s.hup.st == .testing)
  let s := if now == s.hup.armed then s else fire 528 { s with hup := { s.hup with armed := now } }
  settleAck s

/-- Charge control (12 R298): on outside FAULT, a test and a dump; off above V_FULL + 2 %, on again below V_FULL − 1 %. -/
def chargeControl (s : State) : State :=
  let full : Int := s.fld Reg.fHUP_STORE_CFG_V_FULL_MV
  match s.hup.st with
  | .unarmed | .armed =>
    if full * 102 < s.hup.vMv * 100 then { s with hup := { s.hup with chg := false } }
    else if s.hup.vMv * 100 < full * 99 then { s with hup := { s.hup with chg := true } }
    else s
  | _ => { s with hup := { s.hup with chg := false } }

/-- Take in a voltage sample: the sensor, the lowest usable energy of the period, charge, arming (12 R295, 17 Tables 17.3, 17.5). -/
def senseStore (v : Int) (s : State) : State :=
  let prev := ((s.kpr.sensors.find? (·.index == 360)).map Sensor.at_).getD s.now
  let s := s.reach (prev + ms)
  let s := { s with hup := { s.hup with vMv := v },
                    kpr := { s.kpr with sensors := putBy Sensor.index { index := 360, value := v, at_ := s.now } s.kpr.sensors } }
  let s := logExtreme 15 (energyJ s) 360 (fun a b => a < b) s
  rejudge (if s.background then chargeControl s else s)

/-! ## Probe (12 R297) -/

/-- What the probe finds, in its order: 0 REVERSED, 1 SHORT, 2 OPEN; `v` is the sensed voltage in mV, `rise` the rise after 2 s at 100 mA. -/
def probeFault (v rise : Int) (s : State) : Option Nat :=
  let c : Int := s.fld Reg.fHUP_STORE_CFG_C_RATED
  if v < -200 then some 0
  else if rise * 4 * c < 20000 then some 1
  else if 200000 < rise * c then some 2
  else none

/-- Run the probe: a fault keeps the charger off, sets its flag and raises Fog cause 6; a pass leads to UNARMED with the charge on. -/
def runProbe (v rise : Int) (s : State) : State :=
  let s := if v < -200 then s else s.reach (s.now + 2 * sec)
  let s := { s with hup := { s.hup with probedAt := s.now } }
  match probeFault v rise s with
  | some k =>
    let f := if k = 0 then Reg.fHUP_STATUS_REVERSED else if k = 1 then Reg.fHUP_STATUS_SHORT else Reg.fHUP_STATUS_OPEN
    let s := fire 529 (s.setFlag f true)
    let s := setHup .fault { s with hup := { s.hup with chg := false, released := false } }
    rejudge (raiseFog 6 s (arg := k))
  | none => rejudge (setHup .unarmed { s with hup := { s.hup with chg := true, released := true } })

/-- STORE_PROBE (12 R297, R299): before the charger is first raised, once the store is configured. -/
def execStoreProbe (v rise : Int) : State → Host.Outcome State Fault Refusal :=
  act fun s => if s.hup.st == .probing && !unconfigured s && s.background then runProbe v rise s else s

/-- STORE_PROBE_REPEAT (12 R297): 60 s after the last probe in FAULT. -/
def execStoreProbeRepeat (v rise : Int) : State → Host.Outcome State Fault Refusal :=
  act fun s =>
    if s.hup.st == .fault && !unconfigured s && s.background then runProbe v rise (s.reach (s.hup.probedAt + 60 * sec)) else s

/-! ## Capacitance test (12 R302, R303) -/

/-- A test can start: ARMED with E ≥ 1.05 × ARM_J. -/
def canTest (s : State) : Bool := s.hup.st == .armed && energyAtLeast s s.hup.vMv 105 100

/-- Begin a test. -/
def beginTest (job : Option Nat) (s : State) : State :=
  rejudge (setHup .testing { s with hup := { s.hup with chg := false, test := true, testStart := some (s.now, s.hup.vMv),
                                                        testJob := job } })

/-- CAPACITANCE_TEST_DUE (12 R303): TEST_INTERVAL_H hours after the last test; interval 0 turns tests off. -/
def execCapacitanceTestDue : State → Host.Outcome State Fault Refusal :=
  act fun s =>
    let h := s.fld Reg.fHUP_CFG_TEST_INTERVAL_H
    if h == 0 || !s.background then s
    else
      let s' := s.reach (s.hup.testedAt + h * hour)
      if canTest s' then beginTest none s' else s

/-- Results of HOLDUP_TEST: C in 0.01 F and E in J. -/
def testResults (s : State) : List Word := [BitVec.ofNat 64 (storeC s), BitVec.ofNat 64 (energyJ s)]

/-- The HOLDUP bin of a measured C (17 Table 17.4). -/
def holdupBin (s : State) (c : Nat) : Nat :=
  let p := pct c (s.fld Reg.fHUP_STORE_CFG_C_RATED)
  if p < 75 then 0 else min 15 ((p - 70) / 5)

/-- The end of a test at voltage `v` after `t` ns: the new C unless the store fell by less than 50 mV, the histogram, arming, the job. -/
def endTest (v : Int) (t : Nat) (v0 : Int) (s : State) : State :=
  let drop := v0 - v
  let s := { s with hup := { s.hup with vMv := v, chg := true, test := false, testStart := none, testedAt := s.now } }
  let s :=
    if drop < 50 then s.setFlag Reg.fHUP_STATUS_TEST_SHORT true
    else
      let c := s.fld Reg.fHUP_SENSE_CFG_I_TEST_MA * t / (10000000 * drop.toNat)
      logCount 0x5A0 (holdupBin s c) { s with hup := { s.hup with cMeas := some c } }
  let s := rejudge (setHup (if energyAtLeast s v 1 1 && vaultReady s then .armed else .unarmed) s)
  match s.hup.testJob with
  | some n => endJob n cOK 0 (testResults s) { s with hup := { s.hup with testJob := none } }
  | none => s

/-- CAPACITANCE_TEST_END (12 R302): at its drop, after 2 s, or when E reaches ARM_J, whichever comes first. -/
def execCapacitanceTestEnd (v : Int) (t : Nat) : State → Host.Outcome State Fault Refusal :=
  act fun s => match s.hup.testStart with
  | some (t0, v0) =>
    let due := (s.fld Reg.fHUP_SENSE_CFG_TEST_DROP_MV : Int) ≤ v0 - v || 2 * sec ≤ t || !energyAtLeast s (v - 1) 1 1
    if s.hup.st == .testing && due && t ≤ 2 * sec then endTest v t v0 (s.reach (t0 + t)) else s
  | none => s

/-- HOLDUP_TEST (12 R303): ARG1 [0] runs a test now, [1] sets the interval from ARG2; in FAULT it runs the probe, whose sensed voltage and rise come from outside. -/
def execHoldupTest (r : TaskReq) (v rise : Int) : State → Host.Outcome State Fault Refusal :=
  taskCmd { opcode := 0x0A05, windows := [0, 2] } [(1, mask 1 0), (2, mask64)] r fun s =>
    let run := r.argBits 1 0 0 == 1
    let set := r.argBits 1 1 1 == 1
    if set && 8760 < r.arg 2 then .fail cBAD_FIELD 2
    else if run && s.hup.st != .fault && !canTest s then .fail cSTATE_CONFLICT
    else startJob 0x0A05 r { carrier := .keeper, work := .capacitance } s fun n s =>
      let s := if set then s.setFld Reg.fHUP_CFG_TEST_INTERVAL_H (r.arg 2) else s
      if !run then endJob n cOK 0 (testResults s) s
      else if s.hup.st == .fault then
        let s := if unconfigured s then s else runProbe v rise s
        if s.hup.st == .fault then endJob n cHW_FAULT 0 (testResults s) s
        else if canTest s then beginTest (some n) s else endJob n cSTATE_CONFLICT 0 (testResults s) s
      else beginTest (some n) s

/-! ## Vault sets and settings -/

/-- VAULT_MEMBER_REPLACE (12 R304): members that no longer serve are replaced and the sets recorded in boot flash; arming follows. -/
def execVaultMemberReplace : State → Host.Outcome State Fault Refusal :=
  act fun s =>
    let t := assignVault s
    if t.hup.set1 == s.hup.set1 && t.hup.set2 == s.hup.set2 then s else rejudge (queueFlash .other t)

/-- Dump areas may be erased (12 R313): restart step 6 done and every restored record covered; a head that waits for admission erases after phase 2. -/
def mayEraseDump (s : State) : Bool :=
  if s.peer.waitsAdmission then 3 ≤ s.peer.phase else s.media.ioAdmitted && s.hup.uncovered.isEmpty

/-- DUMP_AREA_ERASE (12 R313): the dump areas are erased, the image goes, and the next DUMP_SEQ is armed. -/
def execDumpAreaErase : State → Host.Outcome State Fault Refusal :=
  act fun s =>
    if mayEraseDump s then
      let all := fun (l : List VaultMember) => l.map fun m => { m with erased := true }
      rejudge { s with hup := { s.hup with set1 := all s.hup.set1, set2 := all s.hup.set2, image := none,
                                           dumpSeq := if s.hup.image.isSome then s.hup.dumpSeq + 1 else s.hup.dumpSeq } }
    else s

/-- HOLDUP_SETTINGS_WRITE (12 R299): Keeper A queues the hold-up settings block for its two-copy commit. -/
def execHoldupSettingsWrite : State → Host.Outcome State Fault Refusal :=
  act fun s =>
    if s.keeperA == some true then queueFlash (.holdup (s.word 0xE00108) (s.word 0xE00110)) s else s

end Sys2Proof.Machine
end

