-- ==== Sys2Proof/Machine/MetaOps.lean ====
section
/-!
DEFINITION. The metadata stores: map trees, directory, index, deltas and what applying one does, transactions and the log (10_metadata_and_snapshots.md).
-/
namespace Sys2Proof.Machine

/-! ## Map trees (10 R245, R246, R258, R259) -/

/-- Entries of a map leaf (10 Table 10.1), pointers of an interior page (10 R246). -/
abbrev leafEntries : Nat := 2032
abbrev fanOut : Nat := 508

/-- Grain indexes that a page of a level covers. -/
def pageSpan (level : Nat) : Nat := leafEntries * fanOut ^ level

/-- KEY_LO of the page of a level that covers a key. -/
def keyLoOf (level key : Nat) : Nat := key / pageSpan level * pageSpan level

/-- Height of the map tree of a namespace with `grains` grains: the least that covers them (10, worked example). -/
def treeHeight (grains : Nat) : Nat := ((List.range 6).find? fun h => grains ≤ pageSpan h).getD 6

end Sys2Proof.Machine
namespace Sys2Proof

/-- The child of an interior page that covers a key. -/
def MapPage.child (p : MapPage) (key : Nat) : Option Nat :=
  (p.ptrs.find? fun q => q.1 == Machine.keyLoOf (p.level - 1) key).map Prod.snd

/-- The grains that a leaf names, once for each entry. -/
def MapPage.grains (p : MapPage) : List Nat := p.entries.filterMap fun e => match e.2 with
  | .grain g => some g
  | _ => none

/-- The stored bytes that a directory entry keeps live in its segment (10 R261). -/
def DirEntry.bytes (e : DirEntry) : Nat :=
  if e.st == .stored || e.st == .recovered || e.st == .partial_ then 16 * e.len16 else 0

/-- The scopes of two index entries and their domains are one (05 R122). -/
def FpEntry.same (a : FpEntry) (fp : BitVec 256) (sc : Scope) : Bool := a.fp == fp && a.scope == sc

/-- Length of a delta in the log (10 Table 10.6); the kinds the table does not list take the length of the kind they undo. -/
def Delta.len : Delta → Nat
  | .mapSet _ _ _ => 32
  | .refAdd _ _ => 24
  | .dirSet _ => 32
  | .treeCow _ _ _ _ _ => 32
  | .treeRelease _ _ => 24
  | .releaseMark _ _ => 24
  | .segSet _ | .segDel _ => 264
  | .blockSet _ => 32
  | .nsSet _ | .nsDel _ | .snapSet _ | .snapDel _ => 136
  | .fpAdd _ | .fpDel _ => 56
  | .lossAdd _ | .lossDel _ => 24
  | .dictSet _ | .dictDel _ => 24
  | .treeTake _ _ _ _ | .treeLeave _ => 24

end Sys2Proof
namespace Sys2Proof.Machine

/-- A page by name. -/
def Store.page (st : Store) (id : Nat) : Option MapPage := st.pages.find? (·.gen == id)

/-- Store a page. -/
def Store.putPage (st : Store) (p : MapPage) : Store := { st with pages := putBy MapPage.gen p st.pages }

/-- Follow the pointers down `n` levels towards a key. -/
def Store.descend (st : Store) : Nat → Nat → Nat → Option MapPage
  | 0, id, _ => st.page id
  | n + 1, id, key =>
    match (st.page id).bind (MapPage.child · key) with
    | some c => st.descend n c key
    | none => none

/-- The map entry of a key under a root (10 Table 10.4); a missing page is unmapped. -/
def Store.mapGet (st : Store) (root : Option Nat) (height key : Nat) : MapEntry :=
  match root.bind fun r => st.descend height r key with
  | some p => lookupD .unmapped key p.entries
  | none => .unmapped

/-- The next page name of a head: its generation counter rises (10 R247). -/
def Store.nextPage (st : Store) (head : Nat) : Nat × Store := (2 * (st.gen + 1) + head, { st with gen := st.gen + 1 })

/-- Raise or lower the SHARE of a page. -/
def Store.shareAdd (st : Store) (id : Nat) (d : Int) : Store :=
  match st.page id with
  | some p => st.putPage { p with share := ((p.share : Int) + d).toNat }
  | none => st

/-- Put a map entry, creating missing pages with SHARE 1 on the way down; the pages on the path have SHARE 1. Answers the page's name. -/
def Store.setAt (head obj key : Nat) (e : MapEntry) : Nat → Option Nat → Store → Nat × Store
  | level, id, st =>
    let found := id.bind st.page
    let q := st.nextPage head
    let p : MapPage := found.getD
      { gen := q.1, object := obj, level := level, keyLo := keyLoOf level key, share := 1, ptrs := [], entries := [] }
    let st := if found.isSome then st else q.2
    match level with
    | 0 => (p.gen, st.putPage { p with entries := match e with
        | .unmapped => p.entries.filter (·.1 != key)
        | _ => setKey key e p.entries })
    | n + 1 =>
      let r := Store.setAt head obj key e n (p.child key) st
      (p.gen, r.2.putPage { p with ptrs := setKey (keyLoOf n key) r.1 p.ptrs })

/-! ## Namespaces, directory, index -/

/-- A namespace of a store. -/
def Store.ns (st : Store) (nsid : Nat) : Option Namespace := st.nss.find? (·.nsid == nsid)

/-- A directory entry of a store. -/
def Store.dirOf (st : Store) (g : Nat) : Option DirEntry := st.dir.find? (·.grain == g)

/-- Change the live bytes of a segment. -/
def Store.liveAdd (st : Store) (seg : Nat) (d : Int) : Store :=
  { st with segments := updateIf (·.id == seg) (fun x => { x with liveBytes := ((x.liveBytes : Int) + d).toNat }) st.segments }

/-- Put a directory entry: the live bytes of the segments follow; a FREE entry leaves the directory and the loss list (07 R183). -/
def Store.putDir (st : Store) (e : DirEntry) : Store :=
  let st := match st.dirOf e.grain with
    | some o => st.liveAdd o.segment (-(o.bytes : Int))
    | none => st
  if e.st == .free then { st with dir := st.dir.filter (·.grain != e.grain), losses := st.losses.filter (·.grain != e.grain) }
  else { st.liveAdd e.segment e.bytes with dir := putBy DirEntry.grain e st.dir }

/-- Change a grain's count (10 R261): 0xFFFF_FFFF is sticky; at 0 the grain is RELEASED, its bytes leave the segment and its index entry goes. -/
def Store.refAdd (st : Store) (g : Nat) (d : Int) : Store :=
  match st.dirOf g with
  | none => st
  | some e =>
    if e.refs == 0xFFFFFFFF then st
    else
      let n := min 0xFFFFFFFF ((e.refs : Int) + d).toNat
      if n == 0 then
        let st := st.putDir { e with refs := 0, st := .released }
        { st with index := st.index.filter (·.grain != g) }
      else st.putDir { e with refs := n }

/-- Copy a page for one tree (10 R259): the copy has SHARE 1, the original loses 1, children or grains gain 1. -/
def Store.copyPage (st : Store) (orig copy : Nat) : Store :=
  match st.page orig with
  | none => st
  | some p =>
    let st := (st.putPage { p with share := p.share - 1 }).putPage { p with gen := copy, share := 1 }
    if p.level == 0 then p.grains.foldl (fun st g => st.refAdd g 1) st
    else p.ptrs.foldl (fun st q => st.shareAdd q.2 1) st

/-- The copy replaces the original in its parent, or as the namespace's root. -/
def Store.relink (st : Store) (nsid level keyLo orig copy : Nat) : Store :=
  match st.ns nsid with
  | none => st
  | some n =>
    if n.root == some orig then { st with nss := putBy Namespace.nsid { n with root := some copy } st.nss }
    else match n.root.bind fun r => st.descend (n.height - (level + 1)) r keyLo with
    | some p => st.putPage { p with ptrs := setKey keyLo copy p.ptrs }
    | none => st

/-- A released page's own effect (10 R260): children lose a SHARE, grains lose a count for each entry; the page goes. -/
def Store.releasePage (st : Store) (id : Nat) : Store × List Nat :=
  match st.page id with
  | none => (st, [])
  | some p =>
    let st := { st with pages := st.pages.filter (·.gen != id) }
    if p.level == 0 then (p.grains.foldl (fun st g => st.refAdd g (-1)) st, [])
    else
      let st := p.ptrs.foldl (fun st q => st.shareAdd q.2 (-1)) st
      (st, (p.ptrs.map Prod.snd).filter fun c => (st.page c).any (·.share == 0))

/-- A tree's root loses a SHARE; at 0 it waits for the release walk (10 R260). -/
def Store.releaseRoot (st : Store) (obj root : Nat) : Store :=
  let st := st.shareAdd root (-1)
  if (st.page root).any (·.share == 0) then { st with walks := st.walks ++ [{ object := obj, page := root, job := none }] } else st

/-- An entry that takes a root of another tree raises its SHARE (10 R262, R265, R266; 13 R329). -/
def Store.takeRoot (st : Store) (old new : Option Nat) : Store :=
  match new with
  | some r => if old == some r then st else st.shareAdd r 1
  | none => st

/-- The pages of a tree from a page down; `fuel` bounds its height. -/
def Store.pagesUnder (st : Store) : Nat → Nat → List Nat
  | 0, _ => []
  | fuel + 1, id => match st.page id with
    | none => []
    | some p => id :: p.ptrs.flatMap fun q => st.pagesUnder fuel q.2

/-- The pages that a group's namespaces and their snapshots reach. -/
def Store.treesOf (st : Store) (inGroup : Namespace → Bool) : List Nat :=
  let ns := st.nss.filter inGroup
  let snaps := st.snaps.filter fun x => ns.any (·.nsid == x.nsid)
  ((ns.filterMap (·.root)) ++ snaps.filterMap (·.root)).flatMap fun r => st.pagesUnder 8 r

/-- A group's trees leave a store with its namespaces, snapshots and release walks; pages that the rest still reaches stay (10 R243). -/
def Store.leave (st : Store) (group : Nat) : Store :=
  let gone := (st.nss.filter (·.group == group)).map (·.nsid)
  let snaps := (st.snaps.filter fun x => gone.contains x.nsid).map (·.id)
  let mine := st.treesOf fun n => n.group == group
  let rest := st.treesOf fun n => n.group != group
  let walked := (st.walks.filter fun w => gone.contains w.object || snaps.contains w.object).flatMap fun w => st.pagesUnder 8 w.page
  { st with nss := st.nss.filter (·.group != group), snaps := st.snaps.filter fun x => !gone.contains x.nsid,
            pages := st.pages.filter fun p => !((mine.contains p.gen || walked.contains p.gen) && !rest.contains p.gen),
            walks := st.walks.filter fun w => !(gone.contains w.object || snaps.contains w.object) }

/-- What `leave` takes out, for the store that receives it. -/
def Store.treesFor (st : Store) (group : Nat) : Delta :=
  let ns := st.nss.filter (·.group == group)
  let snaps := st.snaps.filter fun x => ns.any (·.nsid == x.nsid)
  let walks := st.walks.filter fun w => ns.any (·.nsid == w.object) || snaps.any (·.id == w.object)
  let ids := (st.treesOf fun n => n.group == group) ++ walks.flatMap fun w => st.pagesUnder 8 w.page
  .treeTake ns snaps (st.pages.filter fun p => ids.contains p.gen) (walks.map fun w => (w.object, w.page))

/-- Apply one log delta (10 Table 10.6) to a store; `head` is the head whose pages it writes. -/
def applyDelta (head : Nat) (d : Delta) (st : Store) : Store :=
  match d with
  | .mapSet nsid key e =>
    match st.ns nsid with
    | none => st
    | some n =>
      let r := Store.setAt head nsid key e n.height n.root st
      { r.2 with nss := updateIf (·.nsid == nsid) (fun n => { n with root := some r.1 }) r.2.nss }
  | .refAdd g n => st.refAdd g n
  | .dirSet e => st.putDir e
  | .treeCow nsid level keyLo orig copy =>
    (({ st with gen := max st.gen (copy / 2) }).copyPage orig copy).relink nsid level keyLo orig copy
  | .treeRelease obj root => st.releaseRoot obj root
  | .releaseMark obj page =>
    let r := st.releasePage page
    { r.1 with walks := (r.1.walks.filter fun w => w.page != page) ++ r.2.map fun c => { object := obj, page := c, job := none } }
  | .segSet s => { st with segments := putBy Segment.id s st.segments }
  | .segDel i => { st with segments := st.segments.filter (·.id != i) }
  | .blockSet b =>
    { st with blocks := if st.blocks.any fun x => x.module == b.module && x.die == b.die && x.plane == b.plane && x.block == b.block
        then updateIf (fun x => x.module == b.module && x.die == b.die && x.plane == b.plane && x.block == b.block) (fun _ => b) st.blocks
        else st.blocks ++ [b] }
  | .nsSet n => { st.takeRoot ((st.ns n.nsid).bind (·.root)) n.root with nss := putBy Namespace.nsid n st.nss }
  | .nsDel i => { st with nss := st.nss.filter (·.nsid != i) }
  | .snapSet x =>
    { st.takeRoot ((st.snaps.find? (·.id == x.id)).bind (·.root)) x.root with snaps := putBy Snapshot.id x st.snaps }
  | .snapDel i => { st with snaps := st.snaps.filter (·.id != i) }
  | .fpAdd e => { st with index := e :: st.index.filter fun x => !x.same e.fp e.scope }
  | .fpDel e => { st with index := st.index.filter fun x => !(x.same e.fp e.scope && x.grain == e.grain) }
  | .lossAdd l => { st with losses := putBy LossEntry.grain l st.losses }
  | .lossDel g => { st with losses := st.losses.filter (·.grain != g) }
  | .dictSet d => { st with dicts := putBy Dict.id d st.dicts }
  | .dictDel i => { st with dicts := st.dicts.filter (·.id != i) }
  | .treeTake nss snaps pages walks =>
    { st with nss := nss.foldl (fun l n => putBy Namespace.nsid n l) st.nss, snaps := snaps.foldl (fun l x => putBy Snapshot.id x l) st.snaps,
              pages := pages.foldl (fun l p => putBy MapPage.gen p l) st.pages,
              gen := pages.foldl (fun g p => if p.gen % 2 == head then max g (p.gen / 2) else g) st.gen,
              walks := walks.foldl (fun l w => if l.any fun v => v.object == w.1 && v.page == w.2 then l else l ++ [{ object := w.1, page := w.2, job := none }]) st.walks }
  | .treeLeave g => st.leave g

/-! ## The two stores of a head (10 R243, R244; 11 R275, R287) -/

/-- This head's store, or the partner's as this head holds it. -/
def State.store (s : State) (sh : Bool) : Store := if sh then s.md.shadow else s.md.store

/-- Put a store back. -/
def State.putStore (s : State) (sh : Bool) (st : Store) : State :=
  { s with md := if sh then { s.md with shadow := st } else { s.md with store := st } }

/-- The head that writes a store's pages. -/
def State.writer (s : State) (sh : Bool) : Nat := if sh then 1 - s.peer.head else s.peer.head

/-- The store that keeps a namespace, and its entry. -/
def State.ns (s : State) (nsid : Nat) : Option (Bool × Namespace) :=
  match s.md.store.ns nsid with
  | some n => some (false, n)
  | none => (s.md.shadow.ns nsid).map fun n => (true, n)

/-- A grain's head by bit 47 (05 R126): true when the partner's store keeps its entry. -/
def State.grainShadow (s : State) (g : Nat) : Bool := g / 2 ^ 47 % 2 != s.peer.head % 2

/-- A grain's directory entry, in either store. -/
def State.dirOf (s : State) (g : Nat) : Option DirEntry := (s.store (s.grainShadow g)).dirOf g

/-- A snapshot and the store that keeps it. -/
def State.snap (s : State) (id : Nat) : Option (Bool × Snapshot) :=
  match s.md.store.snaps.find? (·.id == id) with
  | some x => some (false, x)
  | none => (s.md.shadow.snaps.find? (·.id == id)).map fun x => (true, x)

/-- This head serves a namespace: it owns the group, or survives alone (04 R95, R97). -/
def State.owns (s : State) (group : Nat) : Bool := s.peer.st == .lightship || s.owner group == s.peer.head

/-! ## Transactions (10 R250 to R253) -/

/-- A transaction under way: the state with its deltas applied, the deltas so far (newest first), the remote deltas (newest first). -/
structure Tx where
  s      : State
  local_ : List (Bool × Delta)
  remote : List Delta

/-- Begin a transaction. -/
def Tx.start (s : State) : Tx := { s := s, local_ := [], remote := [] }

/-- Apply and log a delta of a store. -/
def Tx.add (t : Tx) (sh : Bool) (d : Delta) : Tx :=
  { t with s := t.s.putStore sh (applyDelta (t.s.writer sh) d (t.s.store sh)), local_ := (sh, d) :: t.local_ }

/-- A delta to an entry that a head's store keeps: applied here, or sent as a remote delta while the partner serves its store (10 R244). -/
def Tx.addAt (t : Tx) (sh : Bool) (d : Delta) : Tx :=
  if sh && !t.s.peer.survivor then { t with remote := d :: t.remote } else t.add sh d

/-- Change a grain's count. -/
def Tx.ref (t : Tx) (g : Nat) (n : Int) : Tx := t.addAt (t.s.grainShadow g) (.refAdd g n)

/-- The counts that a page's entries add to or take from grains of the other head's store, as deltas of their own: the implied ones reach the page's own store only (10 R244, R259, R260). -/
def Tx.countAbroad (t : Tx) (sh : Bool) (p : MapPage) (n : Int) : Tx :=
  (p.grains.filter fun g => t.s.grainShadow g != sh).foldl (fun t g => t.ref g n) t

/-- Copy the pages with SHARE above 1 on the path to a key, from the root down (10 R259). -/
def Tx.cow (nsid key : Nat) (sh : Bool) : Nat → Nat → Tx → Tx
  | level, id, t =>
    match (t.s.store sh).page id with
    | none => t
    | some p =>
      let copy := 2 * ((t.s.store sh).gen + 1) + t.s.writer sh
      let shared := 1 < p.share
      let t := if shared then (t.add sh (.treeCow nsid p.level p.keyLo id copy)).countAbroad sh p 1 else t
      let here := if shared then copy else id
      match level with
      | 0 => t
      | n + 1 =>
        match ((t.s.store sh).page here).bind (MapPage.child · key) with
        | some c => Tx.cow nsid key sh n c t
        | none => t

/-- Change one map entry (10 R253, R259, R262): copies first, increments before decrements; the displaced grain loses a count. `raise` is the grain whose count the new entry takes. -/
def Tx.setMap (t : Tx) (sh : Bool) (nsid key : Nat) (e : MapEntry) (raise : Option Nat) : Tx :=
  match (t.s.store sh).ns nsid with
  | none => t
  | some n =>
    let t := match raise with
      | some g => t.ref g 1
      | none => t
    let t := match n.root with
      | some r => Tx.cow nsid key sh n.height r t
      | none => t
    let root := ((t.s.store sh).ns nsid).bind (·.root)
    let old := (t.s.store sh).mapGet root n.height key
    let t := t.add sh (.mapSet nsid key e)
    match old with
    | .grain g => t.ref g (-1)
    | _ => t

/-- Bytes of log body (10 R245). -/
abbrev logBody : Nat := 16256

/-- Fill log pages with `n` bytes: a full page is sent (10 R252), and the transaction ends in the last. -/
def fillLog (n : Nat) (t : Txn) (s : State) : State :=
  let openPage := (s.md.log.getLast?).filter (!·.sent)
  let p : LogPage := openPage.getD { lpseq := s.md.lpseq, txns := [], bytes := 0, since := s.now, sent := false, durable := false }
  let s := if openPage.isSome then { s with md := { s.md with log := s.md.log.dropLast } }
    else { s with md := { s.md with lpseq := s.md.lpseq + 1 } }
  let total := p.bytes + n
  if total < logBody then
    { s with md := { s.md with log := s.md.log ++ [{ p with bytes := total, txns := p.txns ++ [t] }] },
             media := { s.media with logBytes := s.media.logBytes + n } }
  else
    let first := { p with bytes := logBody }
    let extra := (total - logBody) / logBody
    let full := (List.range extra).map fun i =>
      ({ lpseq := s.md.lpseq + i, txns := [], bytes := logBody, since := s.now, sent := false, durable := false } : LogPage)
    let last : LogPage :=
      { lpseq := s.md.lpseq + extra, txns := [t], bytes := (total - logBody) % logBody, since := s.now, sent := false, durable := false }
    let s := { s with md := { s.md with log := s.md.log ++ [first] ++ full ++ [last], lpseq := s.md.lpseq + extra + 1 },
                      media := { s.media with logBytes := s.media.logBytes + n } }
    (first :: full).foldl (fun s p => sendLogPage p s) s

/-- Close a transaction with its TXN_END: it enters the log, its remote deltas are sent (10 R244, R251). `jseq` is the highest JSEQ it covers, 0 for none. -/
def Tx.commit (t : Tx) (jseq : Nat := 0) : State :=
  if t.local_.isEmpty && t.remote.isEmpty then t.s
  else
    let s := t.s
    let num := s.md.txn
    let txn : Txn := { num := num, deltas := t.local_.reverse, jseq := jseq, remote := t.remote.length }
    let s := { s with md := { s.md with txn := num + 1 } }
    let s := fillLog (((t.local_.map fun d => Delta.len d.2).sum) + 24) txn s
    (t.remote.reverse.zipIdx).foldl (fun (s : State) (d : Delta × Nat) =>
      let t : State := { s with md := { s.md with remote := s.md.remote ++ [{ txn := num, index := d.2, delta := d.1, jseq := jseq }] } }
      t.send (.remoteDelta num d.2 d.1)) s

/-- One delta as a transaction of its own. -/
def oneDelta (sh : Bool) (d : Delta) (s : State) : State := ((Tx.start s).addAt sh d).commit

/-! ## Looking up content (05 R122 to R124) -/

/-- The scope of a namespace under its profile: its domain and key domain, or CLEAR (05 R122). Stage 6 of Table 2's order is encryption (02 R31). -/
def scopeOf (s : State) (n : Namespace) : Scope :=
  let enc := ((profileIn s.lens.live 0 n.profile).map fun p => p.stages.contains 6).getD false
  if enc then { ddom := n.ddom, key := n.key, clear := false } else { ddom := n.ddom, key := 0, clear := true }

/-- A profile switches a stage on (02 R31). -/
def hasStage (s : State) (profile stage : Nat) : Bool :=
  (List.range 8).any fun h => ((profileIn s.lens.live h profile).map fun p => p.stages.contains stage).getD false

end Sys2Proof.Machine
end

