-- ==== Sys2Proof/Machine/MediaOps.lean ====
section
/-!
DEFINITION. Placement and flash operations: blocks, segments, free space, read-only domains, packing (05 R135, 07 R161 to R185, 08 R188 to R206).
-/
namespace Sys2Proof.Machine

/-! ## Domains and capacity -/

/-- A placement domain. -/
def State.domain (s : State) (d : Nat) : PDomain := (s.media.domains[d]?).getD .reset

/-- Store a placement domain. -/
def State.putDomain (s : State) (d : Nat) (x : PDomain) : State :=
  { s with media := { s.media with domains := putNth .reset x d s.media.domains } }

/-- The ACTIVE modules of a domain, by index. -/
def activeModules (s : State) (d : Nat) : List Module :=
  s.media.modules.filter fun m => m.pdom == d && m.st == .active

/-- Bytes of a block in a mode. -/
def blockBytes (m : Module) (oneBit : Bool) : Nat := (if oneBit then m.desc.pagesOneBit else m.desc.pagesNative) * 16384

/-- Blocks of a module's pool of a mode: set-aside, spare and retired ones do not count (08 R188). -/
def poolBlocks (s : State) (m : Nat) (oneBit : Bool) : List Block :=
  s.md.store.blocks.filter fun b => b.module == m && b.oneBit == oneBit && !b.aside && b.st != .retired && b.st != .spare

/-- Free blocks of a module in a mode: states 0 and 1 of Table 8.1 (07 R171). -/
def freeBlocks (s : State) (m : Nat) (oneBit : Bool) : List Block :=
  (poolBlocks s m oneBit).filter fun b => b.st == .erased || b.st == .eraseQueued

/-- Native capacity of a module's native pool in bytes. -/
def nativeBytes (s : State) (m : Module) : Nat := (poolBlocks s m.index false).length * blockBytes m false

/-- Every segment of the array that this head's free-space view covers: its own and the partner's as the shadow holds them. -/
def allSegments (s : State) : List Segment := s.md.store.segments ++ s.md.shadow.segments

/-- Garbage-collection reserve: 2 segments of W native blocks (07 R184). -/
def gcReserve (s : State) (d : Nat) : Nat :=
  match (s.domain d).code with
  | some c => 2 * (c.1 + c.2) * (((activeModules s d).map fun m => blockBytes m false).foldl max 0)
  | none => 0

/-- Rebuild reserve: the raw capacity of the domain's largest module (07 R184). -/
def rebuildReserve (s : State) (d : Nat) : Nat :=
  ((s.media.modules.filter fun m => m.pdom == d && m.st != .absent).map fun m => nativeBytes s m).foldl max 0

/-- MARGIN_PCT in force: the larger of the two heads', or this head's own (08 R204). -/
def marginPct (s : State) : Nat :=
  let own := s.fld Reg.fMTL_FM_CFG_MARGIN_PCT
  if s.peer.st == .lightship then own else max own (s.media.partnerMargin.getD 0)

/-- Native capacity of a domain. -/
def nativeCapacity (s : State) (d : Nat) : Nat := ((activeModules s d).map fun m => nativeBytes s m).sum

/-- The margin in bytes (08 R204). -/
def marginBytes (s : State) (d : Nat) : Nat := nativeCapacity s d * marginPct s / 100

/-- Live stored bytes of a domain's segments, scaled by W / k (08 R204). -/
def liveRaw (s : State) (d : Nat) : Nat :=
  ((allSegments s).filter fun x => x.pdom == d && (x.st == .open_ || x.st == .sealed || x.st == .rebuilding)).foldl
    (fun n x => n + (if x.k = 0 then 0 else x.liveBytes * (x.k + x.m) / x.k)) 0

/-- The placement domain that a namespace's profile names (07 R167). -/
def domainOf (s : State) (profile : Nat) : Nat :=
  (((List.range 8).filterMap fun h => profileIn s.lens.live h profile).head?.map (·.pdom)).getD 0

/-- Bytes reserved by records whose grains are not yet packed (05 R119). -/
def reservedRaw (s : State) (d : Nat) : Nat :=
  ((s.wr.ring.filter fun e => domainOf s e.cfg.profile == d).map RingEntry.reserved).sum

/-- Bytes of grains that are packed and not yet programmed, scaled: their reservation is replaced by this use (05 R119). -/
def packedRaw (s : State) (d : Nat) : Nat :=
  let gs := (s.wr.rows.filter (·.domain == d)).flatMap (·.grains) ++ (s.wr.unpacked.filter fun u => u.2.1 == d).map (·.2.2)
  match (s.domain d).code with
  | some (k, m) => ((gs.filter (·.jseq.isSome)).map fun g => 64 + g.hdr.storedLen).sum * (k + m) / k
  | none => 0

/-- Free space of a domain outside its reserves in raw bytes; reserves consumed are restored before it counts (08 R204, 07 R184). -/
def freeSpace (s : State) (d : Nat) : Int :=
  (nativeCapacity s d : Int) - gcReserve s d - rebuildReserve s d - marginBytes s d - liveRaw s d - packedRaw s d - reservedRaw s d

/-! ## Choosing members (07 R166, R168, R171; 08 R190) -/

/-- Co-membership count of two modules. -/
def pairOf (s : State) (x y : Nat) : Nat :=
  ((s.media.pairs.find? fun p => p.1 == min x y && p.2.1 == max x y).map (·.2.2)).getD 0

/-- Change the co-membership counts of a set of modules by 1. -/
def pairsAdd (ms : List Nat) (up : Bool) (s : State) : State :=
  let bump := fun (l : List (Nat × Nat × Nat)) (x y : Nat) =>
    let n := ((l.find? fun p => p.1 == x && p.2.1 == y).map (·.2.2)).getD 0
    (x, y, if up then n + 1 else n - 1) :: l.filter fun p => !(p.1 == x && p.2.1 == y)
  let pairs := ms.foldl (fun l x => ms.foldl (fun l y => if x < y then bump l x y else l) l) s.media.pairs
  { s with media := { s.media with pairs := pairs } }

/-- At most how many members one failure domain takes (07 R168). -/
def perDomainMax (ms : List Module) (w m : Nat) : Nat := if w ≤ (ms.map (·.fdom)).eraseDups.length then 1 else m

/-- Pick the members of a segment one at a time (07 R171); `ok` is what else a module must meet. -/
def pickMembers (s : State) (cands : List Module) (oneBit : Bool) (most : Nat) (ok : Module → Bool) : Nat → List Module → Option (List Module)
  | 0, chosen => some chosen
  | n + 1, chosen =>
    let c := cands.filter fun x => ok x && !(chosen.any (·.index == x.index)) && !(freeBlocks s x.index oneBit).isEmpty &&
      (chosen.filter (·.fdom == x.fdom)).length < most
    let cost := fun (x : Module) => ((chosen.map fun y => pairOf s x.index y.index).sum * 2 ^ 40 +
      (2 ^ 32 - (freeBlocks s x.index oneBit).length)) * 256 + x.index
    match leastBy cost c with
    | some x => pickMembers s cands oneBit most ok n (chosen ++ [x])
    | none => none

/-- Operations queued on a die: this head's on its port, and one for the other port when the last response there had waited behind it (08 R190, 09 R228). -/
def dieLoad (s : State) (m : Module) (die : Nat) : Nat :=
  let x := (portOf s m.index).bind fun p => s.sml.ports.find? (·.port == p)
  let own := match x with
    | some x => ((x.pending.map (·.body) ++ x.queue).filter fun b => b.addr.die == die).length
    | none => 0
  own + lookupD 0 die m.dieQueue

/-- The block that R190 chooses on a module. -/
def pickBlock (s : State) (m : Module) (oneBit : Bool) : Option Block :=
  let free := freeBlocks s m.index oneBit
  let dies := (free.map (·.die)).eraseDups
  match leastBy (fun d => dieLoad s m d * 128 + d) dies with
  | none => none
  | some d => leastBy (fun b => (b.erases * 4 + b.plane) * 65536 + b.block) (free.filter (·.die == d))

/-- The media address of a block's first page. -/
def blockAddr (b : Block) : MediaAddr :=
  { oneBit := b.oneBit, module := b.module, die := b.die, plane := b.plane, block := b.block, page := 0, codeword := 0 }

/-- A block record at an address. -/
def blockAt (s : State) (a : MediaAddr) : Option Block :=
  s.md.store.blocks.find? fun b => b.module == a.module && b.die == a.die && b.plane == a.plane && b.block == a.block

/-- A domain can open segments of its code: at least W + m ACTIVE modules (07 R166). -/
def wideEnough (s : State) (d w m : Nat) : Bool := w + m ≤ (activeModules s d).length

/-- Open a segment (07 R166 to R171, 08 R190, 10 R248, R249): its entry, its blocks taken, one transaction. `use_` 0 packing, 1 folding, 2 relocation, 3 metadata. -/
def openSegment (d : Nat) (oneBit : Bool) (use_ : Nat) (avoid : Module → Bool) (s : State) : Option (Segment × State) :=
  let meta_ := use_ == 3
  match if meta_ then some (4, 2) else (s.domain d).code with
  | none => none
  | some (k, m) =>
    let ms := activeModules s d
    if !(if meta_ then 12 ≤ ms.length else wideEnough s d (k + m) m) then none
    else match pickMembers s ms oneBit (perDomainMax ms (k + m) m) (fun x => !avoid x) (k + m) [] with
    | none => none
    | some chosen =>
      let blks := chosen.filterMap fun x => pickBlock s x oneBit
      if blks.length != k + m then none
      else
        let id := s.peer.head * 2 ^ 31 + (if meta_ then 2 ^ 30 else 0) + s.md.store.segNext
        let seg : Segment :=
          { id := id, k := k, m := m, oneBit := oneBit, pdom := d, st := .open_, relocate := false, gen := s.md.store.gen + 1,
            openStamp := s.now, rows := 1, erased := [], members := blks.map blockAddr, liveBytes := 0, sealHour := 0, sealAt := 0,
            badCols := [], claim := .none, lastMove := 0, gone := false, refresh := none, metadata := meta_, use_ := use_ }
        let st := s.md.store
        let s := s.putStore false { st with segNext := st.segNext + 1 }
        let t := (Tx.start s).add false (.segSet seg)
        let t := blks.foldl (fun t b => t.add false (.blockSet { b with st := .inSegment })) t
        some (seg, pairsAdd (chosen.map (·.index)) true t.commit)

/-- A segment by ID, in either store. -/
def State.segment (s : State) (id : Nat) : Option (Bool × Segment) :=
  match s.md.store.segments.find? (·.id == id) with
  | some x => some (false, x)
  | none => (s.md.shadow.segments.find? (·.id == id)).map fun x => (true, x)

/-- Write a segment entry through the log. -/
def putSegment (sh : Bool) (x : Segment) (s : State) : State := oneDelta sh (.segSet x) s

/-- Change what claims or queues a segment: no part of its entry. -/
def noteSegment (x : Segment) (s : State) : State :=
  let f := fun (st : Store) => { st with segments := updateIf (·.id == x.id) (fun _ => x) st.segments }
  { s with md := { s.md with store := f s.md.store, shadow := f s.md.shadow } }

/-! ## Read-only domains (07 R527) -/

/-- Packing segments can open in a domain: R166 and R168 leave W modules with the spread asked. -/
def canOpen (s : State) (d : Nat) : Bool :=
  match (s.domain d).code with
  | none => true
  | some (k, m) =>
    let ms := activeModules s d
    let most := perDomainMax ms (k + m) m
    wideEnough s d (k + m) m &&
    k + m ≤ (((ms.map (·.fdom)).eraseDups.map fun f => min most (ms.filter (·.fdom == f)).length)).sum

/-- A domain is read-only for new allocation. -/
def domainRO (s : State) (d : Nat) : Bool :=
  !canOpen s d || (s.domain d).stalled || (s.domain d).noRoom || s.flag Reg.fMTL_META_STATUS_META_RO

/-- META_RO follows domain 0: it holds fewer than 12 ACTIVE modules (10 R248). Judged once it holds any. -/
def settleMetaRo (s : State) : State :=
  let ro := !s.media.modules.isEmpty && (activeModules s 0).length < 12
  if ro == s.flag Reg.fMTL_META_STATUS_META_RO then s
  else
    let s := fire 152 (s.setFlag Reg.fMTL_META_STATUS_META_RO ro)
    if ro then raiseFog 7 s else s

/-- The read-only state of the domains follows its conditions; the beginning raises Fog cause 7, each change fires source 148 (07 R527, 08 R214). -/
def settleRo (s : State) : State :=
  let s := settleMetaRo s
  (List.range 8).foldl (fun s d =>
    let ro := (s.domain d).code.isSome && domainRO s d
    if ro == (s.domain d).readOnly then s
    else
      let s := fire 148 (s.putDomain d { s.domain d with readOnly := ro })
      if ro then raiseFog 7 s (arg := d) else s) s

/-! ## Packing (05 R135) -/

/-- Rows of a segment: page numbers of its blocks in its mode (05 R135, 10 R249). -/
def segmentRows (s : State) (x : Segment) : Nat :=
  match x.members.head?.bind fun a => s.module a.module with
  | some m => if x.oneBit then m.desc.pagesOneBit else m.desc.pagesNative
  | none => 0

/-- The next row of a segment: past the rows counted and the rows in flight. -/
def nextRow (s : State) (x : Segment) : Nat :=
  ((s.wr.rows.filter (·.segment == x.id)).map fun r => r.row + 1).foldl max x.rows

/-- The open row of a packer: a PT, or 66 for folding and 67 for relocation (08 R191). -/
def openRow (s : State) (pt d : Nat) : Option OpenRow := s.wr.rows.find? fun r => r.pt == pt && r.domain == d && !r.sealed

/-- Replace the open row of a packer. -/
def putRow (r : OpenRow) (s : State) : State :=
  { s with wr := { s.wr with rows := r :: s.wr.rows.filter fun x => !(x.pt == r.pt && x.domain == r.domain && !x.sealed) } }

/-- What a packer's segments serve. -/
def packerUse (pt : Nat) : Nat := if pt == 66 then 1 else if pt == 67 then 2 else 0

/-- The packer's open segment with a row left, or a new one (08 R191, R193). Each PT keeps its own: a segment belongs to a PT by its rows, so a packing segment without an open row of another PT serves. -/
def packSegment (pt d : Nat) (s : State) : Option (Segment × State) :=
  let taken := fun (x : Segment) => s.wr.rows.any fun r => r.segment == x.id && r.pt != pt
  match s.md.store.segments.find? fun x => x.st == .open_ && x.pdom == d && !x.metadata && x.use_ == packerUse pt &&
      nextRow s x < segmentRows s x && !taken x with
  | some x => some (x, s)
  | none => openSegment d (packerUse pt == 0) (packerUse pt) (fun _ => false) s

/-- Begin a packer's next row. -/
def newRow (pt d : Nat) (s : State) : Option (OpenRow × State) :=
  match packSegment pt d s with
  | none => none
  | some (x, s) =>
    some ({ pt := pt, domain := d, segment := x.id, row := nextRow s x, member := 0, used := 0, grains := [], lastAt := s.now,
            sealed := false, done := [] }, s)

/-- Seal a packer's row: it is handed to the media tiles (05 R135). -/
def sealRow (pt d : Nat) (s : State) : State :=
  { s with wr := { s.wr with rows := updateIf (fun r => r.pt == pt && r.domain == d && !r.sealed) (fun r => { r with sealed := true }) s.wr.rows } }

/-- Data members of a row's segment. -/
def rowK (s : State) (r : OpenRow) : Nat := ((s.segment r.segment).map fun x => x.2.k).getD 0

/-- Place a grain in the packer's open row, in member order at 16-byte alignment; a row whose last member has no room is sealed. None while no block is free (05 R135, 08 R193). -/
def packGrain (pt d : Nat) (g : PackedGrain) (s : State) : Option State :=
  let need := 64 + g.hdr.storedLen
  let place := fun (r : OpenRow) (s : State) =>
    let fits := r.used + need ≤ 16384
    let member := if fits then r.member else r.member + 1
    let at_ := if fits then r.used else 0
    putRow { r with member := member, used := at_ + need, lastAt := s.now,
                    grains := r.grains ++ [{ g with member := member, offset := at_ }] } s
  match openRow s pt d with
  | some r =>
    if r.used + need ≤ 16384 || r.member + 1 < rowK s r then some (place r s)
    else (newRow pt d (sealRow pt d s)).map fun p => place p.1 p.2
  | none => (newRow pt d s).map fun p => place p.1 p.2

/-- Pack a grain, or let it wait for a block (08 R193). -/
def packOrWait (pt d : Nat) (g : PackedGrain) (s : State) : State :=
  match packGrain pt d g s with
  | some s => s
  | none => { s with wr := { s.wr with unpacked := s.wr.unpacked ++ [(pt, d, g)] } }

/-- Pack the grains that wait, oldest first (07 R173, 08 R193). -/
def packWaiting (s : State) : State :=
  s.wr.unpacked.foldl (fun s x => packOrWait x.1 x.2.1 x.2.2 s) { s with wr := { s.wr with unpacked := [] } }

/-! ## Moves (08 R196) -/

/-- The segments this head works on: its own, and the partner's while it survives alone (07 R177, 08 R187). -/
def mySegments (s : State) : List Segment := s.md.store.segments ++ (if s.peer.survivor then s.md.shadow.segments else [])

/-- Directory entries that still point at a segment and hold bytes there. -/
def entriesOn (s : State) (id : Nat) : List DirEntry :=
  (s.md.store.dir ++ s.md.shadow.dir).filter fun e => e.segment == id && e.bytes != 0

/-- A transaction is durable: no log page at or past the first that is not durable holds it, and the partner has acknowledged its remote deltas (10 R244, R251). -/
def txnDurable (s : State) (n : Nat) : Bool :=
  !((s.md.log.dropWhile (·.durable)).any fun p => p.txns.any (·.num == n)) && !(s.md.remote.any (·.txn == n))

/-- A segment takes state 3 in the log; its co-membership counts fall (07 R171, 08 R196). A refresh counts on its modules (08 Table 8.7). -/
def retireSegment (sh : Bool) (x : Segment) (s : State) : State :=
  let ms := x.members.map (·.module)
  let s := pairsAdd ms false (putSegment sh { x with st := .retired, claim := .none, refresh := none } s)
  if x.claim == .refresh then
    ms.foldl (fun s i => match s.module i with
      | some m => s.putModule { m with refreshed := m.refreshed + 1 }
      | none => s) s
  else s

/-- Claimed segments whose grains have all left, durably, are retired (08 R196 step 3). -/
def finishMoves (s : State) : State :=
  (mySegments s).foldl (fun s y => match s.segment y.id with
    | some (sh, x) =>
      if x.claim != .none && x.st != .retired && !x.metadata && (entriesOn s x.id).isEmpty &&
          !(s.media.rebuilds.any (·.segment == x.id)) && (x.lastMove == 0 || txnDurable s (x.lastMove - 1))
      then retireSegment sh x s else s
    | none => s) s

end Sys2Proof.Machine
end

