-- ==== Sys2Proof/Machine/Journal.lean ====
section
/-!
DEFINITION. The write path: journal append, vault pages, retirement, fingerprinting to packing, histograms and the write-anomaly guard (05_write_path.md).
-/
namespace Sys2Proof.Machine

/-! ## Grains (05 R109 to R111) -/

/-- The bytes of a sector, byte 0 first. -/
def sectorBytes (x : Sector) : List Byte := (List.range 512).map fun i => x.extractLsb' (8 * i) 8

/-- The 4,096 bytes of a grain. -/
def grainBytes (ss : List Sector) : List Byte := ss.flatMap sectorBytes

/-- Blocks of a namespace in a grain: 1 of 4 KiB, or 8 of 512 bytes. -/
def blocksPerGrain (n : Namespace) : Nat := if n.small then 8 else 1

/-- 512-byte sectors of a block. -/
def sectorsPerBlock (n : Namespace) : Nat := if n.small then 1 else 8

/-- Grains of a namespace. -/
def grainsOf (n : Namespace) : Nat := (n.size * sectorsPerBlock n + 7) / 8

/-- Eight zero sectors. -/
def zeroSectors : List Sector := List.replicate 8 0

/-- The grain table entry of grain `g` for data that starts at 512-byte sector `first` of the namespace (05 R109 to R111, Table 5.1). -/
def formGrain (first : Nat) (data : List Sector) (g : Nat) : JGrain :=
  let at_ := fun i => if first ≤ 8 * g + i then data[8 * g + i - first]? else none
  let slots := (List.range 8).map fun i => (at_ i).getD 0
  let mask := (List.range 8).foldl (fun m i => if (at_ i).isSome then m + 2 ^ i else m) 0
  let zero := mask == 255 && slots.all (· == 0)
  { crc := crc32c (grainBytes slots), mask := BitVec.ofNat 8 mask, zero := zero, data := if zero then [] else slots }

/-- The grain table of data at a block (05 R113). -/
def formGrains (n : Namespace) (slba : Nat) (data : List Sector) : List JGrain :=
  let first := slba * sectorsPerBlock n
  let lo := first / 8
  let hi := (first + data.length + 7) / 8
  (List.range (hi - lo)).map fun i => formGrain first data (lo + i)

/-- Split a range into pieces of at most 1 MiB (05 R112, 04 R100), as (first block, blocks, source). `fuel` bounds the pieces. -/
def pieces (per : Nat) : Nat → Nat → Nat → Nat → List (Nat × Nat × Nat)
  | 0, _, _, _ => []
  | fuel + 1, slba, nblk, src =>
    if nblk = 0 then []
    else if nblk ≤ per then [(slba, nblk, src)]
    else (slba, per, src) :: pieces per fuel (slba + per) (nblk - per) (src + per)

/-- Blocks in 1 MiB. -/
def blocksPerMiB (n : Namespace) : Nat := if n.small then 2048 else 256

/-! ## Ring space (05 R118, 12 R305) -/

/-- Usable bytes of a journal ring: the smaller of 8 GiB and 40 % of a vault copy. -/
def ringCapacity (s : State) : Nat := min (8 * 2 ^ 30) (2 * 2 ^ 30 * s.fld Reg.fHUP_CFG_VAULT_MODS * 40 / 100)

/-- A record of this head; the ring also holds the partner's after a takeover, their JSEQ raised by 2^64 (11 R287 step 4). -/
def ownRecord (s : State) (e : RingEntry) : Bool := e.rec_.head == s.peer.head

/-- Bytes in the local ring. -/
def ringBytes (s : State) : Nat := ((s.wr.ring.filter (ownRecord s)).map fun e => recordLen e.rec_).sum

/-- Fill of the local ring in %. -/
def ringFill (s : State) : Nat := pct (ringBytes s) (ringCapacity s)

/-- A crossing of HWM_PCT, up or down, fires source 137 once (05 R118). -/
def settleHwm (s : State) : State :=
  let above := s.fld Reg.fPTL_JRING_CFG_HWM_PCT < ringFill s
  if above == s.wr.aboveHwm then s else fire 137 { s with wr := { s.wr with aboveHwm := above } }

/-! ## Space admission (05 R119, R120) -/

/-- Bytes that a grain reserves in a domain: 4,160 scaled by W / k. -/
def reservePer (s : State) (d : Nat) : Nat :=
  match (s.domain d).code with
  | some (k, m) => 4160 * (k + m) / k
  | none => 4160

/-- Grains of a table that need a reservation. -/
def dataGrains (gs : List JGrain) : Nat := (gs.filter (!·.zero)).length

/-! ## The de-duplication lookup (05 R122 to R128) -/

/-- Bucket of a fingerprint in a partition: fingerprint bytes 0 to 7, modulo the buckets (05 R122); byte 0 is the most significant (log 13). -/
def bucketOf (s : State) (part : Nat) (fp : BitVec 256) : Nat :=
  let buckets := ((s.lens.live.sieveUnits[part]?).getD 0) * 65536 / 8
  if buckets = 0 then 0 else (fp.toNat / 2 ^ 192) % buckets

/-- FP_TAG: fingerprint bytes 8 to 15 (05 Table 5.3). -/
def tagOf (fp : BitVec 256) : BitVec 64 := fp.extractLsb' 128 64

/-- A Sieve entry is the candidate for a fingerprint and scope. -/
def SieveEntry.is (e : SieveEntry) (s : State) (fp : BitVec 256) (sc : Scope) : Bool :=
  e.part == sc.ddom && e.bucket == bucketOf s sc.ddom fp && e.tag == tagOf fp && e.key == sc.key && e.clear == sc.clear

/-- The index entry of a fingerprint and scope, in either store (10 R244). -/
def indexEntry (s : State) (fp : BitVec 256) (sc : Scope) : Option FpEntry :=
  (s.md.store.index ++ s.md.shadow.index).find? fun e => e.same fp sc

/-- A Sieve bank that has not failed and is not fenced; the others yield misses only (16 R405). -/
def bankServes (s : State) (b : Nat) : Bool := !(s.fld Reg.fMCC_SIEVE_STATUS_FAULT_BANKS).testBit b && !s.isFenced (iSV + b)

/-- The lookup of R124: the Sieve, confirmed against the index, then the index when its page is in DRAM. -/
def lookupFp (s : State) (fp : BitVec 256) (sc : Scope) (resident : Bool) : Option Nat :=
  let cand := (s.wr.sieve.find? fun e => e.is s fp sc && bankServes s (Config.sieveBank e.part e.bucket % 4)).map SieveEntry.grain
  match indexEntry s fp sc with
  | none => none
  | some e => if cand == some e.grain || resident then some e.grain else none

/-- Insert a Sieve entry: it replaces its bucket's oldest entry when the bucket holds 8; the others age (05 R124, Table 5.3; log 14). -/
def sieveInsert (fp : BitVec 256) (sc : Scope) (g : Nat) (s : State) : State :=
  let b := bucketOf s sc.ddom fp
  let here := fun (e : SieveEntry) => e.part == sc.ddom && e.bucket == b
  let old := (s.wr.sieve.filter here).filter fun e => !(e.is s fp sc)
  let kept := if old.length < 8 then old
    else match leastBy (fun e => 3 - e.age) old with
      | some x => old.erase x
      | none => old
  let aged := kept.map fun e => { e with age := min 3 (e.age + 1) }
  let new : SieveEntry := { part := sc.ddom, bucket := b, tag := tagOf fp, grain := g, key := sc.key, clear := sc.clear, pending := true, age := 0 }
  { s with wr := { s.wr with sieve := (s.wr.sieve.filter fun e => !here e) ++ new :: aged } }

/-- A directory entry that a hit can raise (05 R128). -/
def hitAllowed (e : DirEntry) : Bool := e.refs != 0 && e.refs < 0xFFFFFFFE && e.st != .lost && e.st != .released && e.st != .partial_

/-! ## Appending a record (05 R112 to R120) -/

/-- Records that a command becomes: kind, range, grain table. -/
def planRecords (n : Namespace) (x : HostCmd) : List (JKind × Nat × Nat × Nat × List JGrain) :=
  let per := blocksPerMiB n
  match x.kind with
  | .write => (pieces per 4 x.slba x.nblk 0).map fun p =>
      (.data, p.1, p.2.1, 0, formGrains n p.1 ((x.data.drop ((p.1 - x.slba) * sectorsPerBlock n)).take (p.2.1 * sectorsPerBlock n)))
  | .writeZeroes => (pieces per 512 x.slba x.nblk 0).map fun p => (.writeZeroes, p.1, p.2.1, 0, [])
  | .deallocate => x.ranges.flatMap fun r => (pieces per (r.2.1 / per + 1) r.1 r.2.1 0).map fun p => (.deallocate, p.1, p.2.1, 0, [])
  | .copy => x.ranges.flatMap fun r => (pieces per (r.2.1 / per + 1) r.1 r.2.1 r.2.2).map fun p => (.copy, p.1, p.2.1, p.2.2, [])
  | _ => []

/-- A sync source stream of a namespace in a state (13 R325, R326). -/
def syncStream (s : State) (nsid : Nat) : Option Stream :=
  s.repl.streams.find? fun x => x.nsid == nsid && x.role == .syncSource && x.st != .stopped && x.st != .idle

/-- Regions of 1 MiB that a block range touches (13 R326). -/
def regionsOf (n : Namespace) (slba nblk : Nat) : List Nat :=
  let lo := slba * sectorsPerBlock n / 2048
  let hi := ((slba + nblk) * sectorsPerBlock n + 2047) / 2048
  List.range' lo (hi - lo)

/-- A sync source sends each record; in SYNC its acknowledgement is awaited, out of it the change map is marked (13 R325 to R327). -/
def syncHook (n : Namespace) (r : JRecord) (s : State) : State :=
  match syncStream s n.nsid with
  | none => s
  | some x =>
    if x.st == .sync then
      let s := sendStream x (.syncRec r.jseq r) (s.putStream { x with unacked := x.unacked ++ [(r.jseq, s.now)] })
      { s with wr := { s.wr with ring := updateIf (fun e => e.rec_.jseq == r.jseq) (fun e => { e with syncWait := true }) s.wr.ring } }
    else
      let rs := regionsOf n r.slba r.nblk
      s.putStream { x with changed := rs.foldl (fun l g => insertNat g l) x.changed, pass := x.pass.filter fun g => !rs.contains g }

/-- A namespace is a replication target: it is inactive to every host (13 R317, R329). -/
def replTarget (s : State) (nsid : Nat) : Bool := s.repl.streams.any fun x => x.nsid == nsid && x.role == .target && !x.promoted

/-- The partner takes records: the pair is PAIRED (05 Table 5.2). -/
def partnerPresent (s : State) : Bool := s.peer.st == .paired

end Sys2Proof.Machine
namespace Sys2Proof

/-- The settings of a namespace that a record is appended under (05 R138). -/
def Namespace.cfg (n : Namespace) : Machine.WriteCfg := { profile := n.profile, level := n.level, ddom := n.ddom, verify := n.verify }

/-- A namespace as a record sees it: the settings of its append (05 R138); the dictionary is the current one (05, after R131). -/
def Namespace.under (n : Namespace) (c : Machine.WriteCfg) : Namespace :=
  { n with profile := c.profile, level := c.level, ddom := c.ddom, verify := c.verify }

end Sys2Proof
namespace Sys2Proof.Machine

/-- Append one record: JSEQ, stamp, ring, mirror, vault pages, sync stream (05 R112, R115, R116). -/
def appendRecord (n : Namespace) (fwd : Bool) (k : JKind) (slba nblk src : Nat) (gs : List JGrain) (hitsOnly : Bool) (reserved : Nat) (s : State) : Nat × State :=
  let r : JRecord :=
    { jseq := s.wr.jseqNext, stamp := s.now, nsid := n.nsid, group := n.group, head := s.peer.head, fwd := fwd, kind := k,
      slba := slba, nblk := nblk, grains := gs, ownerGen := s.peer.ownGen, srcSlba := src }
  let e : RingEntry :=
    { rec_ := r, mirrored := false, vaulted := 0, posted := false, mapped := [], pendingIds := [], logged := false,
      retired := false, reserved := reserved, syncWait := false, hitsOnly := hitsOnly, cfg := n.cfg, deltas := [], remotes := [] }
  let s := { s with wr := { s.wr with ring := s.wr.ring ++ [e], jseqNext := s.wr.jseqNext + 1 } }
  let s := if s.mirrors && !mirOut s then s.send (.mirrorRec r) else s
  (r.jseq, syncHook n r (vaultRecord r s))

/-- Every data grain of a command hits in the lookup (05 R120); `olds` are the contents partial grains merge with. -/
def allHit (s : State) (n : Namespace) (gs : List JGrain) (lo : Nat) (olds : List (Nat × OldGrain)) (resident : Bool) : Bool :=
  hasStage s n.profile 4 && (List.range gs.length).all fun i =>
    match gs[i]? with
    | none => true
    | some g =>
      if g.zero then true
      else
        let old := lookupD { sectors := zeroSectors, lost := 0 } (lo + i) olds
        let ss := (List.range 8).map fun b => if g.mask.toNat.testBit b then (g.data[b]?).getD 0 else (old.sectors[b]?).getD 0
        let lost := old.lost.toNat &&& (255 - g.mask.toNat)
        if lost != 0 then false
        else if ss.all (· == 0) then true
        else match lookupFp s (Config.sha256 (grainBytes ss)) (scopeOf s n) resident with
          | some id => (s.dirOf id).any hitAllowed
          | none => false

/-- Append a command that is ready: space first, then ring room, then its records (05 R118 to R120, 04 R100). A command that finds no ring room waits. -/
def appendCmd (x : HostCmd) (olds : List (Nat × OldGrain)) (resident : Bool) (s : State) : State :=
  match s.ns x.nsid with
  | none => complete x .invalidNamespace s
  | some (_, n) =>
    let plan := planRecords n x
    let gs := plan.flatMap fun p => p.2.2.2.2
    let d := domainOf s n.profile
    let per := reservePer s d
    let need := dataGrains gs * per
    let room := (plan.map fun p => 128 + (8 * p.2.2.2.2.length + 63) / 64 * 64 + 4096 * dataGrains p.2.2.2.2).sum
    let short := 0 < need && ((s.domain d).readOnly || freeSpace s d < need)
    let hits := short && allHit s n gs (x.slba * sectorsPerBlock n / 8) olds resident
    if short && !hits then complete x (if (s.domain d).readOnly then .writeProtected else .capacityExceeded) s
    else if ringCapacity s < ringBytes s + room then
      if s.wr.ringWait.contains (x.cntlid, x.qid, x.cid) then s
      else { s with wr := { s.wr with ringWait := s.wr.ringWait ++ [(x.cntlid, x.qid, x.cid)] } }
    else
      let p := plan.foldl (fun (p : List Nat × State) r =>
        let q := appendRecord n x.fwdTag.isSome r.1 r.2.1 r.2.2.1 r.2.2.2.1 r.2.2.2.2 hits
          (if hits then 0 else dataGrains r.2.2.2.2 * per) p.2
        (p.1 ++ [q.1], q.2)) ([], s)
      let s := p.2.putCmd { x with phase := .journaled, jseqs := p.1, data := [] }
      let s := { s with wr := { s.wr with ringWait := s.wr.ringWait.filter (· != (x.cntlid, x.qid, x.cid)) } }
      postWrites (settleHwm s)

/-- A strict sync stream that is fractured stops writes (13 R326). -/
def strictFractured (s : State) (nsid : Nat) : Bool :=
  (syncStream s nsid).any fun x => x.strict && x.st == .fractured

/-- JOURNAL_APPEND (05 R112): a command whose data has all arrived is appended. `fwd` is the forwarding tag of a forwarded one. -/
def execJournalAppend (cntlid qid cid : Nat) (fwd : Option Nat) (facts : GrainFacts) : State → Host.Outcome State Fault Refusal :=
  actIO fun s =>
    match s.host.cmds.find? fun x => x.is cntlid qid cid && x.fwdTag == fwd with
    | some x =>
      if x.phase == .ready then
        if strictFractured s x.nsid then complete x .writeProtected s else appendCmd x facts.olds facts.resident s
      else s
    | none => s

/-! ## Vault pages (05 R116, 12 R311) -/

/-- VAULT_PAGE_TIMER (05 R116): 4 µs after its first record the open page is programmed as it is. -/
def execVaultPageTimer : State → Host.Outcome State Fault Refusal :=
  act fun s => match s.wr.pages.find? (!·.sent) with
  | some p =>
    let s := s.reach (p.since + 4 * us)
    { s with wr := { s.wr with pages := updateIf (!·.sent) (fun p => { p with sent := true }) s.wr.pages } }
  | none => s

/-- A record's pages have all left the list. -/
def vaultedAll (s : State) (j : Nat) : Bool := !(s.wr.pages.any fun p => p.records.any (·.1 == j))

/-- VAULT_PAGE_PROGRAMMED (05 R116, R115): one copy of the oldest page sent is programmed; with both, its records that end in it are vaulted and enter the stream area. -/
def execVaultPageProgrammed : State → Host.Outcome State Fault Refusal :=
  act fun s => match s.wr.pages with
  | p :: t =>
    if !p.sent then s
    else if p.copies == 0 then { s with wr := { s.wr with pages := { p with copies := 1 } :: t } }
    else
      let s := { s with wr := { s.wr with pages := t } }
      let done := p.records.filterMap fun r => if r.2 && vaultedAll s r.1 then some r.1 else none
      let recs := (s.wr.ring.filter fun e => done.contains e.rec_.jseq).map RingEntry.rec_
      let s := { s with wr := { s.wr with ring := updateIf (fun e => done.contains e.rec_.jseq) (fun e => { e with vaulted := 2 }) s.wr.ring },
                        hup := { s.hup with stream := s.hup.stream ++ recs } }
      postWrites s
  | [] => s

/-! ## From fingerprint to packing (05 R121 to R136) -/

/-- A Tx on a state only. -/
def Tx.mapS (t : Tx) (f : State → State) : Tx := { t with s := f t.s }

/-- The stored length of a grain (05 R129, R130): the padded frame when it is at most 3,840 bytes, else 4,096 raw. -/
def storedForm (s : State) (n : Namespace) (bytes : List Byte) : Nat × Bool :=
  if hasStage s n.profile 5 then
    let len := max 16 ((Config.zstdLen n.level n.dict bytes + 15) / 16 * 16)
    if len ≤ 3840 then (len, true) else (4096, false)
  else (4096, false)

/-- Histogram and guard state of a namespace. -/
def guardOf (s : State) (nsid : Nat) : GuardStats :=
  (s.wr.stats.find? (·.nsid == nsid)).getD
    { nsid := nsid, window := [], baseline := List.replicate 16 0, hits := [], score := 0, latched := false, lastSnap := none, unscanned := 0 }

/-- Store it. -/
def putGuard (g : GuardStats) (s : State) : State := { s with wr := { s.wr with stats := putBy GuardStats.nsid g s.wr.stats } }

/-- Count a newly stored grain in its bin of the current second (05 R140). -/
def countStored (nsid len : Nat) (s : State) : State :=
  let g := guardOf s nsid
  let now := (g.window.head?).getD (List.replicate 16 0)
  let bin := (len - 1) / 256
  putGuard { g with window := (now.set bin ((now[bin]?).getD 0 + 1)) :: g.window.tail } s

/-- The pattern ends at a byte position (15 R375). -/
def patternEnds (p : Pattern) (bytes : List Byte) (pos : Nat) : Bool :=
  p.bytes.length ≤ pos + 1 && 0 < p.bytes.length &&
  ((List.range p.bytes.length).all fun i =>
    match p.bytes[i]?, bytes[pos + 1 + i - p.bytes.length]? with
    | some set, some b => set.toNat.testBit b.toNat
    | _, _ => false)

/-- Hits of a pattern in a byte string. -/
def patternHits (p : Pattern) (bytes : List Byte) : Nat := ((List.range bytes.length).filter (patternEnds p bytes)).length

/-- The pattern indexes of a group. -/
def groupPatterns (img : PatImage) (g : Nat) : List Nat :=
  match img.groups[g]? with
  | some (a, c) => List.range' a c
  | none => []

/-- The inline scan of a grain (15 R376): its guard group's hits are counted for the namespace and chip-wide, or the grain passes unscanned. -/
def inlineScan (n : Namespace) (bytes : List Byte) (unscanned : Bool) (s : State) : State :=
  if !n.guardOn || !s.flag Reg.fPAT_CFG_INLINE_EN then s
  else if unscanned then
    let g := guardOf s n.nsid
    (putGuard { g with unscanned := g.unscanned + 1 } s).bump Reg.fPAT_STATUS_UNSCANNED
  else match s.bank (s.fld Reg.fPAT_CFG_BANK) with
  | none => s
  | some img =>
    (groupPatterns img n.guard).foldl (fun s i =>
      match img.patterns[i]? with
      | none => s
      | some p =>
        let h := patternHits p bytes
        if h = 0 then s
        else
          let s := s.bump Reg.fPAT_HITS_HITS h i
          let g := guardOf s n.nsid
          putGuard { g with hits := ((g.hits.head?).getD 0 + h) :: g.hits.tail } s) s

/-- What a record waits for more: a PENDING grain (05 R114). -/
def awaitGrain (jseq g : Nat) (s : State) : State :=
  let one := fun (e : RingEntry) => { e with pendingIds := if g ∈ e.pendingIds then e.pendingIds else g :: e.pendingIds }
  { s with wr := { s.wr with ring := updateIf (fun e => e.rec_.jseq == jseq) one s.wr.ring } }

/-- Store a new grain (05 R125 to R136): ID, directory entry PENDING, index, map, stored form, header, packing, histogram. -/
def storeNew (pt jseq : Nat) (sh : Bool) (n : Namespace) (key : Nat) (ss : List Sector) (lost : BitVec 8) (insert : Bool) (replace : Option Nat) (t : Tx) : Tx :=
  let bytes := grainBytes ss
  let fp := Config.sha256 bytes
  let sc := scopeOf t.s n
  let id := t.s.peer.head * 2 ^ 47 + t.s.md.store.grainNext
  let t := t.mapS fun s => s.putStore false { s.md.store with grainNext := s.md.store.grainNext + 1 }
  let form := storedForm t.s n bytes
  let blank : MediaAddr := { oneBit := false, module := 0, die := 0, plane := 0, block := 0, page := 0, codeword := 0 }
  let e : DirEntry := { grain := id, addr := blank, segment := 0, member := 0, lostMask := lost, refs := 1,
                        len16 := (64 + form.1) / 16, off16 := 0, st := .pending }
  let t := t.add false (.dirSet e)
  let t := match replace with
    | some old => t.addAt (t.s.grainShadow old) (.fpDel { fp := fp, grain := old, scope := sc })
    | none => t
  let t := if insert && (indexEntry t.s fp sc).isNone then t.add false (.fpAdd { fp := fp, grain := id, scope := sc }) else t
  let t := if insert then t.mapS (sieveInsert fp sc id) else t
  let t := t.setMap sh n.nsid key (.grain id) none
  let hdr : GrainHeader :=
    { grainId := id, scope := sc, storedLen := form.1, compressed := form.2, dictUsed := form.2 && n.dict != 0, relocated := false,
      dictId := if form.2 then n.dict else 0,
      payloadCrc := Config.payloadCrc (if sc.clear then none else some sc.key) id form.1 bytes, fp := fp, crcOk := true }
  t.mapS fun s => awaitGrain jseq id (countStored n.nsid form.1
    (packOrWait pt (domainOf s n.profile) { hdr := hdr, member := 0, offset := 0, jseq := some jseq, data := ss, from_ := none } s))

/-- Map a grain's new whole content (05 R110, R111, R121 to R128): zero marker, hit, or new grain. -/
def mapContent (pt jseq : Nat) (sh : Bool) (n : Namespace) (key : Nat) (ss : List Sector) (lost : BitVec 8) (f : GrainFacts) (t : Tx) : Tx :=
  if lost == 0 && ss.all (· == 0) then t.setMap sh n.nsid key .zero none
  else
    let bytes := grainBytes ss
    let t := t.mapS (inlineScan n bytes f.unscanned)
    let sc := scopeOf t.s n
    let dedup := (hasStage t.s n.profile 4 || !t.s.media.ioAdmitted) && lost == 0
    match if dedup then lookupFp t.s (Config.sha256 bytes) sc f.resident else none with
    | none => storeNew pt jseq sh n key ss lost dedup none t
    | some g =>
      match t.s.dirOf g with
      | none => storeNew pt jseq sh n key ss lost dedup none t
      | some e =>
        if !hitAllowed e then storeNew pt jseq sh n key ss lost dedup (if e.st == .lost then some g else none) t
        else if n.verify && f.verify == .differs then
          storeNew pt jseq sh n key ss lost false none (t.mapS fun s => fire 138 s (detail := n.nsid))
        else if n.verify && f.verify == .lost then storeNew pt jseq sh n key ss lost dedup (some g) t
        else
          let t := t.setMap sh n.nsid key (.grain g) (some g)
          if e.st == .pending then t.mapS (awaitGrain jseq g) else t

/-- Merge the sectors of a mask into old content (05 R111): uncovered lost sectors are zero and stay lost. -/
def mergeGrain (mask : BitVec 8) (data : List Sector) (old : OldGrain) : List Sector × BitVec 8 :=
  let lost := old.lost &&& ~~~ mask
  ((List.range 8).map fun b =>
    if mask.toNat.testBit b then (data[b]?).getD 0
    else if lost.toNat.testBit b then 0 else (old.sectors[b]?).getD 0, lost)

/-- The current content of a grain (05 R111): unmapped and zero read as zeros, a PENDING grain from the row buffer that holds it, any other from the read path (`olds`). -/
def currentGrain (s : State) (sh : Bool) (n : Namespace) (key : Nat) (olds : List (Nat × OldGrain)) : OldGrain :=
  let root := ((s.store sh).ns n.nsid).bind (·.root)
  match (s.store sh).mapGet root n.height key with
  | .grain g =>
    let buf := (s.wr.rows.flatMap (·.grains)) ++ s.wr.unpacked.map (·.2.2)
    match buf.find? fun p => p.hdr.grainId == g with
    | some p => { sectors := p.data, lost := ((s.dirOf g).map (·.lostMask)).getD 0 }
    | none => lookupD { sectors := zeroSectors, lost := 0 } key olds
  | _ => { sectors := zeroSectors, lost := 0 }

/-- The sectors of a range that fall in grain `g`, as a mask. -/
def rangeMask (first count g : Nat) : BitVec 8 :=
  BitVec.ofNat 8 ((List.range 8).foldl (fun m i => if first ≤ 8 * g + i && 8 * g + i < first + count then m + 2 ^ i else m) 0)

/-- The effect of one grain of a Write Zeroes, deallocate or Copy range (10 Table 10.8 and after): whole grains change their entry, edges are partial writes. -/
def mapRange (pt : Nat) (sh : Bool) (n : Namespace) (r : JRecord) (f : GrainFacts) (key : Nat) (t : Tx) : Tx :=
  let spb := sectorsPerBlock n
  let first := r.slba * spb
  let mask := rangeMask first (r.nblk * spb) key
  let root := ((t.s.store sh).ns n.nsid).bind (·.root)
  let shift : Int := (r.srcSlba * spb : Int) - first
  if mask == 255 && (r.kind != .copy || shift % 8 == 0) then
    match r.kind with
    | .writeZeroes => t.setMap sh n.nsid key .zero none
    | .deallocate => t.setMap sh n.nsid key .unmapped none
    | _ =>
      match (t.s.store sh).mapGet root n.height ((key : Int) + shift / 8).toNat with
      | .grain g => t.setMap sh n.nsid key (.grain g) (some g)
      | e => t.setMap sh n.nsid key e none
  else
    let old := currentGrain t.s sh n key f.olds
    let src := fun (i : Nat) =>
      let a := ((8 * key + i : Nat) : Int) + shift
      let g := currentGrain t.s sh n (a / 8).toNat f.olds
      ((g.sectors[(a % 8).toNat]?).getD 0, g.lost.toNat.testBit (a % 8).toNat)
    let data := (List.range 8).map fun i => if r.kind == .copy then (src i).1 else 0
    let srcLost := BitVec.ofNat 8 ((List.range 8).foldl (fun m i =>
      if r.kind == .copy && mask.toNat.testBit i && (src i).2 then m + 2 ^ i else m) 0)
    let m := mergeGrain mask data old
    mapContent pt r.jseq sh n key m.1 (m.2 ||| srcLost) f t

/-- A record lies beyond the CUT of a snapshot: at or past it in the JSEQ of the head that took it (10 R264: bit 31 of the ID), or of a later owner. -/
def beyondCut (s : State) (x : Snapshot) (e : RingEntry) : Bool :=
  let other := e.rec_.jseq - if ownRecord s e then 0 else 2 ^ 64
  if x.id / 2 ^ 31 % 2 == e.rec_.head % 2 then x.cut ≤ other else ownRecord s e

/-- A record passes when every earlier record of its namespace has passed the map update, and no snapshot whose CUT it lies beyond still waits for the root (05 R121, 10 R265). -/
def inOrder (s : State) (e : RingEntry) : Bool :=
  !((s.md.store.snaps ++ s.md.shadow.snaps).any fun x => x.nsid == e.rec_.nsid && x.st == .cutting && beyondCut s x e) &&
  (s.wr.ring.takeWhile fun x => x.rec_.jseq != e.rec_.jseq).all fun x => x.rec_.nsid != e.rec_.nsid || x.mapped.length == recordSteps x.rec_

/-- A ring entry by JSEQ. -/
def ringEntry (s : State) (j : Nat) : Option RingEntry := s.wr.ring.find? fun e => e.rec_.jseq == j

/-- Store a ring entry. -/
def putRing (e : RingEntry) (s : State) : State :=
  { s with wr := { s.wr with ring := updateIf (fun x => x.rec_.jseq == e.rec_.jseq) (fun _ => e) s.wr.ring } }

/-- Release the reservation of one grain of a record (05 R119). -/
def releaseReserve (j per : Nat) (s : State) : State :=
  match ringEntry s j with
  | none => s
  | some e =>
    putRing { e with reserved := e.reserved - per } s

/-- RECOVERED entries still at count 0 after replay are freed (08 R210). -/
def freeRecovered (sh : Bool) (s : State) : State :=
  let st := s.store sh
  ((st.dir.filter fun e => e.st == .recovered && e.refs == 0).foldl (fun (t : Tx) e =>
    let t := ((st.index.filter (·.grain == e.grain))).foldl (fun (t : Tx) x => t.add sh (.fpDel x)) t
    t.add sh (.dirSet { e with st := .free })) (Tx.start s)).commit

/-- A record has been replayed; with the last, RECOVERED entries at count 0 go and host I/O is admitted (08 R208 step 6, R210). -/
def finishReplay (j : Nat) (s : State) : State :=
  if !s.md.replay.contains j then s
  else
    let left := s.md.replay.filter (· != j)
    let s := { s with md := { s.md with replay := left } }
    if !left.isEmpty then s
    else
      let s := freeRecovered false s
      let s := if s.peer.survivor then freeRecovered true s else s
      { s with media := { s.media with ioAdmitted := true } }

/-- A step of a record is mapped: its deltas join the record's transaction, which is logged with the last step (10 R251). -/
def recordMapped (j i : Nat) (t : Tx) : State :=
  match ringEntry t.s j with
  | none => t.s
  | some e =>
    let e := { e with mapped := e.mapped ++ [i], deltas := t.local_ ++ e.deltas, remotes := t.remote ++ e.remotes }
    if e.mapped.length == recordSteps e.rec_ then
      settleDrain (finishReplay j (Tx.commit { s := putRing { e with deltas := [], remotes := [] } t.s, local_ := e.deltas, remote := e.remotes } j))
    else putRing e t.s

/-- GRAIN_FINGERPRINT (05 R121): the next grain of a record, or the range of a range record, passes from merge to packing and map update; `pt` is the PT that runs it. -/
def execGrainFingerprint (jseq index : Nat) (pt : Fin 66) (f : GrainFacts) : State → Host.Outcome State Fault Refusal :=
  actPipe fun s => match ringEntry s jseq with
  | none => s
  | some e =>
    let r := e.rec_
    match s.ns r.nsid with
    | none => s
    | some (sh, n0) =>
      let n := n0.under e.cfg
      if !inOrder s e || index != e.mapped.length || recordSteps r ≤ index then s
      else if r.kind == .data then
        match r.grains[index]? with
        | none => s
        | some g =>
          let key := r.slba * sectorsPerBlock n / 8 + index
          let t := Tx.start s
          let t :=
            if g.zero then t.setMap sh r.nsid key .zero none
            else
              let m := mergeGrain g.mask g.data (if g.mask == 255 then { sectors := zeroSectors, lost := 0 } else currentGrain s sh n key f.olds)
              mapContent pt.val jseq sh n key m.1 m.2 f t
          let t := if g.zero then t else t.mapS (releaseReserve jseq (reservePer s (domainOf s n.profile)))
          recordMapped jseq index t
      else
        let spb := sectorsPerBlock n
        let lo := r.slba * spb / 8
        let hi := ((r.slba + r.nblk) * spb + 7) / 8
        let ks := List.range' lo (hi - lo)
        let ks := if r.kind == .copy && r.srcSlba < r.slba then ks.reverse else ks
        recordMapped jseq index (ks.foldl (fun t k => mapRange pt.val sh n r f k t) (Tx.start s))

/-- ROW_SEAL_TIMER (05 R135): 5 ms after its last grain a row is sealed with the rest zero-filled. -/
def execRowSealTimer (pt : Fin 68) (domain : Fin 8) : State → Host.Outcome State Fault Refusal :=
  act fun s => match openRow s pt.val domain.val with
  | some r => sealRow pt.val domain.val (s.reach (r.lastAt + 5 * ms))
  | none => s

/-! ## Retirement (05 R114) -/

/-- What a record's retirement asks: every step mapped, its transaction covered by the log, no PENDING grain, no remote delta awaited. -/
def mayRetire (s : State) (e : RingEntry) : Bool :=
  e.mapped.length == recordSteps e.rec_ && e.logged && e.pendingIds.isEmpty && !(s.md.remote.any (·.jseq == e.rec_.jseq))

/-- Free the ring across the run of retired records at its front, tell the partner, and let waiting commands in (05 R114, R118; 11 R274). Records taken over from the partner go by themselves. -/
def reclaimRing (s : State) : State :=
  let own := s.wr.ring.filter (ownRecord s)
  let left := own.dropWhile (·.retired)
  let ring := s.wr.ring.filter fun e => if ownRecord s e then left.any fun x => x.rec_.jseq == e.rec_.jseq else !e.retired
  if ring.length == s.wr.ring.length then s
  else
    let upto := match left.head? with
      | some e => e.rec_.jseq
      | none => s.wr.jseqNext
    let s := { s with wr := { s.wr with ring := ring, jseqRetired := upto },
                      hup := { s.hup with stream := s.hup.stream.filter fun r => upto ≤ r.jseq } }
    let s := if s.mirrors then s.send (.retire upto) else s
    let waiting := s.wr.ringWait
    waiting.foldl (fun s w =>
      match s.host.cmds.find? fun x => x.is w.1 w.2.1 w.2.2 && x.phase == .ready with
      | some x => appendCmd x [] false s
      | none => { s with wr := { s.wr with ringWait := s.wr.ringWait.erase w } }) (settleHwm s)

/-- JOURNAL_RECORD_RETIRE (05 R114). -/
def execJournalRecordRetire (jseq : Nat) : State → Host.Outcome State Fault Refusal :=
  act fun s => match ringEntry s jseq with
  | some e => if mayRetire s e then reclaimRing (putRing { e with retired := true } s) else s
  | none => s

end Sys2Proof.Machine
end

