-- ==== Sys2Proof/Machine/Snap.lean ====
section
/-!
DEFINITION. Namespaces, snapshots, clones and locks, the log's timers, release walks, and the write-anomaly guard
(10_metadata_and_snapshots.md, 04 Table 4.2, 05 R138 to R142).
-/
namespace Sys2Proof.Machine

/-! ## Facts about namespaces -/

/-- The pages of a tree of a height, root first. -/
def Store.treePages (st : Store) : Nat → Nat → List MapPage
  | h, id =>
    match st.page id with
    | none => []
    | some p => match h with
      | 0 => [p]
      | n + 1 => p :: (p.ptrs.flatMap fun q => st.treePages n q.2)

/-- A namespace holds grains. -/
def holdsGrains (s : State) (sh : Bool) (n : Namespace) : Bool :=
  match n.root with
  | some r => ((s.store sh).treePages n.height r).any fun p => !p.grains.isEmpty
  | none => false

/-- A profile encrypts (02 R31). -/
def encrypts (s : State) (profile : Nat) : Bool := hasStage s profile 6

/-- A profile stores grains in a placement domain without a code (07 R162). -/
def noCode (s : State) (profile : Nat) : Bool :=
  ((List.range 8).filterMap fun h => profileIn s.lens.live h profile).any fun q => ((s.domain q.pdom).code).isNone

/-- A key slot holds no key (14 R354). -/
def keyEmpty (s : State) (slot : Nat) : Bool :=
  !(s.eng.slots.any fun k => k.slot == slot && k.key.isSome && (k.st == .active || k.st == .spent))

/-- Snapshots and clones of the pair (10 R264). -/
def snapCount (s : State) : Nat :=
  s.md.store.snaps.length + s.md.shadow.snaps.length + (s.namespaces.filter (·.clone)).length

/-- A namespace with every setting at what NS_CREATE gives it (05, after Table 5.5). -/
def freshNamespace (nsid : Nat) (small : Bool) (group size profile key : Nat) : Namespace :=
  let grains := if small then (size + 7) / 8 else size
  { nsid := nsid, small := small, clone := false, deleting := false, conflict := false, size := size, group := group,
    profile := profile, level := 3, ddom := 0, verify := false, key := key, threshold := 0, guard := 0, guardOn := false,
    guardLock := 0, root := none, origin := 0, snaps := 0, height := treeHeight grains, dict := 0,
    rsv := { gen := 0, typ := .none, holder := none, regs := [], ptpl := false } }

/-- Why a namespace cannot be created (04 Table 4.2, 07 R162). -/
def createFault (s : State) (n : Namespace) : Option Nat :=
  if (s.ns n.nsid).isSome then some cSTATE_CONFLICT
  else if noCode s n.profile then some cSTATE_CONFLICT
  else if 65536 ≤ s.namespaces.length then some cNO_RESOURCE
  else if encrypts s n.profile && keyEmpty s n.key then some cKEY_ABSENT
  else none

/-- Put a namespace into the store of its group's owner (10 R243). -/
def addNamespace (n : Namespace) (s : State) : State := ((Tx.start s).addAt (!s.owns n.group) (.nsSet n)).commit

/-! ## NS_CREATE, NS_MODIFY, DICT_LOAD -/

/-- NS_CREATE (04 Table 4.2). -/
def execNsCreate (r : TaskReq) : State → Host.Outcome State Fault Refusal :=
  taskCmd { opcode := 0x0201, windows := [0] } [(1, mask 32 0 ||| mask 49 40), (2, mask64), (3, mask 2 0), (4, mask 11 0)] r fun s =>
    let nsid := r.argBits 1 31 0
    let group := r.argBits 1 49 40
    if nsid == 0 || 65536 < nsid || group == 0 || 512 < group then .fail cBAD_FIELD 1
    else
      let n := freshNamespace nsid (r.argBits 1 32 32 == 1) group (r.arg 2) (r.arg 3) (r.arg 4)
      match createFault s n with
      | some c => .fail c
      | none => .done (addNamespace n s) cOK 0 [BitVec.ofNat 64 nsid]

/-- The namespace after NS_MODIFY's selected changes (05 Table 5.5). -/
def modified (r : TaskReq) (n : Namespace) : Namespace :=
  let sel := fun b => (r.arg 2).testBit b
  { n with profile := if sel 0 then r.argBits 3 2 0 else n.profile
           level := if sel 1 then r.argBits 3 11 8 else n.level
           verify := if sel 2 then r.argBits 3 12 12 == 1 else n.verify
           ddom := if sel 3 then r.argBits 3 19 16 else n.ddom
           threshold := if sel 4 then r.argBits 3 29 20 else n.threshold
           guard := if sel 5 then r.argBits 3 35 32 else n.guard
           guardOn := if sel 5 then r.argBits 3 36 36 == 1 else n.guardOn
           guardLock := if sel 6 then r.arg 4 else n.guardLock }

/-- A guard group holds no pattern in the live image (15 R374). -/
def guardEmpty (s : State) (g : Nat) : Bool := ((s.bank (s.fld Reg.fPAT_CFG_BANK)).map fun p => groupCount p g).getD 0 == 0

/-- NS_MODIFY (05 R138, Table 5.5; 15 R374). -/
def execNsModify (r : TaskReq) : State → Host.Outcome State Fault Refusal :=
  taskCmd { opcode := 0x0203, windows := [0] }
    [(1, mask 31 0), (2, mask 6 0), (3, mask 2 0 ||| mask 12 8 ||| mask 19 16 ||| mask 29 20 ||| mask 36 32), (4, mask64)] r fun s =>
    let sel := fun b => (r.arg 2).testBit b
    match s.ns (r.arg 1) with
    | none => .fail cBAD_FIELD 1
    | some (sh, n) =>
      let m := modified r n
      if !s.owns n.group then .fail cNOT_OWNER
      else if sel 1 && (m.level == 0 || 12 < m.level) then .fail cBAD_FIELD 3
      else if sel 3 && s.lens.live.sieveUnits.length ≤ m.ddom then .fail cBAD_FIELD 3
      else if sel 5 && m.guardOn && guardEmpty s m.guard then .fail cBAD_FIELD 3
      else if sel 6 && (m.guardLock == 0 || 87600 < m.guardLock) then .fail cBAD_FIELD 4
      else if (sel 0 || sel 3) && scopeOf s m != scopeOf s n && holdsGrains s sh n then .fail cSTATE_CONFLICT
      else if sel 0 && noCode s m.profile then .fail cSTATE_CONFLICT
      else if sel 0 && encrypts s m.profile && keyEmpty s m.key then .fail cKEY_ABSENT
      else .done (oneDelta sh (.nsSet m) s)

/-- Dictionaries that no grain names and no namespace has as its current one are kept no longer (05 R131). -/
def dropDicts (unnamed : List Nat) (s : State) : State :=
  let old := (s.md.store.dicts.map (·.id)).filter fun i => unnamed.contains i && !(s.namespaces.any (·.dict == i))
  (old.foldl (fun t i => t.add false (.dictDel i)) (Tx.start s)).commit

/-- DICT_LOAD (05 R131, Table 5.5). `bytes` is the dictionary moved; `valid` says that it is a valid Zstandard dictionary, `unnamed` which dictionaries no stored grain names any more. -/
def execDictLoad (r : TaskReq) (bytes : List Byte) (valid : Bool) (unnamed : List Nat) : State → Host.Outcome State Fault Refusal :=
  taskCmd { opcode := 0x0207, windows := [0], bulk := .take (if 1 ≤ r.arg 2 && r.arg 2 ≤ 65536 then some (r.arg 2) else none) }
    [(1, mask64), (2, mask64)] r fun s0 =>
    let s := dropDicts unnamed s0
    match s.ns (r.arg 1) with
    | none => .fail cBAD_FIELD 1
    | some (sh, n) =>
      if !s.owns n.group then .fail cNOT_OWNER
      else if r.arg 2 == 0 || 65536 < r.arg 2 then .fail cBAD_LENGTH 2
      else if !valid then moved r (.fail cCORRUPT_INPUT)
      else if 4096 ≤ s.md.store.dicts.length + s.md.shadow.dicts.length then moved r (.fail cNO_RESOURCE)
      else
        let id := s.peer.head * 2 ^ 30 + s.md.store.dictNext
        moved r (startJob 0x0207 r { bulk := true, results := [BitVec.ofNat 64 id] } s fun _ s =>
          let s := s.putStore false { s.md.store with dictNext := s.md.store.dictNext + 1 }
          (((Tx.start s).add sh (.dictSet { id := id, data := bytes })).add sh (.nsSet { n with dict := id })).commit)

/-! ## Snapshots (10 R264 to R268) -/

/-- The wall-clock that locks are judged by: known since start (10 R268, 08 MTL_RET_STATUS). -/
def State.lockWall (s : State) : Option Nat := if s.media.wallKnown then s.wall.map (· / sec) else none

/-- The lowest snapshot ID from the counter up that is neither in use nor freed without a checkpoint (10 R264). -/
def nextSnap (s : State) : Nat :=
  let id := fun n => s.peer.head * 2 ^ 31 + n
  let used := s.md.store.snaps.map (·.id) ++ s.md.shadow.snaps.map (·.id) ++ s.md.freedSnaps
  let cand := List.range' s.md.store.snapNext (used.length + 1) ++ List.range' 1 (used.length + 1)
  ((cand.find? fun n => n < 2 ^ 31 - 1 && !(used.contains (id n))).map id).getD (id 1)

/-- Take a snapshot of a namespace whose CUT is PTL_JSEQ_NEXT (10 R265); answers its ID. -/
def takeSnapshot (sh : Bool) (n : Namespace) (guard : Bool) (lock : Lock) (s : State) : Nat × State :=
  let id := nextSnap s
  let x : Snapshot :=
    { id := id, nsid := n.nsid, cut := s.wr.jseqNext, wall := s.wall.getD 0, lock := lock, root := none, size := n.size,
      guard := guard, st := .cutting, clones := 0 }
  let s := s.putStore false { s.md.store with snapNext := id % 2 ^ 31 + 1 }
  (id, (((Tx.start s).add sh (.snapSet x)).add sh (.nsSet { n with snaps := n.snaps + 1 })).commit)

/-- A namespace, or the pair, holds all the snapshots it can (10 R264). -/
def snapsFull (s : State) (n : Namespace) : Bool := 16384 ≤ n.snaps || 1048576 ≤ snapCount s

/-- SNAP_CREATE (10 R265, Table 10.11). -/
def execSnapCreate (r : TaskReq) : State → Host.Outcome State Fault Refusal :=
  taskCmd { opcode := 0x0301, windows := [0] } [(1, mask 31 0)] r fun s =>
    match s.ns (r.arg 1) with
    | none => .fail cBAD_FIELD 1
    | some (sh, n) =>
      if !s.owns n.group then .fail cNOT_OWNER
      else if n.deleting then .fail cSTATE_CONFLICT
      else if snapsFull s n then .fail cNO_RESOURCE
      else
        let p := takeSnapshot sh n false .none s
        .done p.2 cOK 0 [BitVec.ofNat 64 p.1, BitVec.ofNat 64 s.wr.jseqNext]

/-- The map updates of a namespace have reached a CUT (10 R265). -/
def reachedCut (s : State) (nsid cut : Nat) : Bool :=
  s.wr.ring.all fun e => !(e.rec_.nsid == nsid && e.rec_.jseq < cut) || e.mapped.length == recordSteps e.rec_

/-- A snapshot takes its root and becomes READY; clones that waited for it take it too (10 R265, R266). -/
def snapReady (id : Nat) (s : State) : State :=
  match s.snap id with
  | none => s
  | some (sh, x) =>
    if x.st != .cutting || !reachedCut s x.nsid x.cut then s
    else
      let root := ((s.store sh).ns x.nsid).bind (·.root)
      let t := (Tx.start s).add sh (.snapSet { x with root := root, st := .ready })
      let t := ((s.store sh).nss.filter fun n => n.clone && n.origin == id && n.root.isNone).foldl
        (fun t n => t.add sh (.nsSet { n with root := root })) t
      t.commit

/-- A lock stops a deletion (10 R268). -/
def locked (s : State) : Lock → Bool
  | .none => false
  | .hours _ => true
  | .expiry t => match s.lockWall with
    | some w => w < t
    | none => true

/-- A release walk still runs for an object. -/
def walking (s : State) (obj : Nat) : Bool := (s.md.store.walks ++ s.md.shadow.walks).any (·.object == obj)

/-- A snapshot is pinned by a replication stream, as its base or in its running cycle, or by a scan (10 R267, 13 R321). -/
def snapPinned (s : State) (id : Nat) : Bool :=
  (s.repl.streams.any fun x => x.role == .asyncSource && x.st != .stopped && (x.base == id || x.snap == id)) ||
  s.eng.jobs.any fun j => j.snap == id && id != 0

/-- One deletion moves as far as its pins and walks allow (10 R267): the root is released, then the entry goes and the job ends. -/
def advanceDelete (d : Nat × Nat × Nat) (s : State) : State :=
  let job := d.1
  let drop := fun (s : State) => endJobPlanned job { s with md := { s.md with deletes := s.md.deletes.erase d } }
  if d.2.2 != 0 then
    match s.snap d.2.2 with
    | none => drop s
    | some (sh, x) =>
      if snapPinned s x.id then s
      else match x.root with
      | some r => (((Tx.start s).add sh (.snapSet { x with root := none })).add sh (.treeRelease x.id r)).commit
      | none =>
        if walking s x.id then s
        else
          let t := (Tx.start s).add sh (.snapDel x.id)
          let t := match (s.store sh).ns x.nsid with
            | some n => t.add sh (.nsSet { n with snaps := n.snaps - 1 })
            | none => t
          let s := t.commit
          drop { s with md := { s.md with freedSnaps := insertNat x.id s.md.freedSnaps } }
  else
    match s.ns d.2.1 with
    | none => drop s
    | some (sh, n) =>
      match n.root with
      | some r => (((Tx.start s).add sh (.nsSet { n with root := none })).add sh (.treeRelease n.nsid r)).commit
      | none =>
        if walking s n.nsid || (s.store sh).snaps.any (·.nsid == n.nsid) then s
        else drop (oneDelta sh (.nsDel n.nsid) s)

/-- Every deletion moves on: twice, so that an entry whose root needs no walk goes at once. -/
def settleDeletes (s : State) : State :=
  let once := fun (s : State) => s.md.deletes.foldl (fun s d => advanceDelete d s) s
  once (once s)

/-- SNAP_DELETE (10 R267, Table 10.11). -/
def execSnapDelete (r : TaskReq) : State → Host.Outcome State Fault Refusal :=
  taskCmd { opcode := 0x0302, windows := [0] } [(1, mask64)] r fun s =>
    match s.snap (r.arg 1) with
    | none => .fail cBAD_FIELD 1
    | some (sh, x) =>
      if sh && !s.peer.survivor then .fail cNOT_OWNER
      else if locked s x.lock then .fail cNOT_PERMITTED
      else if x.st == .deleting then .fail cSTATE_CONFLICT
      else startJob 0x0302 r {} s fun k s =>
        let s := oneDelta sh (.snapSet { x with st := .deleting }) s
        settleDeletes { s with md := { s.md with deletes := s.md.deletes ++ [(k, 0, x.id)] } }

/-- The record number that stands for no job. -/
abbrev noJob : Nat := 1024

/-- Delete a namespace and every snapshot of it (10 R267); `job` ends when both are gone. -/
def deleteNamespace (job : Nat) (sh : Bool) (n : Namespace) (s : State) : State :=
  let xs := (s.store sh).snaps.filter fun x => x.nsid == n.nsid
  let t := xs.foldl (fun t x => t.add sh (.snapSet { x with st := .deleting })) ((Tx.start s).add sh (.nsSet { n with deleting := true }))
  let s := t.commit
  let new := (xs.filter fun x => x.st != .deleting).map fun x => (noJob, 0, x.id)
  settleDeletes { s with md := { s.md with deletes := s.md.deletes ++ new ++ [(job, n.nsid, 0)] } }

/-- NS_DELETE (04 Table 4.2, 10 R267). -/
def execNsDelete (r : TaskReq) : State → Host.Outcome State Fault Refusal :=
  taskCmd { opcode := 0x0202, windows := [0] } [(1, mask64)] r fun s =>
    match s.ns (r.arg 1) with
    | none => .fail cBAD_FIELD 1
    | some (sh, n) =>
      if !s.owns n.group then .fail cNOT_OWNER
      else if n.deleting || (s.store sh).snaps.any (fun x => x.nsid == n.nsid && locked s x.lock) then .fail cSTATE_CONFLICT
      else startJob 0x0202 r {} s fun k s => deleteNamespace k sh n s

/-- CLONE_CREATE (10 R266, Table 10.11). A clone of a CUTTING snapshot takes its root when that becomes READY. -/
def execCloneCreate (r : TaskReq) : State → Host.Outcome State Fault Refusal :=
  taskCmd { opcode := 0x0303, windows := [0] } [(1, mask64), (2, mask 31 0 ||| mask 49 40), (3, mask 2 0)] r fun s =>
    let nsid := r.argBits 2 31 0
    let group := r.argBits 2 49 40
    match s.snap (r.arg 1) with
    | none => .fail cBAD_FIELD 1
    | some (sh, x) =>
      match (s.store sh).ns x.nsid with
      | none => .fail cBAD_FIELD 1
      | some o =>
        let n : Namespace := { o with nsid := nsid, clone := true, deleting := false, conflict := false, size := x.size, group := group,
                                      profile := r.arg 3, root := x.root, origin := x.id, snaps := 0,
                                      rsv := (freshNamespace 0 false 0 0 0 0).rsv }
        if nsid == 0 || 65536 < nsid || group == 0 || 512 < group then .fail cBAD_FIELD 2
        else if !s.owns o.group || !s.owns group then .fail cNOT_OWNER
        else if (s.ns nsid).isSome || x.st == .deleting || scopeOf s n != scopeOf s o || noCode s n.profile then .fail cSTATE_CONFLICT
        else if 65536 ≤ s.namespaces.length || 1048576 ≤ snapCount s then .fail cNO_RESOURCE
        else .done (((Tx.start s).add sh (.nsSet n)).add sh (.snapSet { x with clones := x.clones + 1 })).commit cOK 0 [BitVec.ofNat 64 nsid]

/-- LOCK as Table 10.10 encodes it. -/
def lockWord : Lock → Word
  | .none => 0
  | .expiry t => BitVec.ofNat 64 t
  | .hours h => BitVec.ofNat 64 (2 ^ 63 + h)

/-- The lock that `h` hours from now make: an expiry, or unconverted while no wall-clock is known (10 R268). -/
def newLock (s : State) (h : Nat) : Lock :=
  match s.lockWall with
  | some w => .expiry (w + h * 3600)
  | none => .hours h

/-- W0 may put a lock in place of another: it is not earlier (10 R268). -/
def notEarlier : Lock → Lock → Bool
  | .none, _ => true
  | .expiry c, .expiry t => c ≤ t
  | .hours c, .hours h => c ≤ h
  | _, _ => false

/-- SNAP_LOCK (10 R268, Table 10.11). -/
def execSnapLock (r : TaskReq) : State → Host.Outcome State Fault Refusal :=
  taskCmd { opcode := 0x0304, windows := [0, 1] } [(1, mask64), (2, mask64)] r fun s =>
    let h := r.arg 2
    if 87600 < h then .fail cBAD_FIELD 2
    else match s.snap (r.arg 1) with
    | none => .fail cBAD_FIELD 1
    | some (sh, x) =>
      let new := if h == 0 then .none else newLock s h
      let may := r.window == 1 || (if h == 0 then x.lock == .none else notEarlier x.lock new)
      if sh && !s.peer.survivor then .fail cNOT_OWNER
      else if x.st == .deleting then .fail cSTATE_CONFLICT
      else if !may then .fail cNOT_PERMITTED
      else .done (if x.lock == new then s else oneDelta sh (.snapSet { x with lock := new }) s) cOK 0 [lockWord new]

/-- SNAP_LIST (10 R263, Table 10.11): the entries in ID order from an index, as many as the bulk buffer takes. -/
def execSnapList (r : TaskReq) : State → Host.Outcome State Fault Refusal :=
  let len := bits r.bulkCtrl 31 0
  taskCmd { opcode := 0x0305, windows := [0, 3], bulk := .give none } [(1, mask 31 0), (2, mask64)] r fun s =>
    if len % 128 != 0 then .fail cBAD_LENGTH 32
    else
      let all := (s.md.store.snaps ++ s.md.shadow.snaps).foldl (fun l x => putBy Snapshot.id x l) []
      let mine := all.filter fun x => r.arg 1 == 0 || x.nsid == r.arg 1
      let ids := mine.foldl (fun l x => insertNat x.id l) []
      let sorted := ids.filterMap fun i => mine.find? (·.id == i)
      let out := (sorted.drop (r.arg 2)).take (len / 128)
      moved r (startJob 0x0305 r { bulk := true, results := [BitVec.ofNat 64 out.length] } s fun _ s => s.send (.bulkSnaps out))

/-! ## The release walk (10 R260) -/

/-- RELEASE_WALK: the next released page of this head's stores, with its mark; counts in the other store move by deltas of their own. -/
def execReleaseWalk : State → Host.Outcome State Fault Refusal :=
  act fun s =>
    let sh := s.md.store.walks.isEmpty && s.peer.survivor
    match (s.store sh).walks with
    | [] => settleDeletes s
    | w :: _ =>
      let t := match (s.store sh).page w.page with
        | some p => (Tx.start s).countAbroad sh p (-1)
        | none => Tx.start s
      settleDeletes ((t.add sh (.releaseMark w.object w.page)).commit)

/-! ## The log (10 R251, R252; 05 R114) -/

/-- LOG_PAGE_TIMER: 20 µs after its first delta the open log page is programmed, while fewer than 32 rows of a copy are in flight. -/
def execLogPageTimer : State → Host.Outcome State Fault Refusal :=
  act fun s => match s.md.log.find? (!·.sent) with
  | some p =>
    if 32 ≤ (s.md.log.filter fun p => p.sent && !p.durable).length then s
    else sendLogPage p (s.reach (p.since + 20 * us))
  | none => s

/-- The transactions that count: those that end in the pages durable without a gap. -/
def durableTxns (s : State) : List Txn := (s.md.log.takeWhile (·.durable)).flatMap (·.txns)

/-- Transactions become durable: the records they close are covered, and segments in state 3 are free for erase (05 R114, 08 R196). -/
def coverTxns (txns : List Txn) (s : State) : State :=
  let cover := fun (e : RingEntry) => e.mapped.length == recordSteps e.rec_ && txns.any fun t => t.jseq == e.rec_.jseq
  let s := { s with wr := { s.wr with ring := updateIf cover (fun e => { e with logged := true }) s.wr.ring } }
  let gone := txns.flatMap fun t => t.deltas.filterMap fun d => match d.2 with
    | .segSet x => if x.st == .retired then some x.id else none
    | _ => none
  gone.foldl (fun s id => match s.segment id with
    | some (_, x) => if x.st == .retired then noteSegment { x with gone := true } s else s
    | none => s) s

/-- A log page is durable in both copies. -/
def logDurable (lpseq : Nat) (s : State) : State :=
  match s.md.log.find? (·.lpseq == lpseq) with
  | some p =>
    if !p.sent || p.durable then s
    else
      let s := { s with md := { s.md with log := updateIf (·.lpseq == lpseq) (fun p => { p with durable := true }) s.md.log } }
      finishMoves (coverTxns (durableTxns s) s)
  | none => s

/-! ## Remote deltas (10 R244) -/

/-- REMOTE_DELTA: the keeper of the entry logs the partner's delta and answers with REMOTE_ACK. -/
def execRemoteDelta (txn index : Nat) (d : Delta) : State → Host.Outcome State Fault Refusal :=
  act fun s => if s.logShared then (oneDelta false d s).send (.remoteAck txn index) else s

/-- REMOTE_ACK: the named remote delta is logged at its keeper. -/
def execRemoteAck (txn index : Nat) : State → Host.Outcome State Fault Refusal :=
  act fun s => finishMoves { s with md := { s.md with remote := s.md.remote.filter fun d => !(d.txn == txn && d.index == index) } }

/-! ## The write-anomaly guard (05 R140 to R142) -/

/-- Stored grains of the window, and those in bin 15. -/
def windowSums (g : GuardStats) : Nat × Nat :=
  ((g.window.map List.sum).sum, (g.window.map fun w => (w[15]?).getD 0).sum)

/-- The anomaly score (05 R141). -/
def anomalyScore (g : GuardStats) (guardOn : Bool) : Nat :=
  let w := windowSums g
  let base := g.baseline.sum
  let b15 := (g.baseline[15]?).getD 0
  let diff := w.2 * base - b15 * w.1
  let excess := if w.1 * base = 0 then 0 else 1023 * diff / (w.1 * base)
  min 1023 (excess + (if guardOn then 64 * g.hits.sum else 0))

/-- Act on a namespace's new score: source ANOMALY, guard snapshot, latch (05 R142). -/
def guardAct (sh : Bool) (n : Namespace) (g : GuardStats) (s : State) : State :=
  let quiet := match g.lastSnap with
    | some t => t + 15 * 60 * sec ≤ s.now
    | none => true
  let g := if g.latched && 4 * g.score < 3 * n.threshold && quiet then { g with latched := false } else g
  if n.threshold == 0 || g.score < n.threshold || g.latched then putGuard g s
  else if snapsFull s n then
    putGuard g (fire 139 s (code := cNO_RESOURCE) (detail := n.nsid))
  else
    let lock := if n.guardLock == 0 then .none else newLock s n.guardLock
    let s := (takeSnapshot sh n true lock s).2
    putGuard { g with latched := true, lastSnap := some s.now } (fire 139 s (detail := n.nsid))

/-- Advance one namespace's histogram by a second (05 R140, R141): baseline with the 24-hour time constant, window of 10 s. -/
def guardTick (sh : Bool) (n : Namespace) (s : State) : State :=
  let g := guardOf s n.nsid
  let now := (g.window.head?).getD (List.replicate 16 0)
  let base := (List.range 16).map fun b =>
    let x := (g.baseline[b]?).getD 0
    x - x / 86400 + (now[b]?).getD 0 * 65536 / 86400
  let g := { g with baseline := base }
  let score := if 65536 ≤ (windowSums g).1 then anomalyScore g n.guardOn else g.score
  let judged := 65536 ≤ (windowSums g).1
  let g := { g with score := score }
  let s := if judged then guardAct sh n g s else putGuard g s
  let g := guardOf s n.nsid
  putGuard { g with window := List.replicate 16 0 :: g.window.take 9, hits := 0 :: g.hits.take 9 } s

/-- ANOMALY_SCORE_TICK: each second, for every namespace this head serves. -/
def execAnomalyScoreTick : State → Host.Outcome State Fault Refusal :=
  act fun s =>
    let s := s.reach ((s.now / sec + 1) * sec)
    s.namespaces.foldl (fun s n => match s.ns n.nsid with
      | some (sh, m) => if s.owns m.group then guardTick sh m s else s
      | none => s) s

end Sys2Proof.Machine
end

