-- ==== Sys2Proof/Machine/Sml.lean ====
section
/-!
DEFINITION. The media links: frames, replay, credits, commands, lanes, training, idle (09_media_link.md R215 to R224, R233).
-/
namespace Sys2Proof.Machine

/-! ## Ports -/

/-- A port that carries nothing yet. -/
def MediaPort.fresh (p : Nat) : MediaPort :=
  { port := p, idle := false, lastAt := 0, txSeq := 0, rxSeq := 0, unacked := [], replays := 0, progressAt := 0, cmdCredit := 0,
    dataCredit := 0, queue := [], pending := [], attached := none, held := false, badLanes := [], testedAt := 0, passed := false, takeFirst := false }

/-- A media port's state. -/
def State.mport (s : State) (p : Nat) : MediaPort := (s.sml.ports.find? (·.port == p)).getD (.fresh p)

/-- Store it. -/
def State.putMport (s : State) (x : MediaPort) : State := { s with sml := { s.sml with ports := putBy MediaPort.port x s.sml.ports } }

/-- The port's source (18 Table 18.1). -/
def firePort (p : Nat) (s : State) : State := fire (256 + p) s

/-- The link of a port is up. -/
def State.portUp (s : State) (p : Nat) : Bool := s.flag Reg.fSML_PORT_STATUS_UP p

/-- The module a port serves: bound to it, attached to it by WWID, not held (09 R230). -/
def servedModule (s : State) (p : Nat) : Option Module :=
  let x := s.mport p
  if !s.portUp p || x.held || !s.flag Reg.fSML_PORT_BIND_BOUND p then none
  else (s.module (s.fld Reg.fSML_PORT_BIND_MODULE p)).filter fun m => x.attached.any fun a => a.wwid == m.desc.wwid

/-- The port through which this head reaches a module. -/
def reachPort (s : State) (m : Nat) : Option Nat := (portOf s m).filter fun p => (servedModule s p).isSome

/-! ## Frames (09 R219 to R221) -/

/-- Send a sequenced frame: it takes the next LSEQ and is kept until covered; the port leaves low-power idle (09 R218, R220). -/
def sendFrame (p : Nat) (mk : Nat → SmlFrame) (s : State) : State :=
  let x := s.mport p
  let f := mk x.txSeq
  (s.putMport { x with txSeq := (x.txSeq + 1) % 65536, unacked := x.unacked ++ [f], idle := false, lastAt := s.now,
                       progressAt := if x.unacked.isEmpty then s.now else x.progressAt }).send (.sml p f)

/-- Send a link-control frame: not sequenced, no credit. -/
def sendControl (p : Nat) (c : LinkControl) (s : State) : State :=
  (s.putMport { s.mport p with lastAt := s.now, idle := false }).send (.sml p (.control c))

end Sys2Proof.Machine
namespace Sys2Proof
open Machine

/-- LSEQ of a frame. -/
def SmlFrame.lseqOf : SmlFrame → Nat
  | .command l _ _ => l
  | .response l _ => l
  | .data l _ _ _ => l
  | .control _ => 0

end Sys2Proof
namespace Sys2Proof.Machine

/-- `a` is covered by the cumulative acknowledgement `b` modulo 65,536. -/
def seqCovered (a b : Nat) : Bool := (b + 65536 - a) % 65536 < 32768

/-- An ACKSEQ covers frames; progress restarts the replay timer (09 R220). -/
def coverFrames (p ack : Nat) (s : State) : State :=
  let x := s.mport p
  let left := x.unacked.filter fun f => !seqCovered f.lseqOf ack
  if left.length == x.unacked.length then s
  else s.putMport { x with unacked := left, replays := 0, progressAt := s.now }

/-- Retrain: the port comes back at the width of its good lanes, and a lane that passed its test counts again (09 R217, R220). -/
def retrainPort (p : Nat) (s : State) : State :=
  let x := s.mport p
  let s := s.bump Reg.fSML_PORT_ERR_RETRAINS 1 p
  let s := s.setFld Reg.fSML_PORT_STATUS_WIDTH (2 - x.badLanes.length) p
  rejudge (s.putMport { x with replays := 0, passed := false, progressAt := s.now })

/-- Replay what is not covered; after 8 replays without progress the port retrains (09 R220). -/
def replayPort (p : Nat) (s : State) : State :=
  let x := s.mport p
  if x.unacked.isEmpty then s
  else
    let s := (s.sendAll (x.unacked.map (Output.sml p))).bump Reg.fSML_PORT_ERR_REPLAYS 1 p
    let s := s.putMport { x with replays := x.replays + 1, progressAt := s.now, lastAt := s.now }
    if 8 ≤ x.replays + 1 then retrainPort p s else s

/-! ## Commands (09 R221 to R224, R227, R228) -/

end Sys2Proof.Machine
namespace Sys2Proof
open Machine

/-- A command reads. -/
def SmlCmdBody.reads (b : SmlCmdBody) : Bool := b.op == .read

/-- Data frames a command sends: four codewords of a PROGRAM, one frame of a LEASE_CAS. -/
def SmlCmdBody.frames (b : SmlCmdBody) : Nat := if b.op == .program then 4 else if b.op == .leaseCas then 1 else 0

/-- Rank of a command on its die: reads, then programs, then erases (09 R228). -/
def SmlCmdBody.rank (b : SmlCmdBody) : Nat := if b.op == .program then 1 else if b.op == .erase then 2 else 0

end Sys2Proof
namespace Sys2Proof.Machine

/-- A command may go now: credits, at most 8 outstanding on its die, no second PROGRAM to a block, no READ of a block behind its ERASE (09 R221, R224, R227). -/
def mayIssue (x : MediaPort) (b : SmlCmdBody) : Bool :=
  let same := x.pending.filter fun q => q.body.addr.die == b.addr.die
  let block := same.filter fun q => q.body.addr.plane == b.addr.plane && q.body.addr.block == b.addr.block
  0 < x.cmdCredit && b.frames ≤ x.dataCredit && x.pending.length < 4096 && same.length < 8 &&
  !(b.op == .program && block.any (·.body.op == .program)) && !(b.op == .read && block.any (·.body.op == .erase))

/-- A command that touches the NAND (09 Table 9.4: it is refused on a fenced port). -/
def mediaOp (op : SmlOp) : Bool := op == .read || op == .program || op == .erase || op == .dieReset

/-- A port takes a command now: no media command from a fenced head or on a fenced port, on a held port or to a module that is being shared; no program or erase before the winner's take; leases only from a head that has not lost (09 R226, R230; 11 R283 to R286, Table 11.8). -/
def portTakes (s : State) (p : Nat) (b : SmlCmdBody) : Bool :=
  let x := s.mport p
  if mediaOp b.op then
    s.peer.st != .fenced && !s.flag Reg.fSML_PORT_STATUS_FENCED p && !x.held &&
    !(x.takeFirst && (b.op == .program || b.op == .erase)) &&
    !(s.flag Reg.fSML_PORT_BIND_BOUND p && s.peer.sharing.contains (s.fld Reg.fSML_PORT_BIND_MODULE p))
  else true

/-- The lowest tag not in use. -/
def freeTag (x : MediaPort) : Nat := ((List.range (x.pending.length + 1)).find? fun t => !(x.pending.any (·.tag == t))).getD 0

/-- Send one command with its data frames. -/
def issueOn (p : Nat) (b : SmlCmdBody) (s : State) : State :=
  let x := s.mport p
  let tag := freeTag x
  let b := { b with gen := s.fld Reg.fSML_PORT_STATUS_GEN p }
  let s := s.putMport { x with pending := x.pending ++ [{ tag := tag, body := b }], cmdCredit := x.cmdCredit - 1,
                               dataCredit := x.dataCredit - b.frames }
  let s := sendFrame p (fun l => .command l tag b) s
  (List.range b.frames).foldl (fun s i => sendFrame p (fun l => .data l tag i (i + 1 == b.frames)) s) s

/-- Send the queued commands that may go, by rank, then by age. -/
def pumpPort (p : Nat) (s : State) : State :=
  let q := (s.mport p).queue
  let order := (q.filter (·.rank == 0)) ++ (q.filter (·.rank == 1)) ++ (q.filter (·.rank == 2))
  order.foldl (fun s b =>
    let x := s.mport p
    if mayIssue x b && portTakes s p b then issueOn p b (s.putMport { x with queue := x.queue.erase b }) else s) s

/-- A command body to a module with every field that does not apply zero. -/
def smlBody (op : SmlOp) (addr : MediaAddr) (why : SmlWhy) : SmlCmdBody :=
  { op := op, oneBit := addr.oneBit, suspend := op == .erase, gen := 0, addr := { addr with module := 0 }, cwMask := 0, rset := 0,
    delta := 0, arg := 0, mode := 0, lease := none, why := why }

/-- Give a command to a module: on its port, or over the Uberuf Link when only the partner reaches it (09 R233). -/
def issue (m : Nat) (b : SmlCmdBody) (s : State) : State :=
  match reachPort s m with
  | some p =>
    let x := s.mport p
    pumpPort p (s.putMport { x with queue := x.queue ++ [b] })
  | none =>
    if s.peer.st == .paired && s.sml.partnerReach.contains m then
      let tag := ((List.range (s.sml.forwarded.length + 1)).find? fun t => !(s.sml.forwarded.any (·.1 == t))).getD 0
      ({ s with sml := { s.sml with forwarded := s.sml.forwarded ++ [(tag, b)] } }).send (.mediaCmd tag m b)
    else s

/-- Issue a command addressed by its media address. -/
def issueAt (op : SmlOp) (a : MediaAddr) (why : SmlWhy) (s : State) : State := issue a.module (smlBody op a why) s

/-- MEDIA_FORWARD (09 R233): commands queued for a module whose port is down go to the partner that reaches it. -/
def execMediaForward (port : Fin 256) : State → Host.Outcome State Fault Refusal :=
  act fun s =>
    let p := port.val
    let x := s.mport p
    let m := s.fld Reg.fSML_PORT_BIND_MODULE p
    if s.portUp p || !s.flag Reg.fSML_PORT_BIND_BOUND p || (s.module m).isNone || s.peer.st != .paired || !s.sml.partnerReach.contains m then s
    else
      let s := if s.flag Reg.fSML_PORT_STATUS_FORWARDED p then s else firePort p (s.setFlag Reg.fSML_PORT_STATUS_FORWARDED true p)
      let waiting := x.pending.map (·.body) ++ x.queue
      waiting.foldl (fun s b => issue m b s) (s.putMport { x with pending := [], queue := [] })

/-- SML_CMD (09 R233): the partner's command for a module this head reaches is issued on its behalf. -/
def execSmlCmd (tag : Nat) (module : Fin 256) (b : SmlCmdBody) : State → Host.Outcome State Fault Refusal :=
  act fun s => if s.peer.st == .paired then issue module.val { b with why := .partner tag } s else s

/-! ## Reception (09 R220, R221) -/

/-- SML_FRAME_RECEIVE: a frame that fails its CRC or comes out of sequence is dropped and answered with a NAK; any other is taken, its ACKSEQ and credits with it. A link-control frame is not sequenced. -/
def execSmlFrameReceive (port : Fin 256) (crcOk control : Bool) (lseq ackseq cmdCredit dataCredit : Fin 65536) : State → Host.Outcome State Fault Refusal :=
  act fun s =>
    let p := port.val
    let x := s.mport p
    let nak := fun (s : State) => sendControl p (.nak) s
    if !s.portUp p then s
    else if !crcOk then nak (s.bump Reg.fSML_PORT_ERR_CRC_ERRORS 1 p)
    else if !control && lseq.val != x.rxSeq then nak s
    else
      let s := s.putMport { x with rxSeq := if control then x.rxSeq else (x.rxSeq + 1) % 65536, idle := false, lastAt := s.now,
                                   cmdCredit := x.cmdCredit + cmdCredit.val, dataCredit := x.dataCredit + dataCredit.val }
      let s := match servedModule s p with
        | some m => s.putModule { m with reachedAt := s.now }
        | none => s
      pumpPort p (coverFrames p ackseq.val s)

/-- SML_NAK: the sender replays from the frame after the ACKSEQ. -/
def execSmlNak (port : Fin 256) (ackseq : Fin 65536) : State → Host.Outcome State Fault Refusal :=
  act fun s => if s.portUp port.val then replayPort port.val (coverFrames port.val ackseq.val s) else s

/-- SML_REPLAY_TIMER: REPLAY_US without progress. -/
def execSmlReplayTimer (port : Fin 256) : State → Host.Outcome State Fault Refusal :=
  act fun s =>
    let x := s.mport port.val
    if !s.portUp port.val || x.unacked.isEmpty then s
    else replayPort port.val (s.reach (x.progressAt + s.fld Reg.fSML_LINK_CFG_REPLAY_US * us))

/-- SML_CREDIT_ADVERTISEMENT: the module's receive capacity, at link-up. -/
def execSmlCreditAdvertisement (port : Fin 256) (cmd data : Fin 65536) : State → Host.Outcome State Fault Refusal :=
  act fun s =>
    if !s.portUp port.val then s
    else pumpPort port.val (s.putMport { s.mport port.val with cmdCredit := cmd.val, dataCredit := data.val, lastAt := s.now })

/-- SML_KEEP_ALIVE_TIMER: 100 µs with nothing sent, outside low-power idle. -/
def execSmlKeepAliveTimer (port : Fin 256) : State → Host.Outcome State Fault Refusal :=
  act fun s =>
    let x := s.mport port.val
    if !s.portUp port.val || x.idle then s else sendControl port.val .keepAlive (s.reach (x.lastAt + 100 * us))

/-- LOW_POWER_IDLE_TIMER (09 R218). -/
def execLowPowerIdleTimer (port : Fin 256) : State → Host.Outcome State Fault Refusal :=
  act fun s =>
    let x := s.mport port.val
    if !s.portUp port.val || x.idle || !x.pending.isEmpty || !x.queue.isEmpty then s
    else
      let s := s.reach (x.lastAt + s.fld Reg.fSML_LINK_CFG_LPI_IDLE_US * us)
      s.putMport { s.mport port.val with idle := true }

/-! ## Lanes and training (09 R215 to R217) -/

/-- A port goes down: its session ends; vault eligibility follows. -/
def portDown (p : Nat) (s : State) : State :=
  let s := s.setFlag Reg.fSML_PORT_STATUS_UP false p
  let s := (s.setFld Reg.fSML_PORT_STATUS_WIDTH 0 p).setFld Reg.fSML_PORT_STATUS_RATE 0 p
  rejudge (s.putMport { s.mport p with attached := none, idle := false })

/-- The flag of a lane's fault. -/
def laneFlag (lane : Nat) (short : Bool) : Fld :=
  if lane = 0 then (if short then Reg.fSML_PORT_STATUS_L0_SHORT else Reg.fSML_PORT_STATUS_L0_OPEN)
  else if short then Reg.fSML_PORT_STATUS_L1_SHORT else Reg.fSML_PORT_STATUS_L1_OPEN

/-- MEDIA_LANE_FAULT: the lane is marked OPEN or SHORT; the port trains x1 on its other lane, or is down when both are lost. -/
def execMediaLaneFault (port : Fin 256) (lane : Fin 2) (short : Bool) : State → Host.Outcome State Fault Refusal :=
  act fun s =>
    let p := port.val
    let x := s.mport p
    let bad := insertNat lane.val x.badLanes
    let s := (s.setFlag (laneFlag lane.val short) true p).putMport { x with badLanes := bad, testedAt := s.now, passed := false }
    let s := if bad.length == 2 then portDown p s
      else if s.portUp p then rejudge (s.setFld Reg.fSML_PORT_STATUS_WIDTH 1 p) else s
    firePort p s

/-- MEDIA_LANE_RETEST: every 10 s the faulty lanes are tested; those in `good` pass and serve from the next retrain. -/
def execMediaLaneRetest (port : Fin 256) (good : List (Fin 2)) : State → Host.Outcome State Fault Refusal :=
  act fun s =>
    let x := s.mport port.val
    if x.badLanes.isEmpty then s
    else
      let s := s.reach (x.testedAt + 10 * sec)
      let left := x.badLanes.filter fun l => !(good.any (·.val == l))
      let s := s.putMport { x with badLanes := left, testedAt := s.now, passed := x.passed || left.length != x.badLanes.length }
      if left.length == x.badLanes.length then s else firePort port.val s

/-- MEDIA_PORT_TRAINING: the port comes up on its good lanes, at 16 GT/s when MAX_RATE or failed equalisation says so; polarity and lane order are corrected and recorded; credits are advertised. -/
def execMediaPortTraining (port : Fin 256) (inv0 inv1 swapped eqOk : Bool) : State → Host.Outcome State Fault Refusal :=
  act fun s =>
    let p := port.val
    let x := s.mport p
    if x.badLanes.length == 2 || s.isFenced (iMP + p / 8) then s
    else
      let was := s.portUp p
      let s := (s.setFlag Reg.fSML_PORT_STATUS_UP true p).setFld Reg.fSML_PORT_STATUS_WIDTH (2 - x.badLanes.length) p
      let s := s.setFld Reg.fSML_PORT_STATUS_RATE (if s.flag Reg.fSML_LINK_CFG_MAX_RATE || !eqOk then 1 else 2) p
      let s := ((s.setFlag Reg.fSML_PORT_STATUS_L0_INV inv0 p).setFlag Reg.fSML_PORT_STATUS_L1_INV inv1 p).setFlag Reg.fSML_PORT_STATUS_SWAPPED swapped p
      let s := s.putMport { s.mport p with passed := false, replays := 0, lastAt := s.now, progressAt := s.now }
      if was then rejudge s else firePort p (sendControl p (.credits 256 256) (rejudge s))

/-! ## PORT_REBIND (09 R231) -/

/-- A module index stands on two ports once a set's bindings are in. -/
def doubleBound (x : StageSet) (s : State) : Bool :=
  let bound := (List.range 256).filterMap fun p =>
    let w := shadowed x s (0x601000 + 8 * p)
    if bits w 8 8 == 1 then some (bits w 7 0) else none
  bound.eraseDups.length != bound.length

/-- PORT_REBIND (09 R231): stages one binding. -/
def execPortRebind (r : TaskReq) : State → Host.Outcome State Fault Refusal :=
  taskCmd { opcode := 0x0804, windows := [0] } [(1, mask 16 0), (2, mask 2 0)] r fun s =>
    let p := r.argBits 1 7 0
    let n := r.arg 2
    let off := 0x601000 + 8 * p
    let w : Word := if r.argBits 1 16 16 == 1 then BitVec.ofNat 64 (r.argBits 1 15 8) else BitVec.ofNat 64 (256 + r.argBits 1 15 8)
    if !canStage n s (regClaims off) then .fail cSTATE_CONFLICT
    else if doubleBound { s.set n with writes := setKey off w (s.set n).writes } s then .fail cSTATE_CONFLICT
    else .done (stageReg n off w s)

end Sys2Proof.Machine
end

