-- ==== Sys2Proof/Machine/Lease.lean ====
section
/-!
DEFINITION. Lease blocks and the commands that read and write them; the lease set and its changes (11 R281, R282; 09 R225).
-/
namespace Sys2Proof.Machine

/-- Pair time in ns (01 R17, 11 R278). -/
def pairNow (s : State) : Nat := ((s.now : Int) + s.peer.pairOffset).toNat

/-- HFE_SUBNQN as bytes, up to its first zero byte (04 R86). -/
def subnqnBytes (s : State) : List Byte :=
  ((List.range 256).map fun i => BitVec.ofNat 8 (bits (s.word (0x100400 + 8 * (i / 8))) (8 * (i % 8) + 7) (8 * (i % 8)))).takeWhile (· != 0)

/-- NQN_TAG: the first 8 bytes of SHA-256 of HFE_SUBNQN (11 Table 11.4; byte order log 13). -/
def nqnTag (s : State) : BitVec 64 := (Config.sha256 (subnqnBytes s)).extractLsb' 192 64

/-- PAIR_ID: its first 16 bytes (11 Table 11.6). -/
def pairId (s : State) : BitVec 128 := (Config.sha256 (subnqnBytes s)).extractLsb' 128 128

/-- The lease block that this head writes now (11 Table 11.6). -/
def leaseBlock (sole : Bool) (seq : Nat) (s : State) : LeaseBlock :=
  { magicOk := true, seq := seq, sole := sole, holder := if sole then s.peer.head else 0xFF, count := s.peer.lset.length,
    lsetGen := s.peer.lsetGen, pairId := pairId s, stamp := pairNow s, ownGen := s.peer.ownGen, owners := s.peer.owners,
    lset := s.peer.lset, holderId := Config.deviceId, crcOk := true }

/-- A block belongs to this pair: its MAGIC, CRC and PAIR_ID hold (11 R281, R282). -/
def ourBlock (b : LeaseBlock) (s : State) : Bool := b.magicOk && b.crcOk && b.pairId == pairId s

/-- The address of a lease command. -/
def leaseAddr (m : Nat) : MediaAddr := { oneBit := false, module := m, die := 0, plane := 0, block := 0, page := 0, codeword := 0 }

/-- Read slot 0 of a module. -/
def leaseRead (m : Nat) (s : State) : State := issueAt .leaseRead (leaseAddr m) (.lease m) s

/-- LEASE_CAS of slot 0: ARG is the SEQ read, the block carries that plus 1 (11 R281). -/
def leaseCas (m seq mode : Nat) (sole : Bool) (s : State) : State :=
  issue m { smlBody .leaseCas (leaseAddr m) (.lease m) with arg := seq, mode := mode, lease := some (leaseBlock sole (seq + 1) s) } s

/-- GEN_READ of a module. -/
def genRead (m : Nat) (s : State) : State := issueAt .genRead (leaseAddr m) (.lease m) s

/-- This head reaches a module, or the partner does for it. -/
def reachable (s : State) (m : Nat) : Bool :=
  (reachPort s m).isSome || (s.peer.st == .paired && s.sml.partnerReach.contains m)

/-- The lease set in force, as UBL_LEASE_STATUS.N counts it; the majority q (11 R283). -/
def quorum (n : Nat) : Nat := n / 2 + 1

/-- Close a change of the lease set that has been written to every module. -/
def settleLset (s : State) : State :=
  match s.peer.lsetWrite with
  | some w => if w.pending.isEmpty
      then w.jobs.foldl (fun s j => endJobPlanned j s) { s with peer := { s.peer with lsetWrite := none } } else s
  | none => s

/-- Change the lease set: LSET_GEN rises by 1 and the block is written with mode 0 to every module of the new set (11 R282). Modules out of reach stay in the set unwritten. -/
def changeLset (lset : List Nat) (job : Option Nat) (s : State) : State :=
  let jobs := ((s.peer.lsetWrite.map (·.jobs)).getD []) ++ job.toList
  let out := lset.filter (reachable s)
  let s := { s with peer := { s.peer with lset := lset, lsetGen := s.peer.lsetGen + 1, lsetWrite := some { pending := out, jobs := jobs } } }
  settleLset (out.foldl (fun s m => leaseRead m s) s)

/-- One module of the set has been written, or cannot be reached any more. -/
def lsetWritten (m : Nat) (s : State) : State :=
  settleLset { s with peer := { s.peer with lsetWrite := s.peer.lsetWrite.map fun w => { w with pending := w.pending.filter (· != m) } } }

/-- Why the lease set cannot change now (11 R282, 07 Table 7.1). -/
def lsetFault (s : State) : Option Nat :=
  match s.peer.st with
  | .paired => none
  | .lightship => if s.peer.lease == .mine then none else some cQUORUM_LOST
  | .fenced => some cFENCED
  | _ => some cPEER_ABSENT

end Sys2Proof.Machine
end

