-- ==== Sys2Proof/Machine/Ldpc.lean ====
section
/-!
DEFINITION. The codes on NAND: Reed-Solomon parity, the LDPC codeword, the scrambler and the ERASED report
(07 R163, R164; 09 R234 to R238).
-/
namespace Sys2Proof.Machine

/-! ## Reed-Solomon (07 R163) -/

/-- Multiplication by α = 0x02 in GF(2^8) under 0x11D. -/
def gfAlpha (b : Byte) : Byte := if b.msb then (b <<< 1) ^^^ 0x1D#8 else b <<< 1

/-- α^n · b. -/
def gfPow : Nat → Byte → Byte
  | 0, b => b
  | n + 1, b => gfPow n (gfAlpha b)

/-- One byte of parity member `j` over the data bytes of one position, member 0 first. -/
def parityByte (j : Nat) (data : List Byte) : Byte := (data.zipIdx.foldl (fun a d => a ^^^ gfPow (j * d.2) d.1) 0#8)

/-- Parity member `j` of a row of data pages. -/
def parityPage (j n : Nat) (pages : List (List Byte)) : List Byte :=
  (List.range n).map fun b => parityByte j (pages.map fun p => (p[b]?).getD 0)

/-! ## LDPC (09 R234 to R236, Table 9.8) -/

/-- A column of 1,024 bits. -/
abbrev Column := BitVec 1024

/-- The circulant s: y[i] = x[(i + s) mod 1,024]. -/
def circulant (s : Nat) (x : Column) : Column := x.rotateRight s

/-- s(r, c) of a data column. -/
def dataShift (r c : Nat) : Nat := (r * (37 * c + 11) + c) % 1024

/-- s(r, c) of the base matrix; none for the zero circulant. -/
def baseShift (r c : Nat) : Option Nat :=
  if c < 32 then some (dataShift r c)
  else match r, c with
    | 0, 32 => some 1
    | 2, 32 => some 0
    | 3, 32 => some 1
    | 0, 33 => some 0
    | 1, 33 => some 0
    | 1, 34 => some 0
    | 2, 34 => some 0
    | 2, 35 => some 0
    | 3, 35 => some 0
    | _, _ => none

/-- Column `c` of a codeword: bit j of the codeword is bit j mod 8 of byte j / 8. -/
def cwColumn (w : BitVec 36864) (c : Nat) : Column := w.extractLsb' (1024 * c) 1024

/-- The checks of row `r`: all zero when they hold. -/
def checkRow (w : BitVec 36864) (r : Nat) : Column :=
  (List.range 36).foldl (fun a c => match baseShift r c with
    | some s => a ^^^ circulant s (cwColumn w c)
    | none => a) 0

/-- A word is a codeword. -/
def isCodeword (w : BitVec 36864) : Bool := (List.range 4).all fun r => checkRow w r == 0

/-- The row-r contribution of the data columns. -/
def lambda (d : BitVec 32768) (r : Nat) : Column :=
  (List.range 32).foldl (fun a c => a ^^^ circulant (dataShift r c) (d.extractLsb' (1024 * c) 1024)) 0

/-- Encode 4,096 data bytes: data in columns 0 to 31, parity p0 to p3 in 32 to 35 (09 R236). -/
def ldpcEncode (d : BitVec 32768) : BitVec 36864 :=
  let p0 := lambda d 0 ^^^ lambda d 1 ^^^ lambda d 2 ^^^ lambda d 3
  let p1 := lambda d 0 ^^^ circulant 1 p0
  let p2 := lambda d 1 ^^^ p1
  let p3 := lambda d 2 ^^^ p0 ^^^ p2
  p3 ++ p2 ++ p1 ++ p0 ++ d

/-! ## The scrambler and the ERASED report (09 R237, R238) -/

/-- The seed of a codeword's place. -/
def scrambleSeed (a : MediaAddr) : BitVec 16 :=
  let v := (a.block * 0x9E37 + a.page * 4 + a.codeword) % 65536
  if v = 0 then 1 else BitVec.ofNat 16 v

/-- One step of the register: feedback bits 0, 2, 3 and 5 enter at bit 15. -/
def scrambleStep (x : BitVec 16) : BitVec 16 :=
  let f := x.getLsbD 0 ^^ x.getLsbD 2 ^^ x.getLsbD 3 ^^ x.getLsbD 5
  (x >>> 1) ||| (if f then 0x8000#16 else 0#16)

/-- The first `n` output bits as a number, bit 0 first: output bit j is state bit 0. -/
def scrambleBits : Nat → BitVec 16 → Nat
  | 0, _ => 0
  | n + 1, x => (if x.getLsbD 0 then 1 else 0) + 2 * scrambleBits n (scrambleStep x)

/-- Scramble or descramble a codeword at its place. -/
def scramble (a : MediaAddr) (w : BitVec 36864) : BitVec 36864 := w ^^^ BitVec.ofNat 36864 (scrambleBits 36864 (scrambleSeed a))

/-- Zero bits of a raw codeword. -/
def zeroBits (w : BitVec 36864) : Nat := ((List.range 36864).filter fun i => !w.getLsbD i).length

/-- A raw codeword reads as erased: at most 64 zero bits, before descrambling. -/
def readsErased (w : BitVec 36864) : Bool := zeroBits w ≤ 64

end Sys2Proof.Machine
end

