-- ==== Sys2Proof/Machine/Read.lean ====
section
/-!
DEFINITION. The read path: codewords, verification, reconstruction, repair, loss; and the rows that program (06_read_path.md, 07 R172 to R174, 08 R189, R197, R199, 09 R239, R240).
-/
namespace Sys2Proof.Machine

/-! ## Members (06 R156, 07 "Rebuild") -/

/-- A module's members are unavailable: it is FAILED, or fenced to this head. -/
def Module.gone (m : Module) : Bool := m.st == .failed || m.fencedHere

/-- A member at an address is unavailable: its module is gone or unknown, or its die has failed (09 R233). -/
def memberGone (s : State) (a : MediaAddr) : Bool :=
  match s.module a.module with
  | some m => m.gone || m.deadDies.contains a.die
  | none => true

/-- The numbers of a segment's unavailable members. -/
def goneMembers (s : State) (x : Segment) : List Nat :=
  (x.members.zipIdx.filter fun p => memberGone s p.1 || x.erased.contains p.2).map Prod.snd

/-- Live segments: open, sealed or under rebuild. -/
def Segment.live (x : Segment) : Bool := x.st == .open_ || x.st == .sealed || x.st == .rebuilding

/-- r of a segment: m less the most erasures of any column, never below 0 (07 "Rebuild", MTL_REBUILD_STATUS MIN_R). -/
def segmentR (s : State) (x : Segment) : Nat :=
  let gone := goneMembers s x
  let cols := x.badCols.map fun c => (gone ++ (x.badCols.filter fun d => d.1 == c.1 && d.2.1 == c.2.1).map (·.2.2)).eraseDups.length
  x.m - (gone.length :: cols).foldl max 0

/-- A segment needs rebuild (07 R178, R182, R197). -/
def degraded (s : State) (x : Segment) : Bool :=
  x.live && (!(goneMembers s x).isEmpty || x.relocate || !x.badCols.isEmpty)

/-! ## Health and sealing -/

/-- Change a module's record. -/
def onModule (i : Nat) (f : Module → Module) (s : State) : State :=
  match s.module i with
  | some m => s.putModule (f m)
  | none => s

/-- Seal a segment at the present hour (07 R173, R174; 08 Table 8.1). -/
def sealSegment (sh : Bool) (x : Segment) (s : State) : State :=
  if x.st == .open_ then putSegment sh { x with st := .sealed, sealHour := s.media.hour, sealAt := s.now } s else s

/-- Retire a block: a spare of the module takes its place in the pool; with no spare left the module is WORN_OUT (08 R189, R206). -/
def retireBlock (b : Block) (s : State) : State :=
  if b.st == .retired then s
  else
    let s := oneDelta false (.blockSet { b with st := .retired }) s
    match s.md.store.blocks.find? fun x => x.module == b.module && x.st == .spare with
    | some sp =>
      let s := oneDelta false (.blockSet { sp with st := .erased, oneBit := b.oneBit }) s
      onModule b.module (fun m => { m with sparesLeft := m.sparesLeft - 1 }) s
    | none =>
      match s.module b.module with
      | some m =>
        if m.st == .active then
          settleRo (rejudge (fire 147 (s.putModule { m with st := .wornOut }) (detail := m.index)))
        else s
      | none => s

/-- A segment is queued for refresh, or for folding at urgent rank when it is one-bit (08 R199, R203). -/
def queueRefresh (id frac : Nat) (s : State) : State :=
  match s.segment id with
  | some (_, x) => if x.st == .sealed then noteSegment { x with refresh := some (max frac (x.refresh.getD 0)) } s else s
  | none => s

/-- The segment that holds a block, and the member. -/
def segmentAt (s : State) (a : MediaAddr) : Option (Segment × Nat) :=
  (allSegments s).findSome? fun x => (x.members.findIdx? fun b => b.module == a.module && b.die == a.die && b.plane == a.plane && b.block == a.block).map fun i => (x, i)

/-! ## Rebuild status (07 R186) -/

/-- Rebuild work of class 3: rows with r ≥ 1, retiring and worn-out modules (07 Table 7.4). -/
def classThree (s : State) : Bool :=
  (mySegments s).any fun x => (degraded s x && 1 ≤ segmentR s x) ||
    (x.live && x.members.any fun a => (s.module a.module).any fun m => m.st == .retiring || m.st == .wornOut)

/-- Member content still to rebuild, in bytes: k-th parts of what is live on unavailable members. -/
def leftBytes (s : State) : Nat :=
  ((mySegments s).map fun x => if degraded s x then x.liveBytes * (goneMembers s x).length / max 1 x.k else 0).sum

/-- STATE of MTL_REBUILD_STATUS: the highest that applies. -/
def rebuildState (s : State) : Nat :=
  if s.media.domains.any (·.stalled) then 3
  else if s.flag Reg.fMTL_REBUILD_CFG_PAUSE && classThree s then 2
  else if classThree s || (mySegments s).any (degraded s) then 1 else 0

/-- Bring the rebuild registers up to date; STATE changes and rises of CRIT_SEGS fire (07 R186). -/
def settleRebuild (s : State) : State :=
  let bad := (mySegments s).filter (degraded s)
  let crit := (bad.filter fun x => segmentR s x == 0).length
  let st := rebuildState s
  let oldSt := s.fld Reg.fMTL_REBUILD_STATUS_STATE
  let oldCrit := s.fld Reg.fMTL_REBUILD_COUNTS_CRIT_SEGS
  let mods := (bad.flatMap fun x => (goneMembers s x).filterMap fun i => (x.members[i]?).map (·.module)).eraseDups.length
  let s := (s.setFld Reg.fMTL_REBUILD_STATUS_STATE st).setFld Reg.fMTL_REBUILD_STATUS_MIN_R ((bad.map (segmentR s)).foldl min 3)
  let s := (s.setFld Reg.fMTL_REBUILD_STATUS_MODULES (min 255 mods)).setFld Reg.fMTL_REBUILD_STATUS_LEFT_GIB (leftBytes s / 2 ^ 30)
  let s := (s.setFld Reg.fMTL_REBUILD_COUNTS_CRIT_SEGS crit).setFld Reg.fMTL_REBUILD_COUNTS_LOSS_ENTRIES s.md.store.losses.length
  let s := if st == oldSt then s else fire 144 s (detail := st)
  if oldCrit < crit then fire 145 s (detail := crit) else s

/-! ## Loss (06 R154, 07 R182, R183) -/

/-- Put a grain on the loss list once and mark it LOST. -/
def loseGrain (g cause : Nat) (s : State) : State :=
  match s.dirOf g with
  | none => s
  | some e =>
    if e.st == .lost then s
    else
      let sh := s.grainShadow g
      let full := 1048576 ≤ (s.store sh).losses.length
      let l : LossEntry := { grain := g, cause := cause, member := e.member, segment := e.segment, page := e.addr.page, codeword := e.addr.codeword }
      let t := (Tx.start s).addAt sh (.dirSet { e with st := .lost, lostMask := 0 })
      let t := if full then t else t.addAt sh (.lossAdd l)
      let s := onModule e.addr.module (fun m => { m with lostHere := m.lostHere + 1 }) t.commit
      let s := { s with media := { s.media with lossesEver := s.media.lossesEver + 1 } }
      if full then
        if s.flag Reg.fMTL_REBUILD_STATUS_LOSS_OVERFLOW then s
        else raiseFog 8 (s.setFlag Reg.fMTL_REBUILD_STATUS_LOSS_OVERFLOW true)
      else fire 146 s (detail := g)

/-- A loss that the read path found: its counters, PTL_LAST_LOSS and source (06 R154, R160). -/
def readLoss (g cause : Nat) (s : State) : State :=
  let s := loseGrain g (if cause == 1 then 2 else 3) (s.bump Reg.fPTL_VERIFY_STATS_LOST)
  let s := (s.setFld Reg.fPTL_LAST_LOSS_CAUSE cause).setFld Reg.fPTL_LAST_LOSS_GRAIN_ID g
  fire 140 s (detail := g)

/-! ## Reads in flight (06 R144, R150, R158) -/

/-- Pin a segment. -/
def pinSegment (id : Nat) (s : State) : State := { s with rd := { s.rd with pins := id :: s.rd.pins } }

/-- Release one pin. -/
def unpinSegment (id : Nat) (s : State) : State := { s with rd := { s.rd with pins := s.rd.pins.erase id } }

/-- The command as it stands, by its names. -/
def State.cmdOf (s : State) (x : HostCmd) : HostCmd :=
  (s.host.cmds.find? fun y => y.is x.cntlid x.qid x.cid && y.fwdTag == x.fwdTag).getD x

/-- First logical block of a grain within a command's range. -/
def grainLba (s : State) (x : HostCmd) (key : Nat) : Nat :=
  match s.ns x.nsid with
  | some (_, n) => max x.slba (key * 8 / sectorsPerBlock n)
  | none => x.slba

/-- End a read or compare whose last grain has come: Unrecovered Read Error with its error log entry, Compare Failure, or success (06 R150). -/
def endRead (x : HostCmd) (s : State) : State :=
  if !x.fetches.isEmpty then s
  else match x.failed with
  | some key =>
    let s := match (if x.fwdTag.isSome then none else s.assoc x.cntlid) with
      | some a => s.putAssoc { a with errors := ((grainLba s x key, NvmeStatus.unrecoveredRead) :: a.errors).take 256 }
      | none => s
    complete x .unrecoveredRead s
  | none => complete x (if x.differs then .compareFailure else .success) s

/-- Send sectors of a grain to the host buffer or the forwarding head, or compare them (06 R149, R150; 04 R93, R95). -/
def deliverSectors (x : HostCmd) (key : Nat) (want : List (Nat × Sector)) (s : State) : State :=
  if x.kind == .compare then
    let first := match s.ns x.nsid with
      | some (_, n) => x.slba * sectorsPerBlock n
      | none => 0
    let same := want.all fun p => x.data[8 * key + p.1 - first]? == some p.2
    if same then s else s.putCmd { s.cmdOf x with differs := true }
  else match x.fwdTag with
    | some t => s.send (.fwdData t key want)
    | none => s.send (.hostData x.cntlid x.qid x.cid key want)

/-- A fetch is over: its pin is released; with no content the grain counts as failed. -/
def endFetch (x : HostCmd) (f : Fetch) (ss : Option (List Sector)) (s : State) : State :=
  let x := s.cmdOf x
  let s := match f.segment with
    | some g => unpinSegment g s
    | none => s
  let fetches := x.fetches.filter fun y => y.no != f.no
  let failed := match ss with
    | some _ => x.failed
    | none => some (min f.key (x.failed.getD f.key))
  let phase := if x.kind == .read && ss.isSome then .sending else x.phase
  let s := s.putCmd { x with fetches := fetches, failed := failed, phase := phase }
  let s := match ss with
    | some ss => deliverSectors { x with fetches := fetches, failed := failed, phase := phase } f.key (f.pick.map fun p => (p.1, (ss[p.2]?).getD 0)) s
    | none => s
  endRead (s.cmdOf x) s

/-- A fetch of a command by its number. -/
def fetchOf (x : HostCmd) (no : Nat) : Option Fetch := x.fetches.find? (·.no == no)

/-- A read or compare by its names. -/
def readCmd (s : State) (c q i : Nat) (fwd : Option Nat) : Option HostCmd :=
  s.host.cmds.find? fun x => x.is c q i && x.fwdTag == fwd && (x.kind == .read || x.kind == .compare)

/-! ## Reconstruction (06 R151, R152, R159) -/

/-- Entries of a PT's table. -/
def tableOf (s : State) (pt : Nat) : List Recon := s.rd.recons.filter fun r => r.pt == pt && !r.own

/-- A read waits for the reconstruction of its grain in its PT, starting one when none runs there; a full table leaves it to reconstruct on its own. -/
def beginRecon (pt grain : Nat) (decoded : Bool) (x : HostCmd) (s : State) : State :=
  let w := (x.cntlid, x.qid, x.cid)
  if s.rd.recons.any fun r => r.pt == pt && r.grain == grain && !r.own then
    { s with rd := { s.rd with recons := updateIf (fun r => r.pt == pt && r.grain == grain && !r.own) (fun r => { r with waiters := r.waiters ++ [w] }) s.rd.recons } }
  else
    let full := 64 ≤ (tableOf s pt).length
    let r : Recon := { pt := pt, grain := grain, waiters := [w], own := full, decoded := decoded }
    let s := { s with rd := { s.rd with recons := s.rd.recons ++ [r] } }
    { s with rd := { s.rd with tablePeak := max s.rd.tablePeak (tableOf s pt).length } }

/-- GRAIN_VERIFY (06 R147, R148): the grain of a read is checked, deciphered, expanded and compared; one that fails goes to reconstruction. -/
def execGrainVerify (cntlid qid cid : Nat) (fwd : Option Nat) (no : Nat) (out : VerifyOutcome) : State → Host.Outcome State Fault Refusal :=
  actIO fun s =>
    match readCmd s cntlid qid cid fwd with
    | none => s
    | some x =>
      match fetchOf x no with
      | none => s
      | some f =>
        if f.wait != .media then s
        else match out with
        | .verified ss => endFetch x f (some ss) s
        | .failed | .unreadable =>
          let decoded := match out with | .failed => true | _ => false
          let s := if decoded then s.bump Reg.fPTL_VERIFY_STATS_VERIFY_FAIL else s
          let s := s.putCmd { x with fetches := updateIf (·.no == no) (fun f => { f with wait := .recon }) x.fetches }
          beginRecon x.pt f.grain decoded x s

/-- Grains of the row of an entry, itself apart. -/
def rowGrains (s : State) (e : DirEntry) : List Nat :=
  ((s.md.store.dir ++ s.md.shadow.dir).filter fun d => d.segment == e.segment && d.addr.page == e.addr.page && d.bytes != 0 && d.grain != e.grain).map (·.grain)

/-- Queue a grain for repair at most once (06 R153, R159). -/
def queueRepair (g : Nat) (s : State) : State :=
  if s.rd.repairs.contains g then s else { s with rd := { s.rd with repairs := s.rd.repairs ++ [g] } }

/-- The row of a grain is rewritten: its other grains are queued and its modules count a MISMATCH (06 R155). -/
def rewriteRow (e : DirEntry) (s : State) : State :=
  let gs := (rowGrains s e).filter fun g => !(s.rd.repairs.contains g) && !(s.rd.rewrites.contains g)
  let s := { s with rd := { s.rd with rewrites := s.rd.rewrites ++ gs } }
  match s.segment e.segment with
  | some (_, x) => (x.members.map (·.module)).foldl (fun s m => onModule m (fun m => { m with mismatch := m.mismatch + 1 }) s) s
  | none => s

/-- A recovered grain is repaired in place, unless the rebuild of its member moves it (06 R153). -/
def repairAfter (g : Nat) (decoded parityWrong : Bool) (s : State) : State :=
  match s.dirOf g with
  | none => s
  | some e =>
    let s := if !decoded && memberGone s e.addr then s else queueRepair g s
    if decoded || parityWrong then rewriteRow e s else s

/-- The fetches that wait for a grain's reconstruction. -/
def reconFetches (s : State) (r : Recon) : List (HostCmd × Fetch) :=
  r.waiters.flatMap fun w => (s.host.cmds.filter fun x => x.is w.1 w.2.1 w.2.2).flatMap fun x =>
    (x.fetches.filter fun f => f.grain == r.grain && f.wait == .recon).map fun f => (x, f)

/-- GRAIN_RECONSTRUCTION (06 R151 to R154): the grain is rebuilt from k other members of its row and served, or lost. -/
def execGrainReconstruction (pt : Fin 66) (grain : Nat) (out : ReconOutcome) : State → Host.Outcome State Fault Refusal :=
  actIO fun s =>
    match s.rd.recons.find? fun r => r.pt == pt.val && r.grain == grain with
    | none => s
    | some r =>
      let s := { s with rd := { s.rd with recons := s.rd.recons.erase r } }
      let fs := reconFetches s r
      match out with
      | .verified ss _ parityWrong =>
        let s := fs.foldl (fun s p => endFetch p.1 p.2 (some ss) (s.bump Reg.fPTL_VERIFY_STATS_RECONSTRUCTED)) s
        repairAfter grain r.decoded parityWrong s
      | .noHypothesis => fs.foldl (fun s p => endFetch p.1 p.2 none s) (settleRebuild (readLoss grain 1 s))
      | .tooFew => fs.foldl (fun s p => endFetch p.1 p.2 none s) (settleRebuild (readLoss grain 2 s))

/-- JOURNAL_FETCH (06 R145): a grain whose journal copy fails its CRC is taken from the partner's mirror ring; `ok` says that the copy there, `ss`, checks. -/
def execJournalFetch (cntlid qid cid : Nat) (fwd : Option Nat) (no : Nat) (ok : Bool) (ss : List Sector) : State → Host.Outcome State Fault Refusal :=
  actIO fun s =>
    match readCmd s cntlid qid cid fwd with
    | none => s
    | some x =>
      match fetchOf x no with
      | none => s
      | some f =>
        match f.wait with
        | .journal j =>
          if ok && partnerPresent s then endFetch x f (some ss) s
          else
            let s := (s.setFld Reg.fPTL_LAST_LOSS_CAUSE 3).setFld Reg.fPTL_LAST_LOSS_GRAIN_ID f.grain
            endFetch x f none (raiseFog 10 (fire 141 s (detail := j) (code := cHW_FAULT)) (code := cHW_FAULT))
        | _ => s

/-! ## Repair in place (06 R153, R155; 08 R191) -/

/-- A grain that is moved, as its packer takes it: FLAGS[2] set by relocation, kept by folding (08 R191). -/
def movedGrain (e : DirEntry) (hdr : GrainHeader) (relocated : Bool) : PackedGrain :=
  { hdr := { hdr with grainId := e.grain, storedLen := 16 * e.len16 - 64, relocated := hdr.relocated || relocated }, member := 0, offset := 0,
    jseq := none, data := [], from_ := some e.segment }

/-- REPAIR_IN_PLACE: the recovered grain, or one of a row that is rewritten, is packed for relocation; an unreadable one is lost. -/
def execRepairInPlace (grain : Nat) (read : GrainRead) : State → Host.Outcome State Fault Refusal :=
  actPipe fun s =>
    let queued := s.rd.repairs.contains grain || s.rd.rewrites.contains grain
    let packed := (s.wr.rows.flatMap (·.grains) ++ s.wr.unpacked.map (·.2.2)).any fun p => p.hdr.grainId == grain
    match s.dirOf grain with
    | none => s
    | some e =>
      if !queued || packed || e.refs == 0 then s
      else
        let d := ((s.segment e.segment).map fun x => x.2.pdom).getD 0
        match read with
        | .clean h => packOrWait 67 d (movedGrain e h true) s
        | .rebuilt h => packOrWait 67 d (movedGrain e h true) s
        | .lost c =>
          let s := { s with rd := { s.rd with repairs := s.rd.repairs.erase grain, rewrites := s.rd.rewrites.erase grain } }
          settleRebuild (loseGrain grain c s)

/-! ## Rows that program (07 R172, R173) -/

/-- The directory entry of a grain that a row holds now: its address, STORED, or PARTIAL with lost sectors, or RECOVERED as it was. -/
def placedEntry (x : Segment) (row : Nat) (p : PackedGrain) (e : DirEntry) : DirEntry :=
  let a := (x.members[p.member]?).getD e.addr
  { e with addr := { a with page := row, codeword := p.offset / 4096 }, segment := x.id, member := p.member,
           off16 := p.offset % 4096 / 16, len16 := (64 + p.hdr.storedLen) / 16,
           st := if e.st == .pending then (if e.lostMask == 0 then .stored else .partial_) else e.st }

/-- A grain of a row takes its place: a write's grain leaves PENDING; a moved grain only while its entry still points at the source and counts (08 R196). -/
def placeGrain (x : Segment) (row : Nat) (p : PackedGrain) (t : Tx) : Tx :=
  match t.s.dirOf p.hdr.grainId with
  | none => t
  | some e =>
    let fits : Bool := match p.from_ with
      | some src => e.segment == src && e.st != .pending && e.st != .released && e.st != .lost
      | none => e.st == .pending
    if fits then t.addAt (t.s.grainShadow e.grain) (.dirSet (placedEntry x row p e)) else t

/-- Sources of the moves of a row remember the transaction that moved them (08 R196). -/
def markMoves (gs : List PackedGrain) (txn : Nat) (s : State) : State :=
  ((gs.filterMap (·.from_)).eraseDups).foldl (fun s id => match s.segment id with
    | some (_, x) => noteSegment { x with lastMove := txn + 1 } s
    | none => s) s

/-- Repairs that a row completes are counted and leave the queue (06 R153, R160). -/
def endRepairs (gs : List PackedGrain) (s : State) : State :=
  gs.foldl (fun s p =>
    let g := p.hdr.grainId
    let s := if s.rd.repairs.contains g then s.bump Reg.fPTL_VERIFY_STATS_REPAIRED else s
    { s with rd := { s.rd with repairs := s.rd.repairs.erase g, rewrites := s.rd.rewrites.erase g } }) s

/-- A row counts as written: its segment grows, its grains take their places in one transaction, records no longer wait for them (07 R172, 05 R125). -/
def rowWritten (r : OpenRow) (s : State) : State :=
  match s.segment r.segment with
  | none => s
  | some (sh, x) =>
    let s := { s with wr := { s.wr with rows := s.wr.rows.erase r } }
    let x' := { x with rows := max x.rows (r.row + 1) }
    let t := (Tx.start s).add sh (.segSet x')
    let t := r.grains.foldl (fun t p => placeGrain x r.row p t) t
    let num := s.md.txn
    let s := endRepairs r.grains (markMoves r.grains num t.commit)
    let ids := (r.grains.filter (·.jseq.isSome)).map fun p => p.hdr.grainId
    let free := fun (e : RingEntry) => { e with pendingIds := e.pendingIds.filter fun g => !(ids.contains g) }
    let done := fun (e : SieveEntry) => { e with pending := false }
    let s := { s with wr := { s.wr with ring := s.wr.ring.map free, sieve := updateIf (fun e => ids.contains e.grain) done s.wr.sieve } }
    match s.segment r.segment with
    | some (sh, y) => if segmentRows s y ≤ y.rows then sealSegment sh y s else s
    | none => s

/-- A sealed row of a segment. -/
def sealedRow (s : State) (segment row : Nat) : Option OpenRow :=
  s.wr.rows.find? fun r => r.segment == segment && r.row == row && r.sealed

/-- ROW_PROGRAM_SUCCESS (07 R172): all W pages of the row have programmed. -/
def execRowProgramSuccess (segment row : Nat) : State → Host.Outcome State Fault Refusal :=
  actPipe fun s => match sealedRow s segment row with
  | some r => rowWritten r s
  | none => s

/-- An abandoned row: its grains are packed again (07 R173). -/
def abandonRow (r : OpenRow) (s : State) : State :=
  r.grains.foldl (fun s p => packOrWait r.pt r.domain p s) { s with wr := { s.wr with rows := s.wr.rows.erase r } }

/-- ROW_PROGRAM_FAIL (07 R173): a page of the row fails to program. On a member already ERASED the row counts as written. -/
def execRowProgramFail (segment row member : Nat) : State → Host.Outcome State Fault Refusal :=
  actPipe fun s => match sealedRow s segment row, s.segment segment with
  | some r, some (sh, x) =>
    match x.members[member]? with
    | none => s
    | some a =>
      if (goneMembers s x).contains member then rowWritten r s
      else
        let s := onModule a.module (fun m => { m with progFails := m.progFails + 1 }) s
        let s := abandonRow r (sealSegment sh x s)
        match blockAt s a with
        | some b => settleRebuild (retireBlock b s)
        | none => s
  | _, _ => s

/-! ## Codewords (09 R238 to R240, 08 R197, R199) -/

/-- The limit of reads of a block's mode. -/
def readLimit (m : Module) (oneBit : Bool) : Nat := if oneBit then m.desc.readOneBit else m.desc.readNative

/-- Count reads and soft decodes on a block; its segment is queued for refresh at its marks (08 R199). -/
def countReads (a : MediaAddr) (reads softs : Nat) (s : State) : State :=
  match blockAt s a, s.module a.module with
  | some b, some m =>
    let b' := { b with reads := min 0xFFFFFFFF (b.reads + reads), soft := min 0xFFFF (b.soft + softs) }
    let s := s.putStore false { s.md.store with blocks := updateIf (· == b) (fun _ => b') s.md.store.blocks }
    let due := readLimit m b.oneBit * s.fld Reg.fMTL_FM_CFG_READ_PCT ≤ b'.reads * 100 || 16 ≤ b'.soft
    if due then match segmentAt s a with
      | some (x, _) => queueRefresh x.id 0 s
      | none => s
    else s
  | _, _ => s

/-- The read-retry set a codeword starts at. -/
def firstSet (s : State) (a : MediaAddr) : Nat :=
  if s.flag Reg.fMTL_LDPC_CFG_STICKY then ((s.sml.sticky.find? fun x => x.1 == a.module && x.2.1 == a.die).map (·.2.2)).getD 0 else 0

/-- Store a die's sticky set. -/
def setSticky (a : MediaAddr) (set : Nat) (s : State) : State :=
  { s with sml := { s.sml with sticky := (a.module, a.die, set) :: s.sml.sticky.filter fun x => !(x.1 == a.module && x.2.1 == a.die) } }

/-- An attempt decodes: every parity check of the descrambled word holds, or the decoder reached that. -/
def CwAttempt.ok (t : CwAttempt) (a : MediaAddr) : Bool := isCodeword (scramble a t.raw) || t.decoded

/-- Hard attempts that Table 9.9 allows on a module: step 1, then RETRY_MAX further sets or all of them. -/
def hardAttempts (s : State) (m : Module) : Nat := min m.desc.retrySets (1 + s.fld Reg.fMTL_LDPC_CFG_RETRY_MAX)

/-- A block that a live segment names reads as erased: the segment is rebuilt by relocation without that member, the block is retired (08 R197). -/
def blockFoundErased (a : MediaAddr) (s : State) : State :=
  match segmentAt s a with
  | some (x, i) =>
    if !x.live then s
    else
      let sh := ((s.segment x.id).map Prod.fst).getD false
      let s := sealSegment sh x s
      let x := ((s.segment x.id).map Prod.snd).getD x
      let s := putSegment sh { x with erased := insertNat i x.erased, relocate := true } s
      let s := raiseFog 11 (onModule a.module (fun m => { m with mismatch := m.mismatch + 1 }) s)
      match blockAt s a with
      | some b => settleRebuild (retireBlock b s)
      | none => settleRebuild s
  | none => s

/-- A codeword that no step decodes: one erasure of its row and column; its block retires once its grains have moved (06 R156, 08 R189). Grains in a column with more than m erasures are lost (07 R182). -/
def codewordUnreadable (a : MediaAddr) (s : State) : State :=
  let s := onModule a.module (fun m => { m with unreadable := m.unreadable + 1 }) (s.bump Reg.fMTL_LDPC_STATS_UNREADABLE)
  let s := s.putStore false { s.md.store with blocks := updateIf (fun b => some b == blockAt s a) (fun b => { b with suspect := true }) s.md.store.blocks }
  match segmentAt s a with
  | none => s
  | some (x, i) =>
    let c := (a.page, a.codeword, i)
    if x.badCols.contains c then s
    else
      let x := { x with badCols := x.badCols ++ [c] }
      let s := noteSegment x s
      let col := (goneMembers s x ++ (x.badCols.filter fun d => d.1 == a.page && d.2.1 == a.codeword).map (·.2.2)).eraseDups
      let lost := x.m < col.length
      let touches := fun (e : DirEntry) => e.segment == x.id && e.addr.page == a.page && col.contains e.member && e.bytes != 0 &&
        e.addr.codeword ≤ a.codeword && a.codeword * 4096 < e.addr.codeword * 4096 + 16 * (e.off16 + e.len16)
      let s := if lost then ((s.md.store.dir ++ s.md.shadow.dir).filter touches).foldl (fun s e => loseGrain e.grain 1 s) (noteSegment { x with relocate := true } s) else s
      settleRebuild s

/-- CODEWORD_READ_ESCALATION (09 R239, Table 9.9): the hard attempts in set order, the first that decodes, else the soft decode at the best set (`soft`), else unreadable. -/
def execCodewordReadEscalation (a : MediaAddr) (hard : List CwAttempt) (soft : Bool) : State → Host.Outcome State Fault Refusal :=
  actPipe fun s =>
    match s.module a.module with
    | none => s
    | some m =>
      let tries := hard.take (hardAttempts s m)
      match tries.head? with
      | none => s
      | some t0 =>
        if readsErased t0.raw then blockFoundErased a (countReads a 1 0 s)
        else match tries.findIdx? (CwAttempt.ok · a) with
        | some i =>
          let s := setSticky a ((firstSet s a + i) % max 1 m.desc.retrySets) (countReads a (i + 1) 0 s)
          if i == 0 then s else s.bump Reg.fMTL_LDPC_STATS_RETRY_OK
        | none =>
          if tries.length < hardAttempts s m then s
          else if soft then
            let s := onModule a.module (fun m => { m with softs := m.softs + 1 }) (countReads a (tries.length + 4) 1 s)
            s.bump Reg.fMTL_LDPC_STATS_SOFT_OK
          else codewordUnreadable a (countReads a (tries.length + 4) 0 s)

end Sys2Proof.Machine
end

