-- ==== Sys2Proof/Machine/Rebuild.lean ====
section
/-!
DEFINITION. Modules and dies that fail, opening segments, rebuild, and its stalls (07_erasure_layouts_and_rebuild.md R174 to R185, R527; 09 R233).
-/
namespace Sys2Proof.Machine

/-! ## Failing modules and dies (09 R233, 07 R174) -/

/-- Segments of this head that name a module and are not retired. -/
def segmentsOn (s : State) (m : Nat) : List Segment := (mySegments s).filter fun x => x.live && x.members.any (·.module == m)

/-- Open segments with an unavailable member are sealed at their last written row; their rows in flight are abandoned (07 R174). -/
def sealBroken (s : State) : State :=
  ((mySegments s).filter fun x => x.st == .open_ && !(goneMembers s x).isEmpty).foldl (fun s y => match s.segment y.id with
    | some (sh, x) =>
      let s := sealSegment sh x s
      (s.wr.rows.filter (·.segment == x.id)).foldl (fun s r => abandonRow r s) s
    | none => s) s

/-- A module is marked FAILED: its open segments are sealed, the vault sets, the domains and the rebuild queue follow. -/
def failModule (i : Nat) (s : State) : State :=
  let s := onModule i (fun m => { m with st := .failed }) s
  settleRebuild (settleRo (rejudge (assignVault (sealBroken s))))

/-- More than a quarter of the dies have failed. -/
def manyDead (m : Module) : Bool := m.desc.dies < 4 * m.deadDies.length

/-- MODULE_REACH_CHECK (09 R233): the next test at a multiple of 10 ms; a module that the partner reaches counts as reached now. -/
def execModuleReachCheck : State → Host.Outcome State Fault Refusal :=
  act fun s =>
    let s := s.reach ((s.now / (10 * ms) + 1) * (10 * ms))
    s.media.modules.foldl (fun (s : State) m =>
      if m.st == .absent || m.st == .failed then s
      else if partnerPresent s && s.sml.partnerReach.contains m.index && !manyDead m then
        s.putModule { m with reachedAt := s.now }
      else if m.reachedAt + 2 * sec ≤ s.now || manyDead m then failModule m.index s
      else s) s

/-- DIE_FAULT (09 R233): DIE_RESET follows; a third fault within 10 s marks the die failed, and rebuild takes its members. -/
def execDieFault (module : Fin 256) (die : Fin 128) : State → Host.Outcome State Fault Refusal :=
  act fun s => match s.module module.val with
  | none => s
  | some m =>
    let a : MediaAddr := { oneBit := false, module := m.index, die := die.val, plane := 0, block := 0, page := 0, codeword := 0 }
    let faults := (m.dieFaults.filter fun f => s.now < f.2 + 10 * sec) ++ [(die.val, s.now)]
    let dead := 3 ≤ (faults.filter (·.1 == die.val)).length
    let s := issueAt .dieReset a (.reset m.index die.val) (s.putModule { m with dieFaults := faults })
    if dead && !m.deadDies.contains die.val then
      settleRebuild (sealBroken (onModule m.index (fun m => { m with deadDies := insertNat die.val m.deadDies }) s))
    else s

/-- SEGMENT_OPEN (07 R171, 08 R190, R191; 10 R248): a packer, folding, relocation or the metadata (`use_` 0 to 3) opens its next segment. -/
def execSegmentOpen (domain : Fin 8) (use_ : Fin 4) : State → Host.Outcome State Fault Refusal :=
  actPipe fun s =>
    let d := if use_.val == 3 then 0 else domain.val
    match openSegment d (use_.val == 0) use_.val (fun _ => false) s with
    | some p => p.2
    | none => settleRo s

/-! ## Moving a segment's grains (08 R196) -/

/-- Bytes that an open segment of a domain's code takes: W native blocks. -/
def segmentBytes (s : State) (d : Nat) : Nat :=
  match (s.domain d).code with
  | some c => (c.1 + c.2) * (((activeModules s d).map fun m => blockBytes m false).foldl max 0)
  | none => 0

/-- A grain sits in an open row, or waits for one. -/
def isPacked (s : State) (g : Nat) : Bool := (s.wr.rows.flatMap (·.grains) ++ s.wr.unpacked.map (·.2.2)).any fun p => p.hdr.grainId == g

/-- Move what the reads brought of a segment: a grain with count 0 is dead, a lost one is not copied (08 R196 step 1). -/
def moveGrains (folding : Bool) (x : Segment) (reads : List (Nat × GrainRead)) (s : State) : State :=
  let pk := if folding then 66 else 67
  (entriesOn s x.id).foldl (fun s e =>
    if e.refs == 0 || isPacked s e.grain then s
    else match (reads.find? (·.1 == e.grain)).map Prod.snd with
    | none => s
    | some (.clean h) => packOrWait pk x.pdom (movedGrain e h !folding) s
    | some (.rebuilt h) => packOrWait pk x.pdom (movedGrain e h !folding) s
    | some (.lost c) => loseGrain e.grain c s) s

/-- Grains that a mover of a domain could not place. -/
def noPlace (s : State) (d : Nat) : Bool := s.wr.unpacked.any fun u => (u.1 == 66 || u.1 == 67) && u.2.1 == d

/-- Claim a segment for a move and move what the reads brought; it is retired once the last grain has left. -/
def moveSegment (claim : SegClaim) (folding : Bool) (id : Nat) (reads : List (Nat × GrainRead)) (s : State) : State :=
  match s.segment id with
  | none => s
  | some (sh, y) =>
    let s := sealSegment sh y s
    let x := ((s.segment id).map Prod.snd).getD y
    let x := { x with claim := claim, refresh := none }
    let s := if claim == .rebuild then putSegment sh { x with st := .rebuilding } s else noteSegment x s
    finishMoves (moveGrains folding x reads s)

/-- A retiring module that no live segment of the pair names any more leaves: its record and pools go, the lease set changes, and its job ends with that (07 R169, 11 R282). -/
def settleRetires (s : State) : State :=
  (s.media.modules.filter fun m => m.st == .retiring && !((allSegments s).any fun x => x.live && x.members.any (·.module == m.index))).foldl
    (fun s m =>
      let job := s.ctl.jobs.find? fun j => j.work == .retire m.index && !j.ended
      let st := s.md.store
      let s := { s with media := { s.media with modules := s.media.modules.filter (·.index != m.index) } }
      let s := s.putStore false { st with blocks := st.blocks.filter (·.module != m.index) }
      let s := settleRo (rejudge (assignVault s))
      changeLset (s.peer.lset.filter (· != m.index)) (job.map (·.slot)) s) s

/-! ## Rebuild (07 R178 to R182) -/

/-- A segment has a member on a module that is retiring or worn out. -/
def mustLeave (s : State) (x : Segment) : Bool :=
  x.live && x.members.any fun a => (s.module a.module).any fun m => m.st == .retiring || m.st == .wornOut

/-- Bytes live on the unavailable members. -/
def goneBytes (s : State) (x : Segment) : Nat := x.liveBytes * (goneMembers s x).length / max 1 x.k

/-- A segment stands in the rebuild queue: degraded or to leave, claimed by nothing else, its substitution not waiting for its transaction (07 R181). -/
def rebuildable (s : State) (x : Segment) : Bool :=
  (degraded s x || mustLeave s x) && (x.claim == .none || x.claim == .rebuild) && !(s.media.rebuilds.any (·.segment == x.id))

/-- Class 1: a row at its last redundancy (07 Table 7.4). -/
def classOne (s : State) (x : Segment) : Bool := degraded s x && segmentR s x == 0

/-- The segment rebuilt next: class 1 first, then class 3 unless PAUSE or a stall stops it; lowest r, then most bytes on unavailable members, then lowest ID (07 R180, R181). -/
def nextRebuild (s : State) : Option Segment :=
  let q := (mySegments s).filter (rebuildable s)
  let cost := fun (x : Segment) => ((if degraded s x then segmentR s x else x.m + 1) * 2 ^ 64 + (2 ^ 63 - goneBytes s x)) * 2 ^ 32 + x.id
  match leastBy cost (q.filter (classOne s)) with
  | some x => some x
  | none =>
    if s.flag Reg.fMTL_REBUILD_CFG_PAUSE then none
    else leastBy cost (q.filter fun x => !(s.domain x.pdom).stalled)

/-- Members that a substitution replaces: the unavailable ones and those with unreadable codewords. -/
def toReplace (s : State) (x : Segment) : List Nat := (goneMembers s x ++ x.badCols.map (·.2.2)).eraseDups

/-- A replacement block for a member, outside the segment and the targets chosen so far (07 R178, R171). -/
def pickTarget (s : State) (x : Segment) (keep : List Nat) : Option Block :=
  let ms := (s.media.modules.filter fun m => m.pdom == x.pdom && m.st == .active)
  let stay := (keep.filterMap fun i => s.module i)
  let names := x.members.map (·.module)
  match pickMembers s ms x.oneBit (perDomainMax ms (x.k + x.m) x.m) (fun m => !(names.contains m.index)) 1 stay with
  | some l => l.getLast?.bind fun m => pickBlock s m x.oneBit
  | none => none

/-- Choose and take a target for each member; the record says eraseQueued, so that after a restart the block is free and erased before reuse (07 R179). None when one is missing. -/
def chooseTargets (x : Segment) : List Nat → List Nat → State → Option (List RebuildTx × State)
  | [], _, s => some ([], s)
  | i :: t, keep, s =>
    match pickTarget s x keep with
    | none => none
    | some b =>
      let s := oneDelta false (.blockSet { b with st := .eraseQueued }) s
      let same := fun (y : Block) => y.module == b.module && y.die == b.die && y.plane == b.plane && y.block == b.block
      let s := s.putStore false { s.md.store with blocks := updateIf same (fun y => { y with st := .inSegment }) s.md.store.blocks }
      (chooseTargets x t (keep ++ [b.module]) s).map fun p =>
        ({ segment := x.id, member := i, target := blockAddr b, moved := [] } :: p.1, p.2)

/-- Rebuild stops for want of space in a domain: STATE 3, read-only, Fog (07 R185); for a worn-out module the same without a stall (08 R206). -/
def stall (d : Nat) (worn : Bool) (s : State) : State :=
  let x := s.domain d
  settleRebuild (settleRo (s.putDomain d (if worn then { x with noRoom := true } else { x with stalled := true })))

/-- Grains on unavailable members of a segment whose rows hold more than m erasures are lost; the segment is rebuilt by relocation (07 R182). -/
def loseBeyond (x : Segment) (s : State) : State :=
  let gone := goneMembers s x
  if x.m < gone.length then
    let s := ((entriesOn s x.id).filter fun e => gone.contains e.member).foldl (fun s e => loseGrain e.grain 1 s) s
    match s.segment x.id with
    | some (sh, y) => putSegment sh { y with relocate := true } s
    | none => s
  else s

/-- The live fraction is at or below RELOCATE_PCT. -/
def sparse (s : State) (x : Segment) : Bool :=
  x.liveBytes * 100 ≤ s.fld Reg.fMTL_REBUILD_CFG_RELOCATE_PCT * (x.k * x.rows * 16384)

/-- Rebuild a segment in its way (07 R178): folding in one-bit mode, relocation, or substitution. -/
def rebuildOne (y : Segment) (reads : List (Nat × GrainRead)) (s : State) : State :=
  let s := loseBeyond y s
  let x := ((s.segment y.id).map Prod.snd).getD y
  let leave := mustLeave s x
  let worn := !(degraded s x) && x.members.any fun a => (s.module a.module).any (·.st == .wornOut)
  let lost := reads.any fun r => match r.2 with | .lost _ => true | _ => false
  if !x.metadata && (x.oneBit || x.relocate || sparse s x || leave || lost || (s.domain x.pdom).stalled) then
    let s := moveSegment .rebuild x.oneBit x.id reads s
    if noPlace s x.pdom then stall x.pdom worn s else settleRebuild s
  else
    let out := if leave && !degraded s x
      then (x.members.zipIdx.filter fun p => (s.module p.1.module).any fun m => m.st == .retiring || m.st == .wornOut).map Prod.snd
      else toReplace s x
    let keep := ((x.members.zipIdx.filter fun p => !(out.contains p.2)).map (·.1.module))
    let sh := ((s.segment x.id).map Prod.fst).getD false
    match chooseTargets x out keep s with
    | none => stall x.pdom worn s
    | some (txs, s) =>
      let s := putSegment sh { x with st := .rebuilding, claim := .rebuild } s
      settleRebuild { s with media := { s.media with rebuilds := s.media.rebuilds ++ txs } }

/-- REBUILD_SEGMENT: the next segment of the queue; `reads` is what the reads of its live grains gave. -/
def execRebuildSegment (reads : List (Nat × GrainRead)) : State → Host.Outcome State Fault Refusal :=
  actPipe fun s =>
    let s := finishMoves s
    match nextRebuild s with
    | some x => settleRetires (rebuildOne x reads (sealBroken s))
    | none => settleRetires (settleRebuild s)

/-- The directory entries of a member follow it to its new block. -/
def moveEntries (r : RebuildTx) (es : List DirEntry) (t : Tx) : Tx :=
  es.foldl (fun t e => if e.member == r.member then
    t.addAt (t.s.grainShadow e.grain) (.dirSet { e with addr := { r.target with page := e.addr.page, codeword := e.addr.codeword } }) else t) t

/-- A member's old block, when its module still serves, is retired after its grains have moved (08 R189), or freed for erase when it only had to leave. -/
def leaveBlock (a : MediaAddr) (s : State) : State :=
  match blockAt s a with
  | none => s
  | some b =>
    if memberGone s a then oneDelta false (.blockSet { b with st := .retired }) s
    else if b.suspect then retireBlock b s
    else issueAt .erase a (.eraseBlock a.module a.die a.plane a.block) (oneDelta false (.blockSet { b with st := .eraseQueued }) s)

/-- REBUILD_TRANSACTION_DURABLE (07 R178, R179): a segment's new members and the addresses of their live grains stand in one durable transaction. -/
def execRebuildTransactionDurable (segment : Nat) : State → Host.Outcome State Fault Refusal :=
  actPipe fun s =>
    let txs := s.media.rebuilds.filter (·.segment == segment)
    match s.segment segment with
    | none => s
    | some (sh, x) =>
      if txs.isEmpty then s
      else
        let s := { s with media := { s.media with rebuilds := s.media.rebuilds.filter (·.segment != segment) } }
        let gone := txs.map (·.member)
        let members := txs.foldl (fun ms r => ms.set r.member r.target) x.members
        let x' := { x with members := members, erased := x.erased.filter fun i => !(gone.contains i), st := .sealed, claim := .none,
                           badCols := x.badCols.filter fun c => !(gone.contains c.2.2) }
        let es := entriesOn s segment
        let t := (Tx.start s).add sh (.segSet x')
        let t := txs.foldl (fun t r => (moveEntries r es t).add false (.blockSet
          (((blockAt t.s r.target).map fun b => { b with st := .inSegment }).getD
            { module := r.target.module, die := r.target.die, plane := r.target.plane, block := r.target.block, erases := 0, reads := 0,
              st := .inSegment, oneBit := x.oneBit, soft := 0, suspect := false, aside := false }))) t
        let s := pairsAdd (members.map (·.module)) true (pairsAdd (x.members.map (·.module)) false t.commit)
        let old := gone.filterMap fun i => x.members[i]?
        settleRetires (settleRebuild (old.foldl (fun s a => leaveBlock a s) s))

/-- Space covers the next segment that rebuild would write: outside the reserves, or in a reserve that is whole again (07 R185). -/
def spaceBack (s : State) (d : Nat) : Bool :=
  let need : Int := segmentBytes s d
  need ≤ freeSpace s d || (0 ≤ freeSpace s d && (need ≤ rebuildReserve s d || need ≤ gcReserve s d))

/-- FREE_SPACE_CHANGE (07 R185, R527): stalls and read-only states end where their condition has ended. -/
def execFreeSpaceChange : State → Host.Outcome State Fault Refusal :=
  actPipe fun s =>
    let s := packWaiting s
    let s := (List.range 8).foldl (fun (s : State) d =>
      let x := s.domain d
      if (x.stalled || x.noRoom) && spaceBack s d then s.putDomain d { x with stalled := false, noRoom := false } else s) s
    settleRebuild (settleRo s)

end Sys2Proof.Machine
end

