-- ==== Sys2Proof/Machine/Flash.lean ====
section
/-!
DEFINITION. Folding, garbage collection, refresh, wear levelling, erase, the retention clock and checkpoints (08_flash_management.md R187 to R207);
MODULE_LIST and LAYOUT_SET (07 R162, R169).
-/
namespace Sys2Proof.Machine

/-! ## Folding (08 R191, R192) -/

/-- Blocks of a domain's pools of a mode, in the modules that serve. -/
def domainPool (s : State) (d : Nat) (oneBit : Bool) : List Block :=
  (s.media.modules.filter fun m => m.pdom == d && (m.st == .active || m.st == .retiring || m.st == .wornOut)).flatMap fun m => poolBlocks s m.index oneBit

/-- Fill of a domain's one-bit pool in %. -/
def oneBitFill (s : State) (d : Nat) : Nat :=
  let p := domainPool s d true
  pct (p.filter fun b => !(b.st == .erased || b.st == .eraseQueued)).length p.length

/-- Free blocks of a domain's native pool in %. -/
def freeNative (s : State) (d : Nat) : Nat :=
  let p := domainPool s d false
  pct (p.filter fun b => b.st == .erased || b.st == .eraseQueued).length p.length

/-- Folding starts at FOLD_START_PCT and runs until the pool falls 10 points below. -/
def settleFolding (d : Nat) (s : State) : State :=
  let fill := oneBitFill s d
  let start := s.fld Reg.fMTL_FM_CFG_FOLD_START_PCT
  let x := s.domain d
  s.putDomain d { x with folding := if start ≤ fill then true else if fill + 10 ≤ start then false else x.folding }

/-- Sealed segments of a domain and mode that nothing else has claimed. -/
def sealedOf (s : State) (d : Nat) (oneBit : Bool) (claim : SegClaim) : List Segment :=
  (mySegments s).filter fun x => x.st == .sealed && x.pdom == d && x.oneBit == oneBit && !x.metadata && (x.claim == .none || x.claim == claim)

/-- A segment with no live bytes is retired without copying (08 R192, R194). -/
def retireEmpty (d : Nat) (oneBit : Bool) (claim : SegClaim) (s : State) : State :=
  ((sealedOf s d oneBit claim).filter fun x => (entriesOn s x.id).isEmpty && (x.lastMove == 0 || txnDurable s (x.lastMove - 1))).foldl (fun s y => match s.segment y.id with
    | some (sh, x) => retireSegment sh x s
    | none => s) s

/-- The segment folded next: the one begun, then one due by retention, highest fraction first, then the first sealed while folding runs (08 R192, R203). -/
def nextFold (s : State) (d : Nat) : Option Segment :=
  let c := sealedOf s d true .fold
  match c.find? (·.claim == .fold) with
  | some x => some x
  | none =>
    match leastBy (fun x => 2 ^ 32 - x.refresh.getD 0) (c.filter fun x => 0 < x.refresh.getD 0) with
    | some x => some x
    | none => if (s.domain d).folding then leastBy (fun x => x.sealAt * 2 ^ 32 + x.id) c else none

/-- FOLD (08 R192): a domain's folding takes its next segment; `reads` is what the reads of its live grains gave. -/
def execFold (domain : Fin 8) (reads : List (Nat × GrainRead)) : State → Host.Outcome State Fault Refusal :=
  actPipe fun s =>
    let d := domain.val
    let s := settleFolding d (retireEmpty d true .fold (finishMoves s))
    match nextFold s d with
    | some x => moveSegment .fold true x.id reads s
    | none => s

/-! ## Garbage collection (08 R194 to R196) -/

/-- Garbage collection starts below GC_START_PCT and stops 5 points above. -/
def settleCollecting (d : Nat) (s : State) : State :=
  let free := freeNative s d
  let start := s.fld Reg.fMTL_FM_CFG_GC_START_PCT
  let x := s.domain d
  s.putDomain d { x with collecting := if free < start then true else if start + 5 ≤ free then false else x.collecting }

/-- Live and whole bytes of a segment: u is their quotient (08 R195). -/
def useOf (x : Segment) : Nat × Nat := (x.liveBytes / 1024 * 1024, x.k * x.rows * 16384)

/-- Age of a segment in hours, at least 1. -/
def ageOf (s : State) (x : Segment) : Nat := max 1 (s.media.hour - x.sealHour)

/-- Segment `x` comes before `y` for garbage collection: higher score, or lower u when urgent; ties to the lower SEG_ID. -/
def collectBefore (s : State) (urgent : Bool) (x y : Segment) : Bool :=
  let a := useOf x
  let b := useOf y
  let l := if urgent then b.1 * a.2 else (a.2 - a.1) * ageOf s x * (b.2 + b.1)
  let r := if urgent then a.1 * b.2 else (b.2 - b.1) * ageOf s y * (a.2 + a.1)
  r < l || (r == l && x.id < y.id)

/-- The first of a list under an order. -/
def firstBy {α : Type} (before : α → α → Bool) : List α → Option α
  | [] => none
  | x :: t => match firstBy before t with
    | none => some x
    | some y => if before y x then some y else some x

/-- The segment collected next. -/
def nextCollect (s : State) (d : Nat) : Option Segment :=
  let c := sealedOf s d false .gc
  match c.find? (·.claim == .gc) with
  | some x => some x
  | none =>
    if (s.domain d).collecting then firstBy (collectBefore s (freeNative s d < s.fld Reg.fMTL_FM_CFG_GC_URGENT_PCT)) c else none

/-- GARBAGE_COLLECTION (08 R194, R195). -/
def execGarbageCollection (domain : Fin 8) (reads : List (Nat × GrainRead)) : State → Host.Outcome State Fault Refusal :=
  actPipe fun s =>
    let d := domain.val
    let s := settleCollecting d (retireEmpty d false .gc (finishMoves s))
    match nextCollect s d with
    | some x => moveSegment .gc false x.id reads s
    | none => s

/-! ## Erase (08 R196, R199) -/

/-- RELOCATION_ERASE: state 3 is durable and no read pin is left; the blocks of the source are erased, and its entry goes. Nothing is erased on an unavailable member (07 R179). -/
def execRelocationErase (segment : Nat) : State → Host.Outcome State Fault Refusal :=
  actPipe fun s => match s.segment segment with
  | none => s
  | some (sh, x) =>
    if x.st != .retired || !x.gone || s.rd.pins.contains x.id then s
    else
      let blks := x.members.filterMap fun a => if memberGone s a then none else (blockAt s a).map fun b => (a, b)
      let t := blks.foldl (fun (t : Tx) p => if p.2.st == .inSegment then t.add false (.blockSet { p.2 with st := .eraseQueued }) else t) (Tx.start s)
      let s := settleRetires (t.add sh (.segDel x.id)).commit
      blks.foldl (fun s p => if p.2.st == .inSegment then issueAt .erase p.1 (.eraseBlock p.1.module p.1.die p.1.plane p.1.block) s else s) s

/-- BLOCK_ERASE_COMPLETE: the block is free, or retired when the erase failed or a codeword on it had been unreadable; grains that waited for a block are packed (08 R189, R193, R199). -/
def execBlockEraseComplete (a : MediaAddr) (ok : Bool) : State → Host.Outcome State Fault Refusal :=
  actPipe fun s => match blockAt s a with
  | none => s
  | some b =>
    if b.st != .eraseQueued then s
    else
      let s :=
        if ok then
          let b' := { b with st := .erased, erases := min 0xFFFFFFFF (b.erases + 1), reads := 0, soft := 0, suspect := false }
          let s := oneDelta false (.blockSet b') s
          if b.suspect then retireBlock b' s else s
        else retireBlock b (onModule b.module (fun m => { m with eraseFails := m.eraseFails + 1 }) s)
      settleRo (packWaiting s)

/-! ## Wear levelling and refresh (08 R198, R199, R203) -/

/-- Native or one-bit blocks that count for a module's mean erase count. -/
def wearPool (s : State) (m : Nat) (oneBit : Bool) : List Block :=
  s.md.store.blocks.filter fun b => b.module == m && b.oneBit == oneBit && !b.aside && b.st != .retired && b.st != .spare

/-- The segment that static levelling moves off a module: the one on the lowest erase count, when the mean exceeds that by more than WL_DELTA_PCT of the rated endurance. -/
def nextLevel (s : State) (m : Module) (oneBit : Bool) : Option Segment :=
  let p := wearPool s m.index oneBit
  let holds := fun (b : Block) => (mySegments s).find? fun x => x.st == .sealed && x.claim == .none && !x.metadata && x.members.any fun a =>
    a.module == b.module && a.die == b.die && a.plane == b.plane && a.block == b.block
  match leastBy Block.erases (p.filter fun b => (holds b).isSome) with
  | none => none
  | some b =>
    let rated := if oneBit then m.desc.endOneBit else m.desc.endNative
    let excess := (p.map Block.erases).sum - b.erases * p.length
    if s.fld Reg.fMTL_FM_CFG_WL_DELTA_PCT * rated * p.length < excess * 100 then holds b else none

/-- STATIC_WEAR_LEVELLING: at most one segment per module moves at a time. -/
def execStaticWearLevelling (module : Fin 256) (reads : List (Nat × GrainRead)) : State → Host.Outcome State Fault Refusal :=
  actPipe fun s =>
    let s := finishMoves s
    match s.module module.val with
    | none => s
    | some m =>
      match (mySegments s).find? fun x => x.claim == .level && x.st != .retired && x.members.any (·.module == m.index) with
      | some x => moveSegment .level false x.id reads s
      | none =>
        match nextLevel s m false, nextLevel s m true with
        | some x, _ => moveSegment .level false x.id reads s
        | none, some x => moveSegment .level false x.id reads s
        | none, none => s

/-- READ_DISTURB_REFRESH: the queued segments are relocated, highest age fraction first; one-bit segments due by retention are left to folding. -/
def execReadDisturbRefresh (reads : List (Nat × GrainRead)) : State → Host.Outcome State Fault Refusal :=
  actPipe fun s =>
    let s := finishMoves s
    let mine := (mySegments s).filter fun x => x.st == .sealed && !x.metadata
    let next := match mine.find? (·.claim == .refresh) with
      | some x => some x
      | none => leastBy (fun x => 2 ^ 32 - x.refresh.getD 0) (mine.filter fun (x : Segment) => x.claim == SegClaim.none && x.refresh.isSome && (!x.oneBit || x.refresh == some 0))
    match next with
    | some x => moveSegment .refresh false x.id reads s
    | none => s

/-! ## The retention clock (08 R201 to R203) -/

/-- 105 °C in 0.01 K, at which an interval without a sample is charged. -/
abbrev noSample : Nat := 37815

/-- Charge a module's E with an interval at a temperature in 0.01 K. -/
def chargeE (dt t : Nat) (m : Module) : Module := { m with e := m.e + dt * Config.accel m.desc.eaMeV m.desc.refTemp t / 65536 }

/-- Charge E up to now: at `t` up to 20 s after the last valid sample, at 105 °C from then on; without a temperature only the part past the 20 s (17 R418). -/
def chargeNow (now : Nat) (t : Option Nat) (m : Module) : Module :=
  let edge := max m.chargedTo (min now (m.sampledAt + 20 * sec))
  match t with
  | some t => { chargeE (now - edge) noSample (chargeE (edge - m.chargedTo) t m) with chargedTo := now, sampledAt := now }
  | none =>
    if now ≤ m.sampledAt + 20 * sec then m
    else { chargeE (now - edge) noSample (chargeE (edge - m.chargedTo) (m.tempK * 100) m) with chargedTo := now }

/-- NAND_TEMPERATURE_SAMPLE: every 10 s Keeper B samples an ACTIVE module by TEMP_READ, in 0.01 K here; none when no sample comes. -/
def execNandTemperatureSample (module : Fin 256) (temp : Option Nat) : State → Host.Outcome State Fault Refusal :=
  act fun s => match s.module module.val with
  | none => s
  | some m =>
    if !s.background || m.st != .active then s
    else
      let s := s.reach (m.triedAt + 10 * sec)
      let m := chargeNow s.now temp { m with triedAt := s.now }
      match temp with
      | none => s.putModule m
      | some t =>
        let hot := m.maxTempK < t / 100
        let m := { m with tempK := t / 100, maxTempK := max m.maxTempK (t / 100), maxTempH := if hot then s.media.hour else m.maxTempH }
        let c : Int := (t : Int) - 27315
        let s := { s.putModule m with kpr := { s.kpr with sensors := putBy Sensor.index { index := 104 + m.index, value := c, at_ := s.now } s.kpr.sensors } }
        logExtreme 2 c (104 + m.index) (fun a b => b < a) s

/-- E of a module at the end of an hour: the latest entry up to it; the hour that runs has none yet. -/
def eAt (m : Module) (now h : Nat) : Nat :=
  if now ≤ h then m.e else (m.history.filter fun x => x.1 ≤ h).foldl (fun e x => max e x.2) 0

/-- Age of a segment's oldest member in ‰ of its module's retention limit. -/
def ageFraction (s : State) (x : Segment) : Nat :=
  (x.members.map fun a => match s.module a.module with
    | some m =>
      let limit := (if x.oneBit then m.desc.retOneBit else m.desc.retNative) * hour
      if limit = 0 then 0 else (m.e - eAt m s.media.hour x.sealHour) * 1000 / limit
    | none => 0).foldl max 0

/-- End the hour that runs: each module's E enters its history, hours before the oldest SEAL_HOUR go, H rises by `n`. -/
def passHours (n : Nat) (s : State) : State :=
  let h := s.media.hour
  let oldest := ((allSegments s).filter fun x => x.live && x.st != .open_).foldl (fun o x => min o x.sealHour) h
  let note := fun (m : Module) => { m with history := (m.history.filter fun x => oldest ≤ x.1) ++ [(h, m.e)] }
  { s with media := { s.media with hour := h + n, modules := s.media.modules.map note } }

/-- Queue every segment whose oldest member has reached RET_PCT of its limit. -/
def checkRetention (s : State) : State :=
  ((mySegments s).filter fun x => x.st == .sealed && x.claim == .none && s.fld Reg.fMTL_RET_CFG_RET_PCT * 10 ≤ ageFraction s x).foldl
    (fun s x => queueRefresh x.id (ageFraction s x) s) s

/-- RETENTION_CHECK: an hour of H ends and every segment is judged. -/
def execRetentionCheck : State → Host.Outcome State Fault Refusal :=
  act fun s =>
    if !s.background then s
    else
      let s := s.reach (s.media.hourAt + hour)
      checkRetention (passHours 1 { s with media := { s.media with hourAt := s.now } })

/-- Charge a power-off time in ns: H advances by its whole hours, E at 105 °C (08 R201, R202). -/
def chargeOff (ns : Nat) (s : State) : State :=
  if s.media.offCharged then s
  else
    let s := passHours (ns / hour) s
    { s with media := { s.media with offCharged := true, modules := s.media.modules.map (chargeE ns noSample) } }

/-- WALL_WAIT_EXPIRY: no wall-clock within WALL_WAIT_S of start. -/
def execWallWaitExpiry : State → Host.Outcome State Fault Refusal :=
  act fun s =>
    let s := s.reach (s.media.startAt + s.fld Reg.fMTL_RET_CFG_WALL_WAIT_S * sec)
    if s.media.wallKnown || s.media.offCharged then s
    else fire 149 ((chargeOff (s.fld Reg.fMTL_RET_CFG_OFF_UNKNOWN_H * hour) s).setFlag Reg.fMTL_RET_STATUS_RET_GUESS true)

/-- A lock that holds hours, turned into an expiry from now (10 R268). -/
def convertLock (w : Nat) (l : Lock) : Lock := match l with
  | .hours h => .expiry (w + 3600 * h)
  | l => l

/-- WALL_CLOCK_KNOWN (10 R268, 08 R201): the power-off time is charged, and the locks of the entries this head keeps are converted. -/
def execWallClockKnown : State → Host.Outcome State Fault Refusal :=
  act fun s => match s.wall with
  | none => s
  | some w =>
    if s.media.wallKnown then s
    else
      let s := { s with media := { s.media with wallKnown := true } }
      let s := match s.media.ckptWall with
        | some c => chargeOff (w - (s.now - s.media.startAt) - c) s
        | none => s
      let kept := s.md.store.snaps.map (fun x => (false, x)) ++ (if s.peer.survivor then s.md.shadow.snaps.map (fun x => (true, x)) else [])
      (kept.foldl (fun (t : Tx) p => match p.2.lock with
        | .hours _ => t.add p.1 (.snapSet { p.2 with lock := convertLock (w / sec) p.2.lock })
        | _ => t) (Tx.start s)).commit

/-! ## Checkpoints (08 R207) -/

/-- H, E and JSEQ_RETIRED as they stand. -/
def clockNow (s : State) : CkptClock :=
  { hour := s.media.hour, ages := s.media.modules.map fun m => (m.index, m.e, m.history), retired := s.wr.jseqRetired }

/-- CHECKPOINT: 30 s after the last one began, or at 4 GiB of log: P, and the state that the record will name. -/
def execCheckpoint : State → Host.Outcome State Fault Refusal :=
  actPipe fun s =>
    if s.media.ckptP.isSome || !s.media.ioAdmitted then s
    else
      let s := if 4 * 2 ^ 30 ≤ s.media.logBytes then s else s.reach (s.media.ckptFrom + 30 * sec)
      let s := match s.md.log.getLast? with
        | some p => if p.sent then s else sendLogPage p s
        | none => s
      { s with media := { s.media with ckptP := some s.md.lpseq, ckptFrom := s.now, ckptTaking := clockNow s, ckptTaken := s.wall,
                                       ckptFreed := s.md.freedSnaps },
               md := { s.md with dirty := [], taking := s.md.store, takingShadow := if s.peer.survivor then s.md.shadow else s.md.takingShadow },
               wr := { s.wr with ring := s.wr.ring.map fun e => { e with deltas := [] } } }

/-- CHECKPOINT_DURABLE: both copies of the record are durable; restart uses it, the log before P goes, RELEASED grains become FREE, freed IDs may be used again (10 R261, R264; 12 R313). -/
def execCheckpointDurable : State → Host.Outcome State Fault Refusal :=
  actPipe fun s => match s.media.ckptP with
  | none => s
  | some p =>
    let log := s.md.log.filter fun x => p ≤ x.lpseq
    let s := { s with
      media := { s.media with ckptP := none, ckptBase := p, ckptWall := s.media.ckptTaken, ckptClock := s.media.ckptTaking, ckptAt := s.now, ckptCount := s.media.ckptCount + 1,
                              logBytes := (log.map LogPage.bytes).sum },
      md := { s.md with saved := s.md.taking, savedShadow := s.md.takingShadow, log := log, freedSnaps := s.md.freedSnaps.filter fun i => !(s.media.ckptFreed.contains i) },
      hup := { s.hup with uncovered := s.hup.uncovered.filter fun u => !(u.1 == s.peer.head && u.2 < s.media.ckptTaking.retired) } }
    let free := s.md.taking.dir.filter fun e => e.st == .released && (s.md.store.dirOf e.grain).any (·.st == .released)
    settleRetires (finishMoves ((free.foldl (fun (t : Tx) e => t.add false (.dirSet { e with st := .free })) (Tx.start s)).commit))

/-- CHECKPOINT_OVERDUE: no checkpoint has become durable for 60 s. -/
def execCheckpointOverdue : State → Host.Outcome State Fault Refusal :=
  actPipe fun s => if s.media.ioAdmitted then fire 150 (s.reach (s.media.ckptAt + 60 * sec)) else s

/-! ## MODULE_LIST and LAYOUT_SET (07 R162, R169) -/

/-- Entry of an admitted module (09 Table 9.7). -/
def moduleEntry (s : State) (m : Module) : ModuleEntry :=
  let p := portOf s m.index
  let a := p.bind fun p => (s.mport p).attached
  let st := fun (f : Fld) => match p with
    | some p => s.fld f p
    | none => 0
  { desc := m.desc, index := some m.index, port := p, st := m.st, modPort := (a.map Attached.modPort).getD 0,
    gen := st Reg.fSML_PORT_STATUS_GEN, otherGen := (a.map Attached.otherGen).getD 0, fenced := st Reg.fSML_PORT_STATUS_FENCED == 1,
    otherFenced := (a.map Attached.otherFenced).getD false, forwarded := st Reg.fSML_PORT_STATUS_FORWARDED == 1,
    width := st Reg.fSML_PORT_STATUS_WIDTH, deadDies := m.deadDies.length }

/-- Entry of a candidate: attached, its WWID that of no admitted module. -/
def candidateEntry (s : State) (p : Nat) : Option ModuleEntry :=
  ((s.mport p).attached.filter fun a => !(s.media.modules.any fun m => m.desc.wwid == a.wwid)).map fun a =>
    { desc := a.desc, index := none, port := some p, st := .absent, modPort := a.modPort, gen := s.fld Reg.fSML_PORT_STATUS_GEN p,
      otherGen := a.otherGen, fenced := s.flag Reg.fSML_PORT_STATUS_FENCED p, otherFenced := a.otherFenced,
      forwarded := s.flag Reg.fSML_PORT_STATUS_FORWARDED p, width := s.fld Reg.fSML_PORT_STATUS_WIDTH p, deadDies := 0 }

/-- Every module entry: admitted modules by index, then candidates by port. -/
def moduleEntries (s : State) : List ModuleEntry :=
  ((List.range 256).filterMap fun i => (s.module i).map (moduleEntry s)) ++ (List.range 256).filterMap (candidateEntry s)

/-- Entry of a placement domain (07 Table 7.7). -/
def domainEntry (s : State) (d : Nat) : DomainEntry :=
  { domain := d, code := ((s.domain d).code).getD (0, 0), readOnly := (s.domain d).readOnly, stalled := (s.domain d).stalled,
    active := (activeModules s d).length, admitted := (s.media.modules.filter fun m => m.pdom == d && m.st != .absent).length,
    native := nativeCapacity s d, free := freeSpace s d, gcRes := gcReserve s d, rebuildRes := rebuildReserve s d, margin := marginBytes s d,
    live := ((allSegments s).filter fun x => x.pdom == d && x.live).foldl (fun n x => n + x.liveBytes) 0 }

/-- MODULE_LIST (07 R169, 09 R232). -/
def execModuleList (r : TaskReq) : State → Host.Outcome State Fault Refusal :=
  let len := bits r.bulkCtrl 31 0
  let sel := r.argBits 1 3 0
  taskCmd { opcode := 0x0801, windows := [0, 3], bulk := .give none } [(1, mask 3 0), (2, mask64)] r fun s =>
    let size := if sel == 0 then 576 else if sel == 1 then 16 else 64
    let count := fun (n : Nat) => [BitVec.ofNat 64 (min (len / size) (n - r.arg 2))]
    let job := fun (n : Nat) (k : State → State) => moved r (startJob 0x0801 r { bulk := true, results := count n } s fun _ s => k s)
    if 3 ≤ sel then .fail cBAD_FIELD 1
    else if len % size != 0 then .fail cBAD_LENGTH 32
    else if sel == 0 then
      let xs := moduleEntries s
      job xs.length fun s => s.send (.bulkModules ((xs.drop (r.arg 2)).take (len / 576)))
    else if sel == 1 then
      let xs := s.md.store.losses
      job xs.length fun s => s.send (.bulkLosses ((xs.drop (r.arg 2)).take (len / 16)))
    else
      let xs := (List.range 8).map (domainEntry s)
      job xs.length fun s => s.send (.bulkDomains ((xs.drop (r.arg 2)).take (len / 64)))

/-- LAYOUT_SET (07 R162): the code of a domain's data segments from now on. -/
def execLayoutSet (r : TaskReq) : State → Host.Outcome State Fault Refusal :=
  taskCmd { opcode := 0x0805, windows := [0] } [(1, mask 2 0 ||| mask 12 8 ||| mask 17 16)] r fun s =>
    let d := r.argBits 1 2 0
    let k := r.argBits 1 12 8
    let m := r.argBits 1 17 16
    if k < 4 || 24 < k || m == 0 then .fail cBAD_FIELD 1
    else if !wideEnough s d (k + m) m then .fail cSTATE_CONFLICT
    else .done (settleRo (s.putDomain d { s.domain d with code := some (k, m) }))

end Sys2Proof.Machine
end

