-- ==== Sys2Proof/Machine/Health.lean ====
section
/-!
DEFINITION. Health values: the SMART log, the vendor pages and HEALTH_READ (08 R211 to R213, 17 R429).
-/
namespace Sys2Proof.Machine

/-- A sensor's value in 0.01 °C as K, 0 without a sample. -/
def sensorK (s : State) (i : Nat) : Nat := ((s.kpr.sensors.find? (·.index == i)).map fun x => ((x.value + 27315) / 100).toNat).getD 0

/-- ACTIVE modules. -/
def actives (s : State) : List Module := s.media.modules.filter (·.st == .active)

/-- Highest of the junction and every ACTIVE module, in K. -/
def compositeK (s : State) : Nat := ((actives s).map (·.tempK)).foldl max (sensorK s 361)

/-- Lowest spare left of factory spare over ACTIVE modules, in %. -/
def availableSpare (s : State) : Nat := ((actives s).map fun m => if m.desc.spares = 0 then 100 else m.sparesLeft * 100 / m.desc.spares).foldl min 100

/-- Highest mean native wear over ACTIVE modules, in %. -/
def percentUsed (s : State) : Nat := min 255 (((actives s).map fun m => wearOf m false s / 10).foldl max 0)

/-- Critical Warning (08 Table 8.5). -/
def criticalWarning (s : State) : Nat :=
  let b := fun (n : Nat) (c : Bool) => if c then 2 ^ n else 0
  b 0 ((actives s).any fun m => m.sparesLeft * 10 < m.desc.spares) + b 1 (358 ≤ compositeK s) +
  b 2 (!s.md.store.losses.isEmpty || !s.md.shadow.losses.isEmpty || !s.md.conflicts.isEmpty) +
  b 3 (s.media.domains.any (·.readOnly)) + b 4 (!s.hup.armed)

/-- The SMART/health log (08 Table 8.5): host counts of both heads, the partner's as last synchronised. -/
def smartLog (s : State) : SmartLog :=
  let a := s.media.traffic
  let b := s.media.partnerTraffic
  { warning := criticalWarning s, composite := compositeK s, spare := availableSpare s, used := percentUsed s,
    unitsRead := a.2.2.1 + b.2.2.1, unitsWritten := a.2.2.2 + b.2.2.2, readCmds := a.1 + b.1, writeCmds := a.2.1 + b.2.1,
    cycles := s.fld Reg.fKPR_POWER_CYCLES_COUNT, hours := s.opHours, unsafeStops := s.media.unsafeShutdowns,
    integrity := s.media.lossesEver, sensor1 := sensorK s 361, sensor2 := ((actives s).map (·.tempK)).foldl max 0 }

/-- Live stored bytes of a domain. -/
def liveOf (s : State) (d : Nat) : Nat := ((allSegments s).filter fun x => x.pdom == d && x.live).foldl (fun n x => n + x.liveBytes) 0

/-- Segments of a domain queued for refresh or retention fold. -/
def queuedOf (s : State) (d : Nat) : Nat := ((allSegments s).filter fun x => x.pdom == d && x.refresh.isSome).length

/-- A domain's entry of page 0xC0. -/
def arrayEntry (s : State) (d : Nat) : ArrayEntry :=
  { native := nativeCapacity s d, free := freeSpace s d, held := gcReserve s d + rebuildReserve s d + marginBytes s d, live := liveOf s d,
    code := ((s.domain d).code).getD (0, 0), oneBit := oneBitFill s d, freeNative := freeNative s d, queued := queuedOf s d }

/-- Domains read-only for new allocation, as a mask. -/
def roMask (s : State) : Nat := ((s.media.domains.zipIdx).map fun p => if p.1.readOnly then 2 ^ p.2 else 0).sum

/-- Modules WORN_OUT. -/
def wornCount (s : State) : Nat := (s.media.modules.filter (·.st == .wornOut)).length

/-- Vendor page 0xC0 (08 Table 8.6). -/
def pageC0 (s : State) : AdminData :=
  .pageC0 s.media.hour (s.flag Reg.fMTL_RET_STATUS_RET_GUESS) (s.flag Reg.fMTL_REBUILD_STATUS_LOSS_OVERFLOW) (roMask s)
    s.md.store.losses.length (wornCount s) ((List.range 8).map (arrayEntry s))

/-- Vendor page 0xC1 (08 Table 8.7): each module's record with its native and one-bit wear in ‰. -/
def pageC1 (s : State) : AdminData := .pageC1 (s.media.modules.map fun m => (m, wearOf m false s, wearOf m true s))

/-- RES words of HEALTH_READ for ARG1 0 (08 R213). -/
def mediaHealth (s : State) : List Word :=
  let w := BitVec.ofNat 64
  [w (criticalWarning s), BitVec.ofInt 64 ((List.range 8).map (freeSpace s)).sum, w ((List.range 8).map (liveOf s)).sum,
   w s.md.store.losses.length, w s.media.hour, w (availableSpare s + 65536 * percentUsed s)]

/-- RES words for ARG1 1: Keeper and chip (17 Table 17.8). -/
def chipHealth (s : State) : List Word :=
  let f := fun (x : Fld) => s.fld x
  let r1 := f Reg.fKPR_STATE_A_STATE + 16 * f Reg.fKPR_STATE_B_STATE + 256 * f Reg.fKPR_LOG_STATUS_FULL +
    512 * f Reg.fKPR_LOG_STATUS_FLASH_A_FAULT + 1024 * f Reg.fKPR_LOG_STATUS_FLASH_B_FAULT
  let t := ((s.kpr.sensors.find? (·.index == 361)).map (·.value)).getD 0
  [BitVec.ofNat 64 r1, BitVec.ofNat 64 (unsigned 32 t), BitVec.ofNat 64 s.opTicks, BitVec.ofNat 64 (f Reg.fKPR_POWER_CYCLES_COUNT),
   BitVec.ofNat 64 s.kpr.records.length]

/-- HEALTH_READ (08 R213, 17 Table 17.8). -/
def execHealthRead (r : TaskReq) : State → Host.Outcome State Fault Refusal :=
  taskCmd { opcode := 0x0A01, windows := [0, 1, 2, 3] } [(1, mask64)] r fun s =>
    match r.arg 1 with
    | 0 => .done s cOK 0 (mediaHealth s)
    | 1 => .done s cOK 0 (chipHealth s)
    | 2 => .done s cOK 0 ((List.range 24).map fun b => s.word (Reg.MEM_BUCKET_STATUS.base + 8 * b))
    | _ => .fail cBAD_FIELD 1

end Sys2Proof.Machine
end

