-- ==== Sys2Proof/Machine/HostConn.lean ====
section
/-!
DEFINITION. Associations: the access directory, Connect, authentication, TLS, properties, features, logs, events, and their end
(04_host_front_end.md R83 to R93, R99, R103, R107; 08 R211, R212).
-/
namespace Sys2Proof.Machine

/-! ## Ending commands and associations (04 R101, R103) -/

/-- A command ends without a completion: its pins are released, its context is freed, its place in the ring queue goes. -/
def endCmd (x : HostCmd) (s : State) : State :=
  let s := (x.fetches.filterMap (·.segment)).foldl (fun s g => unpinSegment g s) s
  let s := { s with wr := { s.wr with ringWait := s.wr.ringWait.filter (· != (x.cntlid, x.qid, x.cid)) } }
  s.dropCmd x

/-- An association ends (04 R103): its commands end with the transport's abort behaviour and no completion; a journaled write persists; its contexts, queues and connection are freed; its controller ID waits 10 s (R87). -/
def endAssoc (c : Nat) (s : State) : State :=
  match s.assoc c with
  | none => s
  | some _ =>
    let s := (s.host.cmds.filter fun x => x.cntlid == c && x.fwdTag.isNone).foldl (fun s x => endCmd x s) s
    { s.send (.closed c) with
      host := { s.host with assocs := s.host.assocs.filter (·.cntlid != c), waiting := s.host.waiting.filter (·.cntlid != c),
                            flows := s.host.flows.filter (·.flow / 256 != c),
                            tls := s.host.tls.filter (·.assoc != some c), freedIds := s.host.freedIds ++ [{ cntlid := c, at_ := s.now }] },
      peer := { s.peer with fwd := s.peer.fwd.filter (·.cntlid != c) } }

/-- The commands of a host. -/
def assocsOf (s : State) (host : Nat) : List Assoc := s.host.assocs.filter (·.host == host)

/-! ## Asynchronous events (04 R93) -/

/-- Completion Dword 0 of an event: its notice code and log page. -/
abbrev evNamespace : Nat := 0x040002
abbrev evFirmware : Nat := 0x030102
abbrev evAna : Nat := 0x0C0302
abbrev evReservation : Nat := 0x800006

/-- The Asynchronous Event Configuration bit that enables an event; Reservation Log Page Available has none. -/
def eventBit (code : Nat) : Option Nat :=
  if code == evNamespace then some 8 else if code == evFirmware then some 9 else if code == evAna then some 11 else none

/-- Post an event to a controller that enabled it: a request that is held completes with it, else it waits. -/
def postEvent (c code : Nat) (s : State) : State :=
  match s.assoc c with
  | none => s
  | some a =>
    let on := (eventBit code).all fun b => a.aenMask.getLsbD b
    if !on then s
    else match a.aers with
    | cid :: t => answer c 0 cid .success (s.putAssoc { a with aers := t }) code
    | [] => if a.events.contains code then s else s.putAssoc { a with events := a.events ++ [code] }

/-- Post an event to every controller. -/
def postAll (code : Nat) (s : State) : State := s.host.assocs.foldl (fun s a => postEvent a.cntlid code s) s

/-! ## The access directory (04 R88, Table 4.2) -/

/-- An identity by index. -/
def State.ident (s : State) (i : Nat) : Option HostIdent := s.host.directory.find? (·.index == i)

/-- Store an identity. -/
def State.putIdent (s : State) (h : HostIdent) : State := { s with host := { s.host with directory := putBy HostIdent.index h s.host.directory } }

/-- HOST_ADD (04 Table 4.2, 14 R356). `nqn`, `secret` and `psk` are what the bulk data holds, the secrets by their tags in the key store; `opens` says that every wrapped secret opens under its Keeper key. -/
def execHostAdd (r : TaskReq) (nqn : String) (secret psk : Option Nat) (opens : Bool) : State → Host.Outcome State Fault Refusal :=
  taskCmd { opcode := 0x0204, windows := [0], bulk := .take none } [(1, mask 2 0 ||| mask 10 8), (2, mask64), (3, mask64)] r fun s =>
    if nqn.utf8ByteSize == 0 || 223 < nqn.utf8ByteSize then moved r (.fail cBAD_LENGTH 32)
    else if s.host.directory.any (·.nqn == nqn) then moved r (.fail cSTATE_CONFLICT)
    else if 262144 ≤ s.host.directory.length then moved r (.fail cNO_RESOURCE)
    else if !opens then moved r (.fail cAUTH_FAIL)
    else
      let used := s.host.directory.map (·.index)
      let i := ((List.range (used.length + 1)).find? fun i => !used.contains i).getD 0
      let h : HostIdent :=
        { index := i, nqn := nqn, hostId := BitVec.ofNat 128 (r.arg 2 + 2 ^ 64 * r.arg 3), secret := secret, psk := psk, hash := r.argBits 1 10 8,
          authReq := r.argBits 1 0 0 == 1, nsMgmt := r.argBits 1 1 1 == 1, fwUpd := r.argBits 1 2 2 == 1, grants := [] }
      moved r (.done (s.putIdent h) cOK 0 [BitVec.ofNat 64 i])

/-- HOST_REMOVE (04 Table 4.2, R103): the identity goes and its associations end at once. -/
def execHostRemove (r : TaskReq) : State → Host.Outcome State Fault Refusal :=
  taskCmd { opcode := 0x0205, windows := [0] } [(1, mask64)] r fun s =>
    match s.ident (r.arg 1) with
    | none => .fail cBAD_FIELD 1
    | some h =>
      let s := (assocsOf s h.index).foldl (fun s a => endAssoc a.cntlid s) s
      .done { s with host := { s.host with directory := s.host.directory.filter (·.index != h.index) } }

/-- What NS_ACCESS checks before it acts: both objects exist (04 Table 4.2). -/
def accessFault (s : State) (r : TaskReq) : Option Nat :=
  if (s.ident (r.arg 1)).isNone then some 1
  else if (s.ns (r.argBits 2 31 0)).isNone then some 2 else none

/-- Note a namespace on the Changed Namespace List of a host's controllers, and raise the event (04 R89). -/
def noteChanged (host nsid : Nat) (s : State) : State :=
  (assocsOf s host).foldl (fun s a =>
    let s := match s.assoc a.cntlid with
      | some b => s.putAssoc { b with changedNs := insertNat nsid b.changedNs }
      | none => s
    postEvent a.cntlid evNamespace s) s

/-- NS_ACCESS with bit 32 set (04 R89); with bit 32 clear the command is the other row's. -/
def execNsAccessGrant (r : TaskReq) : State → Host.Outcome State Fault Refusal :=
  taskCmd { opcode := 0x0206, windows := [0] } [(1, mask64), (2, mask 32 0)] r fun s =>
    match accessFault s r, s.ident (r.arg 1) with
    | some a, _ => .fail cBAD_FIELD a
    | none, some h => .done (s.putIdent { h with grants := insertNat (r.argBits 2 31 0) h.grants })
    | none, none => .fail cBAD_FIELD 1

/-- A command in flight that a revocation ends: not yet journaled and not yet sending data (04 R107). -/
def revocable (x : HostCmd) : Bool := x.phase != .journaled && x.phase != .sending

/-- NS_ACCESS with bit 32 clear (04 R89, R107): that host's other commands on the namespace end as at a controller reset, and its controllers raise Namespace Attribute Changed. -/
def execNsAccessRevoke (r : TaskReq) : State → Host.Outcome State Fault Refusal :=
  taskCmd { opcode := 0x0206, windows := [0] } [(1, mask64), (2, mask 32 0)] r fun s =>
    match accessFault s r, s.ident (r.arg 1) with
    | some a, _ => .fail cBAD_FIELD a
    | none, some h =>
      let nsid := r.argBits 2 31 0
      let mine := (assocsOf s h.index).map (·.cntlid)
      let s := s.putIdent { h with grants := h.grants.filter (· != nsid) }
      let s := (s.host.cmds.filter fun x => x.fwdTag.isNone && mine.contains x.cntlid && x.nsid == nsid && revocable x).foldl (fun s x => endCmd x s) s
      .done (noteChanged h.index nsid s)
    | none, none => .fail cBAD_FIELD 1

/-! ## Connect (04 R86 to R90) -/

/-- The controller IDs of a head (04 R87). -/
def firstId (head : Nat) : Nat := if head == 0 then 0x0001 else 0x8001

/-- The controller ID for a new association: one never used, lowest first, then the least recently freed past its 10 s, then the one whose association ended earliest (04 R87). -/
def pickCntlid (s : State) : Nat :=
  let base := firstId s.peer.head
  let known := s.host.assocs.map (·.cntlid) ++ s.host.freedIds.map (·.cntlid)
  if known.length < 16384 then ((List.range (known.length + 1)).find? fun i => !known.contains (base + i)).getD 0 + base
  else match s.host.freedIds.find? fun f => f.at_ + 10 * sec ≤ s.now with
  | some f => f.cntlid
  | none => ((leastBy FreedId.at_ s.host.freedIds).map (·.cntlid)).getD base

/-- The rate of a port in Mbit/s by its quad's mode (02 Table 2.3): four at 100, two at 200, one at 400 Gb/s. -/
def portRate (s : State) (p : Nat) : Nat :=
  match lookupD 0xFF (p / 4) s.lens.live.quadMode with
  | 0 => 100000
  | 1 => 200000
  | _ => 400000

/-- A RoCEv2 queue has a queue pair, whose flow starts at the port's rate (04 R79, R81). -/
def addFlow (kind : Transport) (port cntlid qid : Nat) (s : State) : State :=
  if kind == .roce then
    let f : Flow := { flow := 256 * cntlid + qid, port := port, rate := portRate s port, target := portRate s port, timer := none }
    { s with host := { s.host with flows := putBy Flow.flow f s.host.flows } }
  else s

/-- CONNECT on the admin queue: the directory, the host ID, the limit of associations; the new association takes its controller ID. -/
def connectAdmin (port : Nat) (kind : Transport) (nqn : String) (hostId : BitVec 128) (cid kato : Nat) (conn : Option Nat) (s : State) : State :=
  match s.host.directory.find? (·.nqn == nqn) with
  | none => answer 0 0 cid .connectInvalidHost s
  | some h =>
    if h.hostId != 0 && h.hostId != hostId then answer 0 0 cid .connectInvalidHost s
    else if h.authReq && h.secret.isNone then answer 0 0 cid .connectInvalidHost s
    else if 16384 ≤ s.host.assocs.length then answer 0 0 cid .controllerBusy s
    else if kato != 0 && 600 < kato then answer 0 0 cid .connectInvalidParameters s
    else
      let c := pickCntlid s
      let a : Assoc :=
        { cntlid := c, host := h.index, port := port, kind := kind, auth := if h.authReq then .none else .done, queues := [], granted := 128,
          enabled := true, psSet := 0, apst := [], psNow := 0, kato := kato, katoAt := s.now + kato * sec, aers := [], aenMask := 0, events := [],
          aborts := 0, changedNs := [], features := [], errors := [] }
      let pool := 131072 - (s.host.assocs.map (·.granted)).sum
      let s := { s with host := { s.host with freedIds := s.host.freedIds.filter (·.cntlid != c), assocs := s.host.assocs ++ [{ a with granted := min 128 pool }],
                                              tls := updateIf (fun t => some t.conn == conn) (fun t => { t with assoc := some c }) s.host.tls } }
      answer c 0 cid .success (addFlow kind port c 0 s) c

/-- CONNECT (04 R88, R90): the admin queue creates an association; an I/O queue needs one that is authenticated, an ID within the grant, and at most 1,024 entries. -/
def execConnect (port : Fin 32) (kind : Transport) (nqn : String) (hostId : BitVec 128) (cntlid : Nat) (qid : Fin 65536) (entries cid kato : Nat)
    (conn : Option Nat) : State → Host.Outcome State Fault Refusal :=
  act fun s =>
    if !s.flag Reg.fHFE_PORT_STATUS_UP port.val then s
    else if qid.val == 0 then
      if entries == 0 || 32 < entries then answer 0 0 cid .connectInvalidParameters s
      else connectAdmin port.val kind nqn hostId cid kato conn s
    else match s.assoc cntlid with
    | none => answer cntlid qid.val cid .connectInvalidParameters s
    | some a =>
      if a.auth != .done then answer cntlid qid.val cid .connectInvalidHost s
      else if a.granted < qid.val || entries == 0 || 1024 < entries || a.queues.any (·.1 == qid.val) || !((s.ident a.host).any (·.nqn == nqn)) then
        answer cntlid qid.val cid .connectInvalidParameters s
      else
        let s := s.putAssoc { a with queues := a.queues ++ [(qid.val, entries)] }
        answer cntlid qid.val cid .success (addFlow a.kind a.port cntlid qid.val s) cntlid

/-! ## DH-HMAC-CHAP (04 R85) -/

/-- The hashes SHA-256, -384, -512 and the groups null, ffdhe2048, 3072, 4096. -/
def authOffer (h : HostIdent) (hashes groups : List Nat) : Bool := hashes.contains (h.hash % 8) && 1 ≤ h.hash && h.hash ≤ 3 && groups.any (· ≤ 3)

/-- An authentication that fails ends the association (04 R85). -/
def failAuth (a : Assoc) (cid : Nat) (s : State) : State := endAssoc a.cntlid (answer a.cntlid 0 cid .connectInvalidHost s)

/-- AUTHENTICATION_SEND: a message from the host moves the exchange; `reply` carries whether the response checks. -/
def execAuthenticationSend (cntlid cid : Nat) (m : AuthMsg) : State → Host.Outcome State Fault Refusal :=
  act fun s => match s.assoc cntlid with
  | none => s
  | some a =>
    match s.ident a.host, a.auth, m with
    | some h, .none, .negotiate hs gs =>
      if h.secret.isSome && authOffer h hs gs then answer cntlid 0 cid .success (s.putAssoc { a with auth := .challenged }) else failAuth a cid s
    | some _, .challenged, .reply valid _ =>
      if valid then answer cntlid 0 cid .success (s.putAssoc { a with auth := .replied }) else failAuth a cid s
    | some _, .done, .success2 => answer cntlid 0 cid .success s
    | _, _, _ => failAuth a cid s

/-- AUTHENTICATION_RECEIVE: the challenge, then Success1, with which the exchange is done. -/
def execAuthenticationReceive (cntlid cid : Nat) : State → Host.Outcome State Fault Refusal :=
  act fun s => match s.assoc cntlid with
  | none => s
  | some a =>
    match s.ident a.host, a.auth with
    | some h, .challenged => answer cntlid 0 cid .success (s.send (.adminData cntlid cid (.message (.challenge h.hash 0))))
    | some _, .replied => answer cntlid 0 cid .success ((s.putAssoc { a with auth := .done }).send (.adminData cntlid cid (.message .success1)))
    | _, _ => answer cntlid 0 cid .success (s.send (.adminData cntlid cid (.message .failure)))

/-! ## TLS (04 R83, R84) -/

/-- The connection ends, and its association with it. -/
def endTls (conn : Nat) (s : State) : State :=
  match s.host.tls.find? (·.conn == conn) with
  | none => s
  | some t =>
    let s := { s with host := { s.host with tls := s.host.tls.filter (·.conn != conn) } }
    match t.assoc with
    | some c => endAssoc c s
    | none => s

/-- TLS_HANDSHAKE: PSK only, psk_dhe_ke with x25519 or secp384r1, TLS_AES_256_GCM_SHA384; anything else is refused with handshake_failure. `host` is the directory index whose PSK the client names. -/
def execTlsHandshake (conn : Nat) (port : Fin 32) (host : Nat) (suiteOk groupOk earlyData certificate : Bool) : State → Host.Outcome State Fault Refusal :=
  act fun s =>
    let psk := (s.ident host).any (·.psk.isSome)
    if suiteOk && groupOk && !earlyData && !certificate && psk then
      let t : TlsConn := { conn := conn, port := port.val, host := host, up := true, rxKey := 0, txKey := 0, assoc := none }
      { s with host := { s.host with tls := putBy TlsConn.conn t s.host.tls } }
    else (endTls conn s).send (.tlsAlert conn false)

/-- TLS_RECORD: a record that fails its tag ends the connection with bad_record_mac; none of it reaches a PT. -/
def execTlsRecord (conn : Nat) (tagOk : Bool) : State → Host.Outcome State Fault Refusal :=
  act fun s =>
    if !(s.host.tls.any (·.conn == conn)) || tagOk then s
    else endTls conn (s.send (.tlsAlert conn true))

/-- TLS_KEY_UPDATE: the receiving or the sending direction moves to its next traffic key. -/
def execTlsKeyUpdate (conn : Nat) (receive : Bool) : State → Host.Outcome State Fault Refusal :=
  act fun s =>
    let next := fun (t : TlsConn) => if receive then { t with rxKey := t.rxKey + 1 } else { t with txKey := t.txKey + 1 }
    { s with host := { s.host with tls := updateIf (fun t => t.conn == conn && t.up) next s.host.tls } }

/-! ## Properties, keep alive, end of an association (04 R93, R103) -/

/-- An admin command of an authenticated association; any other is not served. -/
def admin (cntlid cid : Nat) (k : Assoc → State → State) (s : State) : State :=
  match s.assoc cntlid with
  | none => s
  | some a => if a.auth == .done then k a s else answer cntlid 0 cid .connectInvalidHost s

/-- PROPERTY_SET: CC.EN cleared resets the controller and ends its commands; set, it enables the controller. -/
def execPropertySet (cntlid cid : Nat) (en : Bool) : State → Host.Outcome State Fault Refusal :=
  act <| admin cntlid cid fun a s =>
    if en then answer cntlid 0 cid .success (s.putAssoc { a with enabled := true })
    else if a.enabled then endAssoc cntlid (answer cntlid 0 cid .success s)
    else answer cntlid 0 cid .success s

/-- PROPERTY_GET: CAP (0x00), VS (0x08), CC (0x14), CSTS (0x1C); any other offset is an invalid field. CC.EN and CSTS.RDY follow the controller; MQES is 1,023 and the version NVMe 2.0 (PRESUMED, log 16). -/
def execPropertyGet (cntlid cid off : Nat) : State → Host.Outcome State Fault Refusal :=
  act <| admin cntlid cid fun a s =>
    let en := if a.enabled then 1 else 0
    let give := fun (v : Nat) => answer cntlid 0 cid .success (s.send (.adminData cntlid cid (.value v)))
    match off with
    | 0x00 => give 1023
    | 0x08 => give 0x20000
    | 0x14 => give en
    | 0x1C => give en
    | _ => answer cntlid 0 cid .invalidField s

/-- KEEP_ALIVE restarts the timer. -/
def execKeepAlive (cntlid cid : Nat) : State → Host.Outcome State Fault Refusal :=
  act <| admin cntlid cid fun a s => answer cntlid 0 cid .success (s.putAssoc { a with katoAt := s.now + a.kato * sec })

/-- KEEP_ALIVE_EXPIRY (04 R103). -/
def execKeepAliveExpiry (cntlid : Nat) : State → Host.Outcome State Fault Refusal :=
  act fun s => match s.assoc cntlid with
  | some a => if a.kato == 0 then s else endAssoc cntlid (s.reach a.katoAt)
  | none => s

/-- TRANSPORT_CONNECTION_LOSS (04 R103). -/
def execTransportConnectionLoss (cntlid : Nat) : State → Host.Outcome State Fault Refusal := act (endAssoc cntlid)

/-- ASYNCHRONOUS_EVENT_REQUEST: held until an enabled event; a ninth is one too many (AERL 7). -/
def execAsynchronousEventRequest (cntlid cid : Nat) : State → Host.Outcome State Fault Refusal :=
  act <| admin cntlid cid fun a s =>
    match a.events with
    | e :: t => answer cntlid 0 cid .success (s.putAssoc { a with events := t }) e
    | [] =>
      if 8 ≤ a.aers.length then answer cntlid 0 cid .aerLimit s
      else s.putAssoc { a with aers := a.aers ++ [cid] }

/-- UNSUPPORTED_OPCODE (04 R93). -/
def execUnsupportedOpcode (cntlid qid cid : Nat) : State → Host.Outcome State Fault Refusal :=
  act fun s => if (s.assoc cntlid).isSome then answer cntlid qid cid .invalidOpcode s else s

/-! ## Features (04 R90, R93, R99) -/

/-- Demand of an association after its own setting: APST starts over. -/
def setPs (a : Assoc) (ps : Nat) : Assoc := { a with psSet := ps, psNow := ps }

/-- SET_FEATURES by feature: Number of Queues 0x07, Power Management 0x02, Asynchronous Event Configuration 0x0B, APST 0x0C (`apst`), Keep Alive 0x0F in ms, Reservation Notification Mask 0x82 and Persistence 0x83 of a namespace. -/
def execSetFeatures (cntlid cid fid value nsid : Nat) (apst : List ApstEntry) : State → Host.Outcome State Fault Refusal :=
  act <| admin cntlid cid fun a s =>
    let ok := fun (a : Assoc) (dw0 : Nat) => answer cntlid 0 cid .success (s.putAssoc a) dw0
    match fid with
    | 0x02 => if 2 < value % 32 then answer cntlid 0 cid .invalidField s else ok (setPs a (value % 32)) 0
    | 0x07 =>
      let want := min (value % 65536) (value / 65536) + 1
      let left := 131072 - ((s.host.assocs.filter (·.cntlid != cntlid)).map (·.granted)).sum
      let g := min want (min 128 left)
      ok { a with granted := g } ((g - 1) * 65537)
    | 0x0B => ok { a with aenMask := BitVec.ofNat 32 value } 0
    | 0x0C => if apst.all fun e => e.fromPs ≤ 2 && e.toPs ≤ 2 && e.fromPs < e.toPs then ok { a with apst := if value % 2 == 1 then apst else [], psNow := a.psSet } 0
      else answer cntlid 0 cid .invalidField s
    | 0x0F =>
      let t := (value + 999) / 1000
      if t == 0 || 600 < t then answer cntlid 0 cid .invalidField s else ok { a with kato := t, katoAt := s.now + t * sec } 0
    | 0x82 => ok { a with features := setKey 0x82 (BitVec.ofNat 32 value) a.features } 0
    | 0x83 =>
      match s.ns nsid with
      | some (sh, n) =>
        if (s.ident a.host).any (·.grants.contains nsid) && s.owns n.group then
          answer cntlid 0 cid .success (oneDelta sh (.nsSet { n with rsv := { n.rsv with ptpl := value % 2 == 1 } }) s)
        else answer cntlid 0 cid .invalidNamespace s
      | none => answer cntlid 0 cid .invalidNamespace s
    | _ => answer cntlid 0 cid .invalidField s

/-- GET_FEATURES. -/
def execGetFeatures (cntlid cid fid nsid : Nat) : State → Host.Outcome State Fault Refusal :=
  act <| admin cntlid cid fun a s =>
    let give := fun (v : Nat) => answer cntlid 0 cid .success s v
    match fid with
    | 0x02 => give a.psSet
    | 0x07 => give ((a.granted - 1) * 65537)
    | 0x0B => give a.aenMask.toNat
    | 0x0C => answer cntlid 0 cid .success (s.send (.adminData cntlid cid (.apst a.apst))) (if a.apst.isEmpty then 0 else 1)
    | 0x0F => give (a.kato * 1000)
    | 0x82 => give ((lookupD 0 0x82 a.features).toNat)
    | 0x83 => match s.ns nsid with
      | some (_, n) => give (if n.rsv.ptpl then 1 else 0)
      | none => answer cntlid 0 cid .invalidNamespace s
    | _ => answer cntlid 0 cid .invalidField s

/-- APST_IDLE_TIMER (04 R99): an idle association's table moves its demand. -/
def execApstIdleTimer (cntlid : Nat) : State → Host.Outcome State Fault Refusal :=
  act fun s => match s.assoc cntlid with
  | none => s
  | some a =>
    if 0 < contextsOf s cntlid then s
    else match a.apst.find? (·.fromPs == a.psNow) with
    | some e => if e.idleMs == 0 then s else (s.reach (s.now + e.idleMs * ms)).putAssoc { a with psNow := e.toPs }
    | none => s

/-! ## Identify and logs (04 R93, Table 4.3; 08 R211, R212) -/

/-- Namespaces a host sees: granted and existing (04 R89). -/
def visible (s : State) (a : Assoc) : List Nat := (((s.ident a.host).map (·.grants)).getD []).filter fun i => !replTarget s i && (s.ns i).any fun p => !p.2.deleting

/-- NVME_IDENTIFY: CNS 0 a namespace, 1 the controller, 2 active namespaces above `nsid`; the power state descriptors follow the controller's data. -/
def execNvmeIdentify (cntlid cid cns nsid : Nat) : State → Host.Outcome State Fault Refusal :=
  act <| admin cntlid cid fun a s =>
    let give := fun (ds : List AdminData) => answer cntlid 0 cid .success (s.sendAll (ds.map (Output.adminData cntlid cid)))
    match cns with
    | 0 => match s.ns nsid with
      | some (_, n) =>
        if (visible s a).contains nsid then
          give [.space nsid n.size (if n.small then 512 else 4096) (if n.small then 2047 else 255) n.group]
        else answer cntlid 0 cid .invalidNamespace s
      | none => answer cntlid 0 cid .invalidNamespace s
    | 1 => give [.controller cntlid 9 512 10 3 7 2 64, .powerStates [(400000, 0, 0), (290000, 10, 50), (190000, 1000, 3000)]]
    | 2 => give [.spaces (((visible s a).filter (nsid < ·)).foldl (fun l i => insertNat i l) [])]
    | _ => answer cntlid 0 cid .invalidField s

/-- Discovery entries of this head: one per valid interface and transport (04 R86); each interface entry is 32 bytes at HFE_IF (Table 4.1). -/
def discoveryLog (s : State) : List (Nat × Nat × Transport) :=
  (List.range 512).flatMap fun i =>
    let w := s.word (0x102000 + 32 * i)
    let e := fun (b : Nat) (t : Transport) => if bits w 0 0 == 1 && bits w b b == 1 then [(s.peer.head, i, t)] else []
    e 2 .roce ++ e 3 .tcp

/-- Opcodes supported, admin and I/O, as the rows of the table name them (04 R93). -/
def supported : List Nat × List Nat :=
  ([0x02, 0x06, 0x08, 0x09, 0x0A, 0x0C, 0x0D, 0x10, 0x11, 0x15, 0x18], [0x00, 0x01, 0x02, 0x05, 0x08, 0x09, 0x0D, 0x0E, 0x11, 0x15, 0x19])

/-- GET_LOG_PAGE by log page identifier; reading a log of events clears it as NVMe has it. -/
def execGetLogPage (cntlid cid lid : Nat) : State → Host.Outcome State Fault Refusal :=
  act <| admin cntlid cid fun a s =>
    let give := fun (d : AdminData) (s : State) => answer cntlid 0 cid .success (s.send (.adminData cntlid cid d))
    match lid with
    | 0x01 => give (.errorLog a.errors) s
    | 0x02 => give (.smart (smartLog s)) s
    | 0x03 => give (.slots s.boot.ptr.active (if s.boot.slot0.st == .armed then some 0 else if s.boot.slot1.st == .armed then some 1 else none)
      [s.boot.slot0.manifest.map Manifest.level, s.boot.slot1.manifest.map Manifest.level]) s
    | 0x04 => give (.spaces a.changedNs) (s.putAssoc { a with changedNs := [] })
    | 0x05 => give (.effects supported.1 supported.2) s
    | 0x0C => give (.ana (((visible s a).filterMap fun i => (s.ns i).map fun p => p.2.group).eraseDups.map fun g => (g, anaState s g))) s
    | 0x70 => give (.discovery (discoveryLog s)) s
    | 0x80 => give (.rsvNotify ((a.events.filter (· == evReservation)).map fun _ => 0)) s
    | 0xC0 => give (pageC0 s) s
    | 0xC1 => give (pageC1 s) s
    | 0xC2 => give (.pageC2 s.kpr.records.getLast?) s
    | _ => answer cntlid 0 cid .invalidField s

/-! ## Namespace management (04 R93) -/

/-- NAMESPACE_MANAGEMENT from an identity with NSMGMT: create (the next free NSID) or delete; otherwise Operation Denied. The profile and key domain that NVMe cannot name are 0 (DESIGN CHOICE, log 17). -/
def execNamespaceManagement (cntlid cid : Nat) (create : Bool) (nsid size group : Nat) (small : Bool) : State → Host.Outcome State Fault Refusal :=
  act <| admin cntlid cid fun a s =>
    if !(s.ident a.host).any (·.nsMgmt) then answer cntlid 0 cid .operationDenied s
    else if create then
      let id := ((List.range' 1 65536).find? fun i => (s.ns i).isNone).getD 0
      let g := if group == 0 then 1 else group
      if id == 0 then answer cntlid 0 cid .noResource s
      else if 512 < g then answer cntlid 0 cid .invalidField s
      else
        let n := freshNamespace id small g size 0 0
        match createFault s n with
        | some _ => answer cntlid 0 cid .invalidField s
        | none => answer cntlid 0 cid .success (addNamespace n s) id
    else match s.ns nsid with
    | none => answer cntlid 0 cid .invalidNamespace s
    | some (sh, n) =>
      if !s.owns n.group || n.deleting then answer cntlid 0 cid .invalidNamespace s
      else if s.namespaces.isEmpty then s
      else if (s.store sh).snaps.any fun x => x.nsid == nsid && locked s x.lock then answer cntlid 0 cid .writeProtected s
      else answer cntlid 0 cid .success (deleteNamespace noJob sh n s)

/-- NAMESPACE_ATTACHMENT from an identity with NSMGMT: the hosts of the named controllers gain or lose the grant. -/
def execNamespaceAttachment (cntlid cid : Nat) (attach : Bool) (nsid : Nat) (controllers : List Nat) : State → Host.Outcome State Fault Refusal :=
  act <| admin cntlid cid fun a s =>
    if !(s.ident a.host).any (·.nsMgmt) then answer cntlid 0 cid .operationDenied s
    else if (s.ns nsid).isNone then answer cntlid 0 cid .invalidNamespace s
    else if controllers.any fun c => (s.assoc c).isNone then answer cntlid 0 cid .invalidField s
    else
      let hosts := (controllers.filterMap fun c => (s.assoc c).map (·.host)).eraseDups
      answer cntlid 0 cid .success (hosts.foldl (fun s h => match s.ident h with
        | none => s
        | some x =>
          if attach then noteChanged h nsid (s.putIdent { x with grants := insertNat nsid x.grants })
          else
            let mine := (assocsOf s h).map (·.cntlid)
            let s := s.putIdent { x with grants := x.grants.filter (· != nsid) }
            let s := (s.host.cmds.filter fun y => y.fwdTag.isNone && mine.contains y.cntlid && y.nsid == nsid && revocable y).foldl (fun s y => endCmd y s) s
            noteChanged h nsid s) s)

end Sys2Proof.Machine
end

