-- ==== Sys2Proof/Machine/HostLink.lean ====
section
/-!
DEFINITION. Host lanes, ports, frames, congestion control and PTP (04_host_front_end.md R75 to R80, R108).
-/
namespace Sys2Proof.Machine

/-- A host quad's mode: 0 four ports, 1 two ports, 2 and 3 one port, 0xFF unused (02 Table 2.3). -/
def quadMode (s : State) (q : Nat) : Nat := lookupD 0xFF q s.lens.live.quadMode

/-- The lanes of a port (04, before R75). -/
def portLanes (s : State) (p : Nat) : List Nat :=
  match quadMode s (p / 4), p % 4 with
  | 0, _ => [p]
  | 1, 0 => [p, p + 1]
  | 1, 2 => [p, p + 1]
  | 2, 0 => [p, p + 1, p + 2, p + 3]
  | 3, 0 => [p, p + 1, p + 2, p + 3]
  | _, _ => []

/-- The port that uses a lane. -/
def portOfLane (s : State) (l : Nat) : Option Nat := ((List.range 4).map (4 * (l / 4) + ·)).find? fun p => (portLanes s p).contains l

/-- A port goes down; UP's change fires its source. -/
def hostPortDown (p : Nat) (s : State) : State :=
  if s.flag Reg.fHFE_PORT_STATUS_UP p then
    fire (96 + p) ((s.setFlag Reg.fHFE_PORT_STATUS_UP false p).setFld Reg.fHFE_PORT_STATUS_LANES 0 p)
  else s

/-- A lane fault: its flag, its source, its port down, the re-test clock (04 R77). -/
def laneFault (l : Nat) (f : Fld) (s : State) : State :=
  let s := fire (64 + l) (s.setFlag f true l)
  let s := { s with host := { s.host with laneFaults := putBy LaneFault.lane { lane := l, at_ := s.now } s.host.laneFaults } }
  match portOfLane s l with
  | some p => hostPortDown p s
  | none => s

/-- HOST_LANE_OPEN (04 R77). -/
def execHostLaneOpen (lane : Fin 32) : State → Host.Outcome State Fault Refusal := act (laneFault lane.val Reg.fHFE_LANE_STATUS_OPEN)

/-- HOST_LANE_SHORT (04 R77): the lane is turned off. -/
def execHostLaneShort (lane : Fin 32) : State → Host.Outcome State Fault Refusal := act (laneFault lane.val Reg.fHFE_LANE_STATUS_SHORT)

/-- HOST_LANE_RETEST (04 R77): every 10 s; a lane that recovered lets its port train. -/
def execHostLaneRetest (lane : Fin 32) (good : Bool) : State → Host.Outcome State Fault Refusal :=
  act fun s => match s.host.laneFaults.find? (·.lane == lane.val) with
  | none => s
  | some f =>
    let s := s.reach (f.at_ + 10 * sec)
    if good then { s with host := { s.host with laneFaults := s.host.laneFaults.filter (·.lane != lane.val) } }
    else { s with host := { s.host with laneFaults := putBy LaneFault.lane { f with at_ := s.now } s.host.laneFaults } }

/-- HOST_PORT_TRAINING (04 R75, R76): the port comes up in its quad's mode unless a lane of it is faulty or its quad is fenced; polarity and lane order are corrected and recorded, by (lane, inverted, logical lane). -/
def execHostPortTraining (port : Fin 32) (found : List (Nat × Bool × Nat)) : State → Host.Outcome State Fault Refusal :=
  act fun s =>
    let p := port.val
    let ls := portLanes s p
    if ls.isEmpty || ls.any (fun l => s.host.laneFaults.any (·.lane == l)) || s.isFenced (iHQ + p / 4) then s
    else
      let s := ls.foldl (fun s l => match found.find? (·.1 == l) with
        | some f => (s.setFlag Reg.fHFE_LANE_STATUS_RX_INV f.2.1 l).setFld Reg.fHFE_LANE_STATUS_LOGICAL f.2.2 l
        | none => s) s
      let was := s.flag Reg.fHFE_PORT_STATUS_UP p
      let s := (s.setFld Reg.fHFE_PORT_STATUS_LANES ls.length p).setFld Reg.fHFE_PORT_STATUS_TYPE (quadMode s (p / 4)) p
      let s := s.setFlag Reg.fHFE_PORT_STATUS_UP true p
      if was then s else fire (96 + p) s

/-- HOST_PORT_LINK_DOWN (04 R108). -/
def execHostPortLinkDown (port : Fin 32) : State → Host.Outcome State Fault Refusal := act (hostPortDown port.val)

/-- An interface entry of a port: its valid flag, VLAN, address (04 Table 4.1). -/
def ifEntry (s : State) (p i : Nat) : Bool × Nat × BitVec 128 :=
  let b := 0x102000 + 0x200 * p + 0x20 * i
  (bits (s.word b) 0 0 == 1, bits (s.word b) 27 16, s.word (b + 16) ++ s.word (b + 8))

/-- HOST_FRAME_RECEIVE (04 R78): a frame addressed to no interface of its port, by address and VLAN, is dropped and counted. -/
def execHostFrameReceive (port : Fin 32) (addr : BitVec 128) (vlan : Nat) : State → Host.Outcome State Fault Refusal :=
  act fun s =>
    let p := port.val
    let hit := (List.range 16).any fun i => let e := ifEntry s p i; e.1 && e.2.1 == vlan && e.2.2 == addr
    if !s.flag Reg.fHFE_PORT_STATUS_UP p || hit then s
    else { s with host := { s.host with dropped := setKey p (lookupD 0 p s.host.dropped + 1) s.host.dropped } }

/-- Change a flow. -/
def State.putFlow (s : State) (f : Flow) : State := { s with host := { s.host with flows := putBy Flow.flow f s.host.flows } }

/-- CONGESTION_NOTIFICATION (04 R79): the rate is cut by CC_CUT in 1/256, and the recovery timer starts. -/
def execCongestionNotification (cntlid qid : Nat) : State → Host.Outcome State Fault Refusal :=
  act fun s => match s.host.flows.find? (·.flow == 256 * cntlid + qid) with
  | none => s
  | some f =>
    if !s.flag Reg.fHFE_QOS_CFG_ECN_EN f.port then s
    else s.putFlow { f with rate := f.rate - f.rate * s.fld Reg.fHFE_QOS_CFG_CC_CUT f.port / 256, target := max f.target f.rate,
                            timer := some (s.now + s.fld Reg.fHFE_QOS_CFG_CC_RECOVER_US f.port * us) }

/-- RATE_RECOVERY_TIMER (04 R79): the rate recovers towards the one before the cut. How far is not stated: a free value up to it (log 18). -/
def execRateRecoveryTimer (cntlid qid : Nat) : State → Host.Outcome State Fault Refusal :=
  act fun s => match s.host.flows.find? (·.flow == 256 * cntlid + qid) with
  | none => s
  | some f => match f.timer with
    | none => s
    | some t =>
      let s := s.reach t
      let d := s.draw
      let rate := f.rate + d.1.toNat % (f.target - f.rate + 1)
      d.2.putFlow { f with rate := rate, timer := if rate < f.target then some (s.now + s.fld Reg.fHFE_QOS_CFG_CC_RECOVER_US f.port * us) else none }

/-- PTP_EVENT_MESSAGE (04 R80, 01 R17, 21 R502, R503): time-stamped on any port; on the selected port and domain with EN it sets the wall-clock offset and the rate, the rate within 100 ppm. -/
def execPtpEventMessage (port : Fin 32) (domain : Nat) (offset : Int) (ppb : Int) : State → Host.Outcome State Fault Refusal :=
  act fun s =>
    if !s.flag Reg.fHFE_PORT_STATUS_UP port.val then s
    else
      let s := s.send (.ptpStamp port.val s.now)
      if s.flag Reg.fHFE_PTP_CFG_EN && s.fld Reg.fHFE_PTP_CFG_PORT == port.val && s.fld Reg.fHFE_PTP_CFG_DOMAIN == domain then
        let rate := max (-100000) (min 100000 ppb)
        let news := !s.flag Reg.fTMB_STATUS_WALL_KNOWN || !s.flag Reg.fTMB_STATUS_PTP_LOCKED
        let s := (s.setFld Reg.fTMB_WALL_OFFSET_OFFSET (unsigned 64 offset)).setFld Reg.fTMB_RATE_PPB (unsigned 32 rate)
        let s := (s.setFlag Reg.fTMB_STATUS_WALL_KNOWN true).setFlag Reg.fTMB_STATUS_PTP_LOCKED true
        if news then fire 747 s else s
      else s

end Sys2Proof.Machine
end

