-- ==== Sys2Proof/Machine/HostIo.lean ====
section
/-!
DEFINITION. Host I/O: capsules and contexts, routing by ANA, reads resolved against the journal and the map, reservations, Abort
(04 R89 to R107; 06 R144, R145; 11 R276).
-/
namespace Sys2Proof.Machine

/-! ## Reservations (04 R93, 11 R276) -/

/-- A host as reservations name it: its host ID, or its directory index above all of them when it has none. -/
def hostKey (h : HostIdent) : Nat := if h.hostId == 0 then 2 ^ 128 + h.index else h.hostId.toNat

/-- A host is registered. -/
def registered (r : Rsv) (h : Nat) : Bool := r.regs.any (·.1 == h)

/-- A host holds the reservation: the holder, or any registrant under an All Registrants type. -/
def holds (r : Rsv) (h : Nat) : Bool :=
  match r.typ with
  | .none => false
  | .writeExclusiveAll => registered r h
  | .exclusiveAccessAll => registered r h
  | _ => r.holder == some h

/-- The reservation lets a host read. -/
def mayRead (r : Rsv) (h : Nat) : Bool :=
  match r.typ with
  | .exclusiveAccess => holds r h
  | .exclusiveAccessRegs => registered r h
  | .exclusiveAccessAll => registered r h
  | _ => true

/-- The reservation lets a host write. -/
def mayWrite (r : Rsv) (h : Nat) : Bool :=
  match r.typ with
  | .none => true
  | .writeExclusive => holds r h
  | .exclusiveAccess => holds r h
  | _ => registered r h

/-- RTYPE of NVMe. -/
def rsvType (n : Nat) : Option RsvType :=
  match n with
  | 1 => some .writeExclusive
  | 2 => some .exclusiveAccess
  | 3 => some .writeExclusiveRegs
  | 4 => some .exclusiveAccessRegs
  | 5 => some .writeExclusiveAll
  | 6 => some .exclusiveAccessAll
  | _ => none

/-- The key of a registrant. -/
def rsvKey (r : Rsv) (h : Nat) : Option (BitVec 64) := (r.regs.find? (·.1 == h)).map Prod.snd

/-- A registrant leaves: its reservation goes with it, an All Registrants one with the last. -/
def unregister (r : Rsv) (h : Nat) : Rsv :=
  let regs := r.regs.filter (·.1 != h)
  let free := (r.holder == some h && r.typ != .writeExclusiveAll && r.typ != .exclusiveAccessAll) || regs.isEmpty
  { r with regs := regs, typ := if free then .none else r.typ, holder := if free then none else r.holder }

/-- Reservation Register, Acquire and Release as NVMe gives them (04 R93 "all types"): the new state, or a conflict. The generation rises with each register, preempt and clear. -/
def applyRsv (q : RsvReq) (h : Nat) (r : Rsv) : Option Rsv :=
  match q with
  | .register act cur new iekey cptpl =>
    let mine := rsvKey r h
    let r := { r with ptpl := if cptpl == 2 then false else if cptpl == 3 then true else r.ptpl }
    if act == 0 then
      if mine.isSome && mine != some new then none else some { r with gen := r.gen + 1, regs := setKey h new r.regs }
    else if !iekey && mine != some cur then none
    else if act == 1 then (if mine.isNone then none else some { unregister r h with gen := r.gen + 1 })
    else if act == 2 then (if mine.isNone && !iekey then none else some { r with gen := r.gen + 1, regs := setKey h new r.regs })
    else none
  | .acquire act cur prev rtype =>
    match rsvType rtype with
    | none => none
    | some t =>
      if rsvKey r h != some cur then none
      else if act == 0 then
        if r.typ == .none then some { r with typ := t, holder := some h }
        else if holds r h && r.typ == t then some r else none
      else if act == 1 || act == 2 then
        let out := r.regs.filter fun x => x.2 == prev && x.1 != h
        let all := r.typ == .writeExclusiveAll || r.typ == .exclusiveAccessAll
        if all && prev == 0 then some { r with gen := r.gen + 1, regs := r.regs.filter (·.1 == h), typ := t, holder := some h }
        else
          let hit := r.holder.any fun x => rsvKey r x == some prev
          let left := r.regs.filter fun x => x.1 == h || x.2 != prev
          if out.isEmpty && !hit then none
          else some { r with gen := r.gen + 1, regs := left, typ := if hit then t else r.typ, holder := if hit then some h else r.holder }
      else none
  | .release act cur rtype =>
    if rsvKey r h != some cur then none
    else if act == 0 then
      if !holds r h then some r
      else if rsvType rtype != some r.typ then none
      else some { r with typ := .none, holder := none }
    else if act == 1 then some { r with gen := r.gen + 1, regs := [], typ := .none, holder := none }
    else none

/-! ## Where a sector of a read comes from (06 Table 6.1) -/

/-- The source of one sector: data or zeros at hand, a journal record's payload slot, or the grain that the map names. -/
inductive SectorSrc where
  | data (x : Sector)
  | journal (jseq : Nat) (x : Sector)
  | map (key sector : Nat)
deriving DecidableEq, Repr

/-- What one record with its map update not yet applied says of a sector: nothing, or a source; a Copy refers to its source sector. -/
def recordSector (n : Namespace) (e : RingEntry) (key i : Nat) : Option (Sum SectorSrc Nat) :=
  let r := e.rec_
  let spb := sectorsPerBlock n
  let first := r.slba * spb
  let at_ := 8 * key + i
  match r.kind with
  | .data =>
    let idx := key - first / 8
    if key < first / 8 || e.mapped.contains idx then none
    else match r.grains[idx]? with
    | none => none
    | some g =>
      if !g.mask.toNat.testBit i then none
      else if g.zero then some (.inl (.data 0)) else some (.inl (.journal r.jseq ((g.data[i]?).getD 0)))
  | k =>
    if !e.mapped.isEmpty || at_ < first || first + r.nblk * spb ≤ at_ then none
    else match k with
    | .copy => some (.inr (at_ - first + r.srcSlba * spb))
    | _ => some (.inl (.data 0))

/-- The source of a sector: the newest record that covers it, an older one, then the map. A Copy's sector takes the source range's content as the records before it leave it. -/
def sectorSource (n : Namespace) : List RingEntry → Nat → Nat → SectorSrc
  | [], key, i => .map key i
  | e :: t, key, i =>
    match recordSector n e key i with
    | none => sectorSource n t key i
    | some (.inl src) => src
    | some (.inr a) => sectorSource n t (a / 8) (a % 8)

/-- The plaintext of a PENDING grain: the row buffer's, which is that of the record that holds it (05 R125). -/
def bufferedGrain (s : State) (g : Nat) : Option (List Sector) :=
  ((s.wr.rows.flatMap (·.grains) ++ s.wr.unpacked.map (·.2.2)).find? fun p => p.hdr.grainId == g && p.from_.isNone).map (·.data)

/-- What a grain named by the map gives for the sectors wanted: data at hand, a media read, or nothing (06 Table 6.1, orders 2 to 5). -/
inductive GrainSrc where
  | data (ss : List Sector)
  | media (e : DirEntry)
  | lost
deriving DecidableEq, Repr

/-- Resolve a grain of the map for sectors `want`. -/
def grainSource (s : State) (sh : Bool) (n : Namespace) (key : Nat) (want : List Nat) : GrainSrc :=
  match (s.store sh).mapGet n.root n.height key with
  | .unmapped => .data zeroSectors
  | .zero => .data zeroSectors
  | .grain g =>
    match s.dirOf g with
    | none => .lost
    | some e =>
      match e.st with
      | .pending => match bufferedGrain s g with
        | some ss => if want.any (e.lostMask.toNat.testBit ·) then .lost else .data ss
        | none => .lost
      | .stored => .media e
      | .recovered => .media e
      | .partial_ => if want.any (e.lostMask.toNat.testBit ·) then .lost else .media e
      | _ => .lost

/-- Sectors that a command asks of a grain. -/
def wantedSectors (n : Namespace) (x : HostCmd) (key : Nat) : List Nat :=
  let first := x.slba * sectorsPerBlock n
  (List.range 8).filter fun i => first ≤ 8 * key + i && 8 * key + i < first + x.nblk * sectorsPerBlock n

/-- A key lies in a map page that is lost in both copies, or that METADATA_CONFLICT fences with `differs` naming the entry (10 R255). -/
def pageLost (s : State) (sh : Bool) (n : Namespace) (key : Nat) : Bool :=
  (List.range (n.height + 1)).any fun d => match n.root.bind fun r => (s.store sh).descend d r key with
    | some p => s.md.lostPages.contains p.gen || s.md.conflicts.any fun c => c.1 == p.gen && c.2.contains key
    | none => false

/-- A write to grains `lo` to `hi` of a namespace needs a change to a page that METADATA_CONFLICT fences (10 R255). -/
def pageFenced (s : State) (sh : Bool) (n : Namespace) (lo hi : Nat) : Bool :=
  s.md.conflicts.any fun c => match (s.store sh).page c.1 with
    | some p => lo < p.keyLo + pageSpan p.level && p.keyLo < hi &&
        ((n.root.bind fun r => (s.store sh).descend (n.height - p.level) r p.keyLo).any fun q => q.gen == p.gen)
    | none => false

/-- The grain ranges that a writing command changes. -/
def writtenGrains (n : Namespace) (x : HostCmd) : List (Nat × Nat) :=
  let spb := sectorsPerBlock n
  let rs := if x.kind == .deallocate || x.kind == .copy then x.ranges.map fun r => (r.1, r.2.1) else [(x.slba, x.nblk)]
  rs.map fun r => (r.1 * spb / 8, ((r.1 + r.2) * spb + 7) / 8)

/-- Resolve one grain of a read: the sectors at hand, and the fetches for the rest, numbered from `no`; none when a sector it needs is lost. -/
def resolveGrain (s : State) (sh : Bool) (n : Namespace) (recs : List RingEntry) (badCrc : List Nat) (x : HostCmd) (key no : Nat) :
    Option (List (Nat × Sector) × List Fetch) :=
  let srcs := (wantedSectors n x key).map fun i => (i, sectorSource n recs key i)
  let now := srcs.filterMap fun p => match p.2 with
    | .data v => some (p.1, v)
    | .journal j v => if badCrc.contains j then none else some (p.1, v)
    | .map _ _ => none
  let bad := (srcs.filterMap fun p => match p.2 with
    | .journal j _ => if badCrc.contains j then some j else none
    | _ => none).eraseDups
  let journal := bad.map fun j => (j, srcs.filterMap fun p => match p.2 with
    | .journal i _ => if i == j then some (p.1, p.1) else none
    | _ => none)
  let keys := (srcs.filterMap fun p => match p.2 with
    | .map k _ => some k
    | _ => none).eraseDups
  let maps := keys.map fun k => (k, srcs.filterMap fun p => match p.2 with
    | .map k' i => if k' == k then some (p.1, i) else none
    | _ => none)
  let got := maps.map fun m => (m, if pageLost s sh n m.1 then GrainSrc.lost else grainSource s sh n m.1 (m.2.map Prod.snd))
  if got.any fun g => g.2 == .lost then none
  else
    let more := got.flatMap fun g => match g.2 with
      | .data ss => g.1.2.map fun p => (p.1, (ss[p.2]?).getD 0)
      | _ => []
    let fs := (journal.map fun j => (FetchWait.journal j.1, 0, (none : Option Nat), j.2)) ++ got.filterMap fun g => match g.2 with
      | .media e => some (if memberGone s e.addr || s.peer.sharing.contains e.addr.module then FetchWait.recon else .media, e.grain, some e.segment, g.1.2)
      | _ => none
    some (now ++ more, fs.zipIdx.map fun f => { no := no + f.2, key := key, grain := f.1.2.1, segment := f.1.2.2.1, pick := f.1.2.2.2, wait := f.1.1 })

/-- Start a fetch: a pin, a reconstruction for an unavailable member, or the partner's copy of a journal record (06 R145, R151, R158). -/
def startFetch (x : HostCmd) (f : Fetch) (s : State) : State :=
  let s := match f.segment with
    | some g => pinSegment g s
    | none => s
  match f.wait with
  | .journal j => if partnerPresent s then s.send (.fetch j) else s
  | .recon => beginRecon x.pt f.grain false x s
  | .media => s

/-- Serve one grain of a read. -/
def readGrain (recs : List RingEntry) (badCrc : List Nat) (root : State) (x : HostCmd) (key : Nat) (s : State) : State :=
  match root.ns x.nsid with
  | none => s
  | some (sh, n) =>
    let y := s.cmdOf x
    match resolveGrain root sh n recs badCrc y key (8 * (key - x.slba * sectorsPerBlock n / 8)) with
    | none => s.putCmd { y with failed := some (min key (y.failed.getD key)) }
    | some (now, fs) =>
      let y := { y with fetches := y.fetches ++ fs, phase := if !now.isEmpty && y.kind == .read then .sending else y.phase }
      let s := s.putCmd y
      let s := if now.isEmpty then s else deliverSectors y key now s
      fs.foldl (fun s f => startFetch y f s) s

/-- NVME_READ and COMPARE at the owner (06 R144): every grain is resolved against the map state of now. -/
def startRead (badCrc : List Nat) (x : HostCmd) (s : State) : State :=
  match s.ns x.nsid with
  | none => complete x .invalidNamespace s
  | some (_, n) =>
    let lo := x.slba * sectorsPerBlock n / 8
    let hi := ((x.slba + x.nblk) * sectorsPerBlock n + 7) / 8
    let recs := (s.wr.ring.filter fun e => e.rec_.nsid == x.nsid && e.mapped.length < recordSteps e.rec_).reverse
    let t := s.putCmd { s.cmdOf x with phase := .reading }
    let t := (List.range' lo (hi - lo)).foldl (fun t key => readGrain recs badCrc s x key t) t
    endRead (t.cmdOf x) t

/-! ## Routing by ANA (04 R94 to R97) -/

/-- A command writes, as reservations see it. -/
def isWrite : HostCmdKind → Bool
  | .write => true
  | .writeZeroes => true
  | .deallocate => true
  | .copy => true
  | _ => false

/-- The controllers here of one registrant are told of a change. -/
def tellHost (h : Nat) (s : State) : State :=
  let as := s.host.assocs.filter fun (a : Assoc) => (s.ident a.host).any fun i => hostKey i == h
  as.foldl (fun (s : State) (a : Assoc) => postEvent a.cntlid evReservation s) s

/-- Registrants other than `self` are told when the reservation or its generation changes (04 R93). -/
def tellRsv (old new : Rsv) (self : Option Nat) (s : State) : State :=
  if new.gen != old.gen || new.typ != old.typ then
    ((old.regs.map Prod.fst).filter fun h => self != some h).foldl (fun s h => tellHost h s) s
  else s

/-- Send RSV_UPDATE and wait for RSV_ACK; without a partner the command completes at once (11 R276). -/
def updateRsv (x : HostCmd) (sh : Bool) (n : Namespace) (r : Rsv) (s : State) : State :=
  let s := tellRsv n.rsv r (some x.host) (oneDelta sh (.nsSet { n with rsv := r }) s)
  if partnerPresent s then
    let m := s.peer.msg
    let s := { s with peer := { s.peer with msg := m + 1, rsvWait := s.peer.rsvWait ++ [(m, n.nsid, x.cntlid, x.qid, x.cid)] } }
    (s.putCmd { x with phase := .waiting }).send (.rsvUpdate m n.nsid r)
  else complete x .success s

/-- The owner serves a command whose data is here: reservation, fences, then the journal or the read path. -/
def serveLocal (badCrc : List Nat) (x : HostCmd) (s : State) : State :=
  match s.ns x.nsid with
  | none => complete x .invalidNamespace s
  | some (sh, n) =>
    if x.kind == .reservation then
      match x.rsv.bind fun q => applyRsv q x.host n.rsv with
      | some r => updateRsv x sh n r s
      | none => complete x .reservationConflict s
    else if x.kind == .flush then complete x .success s
    else if (isWrite x.kind && !mayWrite n.rsv x.host) || (!isWrite x.kind && !mayRead n.rsv x.host) then complete x .reservationConflict s
    else if isWrite x.kind && n.conflict && (writtenGrains n x).any (fun r => pageFenced s sh n r.1 r.2) then complete x .writeProtected s
    else if isWrite x.kind then s.putCmd { x with phase := .ready }
    else startRead badCrc x s

/-- Forward a command to the owner (04 R95). -/
def forward (x : HostCmd) (s : State) : State :=
  let t := s.peer.msg
  let s := { s with peer := { s.peer with msg := t + 1, fwd := s.peer.fwd ++ [Forwarded.mk t x.cntlid x.qid x.cid none] } }
  (s.putCmd { x with phase := .forwarded }).send (.fwdCmd t x)

/-- Route a command whose data is here: Inaccessible, held while its group is in Change, served, forwarded, or held until the partner is back. -/
def route (badCrc : List Nat) (x : HostCmd) (s : State) : State :=
  match s.ns x.nsid with
  | none => complete x .invalidNamespace s
  | some (_, n) =>
    match anaState s n.group with
    | .inaccessible => complete x .inaccessible s
    | .change => s.putCmd { x with phase := .held }
    | _ =>
      if s.owns n.group then serveLocal badCrc x s
      else if partnerPresent s && x.fwdTag.isNone then forward x s
      else s.putCmd { x with phase := .held }

/-- The commands held are routed again. -/
def releaseHeld (s : State) : State :=
  (s.host.cmds.filter (·.phase == .held)).foldl (fun s x => route [] x s) s

/-- A command whose data has all arrived. -/
def dataDone (badCrc : List Nat) (x : HostCmd) (s : State) : State :=
  let y := { x with missing := 0, phase := .ready }
  route badCrc y (s.putCmd y)

/-! ## Capsules and contexts (04 R89, R91, R106) -/

/-- Host traffic of this head (08 Table 8.5). -/
def countTraffic (x : HostCmd) (n : Namespace) (s : State) : State :=
  let t := s.media.traffic
  let u := x.nblk * sectorsPerBlock n
  match x.kind with
  | .read => { s with media := { s.media with traffic := (t.1 + 1, t.2.1, t.2.2.1 + u, t.2.2.2) } }
  | .write => { s with media := { s.media with traffic := (t.1, t.2.1 + 1, t.2.2.1, t.2.2.2 + u) } }
  | _ => s

/-- Take a context for a command, and start it: data is solicited, or the command is routed. -/
def takeContext (badCrc : List Nat) (x : HostCmd) (s : State) : State :=
  let s := { s with host := { s.host with cmds := s.host.cmds ++ [x] } }
  let s := match s.ns x.nsid with
    | some (_, n) => countTraffic x n s
    | none => s
  if x.missing == 0 then route badCrc x s else s.send (.solicit x.cntlid x.qid x.cid (512 * x.missing))

/-- An I/O capsule of a host arrives: the queue, the grant, the range, then a context, or a wait in the receive buffer (04 R89, R91, R94). `sgl` is the bytes its SGL describes, for a command that moves data; `data` what came in the capsule. -/
def submit (c : IoCapsule) (kind : HostCmdKind) (ranges : List (Nat × Nat × Nat)) (rsv : Option RsvReq) (sgl : Option Nat) (data : List Sector)
    (pt : Nat) (badCrc : List Nat) (s : State) : State :=
  match s.assoc c.cntlid with
  | none => s
  | some a =>
    if !(a.queues.any (·.1 == c.qid)) || !a.enabled then s
    else match s.ns c.nsid, s.ident a.host with
    | some (_, n), some h =>
      let spb := sectorsPerBlock n
      let need := c.nblk * spb
      let bad := ranges.any fun r => n.size < r.1 + r.2.1
      let moves := kind == .write || kind == .compare
      if !(h.grants.contains c.nsid) || n.deleting || replTarget s c.nsid then answer c.cntlid c.qid c.cid .invalidNamespace s
      else if n.size < c.slba + c.nblk || bad then answer c.cntlid c.qid c.cid .lbaOutOfRange s
      else if sgl.isSome && 4096 < need then answer c.cntlid c.qid c.cid .invalidField s
      else if sgl.any (· < 512 * need) then answer c.cntlid c.qid c.cid .dataSglLength s
      else
        let got := data.take need
        let x : HostCmd :=
          { cntlid := c.cntlid, qid := c.qid, cid := c.cid, kind := kind, nsid := c.nsid, slba := c.slba, nblk := c.nblk, ranges := ranges,
            data := got, phase := .receiving, jseqs := [], missing := if moves then need - got.length else 0, fwdTag := none,
            host := hostKey h, rsv := rsv, pt := pt, fetches := [], failed := none, differs := false }
        if contextFree s c.cntlid then takeContext badCrc x s
        else { s with host := { s.host with waiting := s.host.waiting ++ [{ cntlid := c.cntlid, qid := c.qid, cmd := x }] } }
    | _, _ => answer c.cntlid c.qid c.cid .invalidNamespace s

/-- NVME_WRITE (04 R106): `sgl` bytes described, `data` the sectors in the capsule (at most 8 KiB), the rest is solicited. -/
def execNvmeWrite (c : IoCapsule) (sgl : Nat) (data : List Sector) : State → Host.Outcome State Fault Refusal :=
  actIO fun s => if 16 < data.length then answer c.cntlid c.qid c.cid .invalidField s else submit c .write [] none (some sgl) data 0 [] s

/-- NVME_READ (06 R144): `pt` is the PT nearest the host quad, `badCrc` the journal records whose payload fails its CRC here. -/
def execNvmeRead (c : IoCapsule) (sgl : Nat) (pt : Fin 66) (badCrc : List Nat) : State → Host.Outcome State Fault Refusal :=
  actIO (submit c .read [] none (some sgl) [] pt.val badCrc)

/-- WRITE_ZEROES (05 R110): no data is transferred; a range past the namespace is out of range. -/
def execWriteZeroes (c : IoCapsule) : State → Host.Outcome State Fault Refusal :=
  actIO (submit c .writeZeroes [] none none [] 0 [])

/-- DATASET_MANAGEMENT (04 Table 4.3): up to 256 ranges, as (first block, blocks); without the deallocate attribute nothing happens. -/
def execDatasetManagement (c : IoCapsule) (dealloc : Bool) (ranges : List (Nat × Nat)) : State → Host.Outcome State Fault Refusal :=
  actIO fun s =>
    if 256 < ranges.length then answer c.cntlid c.qid c.cid .invalidField s
    else if !dealloc then answer c.cntlid c.qid c.cid .success s
    else submit { c with slba := 0, nblk := 0 } .deallocate (ranges.map fun r => (r.1, r.2, 0)) none none [] 0 [] s

/-- COMPARE (04 Table 4.3): the host's data, then the range is read. -/
def execCompare (c : IoCapsule) (sgl : Nat) (data : List Sector) (pt : Fin 66) (badCrc : List Nat) : State → Host.Outcome State Fault Refusal :=
  actIO fun s => if 16 < data.length then answer c.cntlid c.qid c.cid .invalidField s else submit c .compare [] none (some sgl) data pt.val badCrc s

/-- Destination ranges of a Copy, one after the other. -/
def copyRanges : Nat → List (Nat × Nat) → List (Nat × Nat × Nat)
  | _, [] => []
  | d, (src, n) :: t => (d, n, src) :: copyRanges (d + n) t

/-- COPY (04 Table 4.3, 10 R262): source ranges, as (first block, blocks), within one namespace; MSRC 127, MSSRL 65,536 and MCL 1,048,576 blocks. -/
def execCopy (c : IoCapsule) (ranges : List (Nat × Nat)) : State → Host.Outcome State Fault Refusal :=
  actIO fun s =>
    let total := (ranges.map Prod.snd).sum
    if 128 < ranges.length || ranges.any (fun r => 65536 < r.2) || 1048576 < total then answer c.cntlid c.qid c.cid .invalidField s
    else
      let past := (s.ns c.nsid).any fun p => ranges.any fun r => p.2.size < r.1 + r.2
      if past then answer c.cntlid c.qid c.cid .lbaOutOfRange s
      else submit { c with nblk := total } .copy (copyRanges c.slba ranges) none none [] 0 [] s

/-- FLUSH (04 R102): every write completed before is journaled already; for one NSID or for all of them. -/
def execFlush (c : IoCapsule) : State → Host.Outcome State Fault Refusal :=
  actIO fun s =>
    if c.nsid == 0xFFFFFFFF then
      if (s.assoc c.cntlid).isNone then s
      else answer c.cntlid c.qid c.cid (if s.peer.st == .fenced then .inaccessible else .success) s
    else submit { c with slba := 0, nblk := 0 } .flush [] none none [] 0 [] s

/-- A reservation command. -/
def reserve (c : IoCapsule) (q : RsvReq) : State → State := submit { c with slba := 0, nblk := 0 } .reservation [] (some q) none [] 0 []

/-- RESERVATION_REGISTER (11 R276): RREGA 0 register, 1 unregister, 2 replace. -/
def execReservationRegister (c : IoCapsule) (action : Fin 8) (cur new : BitVec 64) (iekey : Bool) (cptpl : Fin 4) : State → Host.Outcome State Fault Refusal :=
  actIO (reserve c (.register action.val cur new iekey cptpl.val))

/-- RESERVATION_ACQUIRE (11 R276): RACQA 0 acquire, 1 preempt, 2 preempt and abort. -/
def execReservationAcquire (c : IoCapsule) (action : Fin 8) (cur prev : BitVec 64) (rtype : Fin 256) : State → Host.Outcome State Fault Refusal :=
  actIO (reserve c (.acquire action.val cur prev rtype.val))

/-- RESERVATION_RELEASE (11 R276): RRELA 0 release, 1 clear. -/
def execReservationRelease (c : IoCapsule) (action : Fin 8) (cur : BitVec 64) (rtype : Fin 256) : State → Host.Outcome State Fault Refusal :=
  actIO (reserve c (.release action.val cur rtype.val))

/-- RESERVATION_REPORT (04 R93): the state held on both heads. -/
def execReservationReport (c : IoCapsule) : State → Host.Outcome State Fault Refusal :=
  actIO fun s => match s.assoc c.cntlid with
  | none => s
  | some a =>
    match s.ns c.nsid with
    | some (_, n) =>
      if (visible s a).contains c.nsid then answer c.cntlid c.qid c.cid .success (s.send (.adminData c.cntlid c.cid (.reservations n.rsv)))
      else answer c.cntlid c.qid c.cid .invalidNamespace s
    | none => answer c.cntlid c.qid c.cid .invalidNamespace s

/-- CAPSULE_CONTEXT_ADMIT (04 R91): the next waiting capsule, round-robin across associations, in arrival order of its queue. -/
def execCapsuleContextAdmit : State → Host.Outcome State Fault Refusal :=
  actIO fun s =>
    let ok := s.host.waiting.filter fun w => contextFree s w.cntlid
    match leastBy (fun w => (w.cntlid + 65536 - s.host.lastServed - 1) % 65536) ok with
    | none => s
    | some w =>
      let s := { s with host := { s.host with waiting := s.host.waiting.erase w, lastServed := w.cntlid } }
      takeContext [] w.cmd s

/-! ## Data that arrives (04 R82, R106) -/

/-- H2C_DATA_PDU: data of a solicited write or compare in order; one beyond the solicited range, or with a digest error, is a fatal transport error. -/
def execH2cDataPdu (cntlid qid cid : Nat) (data : List Sector) (digestOk : Bool) (badCrc : List Nat) : State → Host.Outcome State Fault Refusal :=
  actIO fun s => match s.hostCmd cntlid qid cid with
  | none => endAssoc cntlid s
  | some x =>
    if !digestOk || x.phase != .receiving || x.missing < data.length then endAssoc cntlid s
    else
      let y := { x with data := x.data ++ data, missing := x.missing - data.length }
      if y.missing == 0 then dataDone badCrc y s else s.putCmd y

/-- RDMA_READ_COMPLETION: the data of a write or compare by RDMA READ; a failure ends the command with Data Transfer Error, and nothing of it is journaled. -/
def execRdmaReadCompletion (cntlid qid cid : Nat) (ok : Bool) (data : List Sector) (badCrc : List Nat) : State → Host.Outcome State Fault Refusal :=
  actIO fun s => match s.hostCmd cntlid qid cid with
  | none => s
  | some x =>
    if x.phase != .receiving then s
    else if !ok then complete x .dataTransferError s
    else
      let y := { x with data := x.data ++ data.take x.missing, missing := x.missing - data.length }
      if y.missing == 0 then dataDone badCrc y s else s.putCmd y

/-! ## Abort (04 R101) -/

/-- A command can still be aborted: no data of it is visible. -/
def abortable (x : HostCmd) : Bool := x.phase != .journaled && x.phase != .sending && x.phase != .forwarded

/-- Abort a command that the host gave this head. -/
def abortCmd (x : HostCmd) (s : State) : State :=
  let s := (x.fetches.filterMap (·.segment)).foldl (fun s g => unpinSegment g s) s
  let s := { s with wr := { s.wr with ringWait := s.wr.ringWait.filter (· != (x.cntlid, x.qid, x.cid)) } }
  complete x .abortRequested s

/-- ABORT: the command named on its queue, or the race at the owner of a forwarded one; a fifth outstanding Abort is one too many. -/
def execAbort (cntlid cid sqid named : Nat) : State → Host.Outcome State Fault Refusal :=
  act <| admin cntlid cid fun a s =>
    if 4 ≤ a.aborts then answer cntlid 0 cid .abortLimit s
    else match s.hostCmd cntlid sqid named with
    | none =>
      match s.host.waiting.find? fun w => w.cmd.is cntlid sqid named with
      | some w => answer cntlid 0 cid .success (answer cntlid sqid named .abortRequested
          { s with host := { s.host with waiting := s.host.waiting.erase w } }) 0
      | none => answer cntlid 0 cid .success s 1
    | some x =>
      if x.phase == .forwarded then
        match s.peer.fwd.find? fun f => f.cntlid == cntlid && f.qid == sqid && f.cid == named with
        | some f =>
          if f.abortCid.isSome then answer cntlid 0 cid .success s 1
          else
            let s := { s with peer := { s.peer with fwd := updateIf (·.tag == f.tag) (fun f => { f with abortCid := some cid }) s.peer.fwd } }
            (s.putAssoc { a with aborts := a.aborts + 1 }).send (.fwdAbort f.tag)
        | none => answer cntlid 0 cid .success s 1
      else if abortable x then answer cntlid 0 cid .success (abortCmd x s) 0
      else answer cntlid 0 cid .success s 1

end Sys2Proof.Machine
end

