-- ==== Sys2Proof/Machine/Admit.lean ====
section
/-!
DEFINITION. Modules that come and go: ports that come up, MODULE_ADMIT, MODULE_RETIRE (09 R229, R230; 07 R165 to R169; 08 R188; 11 R281 to R284);
metadata page reads (10 R254, R255).
-/
namespace Sys2Proof.Machine

/-! ## MEDIA_PORT_UP (09 R230) -/

/-- The lowest-numbered FREE stage set (02 R524). -/
def freeSet (s : State) : Option Nat := (List.range 8).find? fun n => (s.set n).st == .free

/-- The default commit lead (02 R39). -/
abbrev defaultLead : Nat := 20000

/-- Stage the exchange of two ports' bindings and commit it, without the control plane (09 R230). With no set free, or the islands claimed, the port stays held. -/
def exchangeBindings (p q : Nat) (s : State) : State :=
  let off := fun (p : Nat) => 0x601000 + 8 * p
  match freeSet s with
  | none => s
  | some n =>
    if claimedElsewhere n s (regClaims (off p) ++ regClaims (off q)) then s
    else
      let s := s.putSet n { StageSet.free with st := .staging }
      let wp := s.word (off p)
      let s := stageReg n (off q) wp (stageReg n (off p) (s.word (off q)) s)
      commitSet n defaultLead .plain (runCheck n s)

/-- Ports held for an exchange that has committed carry commands again; REMAPPED is set (09 R230). -/
def settleRemap (s : State) : State :=
  (s.sml.ports.filter fun x => x.held && !s.flag Reg.fSML_PORT_STATUS_WWID_CONFLICT x.port).foldl (fun s x =>
    let ok := s.flag Reg.fSML_PORT_BIND_BOUND x.port &&
      (s.module (s.fld Reg.fSML_PORT_BIND_MODULE x.port)).any fun m => x.attached.any fun a => a.wwid == m.desc.wwid
    if ok then pumpPort x.port (firePort x.port ((s.putMport { s.mport x.port with held := false }).setFlag Reg.fSML_PORT_STATUS_REMAPPED true x.port))
    else s) s

/-- A module is reached through a port again: its commands flow, and a take that the winner owes goes first (09 R233, 11 R284). -/
def portServes (p : Nat) (m : Module) (s : State) : State :=
  let was := s.flag Reg.fSML_PORT_STATUS_FORWARDED p
  let s := if was then firePort p (s.setFlag Reg.fSML_PORT_STATUS_FORWARDED false p) else s
  let s := s.putModule { m with reachedAt := s.now, fencedHere := s.flag Reg.fSML_PORT_STATUS_FENCED p }
  let owed := s.peer.toTake.contains m.index
  let s := s.putMport { s.mport p with takeFirst := owed }
  let s := if owed then leaseRead m.index s else s
  settleRebuild (rejudge (pumpPort p s))

/-- MEDIA_PORT_UP (09 R230): what IDENTIFY and OPEN answered on a port that is up. -/
def execMediaPortUp (port : Fin 256) (desc : Descriptor) (modPort : Fin 2) (gen otherGen : Nat) (fenced otherFenced : Bool) : State → Host.Outcome State Fault Refusal :=
  act fun s =>
    let p := port.val
    if !s.portUp p then s
    else
      let a : Attached := { wwid := desc.wwid, desc := desc, modPort := modPort.val, otherGen := otherGen, otherFenced := otherFenced }
      let s := (s.setFld Reg.fSML_PORT_STATUS_GEN gen p).setFlag Reg.fSML_PORT_STATUS_FENCED fenced p
      let s := s.putMport { s.mport p with attached := some a, held := false }
      match s.sml.ports.find? fun x => x.port != p && s.portUp x.port && x.attached.any (·.wwid == desc.wwid) with
      | some x =>
        let hold := fun (q : Nat) (s : State) =>
          firePort q ((s.putMport { s.mport q with held := true }).setFlag Reg.fSML_PORT_STATUS_WWID_CONFLICT true q)
        raiseFog 12 (hold p (hold x.port s)) (arg := p)
      | none =>
        match s.media.modules.find? fun m => m.st != .absent && m.desc.wwid == desc.wwid with
        | none => s
        | some m =>
          match portOf s m.index with
          | none => s
          | some q => if q == p then portServes p m s
              else exchangeBindings p q (s.putMport { s.mport p with held := true })

/-! ## MODULE_ADMIT (07 R165, R166, R169; 08 R188; 09 R229) -/

/-- The byte offset of the first field of a descriptor that breaks its limit (09 Table 9.6). -/
def descriptorFault (d : Descriptor) : Option Nat :=
  let within := fun (lo hi v : Nat) => lo ≤ v && v ≤ hi
  ([(d.format == 1, 0x000), (d.len == 0x200, 0x002), (d.wwid != 0, 0x028), (within 1 128 d.dies, 0x030), (within 1 4 d.planes, 0x031),
    (within 2 4 d.density, 0x032), (within 1 65535 d.blocks, 0x034), (within 1 8192 d.pagesNative, 0x036),
    (within 1 8192 d.pagesOneBit, 0x038), (d.pageBytes == 18432, 0x03A), (within 100 2000 d.eaMeV, 0x05A), (1000 ≤ d.holdupMs, 0x064),
    (within 1 16 d.retrySets, 0x066), (d.rawBytes ≤ 128 * 2 ^ 40, 0x068), (d.rsvdZero, 0x074),
    (((d.retryTable.head?).getD []).all (· == 0), 0x0C0), (d.crcOk, 0x1FC)].find? fun x => !x.1).map Prod.snd

/-- A module's geometry fits its placement domain: density, page size, pages per block as the modules there (07 R166). -/
def fitsDomain (s : State) (d : Nat) (x : Descriptor) : Bool :=
  s.media.modules.all fun m => m.pdom != d || m.st == .absent ||
    (m.desc.density == x.density && m.desc.pageBytes == x.pageBytes && m.desc.pagesNative == x.pagesNative)

/-- Good blocks of a module, by die, plane and block. -/
def goodBlocks (d : Descriptor) (bad : List (Nat × Nat × Nat)) : List (Nat × Nat × Nat) :=
  ((List.range d.dies).flatMap fun die => (List.range d.planes).flatMap fun pl => (List.range d.blocks).map fun b => (die, pl, b)).filter
    fun x => !bad.contains x

/-- The pools of an admitted module (08 R188): anchors aside on domain 0, then spares, then the one-bit share of each die, then native. The rule does not say which blocks: spares are the last good ones, one-bit blocks the first of each die. -/
def poolsOf (s : State) (m dom : Nat) (d : Descriptor) (bad : List (Nat × Nat × Nat)) : List Block :=
  let good := goodBlocks d bad
  let anchors := if dom == 0 then (good.filter fun x => x.1 == 0 && x.2.1 == 0).take 4 else []
  let rest := good.filter fun x => !anchors.contains x
  let body := rest.take (rest.length - d.spares)
  let pct := s.fld Reg.fMTL_FM_CFG_BUF_PCT
  let mk := fun (x : Nat × Nat × Nat) (st : BlockState) (oneBit aside : Bool) =>
    ({ module := m, die := x.1, plane := x.2.1, block := x.2.2,
       erases := ((s.md.store.blocks.find? fun b => b.module == m && b.die == x.1 && b.plane == x.2.1 && b.block == x.2.2).map (·.erases)).getD 0,
       reads := 0, st := st, oneBit := oneBit, soft := 0, suspect := false, aside := aside } : Block)
  let pools := (List.range d.dies).flatMap fun die =>
    let bs := body.filter (·.1 == die)
    let n := (bs.length * pct + 99) / 100
    ((bs.take n).map fun x => mk x .eraseQueued true false) ++ (bs.drop n).map fun x => mk x .eraseQueued false false
  (anchors.map fun x => mk x .erased true true) ++ pools ++ (rest.drop (rest.length - d.spares)).map fun x => mk x .spare false false

/-- A module index can be admitted: it names no module, or a FAILED one that no live segment names (07 after R182). -/
def indexFree (s : State) (m : Nat) : Bool :=
  match s.module m with
  | none => true
  | some x => x.st == .absent || (x.st == .failed && !((allSegments s).any fun y => y.live && y.members.any (·.module == m)))

/-- The record of a newly admitted module. -/
def newModule (s : State) (m dom fdom : Nat) (d : Descriptor) (bad : List (Nat × Nat × Nat)) : Module :=
  { index := m, st := .active, pdom := dom, fdom := fdom, desc := d, badBlocks := bad, tempK := 0, maxTempK := 0, maxTempH := 0,
    sampledAt := s.now, triedAt := s.now, chargedTo := s.now, sparesLeft := d.spares, e := 0, history := [], progFails := 0, eraseFails := 0,
    unreadable := 0, softs := 0, mismatch := 0, refreshed := 0, lostHere := 0, reachedAt := s.now, deadDies := [], dieFaults := [],
    dieQueue := [], fencedHere := false }

/-- Admit a module: its record and pools in the log, every block of a pool erased, the domains, the vault sets, the lease set. -/
def admitModule (m dom fdom : Nat) (d : Descriptor) (bad : List (Nat × Nat × Nat)) (job : Nat) (s : State) : State :=
  let blks := poolsOf s m dom d bad
  let s := s.putStore false { s.md.store with blocks := s.md.store.blocks.filter (·.module != m) }
  let s := s.putModule (newModule s m dom fdom d bad)
  let s := (blks.foldl (fun (t : Tx) b => t.add false (.blockSet b)) (Tx.start s)).commit
  let s := (blks.filter (·.st == .eraseQueued)).foldl (fun s b => issueAt .erase (blockAddr b) (.eraseBlock m b.die b.plane b.block) s) s
  changeLset (insertNat m s.peer.lset) (some job) (settleRebuild (settleRo (rejudge (assignVault s))))

/-- MODULE_ADMIT (07 R169): the module attached to the port bound to the index; `bad` is its factory bad-block list (09 BBT_READ). -/
def execModuleAdmit (r : TaskReq) (bad : List (Nat × Nat × Nat)) : State → Host.Outcome State Fault Refusal :=
  taskCmd { opcode := 0x0802, windows := [0] } [(1, mask 10 0 ||| mask 21 16)] r fun s =>
    let m := r.argBits 1 7 0
    let dom := r.argBits 1 10 8
    match (portOf s m).bind fun p => if s.portUp p && !(s.mport p).held then (s.mport p).attached else none with
    | none => .fail cSTATE_CONFLICT
    | some a =>
      if !indexFree s m || s.media.modules.any (fun x => x.index != m && x.st != .absent && x.desc.wwid == a.wwid) then .fail cSTATE_CONFLICT
      else match descriptorFault a.desc with
      | some off => .fail cSTATE_CONFLICT off
      | none =>
        if !fitsDomain s dom a.desc then .fail cSTATE_CONFLICT
        else match lsetFault s with
        | some c => .fail c
        | none => startJob 0x0802 r { work := .admitModule m } s fun n s => admitModule m dom (r.argBits 1 21 16) a.desc bad n s

/-! ## MODULE_RETIRE (07 R169) -/

/-- The domain still meets R166 without a module. -/
def stillWide (s : State) (m : Module) : Bool :=
  match (s.domain m.pdom).code with
  | none => true
  | some (k, p) => m.st != .active || k + p + p < (activeModules s m.pdom).length

/-- A module's content fits the rest of its domain outside the reserves. -/
def contentFits (s : State) (m : Module) : Bool :=
  (if m.st == .active then (nativeBytes s m : Int) else 0) ≤ freeSpace s m.pdom || !((allSegments s).any fun x => x.live && x.members.any (·.module == m.index))

/-- MODULE_RETIRE: the module takes no more members; its segments are rebuilt elsewhere in class 3, and it leaves when the last has gone. -/
def execModuleRetire (r : TaskReq) : State → Host.Outcome State Fault Refusal :=
  taskCmd { opcode := 0x0803, windows := [0] } [(1, mask 7 0)] r fun s =>
    match (s.module (r.argBits 1 7 0)).filter fun m => m.st == .active || m.st == .wornOut || m.st == .failed with
    | none => .fail cSTATE_CONFLICT
    | some m =>
      if !stillWide s m then .fail cSTATE_CONFLICT
      else if !contentFits s m then .fail cCAPACITY_EXHAUSTED
      else match lsetFault s with
      | some c => .fail c
      | none => startJob 0x0803 r { cancellable := true, work := .retire m.index } s fun _ s =>
          settleRetires (settleRebuild (settleRo (rejudge (assignVault (s.putModule { m with st := .retiring })))))

/-! ## METADATA_PAGE_READ (10 R254, R255) -/

/-- A page in either store belongs to the trees of these namespaces. -/
def namespacesWith (s : State) (sh : Bool) (gen : Nat) : List Namespace :=
  (s.store sh).nss.filter fun n => ((s.store sh).treesOf fun x => x.nsid == n.nsid).contains gen

/-- A page is fenced by METADATA_CONFLICT. -/
def fencePage (gen : Nat) (keys : List Nat) (s : State) : State :=
  if s.md.conflicts.any (·.1 == gen) then s
  else
    let s := { s with md := { s.md with conflicts := s.md.conflicts ++ [(gen, keys)] } }
    let s := [false, true].foldl (fun s sh => (namespacesWith s sh gen).foldl (fun s n => oneDelta sh (.nsSet { n with conflict := true }) s) s) s
    raiseFog 9 (fire 151 (s.bump Reg.fMTL_META_STATUS_CONFLICT_PAGES) (detail := gen)) (arg := gen)

/-- METADATA_PAGE_READ: the copies of a page, named by its generation, were read. -/
def execMetadataPageRead (gen : Nat) (page : MetaPage) (out : PageOutcome) : State → Host.Outcome State Fault Refusal :=
  actPipe fun s =>
    let dirty := { s with md := { s.md with dirty := insertNat gen s.md.dirty } }
    match out with
    | .equal => s
    | .oneBad => dirty
    | .genDiffer => dirty
    | .conflict keys => fencePage gen keys s
    | .lost => match page with
      | .map => { s with md := { s.md with lostPages := insertNat gen s.md.lostPages } }
      | .grains ids => ids.foldl (fun s g => match s.dirOf g with
          | some e => oneDelta (s.grainShadow g) (.dirSet { e with st := .lost, lostMask := 0 }) s
          | none => s) s

end Sys2Proof.Machine
end

