-- ==== Sys2Proof/Machine/Recover.lean ====
section
/-!
DEFINITION. What restart and takeover share: the log replayed, the open-segment scan, PENDING and RECOVERED grains, journal copies merged
(08 R209, R210; 10 R251; 11 R287, R291).
-/
namespace Sys2Proof.Machine

/-- Apply the deltas that a head's transaction makes in its own store (10 R251, 11 R275). -/
def applyOwn (head : Nat) (t : Txn) (st : Store) : Store :=
  t.deltas.foldl (fun st d => if d.1 then st else applyDelta head d.2 st) st

/-- A joiner whose store the survivor still carries (11 Table 11.8). -/
def joiner (s : State) : Bool := 2 ≤ s.peer.phase && s.peer.st != .lightship

/-- Apply whole transactions of the partner to the shadow, each once, by number (10 R251, 11 R275). What a survivor changes in a joiner's store the joiner takes too. -/
def applyShadow (ts : List Txn) (s : State) : State :=
  ts.foldl (fun (s : State) t =>
    if t.num < s.md.shadowTxn then s
    else
      let mine := if joiner s then t.deltas.foldl (fun st (d : Bool × Delta) => if d.1 then applyDelta s.peer.head d.2 st else st) s.md.store else s.md.store
      { s with md := { s.md with store := mine, shadow := applyOwn (1 - s.peer.head) t s.md.shadow, shadowTxn := t.num + 1 } }) s

/-- A part of a store as it is streamed or read from media goes in as it stands (11 Table 11.8). -/
def Store.take (st : Store) : StorePart → Store
  | .page p => st.putPage p
  | .dir e => { st with dir := putBy DirEntry.grain e st.dir }
  | .index e => { st with index := e :: st.index.filter fun x => !x.same e.fp e.scope }
  | .space n => { st with nss := putBy Namespace.nsid n st.nss }
  | .snap x => { st with snaps := putBy Snapshot.id x st.snaps }
  | .segment x => { st with segments := putBy Segment.id x st.segments }
  | .block b => applyDelta 0 (.blockSet b) st
  | .loss l => { st with losses := putBy LossEntry.grain l st.losses }
  | .dict d => { st with dicts := putBy Dict.id d st.dicts }
  | .counters g a b c d _ => { st with gen := g, grainNext := a, snapNext := b, segNext := c, dictNext := d }

/-- A store put together from its parts. -/
def Store.ofParts (ps : List StorePart) : Store := ps.foldl Store.take .empty

/-- The open-segment scan (08 R209): a header without a durable place becomes RECOVERED where it stands, its fingerprint in the index. A PENDING entry keeps the count that the log gave it. -/
def openScan (sh : Bool) (hits : List ScanHit) (s : State) : State :=
  (hits.foldl (fun (t : Tx) h =>
    let st := t.s.store sh
    let old := st.dirOf h.hdr.grainId
    if !h.hdr.crcOk then t
    else if old.any fun e => e.st != .pending then t
    else
      let e : DirEntry := { grain := h.hdr.grainId, addr := h.addr, segment := h.segment, member := h.member, lostMask := (old.map (·.lostMask)).getD 0,
                            refs := (old.map (·.refs)).getD 0, len16 := (64 + h.hdr.storedLen) / 16, off16 := h.off16, st := .recovered }
      let t := t.add sh (.dirSet e)
      if st.index.any fun x => x.same h.hdr.fp h.hdr.scope then t
      else t.add sh (.fpAdd { fp := h.hdr.fp, grain := h.hdr.grainId, scope := h.hdr.scope })) (Tx.start s)).commit

/-- Entries still PENDING after the scan are freed with their index entries (08 R210). -/
def freePending (sh : Bool) (s : State) : State :=
  let st := s.store sh
  let gone := (st.dir.filter (·.st == .pending)).map (·.grain)
  (gone.foldl (fun (t : Tx) g =>
    let t := ((st.index.filter (·.grain == g))).foldl (fun (t : Tx) e => t.add sh (.fpDel e)) t
    match st.dirOf g with
    | some e => t.add sh (.dirSet { e with st := .free })
    | none => t) (Tx.start s)).commit

/-- Insert a record into a list in JSEQ order; the copy that stands wins (11 R291). -/
def insertRecord (r : JRecord) : List JRecord → List JRecord
  | [] => [r]
  | x :: t => if r.jseq < x.jseq then r :: x :: t else if r.jseq == x.jseq then x :: t else x :: insertRecord r t

/-- The union of the copies of one head's records by JSEQ, the first list the one that wins (11 R291). -/
def mergeRecords (copies : List (List JRecord)) : List JRecord :=
  copies.foldl (fun l c => c.foldl (fun l r => insertRecord r l) l) []

/-- A record that goes through the pipeline again: nothing of it is mapped, its host has had its answer. A record of the partner has its JSEQ raised by 2^64. -/
def replayEntry (s : State) (r : JRecord) : RingEntry :=
  let own := r.head == s.peer.head
  let cfg : WriteCfg := match s.ns r.nsid with
    | some (_, n) => n.cfg
    | none => { profile := 0, level := 0, ddom := 0, verify := false }
  { rec_ := if own then r else { r with jseq := r.jseq + 2 ^ 64 }, mirrored := false, vaulted := 0, posted := true, mapped := [],
    pendingIds := [], logged := false, retired := false, reserved := 0, syncWait := false, hitsOnly := false, cfg := cfg, deltas := [], remotes := [] }

/-- Insert a ring entry in OWNER_GEN order, behind those of the same OWNER_GEN (11 R291). -/
def insertByOwner (e : RingEntry) : List RingEntry → List RingEntry
  | [] => [e]
  | x :: t => if e.rec_.ownerGen < x.rec_.ownerGen then e :: x :: t else x :: insertByOwner e t

end Sys2Proof.Machine
end

