-- ==== Sys2Proof/Machine/Peer.lean ====
section
/-!
DEFINITION. What the heads tell each other while both serve: forwarded commands, mirrored records, metadata, reservations (11 R273 to R276; 04 R95, R101).
-/
namespace Sys2Proof.Machine

/-! ## Forwarding (04 R95, R101) -/

/-- FWD_CMD: a forwarded command with its data is executed at the owner as its own. -/
def execFwdCmd (tag : Nat) (x : HostCmd) (badCrc : List Nat) : State → Host.Outcome State Fault Refusal :=
  actIO fun s =>
    if s.host.cmds.any fun y => y.fwdTag == some tag then s
    else
      let y : HostCmd := { x with fwdTag := some tag, missing := 0, phase := .ready, jseqs := [], fetches := [], failed := none, differs := false }
      route badCrc y { s with host := { s.host with cmds := s.host.cmds ++ [y] } }

/-- A forwarded command that this head waits for, by tag. -/
def fwdEntry (s : State) (tag : Nat) : Option Forwarded := s.peer.fwd.find? (·.tag == tag)

/-- It is no longer waited for. -/
def dropFwd (tag : Nat) (s : State) : State := { s with peer := { s.peer with fwd := s.peer.fwd.filter (·.tag != tag) } }

/-- The host command that a forwarding entry stands for. -/
def fwdHost (s : State) (f : Forwarded) : Option HostCmd := (s.hostCmd f.cntlid f.qid f.cid).filter (·.phase == .forwarded)

/-- FWD_CPL: the data of a read that came as READ_DATA goes to the host, and the completion is posted; an Abort under way still waits for its answer. -/
def execFwdCpl (tag : Nat) (st : NvmeStatus) (dw0 : Nat) (data : List (Nat × List (Nat × Sector))) : State → Host.Outcome State Fault Refusal :=
  act fun s => match fwdEntry s tag with
  | none => s
  | some f =>
    let s := if f.abortCid.isSome then s else dropFwd tag s
    match fwdHost s f with
    | none => s
    | some x => complete x st (s.sendAll (data.map fun d => Output.hostData f.cntlid f.qid f.cid d.1 d.2)) dw0

/-- FWD_ABORT: the owner decides the race against its journaling; an aborted command leaves nothing, and the answer alone tells of it. -/
def execFwdAbort (tag : Nat) : State → Host.Outcome State Fault Refusal :=
  act fun s => match s.host.cmds.find? fun x => x.fwdTag == some tag with
  | none => s.send (.abortRsp tag false)
  | some x =>
    if abortable x then
      let s := (x.fetches.filterMap (·.segment)).foldl (fun s g => unpinSegment g s) s
      let s := { s with wr := { s.wr with ringWait := s.wr.ringWait.filter (· != (x.cntlid, x.qid, x.cid)) } }
      settleDrain ((s.dropCmd x).send (.abortRsp tag true))
    else s.send (.abortRsp tag false)

/-- ABORT_RSP: the Abort and the command complete as the owner decided. -/
def execAbortRsp (tag : Nat) (aborted : Bool) : State → Host.Outcome State Fault Refusal :=
  act fun s => match fwdEntry s tag with
  | none => s
  | some f =>
    match f.abortCid with
    | none => s
    | some cid =>
      let s := match s.assoc f.cntlid with
        | some a => s.putAssoc { a with aborts := a.aborts - 1 }
        | none => s
      let x := fwdHost s f
      let s := if aborted || x.isNone then dropFwd tag s
        else { s with peer := { s.peer with fwd := updateIf (·.tag == tag) (fun f => { f with abortCid := none }) s.peer.fwd } }
      let s := answer f.cntlid 0 cid .success s (if aborted then 0 else 1)
      match aborted, x with
      | true, some x => complete x .abortRequested s
      | _, _ => s

/-! ## Mirroring (05 R115, R117; 11 R274) -/

/-- Place a record in the mirror ring at the place its JSEQ gives, and acknowledge it. -/
def mirrorRecord (r : JRecord) (s : State) : State :=
  ({ s with wr := { s.wr with mirror := insertRecord r s.wr.mirror } }).send (.recAck r.head r.jseq)

/-- MIRROR_REC: a record that has arrived whole with a good trailer CRC; any other is dropped and sent again. -/
def execMirrorRec (r : JRecord) (crcOk : Bool) : State → Host.Outcome State Fault Refusal :=
  act fun s => if crcOk && s.mirrors && r.head != s.peer.head then mirrorRecord r s else s

/-- Every unretired record of this head is in the partner's mirror ring. -/
def allMirrored (s : State) : Bool := s.wr.ring.all fun e => e.mirrored || !ownRecord s e

/-- The mirror ring retires records below the partner's PTL_JSEQ_RETIRED (05 R114). -/
def retireMirror (jseq : Nat) (s : State) : State :=
  let j := max jseq s.wr.mirrorRetired
  { s with wr := { s.wr with mirrorRetired := j, mirror := s.wr.mirror.filter fun r => j ≤ r.jseq } }

/-- RETIRE (11 R274). -/
def execRetire (jseq : Nat) : State → Host.Outcome State Fault Refusal := act (retireMirror jseq)

/-! ## Metadata (11 R275, R276) -/

/-- LOG_PAGE: the transactions that end in a page the partner programmed are applied to the shadow. -/
def execLogPage (txns : List Txn) : State → Host.Outcome State Fault Refusal :=
  act fun s => if s.logShared && !s.peer.survivor then applyShadow txns s else s

/-- PAGE_PULL: the partner asks for a page of this head's store. -/
def execPagePull (gen : Nat) : State → Host.Outcome State Fault Refusal :=
  act fun s => s.send (.pageRsp gen (s.md.store.page gen))

/-- COUNTERS: the partner's host counters; this head tells its own at the same second. -/
def execCounters (t : Nat × Nat × Nat × Nat) : State → Host.Outcome State Fault Refusal :=
  act fun s =>
    if s.logShared then ({ s with media := { s.media with partnerTraffic := t } }).send (.counters s.media.traffic) else s

/-! ## Reservations (11 R276) -/

/-- RSV_UPDATE: reservation state copied from the owner, answered with RSV_ACK; controllers here are told (04 R93). -/
def execRsvUpdate (msg nsid : Nat) (r : Rsv) : State → Host.Outcome State Fault Refusal :=
  act fun s =>
    let n := s.md.shadow.nss.find? (·.nsid == nsid)
    let s := { s with md := { s.md with shadow := { s.md.shadow with nss := updateIf (·.nsid == nsid) (fun n => { n with rsv := r }) s.md.shadow.nss } } }
    let s := match n with
      | some n => tellRsv n.rsv r none s
      | none => s
    s.send (.rsvAck msg)

/-- RSV_ACK: the owner completes the reservation command. -/
def execRsvAck (msg : Nat) : State → Host.Outcome State Fault Refusal :=
  act fun s => match s.peer.rsvWait.find? (·.1 == msg) with
  | none => s
  | some (_, _, c, q, i) =>
    let s := { s with peer := { s.peer with rsvWait := s.peer.rsvWait.filter (·.1 != msg) } }
    match s.host.cmds.find? fun x => x.is c q i && x.phase == .waiting with
    | some x => complete x .success s
    | none => s

end Sys2Proof.Machine
end

