-- ==== Sys2Proof/Machine/Own.lean ====
section
/-!
DEFINITION. Ownership of ANA groups: paired commits, hand-over of trees, ANA_STAGE (11 R289, R290, Table 11.9; 04 R96; 10 R243).
-/
namespace Sys2Proof.Machine

/-! ## Trees (10 R243) -/

/-- Locks in hours become expiries where the wall-clock is known (10 R268). -/
def convertLocks (sh : Bool) (nsids : List Nat) (s : State) : State :=
  match s.wall with
  | none => s
  | some w =>
    (((s.store sh).snaps.filter fun x => nsids.contains x.nsid).foldl (fun (t : Tx) x => match x.lock with
      | .hours _ => t.add sh (.snapSet { x with lock := convertLock (w / sec) x.lock })
      | _ => t) (Tx.start s)).commit

/-- A group's trees come to this head's store from the partner's. -/
def takeTrees (g : Nat) (s : State) : State :=
  let nsids := (s.md.shadow.nss.filter (·.group == g)).map (·.nsid)
  if nsids.isEmpty then s
  else
    let t := (Tx.start s).add false (s.md.shadow.treesFor g)
    let t := if s.peer.survivor then t.add true (.treeLeave g)
      else t.mapS fun s => s.putStore true (s.md.shadow.leave g)
    convertLocks false nsids t.commit

/-- A group's trees leave this head's store; delete jobs on them end with NOT_OWNER (10, "Delete crossing ownership change"). -/
def leaveTrees (g : Nat) (s : State) : State :=
  let gone := (s.md.store.nss.filter (·.group == g)).map (·.nsid)
  let snaps := (s.md.store.snaps.filter fun x => gone.contains x.nsid).map (·.id)
  if gone.isEmpty then s
  else
    let d := s.md.store.treesFor g
    let s := s.putStore true (applyDelta (1 - s.peer.head) d s.md.shadow)
    let s := ((Tx.start s).add false (.treeLeave g)).commit
    let hit := fun (x : Nat × Nat × Nat) => gone.contains x.2.1 || snaps.contains x.2.2
    let s := (s.md.deletes.filter hit).foldl (fun s x => endJob x.1 cNOT_OWNER 0 [] s) s
    { s with md := { s.md with deletes := s.md.deletes.filter fun x => !hit x } }

/-! ## The switch (11 R289, R290; 04 R96) -/

/-- At T: the new owners, OWN_GEN one higher, the groups in Change; a survivor takes the trees at once and reports the groups Optimised (11 R287 step 5). -/
def ownSwap (changes : List (Nat × Nat)) (s : State) : State :=
  let moved : List (Nat × Nat) := changes.filter fun (c : Nat × Nat) => s.owner c.1 != c.2
  let recs := moved.map fun (c : Nat × Nat) => ({ group := c.1, away := s.owner c.1 == s.peer.head, drained := false, loaded := false, lastJseq := 0 } : GroupChange)
  let s := { s with peer := { s.peer with owners := moved.foldl (fun (l : List (Nat × Nat)) (c : Nat × Nat) => setKey c.1 c.2 l) s.peer.owners, ownGen := s.peer.ownGen + 1,
                                          changes := s.peer.changes.filter fun c => !(moved.any (·.1 == c.group)) } }
  if s.peer.survivor then
    let s := moved.foldl (fun (s : State) (c : Nat × Nat) => takeTrees c.1 s) s
    releaseHeld (postAll evAna s)
  else
    settleDrain (postAll evAna { s with peer := { s.peer with changes := s.peer.changes ++ recs } })

/-- A paired commit that this head acknowledged reaches T: applied when GO has come, else its groups are held in Change (11 R289). -/
def partnerSwitch (s : State) : State :=
  match s.peer.commit with
  | none => s
  | some c =>
    if c.issuer then s
    else if c.agreed then ownSwap c.changes { s with peer := { s.peer with commit := none } }
    else
      let recs := c.changes.map fun (x : Nat × Nat) => ({ group := x.1, away := false, drained := false, loaded := false, lastJseq := 0 } : GroupChange)
      postAll evAna { s with peer := { s.peer with changes := s.peer.changes ++ recs } }

/-- The outcome of a commit held in Change comes: applied, or the Change ends as it began. -/
def commitOutcome (c : PairedCommit) (go : Bool) (s : State) : State :=
  let s := { s with peer := { s.peer with commit := none, changes := s.peer.changes.filter fun x => !(c.changes.any (·.1 == x.group)) } }
  if go then ownSwap c.changes s else releaseHeld (postAll evAna s)

/-- The groups of a commit are held in Change past T. -/
def heldPast (s : State) (c : PairedCommit) : Bool := s.peer.changes.any fun x => c.changes.any (·.1 == x.group)

/-- PREPARE: the partner of the issuer stages the same change and acknowledges by T − 2 µs when its islands can take it (11 R289, 02 R40). -/
def execPrepare (pairT : Nat) (changes : List (Nat × Nat)) : State → Host.Outcome State Fault Refusal :=
  act fun s =>
    let hq := List.range' iHQ 8
    if s.peer.st == .paired && s.peer.commit.isNone && pairNow s + 2000 ≤ pairT && !claimedElsewhere 8 s hq && hq.all (acks [] s) then
      ({ s with peer := { s.peer with commit := some { pairT := pairT, changes := changes, issuer := false, agreed := false, set := 8 } } }).send (.ownAck pairT)
    else s

/-- OWN_ACK: the partner is prepared in time; the issuer sends GO. -/
def execOwnAck (pairT : Nat) : State → Host.Outcome State Fault Refusal :=
  act fun s => match s.peer.commit with
  | none => s
  | some c =>
    if c.issuer && c.pairT == pairT && !c.agreed && pairNow s + 2000 ≤ pairT then
      ({ s with peer := { s.peer with commit := some { c with agreed := true } } }).send (.ownGo pairT)
    else s

/-- OWN_GO: both heads swap at T; past T the held groups take their outcome now. -/
def execOwnGo (pairT : Nat) : State → Host.Outcome State Fault Refusal :=
  act fun s => match s.peer.commit with
  | none => s
  | some c =>
    if c.issuer || c.pairT != pairT then s
    else if heldPast s c then commitOutcome c true s
    else { s with peer := { s.peer with commit := some { c with agreed := true } } }

/-- OWN_ABORT: a prepared commit is cancelled. -/
def execOwnAbort (pairT : Nat) : State → Host.Outcome State Fault Refusal :=
  act fun s => match s.peer.commit with
  | none => s
  | some c => if c.issuer || c.pairT != pairT then s else commitOutcome c false s

/-- DRAINED: the new owner loads the group's metadata and admits its commands (11 R290). -/
def execDrained (group jseq : Nat) : State → Host.Outcome State Fault Refusal :=
  act fun s => match s.peer.changes.find? fun c => c.group == group && !c.away with
  | none => s
  | some _ =>
    if s.owner group != s.peer.head then s
    else
      let s := takeTrees group s
      let s := { s with peer := { s.peer with changes := s.peer.changes.filter (·.group != group) } }
      releaseHeld (postAll evAna s)

/-- Groups that this head has drained leave Change at the partner's next BEACON: it reports them Non-Optimised and forwards (11 R290; how the old owner learns is not stated). -/
def endDrained (s : State) : State :=
  let done := s.peer.changes.filter fun c => c.away && c.drained
  if done.isEmpty then s
  else
    let s := done.foldl (fun s c => leaveTrees c.group s) s
    let s := { s with peer := { s.peer with changes := s.peer.changes.filter fun c => !(c.away && c.drained) } }
    releaseHeld (postAll evAna s)

/-! ## Task commands (11 Table 11.9) -/

/-- ANA_STAGE (11 R289). -/
def execAnaStage (r : TaskReq) : State → Host.Outcome State Fault Refusal :=
  taskCmd { opcode := 0x0401, windows := [0] } [(1, mask 9 0 ||| mask 16 16), (2, mask 2 0)] r fun s =>
    let g := r.argBits 1 9 0
    let head := r.argBits 1 16 16
    let n := r.arg 2
    if g == 0 || 512 < g then .fail cBAD_FIELD 1
    else if s.peer.st != .paired then .fail cPEER_ABSENT
    else if s.peer.changes.any (·.group == g) || s.owner g == head then .fail cSTATE_CONFLICT
    else if !canStage n s (itemClaims (.owner g head)) then .fail cSTATE_CONFLICT
    else .done (stageItem n (.owner g head) s)

/-- Number of a Beacon state in UBL_PEER_STATE. -/
def beaconCode : BeaconState → Nat
  | .alone => 0 | .joining => 1 | .paired => 2 | .severed => 3 | .racing => 4 | .lightship => 5 | .fenced => 6

/-- UBL_PEER_STATE as it reads. -/
def peerStateWord (s : State) : Word :=
  let w := s.word Reg.UBL_PEER_STATE.base
  setBits (setBits (setBits (setBits w 63 32 (s.peer.ownGen % 2 ^ 32)) 5 5 (if s.peer.degraded then 1 else 0)) 4 4 s.peer.head) 3 0 (beaconCode s.peer.st)

/-- UBL_LEASE_STATUS as it reads. -/
def leaseStatusWord (s : State) : Word :=
  let l := match s.peer.lease with
    | .shared => 0 | .mine => 1 | .partner => 2 | .racing => 3
  setBits (setBits (setBits (setBits 0 63 48 s.peer.won) 47 32 s.peer.lost) 31 16 s.peer.lset.length) 1 0 l

/-- UBL_GROUP_STATUS as it reads. -/
def groupStatusWord (s : State) (g : Nat) : Word :=
  let x := s.group g
  let w := s.word (Reg.UBL_GROUP_STATUS.base + 8 * g)
  setBits (setBits (setBits w 4 4 (if x.heard then 1 else 0)) 3 2 (x.width / 4)) 0 0 (if x.up then 1 else 0)

/-- PEER_STATUS. -/
def execPeerStatus (r : TaskReq) : State → Host.Outcome State Fault Refusal :=
  taskCmd { opcode := 0x0402, windows := [0, 1, 2, 3] } [] r fun s =>
    .done s cOK 0 [peerStateWord s, leaseStatusWord s, groupStatusWord s 0, groupStatusWord s 1, BitVec.ofInt 64 s.peer.pairOffset]

/-- BEACON_CONFIG. -/
def execBeaconConfig (r : TaskReq) : State → Host.Outcome State Fault Refusal :=
  taskCmd { opcode := 0x0403, windows := [0] } [(1, mask 7 0 ||| mask 31 16)] r fun s =>
    let loss := r.argBits 1 7 0
    let sever := r.argBits 1 31 16
    if loss == 0 || 50 < loss || sever < 10 || 10000 < sever then .fail cBAD_FIELD 1
    else .done ((s.setFld Reg.fUBL_BEACON_CFG_LOSS_MS loss).setFld Reg.fUBL_BEACON_CFG_SEVER_MS sever)

end Sys2Proof.Machine
end

