-- ==== Sys2Proof/Machine/Race.lean ====
section
/-!
DEFINITION. Changes of the Beacon state, self-fence, takeover, the lease race (11 R280, R283 to R287).
-/
namespace Sys2Proof.Machine

/-! ## The state and its sources (11 R280, R294) -/

/-- A group is heard. -/
def groupHeard (s : State) : Bool := (s.group 0).heard || (s.group 1).heard

/-- Some heartbeat is heard. -/
def anyHeard (s : State) : Bool := groupHeard s || s.peer.pinsHeard

/-- DEGRADED: a heartbeat is silent in PAIRED. -/
def settleDegraded (s : State) : State :=
  let d := s.peer.st == .paired && !((s.group 0).heard && (s.group 1).heard && s.peer.pinsHeard)
  if d == s.peer.degraded then s else fire 513 { s with peer := { s.peer with degraded := d } }

/-- Enter a Beacon state: its source fires, the acknowledgement mode follows, and hosts hear of changed ANA states (04 R97). -/
def setPeer (t : BeaconState) (s : State) : State :=
  if s.peer.st == t then s
  else
    let s' : State := { s with peer := { s.peer with st := t, severMax := none, severDone := false } }
    let changed := (List.range' 1 512).any fun g => anaState s g != anaState s' g
    let s' := settleDegraded (settleAck (fire 512 s' (code := beaconCode t)))
    if changed then postAll evAna s' else s'

/-- The control plane hears of a partner that can join. -/
def joinEvent (s : State) : State := fire 512 s (code := beaconCode s.peer.st)

/-- PIN_FAULT, once it holds (11 R279). -/
def pinFault (s : State) : State :=
  if s.flag Reg.fUBL_PEER_STATE_PIN_FAULT then s else fire 514 (s.setFlag Reg.fUBL_PEER_STATE_PIN_FAULT true)

/-- PHB_IN silent while both groups are heard. -/
def settlePins (s : State) : State :=
  if (s.group 0).heard && (s.group 1).heard && !s.peer.pinsHeard then pinFault s else s

/-- Jobs that wait for a lease-set change end: it cannot be written any more (11 R282; the code is that of a change asked for now). -/
def dropLsetWrite (s : State) : State :=
  match s.peer.lsetWrite with
  | none => s
  | some w => w.jobs.foldl (fun s j => endJob j cPEER_ABSENT 0 [] s) { s with peer := { s.peer with lsetWrite := none } }

/-- What was under way with the partner is dropped: messages, admission, paired commit. -/
def dropPartner (s : State) : State :=
  { s with ubQueue := [], peer := { s.peer with groups := s.peer.groups.map fun (g : UbGroup) => { g with unacked := [], replays := 0 },
                                                phase := 0, sharing := [], told := [], coldStep := 0, partnerCopied := false, coldTold := false, commit := none, race := none } }

/-- The partner's forwarded commands end here: nobody is left to answer. -/
def dropForeign (s : State) : State :=
  (s.host.cmds.filter (·.fwdTag.isSome)).foldl (fun s x => ((x.fetches.filterMap (·.segment)).foldl (fun s g => unpinSegment g s) s).dropCmd x) s

/-! ## Self-fence (11 R286) -/

/-- FENCED: no media command, groups Inaccessible, waiting commands completed so, Fog, unmirrored records gone. -/
def selfFence (s : State) : State :=
  let s := dropPartner (dropLsetWrite s)
  let s := { s with peer := { s.peer with changes := [], fwd := [], rsvWait := [], startWait := none },
                    wr := { s.wr with ring := s.wr.ring.filter (fun e => e.mirrored || !ownRecord s e), ringWait := [], pages := [] },
                    sml := { s.sml with ports := s.sml.ports.map fun (x : MediaPort) => { x with queue := [], takeFirst := false } } }
  let s := raiseFog 14 (setPeer .fenced s)
  let s := dropForeign s
  s.host.cmds.foldl (fun s x => complete x .inaccessible s) s

/-- Head exit (20 R482): in Lightship mode the head stays in service with the channel withdrawn; in every other state it stops BEACON and fences itself. -/
def headExit (channel : Nat) (s : State) : State :=
  if s.peer.st == .lightship then { s with env := { s.env with withdrawn := insertNat channel s.env.withdrawn } }
  else if s.env.exited then s
  else selfFence { s with env := { s.env with exited := true } }

/-! ## Takeover (11 R287) -/

/-- Commands forwarded to the lost partner wait here; an Abort of one is answered as not done. -/
def takeBackFwd (s : State) : State :=
  let s' := s.peer.fwd.foldl (fun (s : State) f =>
    let s := match f.abortCid with
      | none => s
      | some cid =>
        let s := match s.assoc f.cntlid with
          | some a => s.putAssoc { a with aborts := a.aborts - 1 }
          | none => s
        answer f.cntlid 0 cid .success s 1
    match fwdHost s f with
    | some x => s.putCmd { x with phase := .held }
    | none => s) s
  { s' with peer := { s'.peer with fwd := [] } }

/-- Reservation commands that wait for the partner complete. -/
def endRsvWait (s : State) : State :=
  s.peer.rsvWait.foldl (fun (s : State) w => match s.host.cmds.find? fun x => x.is w.2.2.1 w.2.2.2.1 w.2.2.2.2 && x.phase == .waiting with
    | some x => complete x .success s
    | none => s) { s with peer := { s.peer with rsvWait := [] } }

/-- Groups that this head does not own. -/
def foreignGroups (s : State) : List Nat := (List.range' 1 512).filter fun g => s.owner g != s.peer.head

/-- Step 2: every group changes to this head through a stage set with the default lead; with no set to take it, at once. -/
def takeGroups (s : State) : State :=
  let gs := foreignGroups s
  let moves := gs.map fun g => (g, s.peer.head)
  let recs := gs.map fun g => ({ group := g, away := false, drained := false, loaded := false, lastJseq := 0 } : GroupChange)
  let s := { s with peer := { s.peer with changes := (s.peer.changes.filter fun c => !gs.contains c.group) ++ recs } }
  let hq := List.range' iHQ 8
  match freeSet s with
  | none => ownSwap moves s
  | some n =>
    if gs.isEmpty then s
    else if claimedElsewhere n s hq then ownSwap moves s
    else
      let s := s.putSet n { StageSet.free with st := .staging }
      let s := gs.foldl (fun s g => stageItem n (.owner g s.peer.head) s) s
      commitSet n defaultLead .plain (runCheck n s)

/-- Step 3: the shadow becomes a live store, with the partner's log applied to its end. Deltas that the partner had not logged are applied here. -/
def promoteShadow (f : TakeoverFacts) (s : State) : State :=
  let s := if f.base.isEmpty then s else { s with md := { s.md with shadow := Store.ofParts f.base, shadowTxn := 0 } }
  let s := applyShadow f.tail s
  let due := s.md.remote.filter fun d => !f.logged.contains (d.txn, d.index)
  let s := (due.foldl (fun (t : Tx) d => t.add true d.delta) (Tx.start { s with md := { s.md with remote := [] } })).commit
  freePending true (openScan true f.scan s)

/-- Step 4: the partner's unretired records join the journal, in OWNER_GEN order (11 R291). -/
def indexMirror (s : State) : State :=
  let rs := s.wr.mirror
  let s' := { s with wr := { s.wr with ring := rs.foldl (fun l r => insertByOwner (replayEntry s r) l) s.wr.ring, mirror := [] } }
  { s' with md := { s'.md with replay := s'.md.replay ++ rs.map fun r => r.jseq + 2 ^ 64 } }

/-- Takeover by the winner. Step 5, the groups Optimised, comes with the switch of step 2 (`ownSwap`). -/
def takeover (f : TakeoverFacts) (s : State) : State :=
  let s := setPeer .lightship (dropForeign (dropPartner s))
  let s := { s with peer := { s.peer with lease := .mine, survivor := true, startWait := none, changes := [] } }
  let s := endRsvWait (takeBackFwd s)
  finishMoves (indexMirror (promoteShadow f (takeGroups s)))

/-- A winner whose own restart was stopped: it owns every group and restarts both stores (11 R529). -/
def winStopped (s : State) : State :=
  let gs := foreignGroups s
  let s := setPeer .lightship (dropPartner s)
  { s with peer := { s.peer with lease := .mine, survivor := true, startWait := none, changes := [], waitsAdmission := false,
                                 owners := gs.foldl (fun l g => setKey g s.peer.head l) s.peer.owners, ownGen := s.peer.ownGen + 1 } }

/-! ## The race (11 R283, Table 11.7) -/

/-- Store a race. -/
def putRace (r : Race) (s : State) : State :=
  { s with peer := { s.peer with race := some r, won := (r.modules.filter (·.won)).length, lost := (r.modules.filter (·.lost)).length } }

/-- Change one module of the race. -/
def onRace (m : Nat) (f : RaceModule → RaceModule) (s : State) : State :=
  match s.peer.race with
  | none => s
  | some r => putRace { r with modules := updateIf (·.module == m) f r.modules } s

/-- A module enters the race: read if it can be reached, lost if not. -/
def raceModule (s : State) (m : Nat) : RaceModule :=
  { module := m, seq := 0, read := false, takes := 0, won := false, lost := (reachPort s m).isNone, inFlight := false, extra := false }

/-- Take a module with the SEQ read: LEASE_CAS mode 1, MODE 1, HOLDER this head. -/
def takeModule (m : Nat) (s : State) : State :=
  match s.peer.race.bind fun r => r.modules.find? (·.module == m) with
  | none => s
  | some x => leaseCas m x.seq 1 true (onRace m (fun y => { y with takes := y.takes + 1, inFlight := true }) s)

/-- LOST: no further lease command; the head fences itself. -/
def loseRace (s : State) : State := selfFence { s with peer := { s.peer with lease := .partner } }

/-- WON: one more take to each reachable module not yet won; those still to take come first at their next OPEN (11 R283, R284). -/
def winRace (f : TakeoverFacts) (s : State) : State :=
  match s.peer.race with
  | none => s
  | some r =>
    let open_ := (r.modules.filter fun x => !x.won).map (·.module)
    let r := { r with wonIt := true, modules := r.modules.map fun (x : RaceModule) => { x with extra := x.extra || (!x.won && !x.inFlight) } }
    let more := (r.modules.filter fun x => !x.won && !x.inFlight).map (·.module)
    let s := { s with peer := { s.peer with toTake := open_ } }
    let s := { s with sml := { s.sml with ports := s.sml.ports.map fun (x : MediaPort) =>
      { x with takeFirst := open_.any fun m => portOf s m == some x.port } } }
    let s := if s.peer.waitsAdmission then winStopped s else takeover f s
    more.foldl (fun s m => if (reachPort s m).isSome then leaseRead m s else s) (putRace r s)

/-- A race is decided when enough modules are won or lost. -/
def settleRace (f : TakeoverFacts) (s : State) : State :=
  match s.peer.race with
  | none => s
  | some r =>
    let n := r.modules.length
    if r.wonIt then s
    else if quorum n ≤ s.peer.won then winRace f s
    else if n - quorum n < s.peer.lost then loseRace s
    else s

/-- Facts where no takeover can come of it. -/
def noFacts : TakeoverFacts := { base := [], tail := [], scan := [], logged := [] }

/-- RACING: the lease race begins. A head whose lease set is empty never races: it waits in ALONE (11 R281). -/
def enterRace (s : State) : State :=
  if s.peer.lset.isEmpty then setPeer .alone s
  else
    let s := setPeer .racing (dropLsetWrite s)
    let r : Race := { since := s.now, takes := s.peer.head == 0, modules := s.peer.lset.map (raceModule s), wonIt := false, lostIt := false }
    let s := putRace r { s with peer := { s.peer with lease := .racing, startWait := none, toTake := [] } }
    settleRace noFacts ((r.modules.filter (!·.lost)).foldl (fun s x => leaseRead x.module s) s)

/-- A block of a higher LSET_GEN gives the set that counts (11 R282). -/
def adoptLset (b : LeaseBlock) (s : State) : State :=
  if b.lsetGen ≤ s.peer.lsetGen then s
  else
    let s := { s with peer := { s.peer with lset := b.lset, lsetGen := b.lsetGen } }
    match s.peer.race with
    | none => s
    | some r =>
      let new := (b.lset.filter fun m => !(r.modules.any (·.module == m))).map (raceModule s)
      let s := putRace { r with modules := (r.modules.filter fun x => b.lset.contains x.module) ++ new } s
      (new.filter (!·.lost)).foldl (fun s x => leaseRead x.module s) s

/-- Slot 0 of a module has been read in the race: its first take, the one further take after a mismatch, or the winner's extra take. -/
def raceRead (m : Nat) (b : LeaseBlock) (s : State) : State :=
  if !ourBlock b s then onRace m (fun x => { x with lost := !x.won }) s
  else
    let s := adoptLset b { s with peer := { s.peer with leaseSeq := max s.peer.leaseSeq b.seq } }
    match s.peer.race.bind fun r => (r.modules.find? (·.module == m)).map fun x => (r, x) with
    | none => s
    | some (r, x) =>
      let s := onRace m (fun y => { y with seq := b.seq, read := true }) s
      if x.won || x.inFlight then s
      else if r.wonIt then (if x.extra && x.takes < 3 then takeModule m s else s)
      else if x.lost then s
      else if x.takes == 0 then (if r.takes then takeModule m s else s)
      else if b.sole && b.holder != s.peer.head then onRace m (fun y => { y with lost := true }) s
      else if x.takes < 2 then takeModule m s
      else s

/-- A module is this head's: its own port serves, the partner's is fenced (11 R284). -/
def moduleTaken (m seq : Nat) (s : State) : State :=
  let s := { s with peer := { s.peer with toTake := s.peer.toTake.filter (· != m), leaseSeq := max s.peer.leaseSeq seq } }
  match portOf s m with
  | none => s
  | some p =>
    let x := s.mport p
    let s := s.putMport { x with takeFirst := false, attached := x.attached.map fun a => { a with otherFenced := true } }
    let s := if s.flag Reg.fSML_PORT_STATUS_FENCED p then firePort p (s.setFlag Reg.fSML_PORT_STATUS_FENCED false p) else s
    settleRebuild (rejudge (onModule m (fun x => { x with fencedHere := false }) s))

/-- A take of the race has been answered. -/
def raceTake (m : Nat) (st : SmlStatus) (seq : Nat) (s : State) : State :=
  let s := onRace m (fun x => { x with inFlight := false }) s
  match st with
  | .ok => moduleTaken m seq (onRace m (fun x => { x with won := true, lost := false }) s)
  | .casMismatch =>
    let won := (s.peer.race.map (·.wonIt)).getD false
    let again := s.peer.race.bind fun r => r.modules.find? fun x => x.module == m && (!won || !x.extra)
    match again with
    | some _ => leaseRead m (if won then onRace m (fun x => { x with extra := true }) s else s)
    | none => s
  | _ => onRace m (fun x => { x with lost := !x.won }) s

end Sys2Proof.Machine
end

