-- ==== Sys2Proof/Machine/Share.lean ====
section
/-!
DEFINITION. Phases 4 and 5 of an admission at the survivor (11 R292, Table 11.8).
-/
namespace Sys2Proof.Machine

/-- An ADMIT DONE that carries modules only. -/
def phaseDone (phase : Nat) (modules failed : List Nat) : AdmitMsg :=
  { phase := phase, modules := modules, failed := failed, owners := [], ownGen := 0, jseqNext := 0, lset := [], lsetGen := 0 }

/-- An admission ends with a code; the survivor stays in LIGHTSHIP (11 R292, Table 11.5, Table 11.9). -/
def endAdmission (code : Nat) (s : State) : State :=
  let s := match s.peer.admitJob with
    | some j => endJob j code 0 [] s
    | none => s
  settleAck { s with peer := { s.peer with phase := 0, sharing := [], told := [], admitJob := none, coldStep := 0, partnerCopied := false, coldTold := false } }

/-- Phase 5: the joiner's segments, rebuild and flash management return to it; both heads are PAIRED and the lease is shared. -/
def finishAdmission (s : State) : State :=
  let s := s.send (.admitDone (phaseDone 5 [] []))
  let s := { s with peer := { s.peer with lease := .shared, survivor := false, toTake := [] } }
  let s := settleRebuild (setPeer .paired s)
  let s := match s.peer.admitJob with
    | some j => endJob j cOK 0 [] s
    | none => s
  releaseHeld (settleAck { s with peer := { s.peer with phase := 0, sharing := [], told := [], admitJob := none } })

/-- The job has been asked to stop; that happens between phases (11 R292). -/
def admitStopping (s : State) : Bool := (s.peer.admitJob.bind s.job).any (·.stopping)

/-- No media command to a module is outstanding on its port. -/
def drainedModule (s : State) (m : Nat) : Bool :=
  match portOf s m with
  | some p => !((s.mport p).pending.any fun q => mediaOp q.body.op)
  | none => true

/-- Modules that the survivor has drained are named to the joiner, which shares them. -/
def tellShare (s : State) : State :=
  if s.peer.phase != 4 || s.peer.st != .lightship then s
  else
    let new := s.peer.sharing.filter fun m => !s.peer.told.contains m && drainedModule s m
    if new.isEmpty then s
    else ({ s with peer := { s.peer with told := s.peer.told ++ new } }).send (.admitDone (phaseDone 4 new []))

/-- Phase 4 goes on: up to 8 modules at a time; at the end a majority must be shared. -/
def shareNext (s : State) : State :=
  let left := s.peer.lset.filter fun m => !s.peer.sharedMods.contains m && !s.peer.unshared.contains m && !s.peer.sharing.contains m
  let s := { s with peer := { s.peer with sharing := s.peer.sharing ++ left.take (8 - s.peer.sharing.length) } }
  if !s.peer.sharing.isEmpty then tellShare s
  else if admitStopping s then endAdmission cCANCELLED s
  else if quorum s.peer.lset.length ≤ s.peer.sharedMods.length || s.peer.lset.isEmpty then finishAdmission s
  else endAdmission cQUORUM_LOST s

/-- Phase 4 begins: every unretired record is mirrored, and mode 0 holds. -/
def enterShare (s : State) : State :=
  if admitStopping s then endAdmission cCANCELLED s
  else shareNext (settleAck { s with peer := { s.peer with phase := 4, sharedMods := [], unshared := [], sharing := [], told := [] } })

/-- The survivor has learned its new GEN of a shared module: it serves again. -/
def shareLearned (m : Nat) (s : State) : State :=
  if s.peer.phase == 4 && s.peer.st == .lightship && s.peer.told.contains m && s.peer.sharing.contains m then
    let s := { s with peer := { s.peer with sharing := s.peer.sharing.filter (· != m), told := s.peer.told.filter (· != m),
                                            sharedMods := insertNat m s.peer.sharedMods } }
    let s := match portOf s m with
      | some p => pumpPort p (s.putMport { s.mport p with attached := (s.mport p).attached.map fun a => { a with otherFenced := false } })
      | none => s
    shareNext s
  else s

/-- The joiner could not share a module. -/
def shareFailed (m : Nat) (s : State) : State :=
  let s := { s with peer := { s.peer with sharing := s.peer.sharing.filter (· != m), told := s.peer.told.filter (· != m), unshared := insertNat m s.peer.unshared } }
  match portOf s m with
  | some p => pumpPort p s
  | none => s

end Sys2Proof.Machine
end

