-- ==== Sys2Proof/Machine/Beacon.lean ====
section
/-!
DEFINITION. The Uberuf Link, heartbeats and their timers, module responses (11 R270 to R273, R277 to R284; 09 R222 to R226).
-/
namespace Sys2Proof.Machine

/-! ## Groups (11 R270 to R273) -/

/-- A group's source (18 Table 18.1). -/
def fireGroup (g : Nat) (s : State) : State := fire (516 + g) s

/-- Width of a group: x8, x4 on the half without a fault, or none. -/
def groupWidth (bad : List Nat) : Nat := if bad.isEmpty then 8 else if bad.all (4 ≤ ·) || bad.all (· < 4) then 4 else 0

/-- Frames that a group has not covered move to the other one, under its sequence (11 R273). -/
def moveFrames (g : Nat) (s : State) : State :=
  let x := s.group g
  let y := s.group (1 - g)
  if !y.up || x.unacked.isEmpty then s
  else
    let fs := x.unacked.zipIdx.map fun (f : (Nat × Nat × Nat) × Nat) => ((y.txSeq + f.2) % 2 ^ 32, f.1.2.1, f.1.2.2)
    let s := (s.putGroup g { x with unacked := [] }).putGroup (1 - g)
      { y with txSeq := (y.txSeq + fs.length) % 2 ^ 32, unacked := y.unacked ++ fs, progressAt := if y.unacked.isEmpty then s.now else y.progressAt }
    s.sendAll (fs.map fun f => Output.replayed (1 - g) f.1 f.2.1 f.2.2)

/-- A group goes down, or is held down. -/
def groupDown (g : Nat) (s : State) : State :=
  let s := s.putGroup g { s.group g with up := false, width := 0 }
  pumpPeer (moveFrames g s)

/-- A group comes up: 64 credits in each class (11 R273). -/
def groupUp (g : Nat) (s : State) : State :=
  let x := s.group g
  pumpPeer (s.putGroup g { x with up := true, width := groupWidth x.badLanes, replays := 0, progressAt := s.now, credits := (List.range' 2 6).map fun c => (c, 64) })

/-- TRAIN_ID (11 R271, Table 11.1): the partner's head index, group letter and identity; `split` when the lanes of this group reach both partner groups. This side sends its own. -/
def execTrainId (group : Fin 2) (head letter : Fin 2) (identity : BitVec 64) (split : Bool) : State → Host.Outcome State Fault Refusal :=
  act fun s =>
    let g := group.val
    let x := s.group g
    let s := s.emit (.trainId g s.peer.head g (Config.deviceId.extractLsb' 320 64))
    let s := s.putGroup g { x with identity := some identity }
    if s.isFenced (iUB + g) then s
    else if head.val == s.peer.head then
      raiseFog 13 ([0, 1].foldl (fun (s : State) i => fireGroup i (groupDown i (s.setFlag Reg.fUBL_GROUP_STATUS_HEAD_CONFLICT true i))) s) (arg := g)
    else if split || (s.group (1 - g)).identity.any (· != identity) then
      raiseFog 13 (fireGroup g (groupDown g (s.setFlag Reg.fUBL_GROUP_STATUS_MISWIRED true g))) (arg := g)
    else
      let s := s.setFlag Reg.fUBL_GROUP_STATUS_SWAPPED (letter.val != g) g
      let was := s.group g
      let s := if groupWidth x.badLanes == 0 then s else groupUp g s
      if (s.group g).up != was.up || (s.group g).width != was.width || letter.val != g then fireGroup g s else s

/-- The group retrains at the width of its good lanes; TRAIN_ID goes out again (11 R271, R272). -/
def retrainGroup (g : Nat) (s : State) : State :=
  let x := s.group g
  let s := s.putGroup g { x with width := groupWidth x.badLanes, replays := 0, progressAt := s.now }
  let s := s.emit (.trainId g s.peer.head g (Config.deviceId.extractLsb' 320 64))
  if x.width != groupWidth x.badLanes then fireGroup g s else s

/-- Replay what is not covered; after 8 replays without progress the group retrains (11 R272). -/
def replayGroup (g : Nat) (s : State) : State :=
  let x := s.group g
  if x.unacked.isEmpty then s
  else
    let s := (s.sendAll (x.unacked.map fun (f : Nat × Nat × Nat) => Output.replayed g f.1 f.2.1 f.2.2)).bump Reg.fUBL_GROUP_STATUS_REPLAYS 1 g
    let s := s.putGroup g { x with replays := x.replays + 1, progressAt := s.now }
    if 8 ≤ x.replays + 1 then retrainGroup g s else s

/-- An ACKSEQ covers frames, modulo 2^32. -/
def coverGroup (g ack : Nat) (s : State) : State :=
  let x := s.group g
  let left := x.unacked.filter fun f => 2 ^ 31 ≤ (ack + 2 ^ 32 - f.1) % 2 ^ 32
  if left.length == x.unacked.length then s else s.putGroup g { x with unacked := left, replays := 0, progressAt := s.now }

/-- UBERUF_FRAME_RECEIVE (11 R272, R273): a frame with a bad CRC, a CLASS the table does not have, or out of sequence is dropped with a NAK; a good one brings its ACKSEQ and credits. -/
def execUberufFrameReceive (group : Fin 2) (crcOk : Bool) (cls : Fin 256) (lseq ackseq : Fin 4294967296) (nak : Bool) (credits : List (Nat × Nat)) :
    State → Host.Outcome State Fault Refusal :=
  act fun s =>
    let g := group.val
    let x := s.group g
    let sequenced := 2 ≤ cls.val
    let refuse := fun (s : State) => s.emit (.linkNak g ((x.rxSeq + 2 ^ 32 - 1) % 2 ^ 32))
    if !x.up then s
    else if !crcOk || 7 < cls.val then refuse s
    else if sequenced && lseq.val != x.rxSeq then refuse s
    else
      let s := s.putGroup g { x with rxSeq := if sequenced then (x.rxSeq + 1) % 2 ^ 32 else x.rxSeq,
                                     credits := x.credits.map fun (c : Nat × Nat) => (c.1, c.2 + ((credits.filter (·.1 == c.1)).map (·.2)).sum) }
      let s := coverGroup g ackseq.val s
      pumpPeer (if nak then replayGroup g s else s)

/-- UBERUF_REPLAY_TIMER (11 R272): REPLAY_US without progress. -/
def execUberufReplayTimer (group : Fin 2) : State → Host.Outcome State Fault Refusal :=
  act fun s =>
    let x := s.group group.val
    if !x.up || x.unacked.isEmpty then s
    else replayGroup group.val (s.reach (x.progressAt + s.fld Reg.fUBL_BEACON_CFG_REPLAY_US * us))

/-- PEER_LANE_FAULT (11 R270; 22): the lane's bit is set; the group trains x4 on its other half, or is down. -/
def execPeerLaneFault (lane : Fin 16) : State → Host.Outcome State Fault Refusal :=
  act fun s =>
    let g := lane.val / 8
    let i := lane.val % 8
    let x := s.group g
    let bad := insertNat i x.badLanes
    let s := s.setFld Reg.fUBL_GROUP_STATUS_LANE_FAULT (s.fld Reg.fUBL_GROUP_STATUS_LANE_FAULT g ||| 2 ^ i) g
    let s := s.putGroup g { x with badLanes := bad, width := if x.up then groupWidth bad else 0 }
    fireGroup g (if x.up && groupWidth bad == 0 then groupDown g s else s)

/-! ## Heartbeats (11 R277 to R280) -/

/-- The loss time in ns. -/
def lossTime (s : State) : Nat := s.fld Reg.fUBL_BEACON_CFG_LOSS_MS * ms

/-- The BEACON that this head sends on a group now (11 Table 11.4). -/
def beaconMsg (s : State) (x : UbGroup) : BeaconMsg :=
  { head := s.peer.head, state := s.peer.st, heardA := (s.group 0).heard, heardB := (s.group 1).heard,
    heardPins := s.peer.pinsHeard, lightship := s.peer.st == .lightship, selfFenced := s.peer.st == .fenced, bseq := s.peer.bseq, tSend := s.now,
    echoSend := x.echo.1, echoRecv := x.echo.2, ownGen := s.peer.ownGen, leaseSeq := s.peer.leaseSeq, nqnTag := nqnTag s,
    jseqRetired := s.wr.jseqRetired }

/-- BEACON_SEND_TIMER: every 100 µs a BEACON on each group that is up, and RETIRE (11 R274, R277). -/
def execBeaconSendTimer : State → Host.Outcome State Fault Refusal :=
  act fun s =>
    let s := s.reach ((s.now / (100 * us) + 1) * (100 * us))
    let up := if s.env.exited then [] else [0, 1].filter fun g => (s.group g).up
    let s' := up.foldl (fun (t : State) g => t.emit (.beacon g (beaconMsg s (s.group g)))) { s with peer := { s.peer with bseq := (s.peer.bseq + 1) % 2 ^ 32 } }
    if up.isEmpty then s' else s'.send (.retire (s.wr.jseqRetired))

/-- A sample of head 1's pair offset, as (round trip, offset) (11 R278). -/
def offsetSample (m : BeaconMsg) (t : Nat) : Nat × Int :=
  ((((t : Int) - m.echoSend) - ((m.tSend : Int) - m.echoRecv)).toNat, (((m.echoRecv : Int) - m.echoSend) + ((m.tSend : Int) - t)) / 2)

/-- The sample of least round trip of both groups. -/
def bestSample (s : State) : Option (Nat × Int) := leastBy (fun (p : Nat × Int) => p.1) ((s.group 0).samples ++ (s.group 1).samples)

/-- Head 1 slews its offset towards the best sample, at most 10 ns per 100 µs; head 0's is 0. -/
def slewOffset (s : State) : State :=
  if s.peer.head == 0 then s
  else
    let n := (s.now - s.peer.slewAt) / (100 * us)
    let step := 10 * (n : Int)
    match bestSample s with
    | none => s
    | some p =>
      let d := p.2 - s.peer.pairOffset
      let move := if d < -step then -step else if step < d then step else d
      { s with peer := { s.peer with pairOffset := s.peer.pairOffset + move, slewAt := s.peer.slewAt + n * (100 * us) } }

/-- PAIRED begins; a head with a channel withdrawn exits now (20 R482). SEVERED or RACING ends: records that the partner does not hold are mirrored, and what the mode lets through is posted. -/
def enterPaired (s : State) : State :=
  let s := setPeer .paired s
  let s := s.sendAll ((s.wr.ring.filter fun e => !e.mirrored && ownRecord s e).map fun e => Output.mirrorRec e.rec_)
  let s := releaseHeld (postWrites s)
  if s.env.withdrawn.isEmpty then s else headExit 0 s

/-- What a BEACON does to the Beacon state (11 Table 11.5); `first` when no group was heard before it. -/
def beaconEvent (m : BeaconMsg) (first : Bool) (s : State) : State :=
  match s.peer.st with
  | .alone => if s.peer.leaseKnown && s.peer.lease != .mine && m.head != s.peer.head then setPeer .joining { s with peer := { s.peer with startWait := none } } else s
  | .severed => enterPaired s
  | .lightship => if first then joinEvent s else s
  | _ => s

/-- A commit held in Change past T is settled by the partner's OWN_GEN (11 R289). -/
def settleHeldCommit (m : BeaconMsg) (s : State) : State :=
  match s.peer.commit with
  | some c => if !c.issuer && heldPast s c then commitOutcome c (s.peer.ownGen < m.ownGen) s else s
  | none => s

/-- BEACON (11 R277 to R280): the group counts as heard; offset, partner's view, mirror ring and Beacon state follow. -/
def execBeacon (group : Fin 2) (m : BeaconMsg) : State → Host.Outcome State Fault Refusal :=
  act fun s =>
    let g := group.val
    let x := s.group g
    if !x.up then s
    else if s.peer.st == .alone && m.nqnTag != nqnTag s then
      raiseFog 13 (fireGroup g (groupDown g (s.setFlag Reg.fUBL_GROUP_STATUS_HEAD_CONFLICT true g))) (arg := g)
    else
      let first := !groupHeard s
      let sample := if s.peer.head == 1 && m.echoSend != 0 then [offsetSample m s.now] else []
      let s := s.putGroup g { x with heard := true, heardAt := s.now, echo := (m.tSend, s.now), samples := (sample ++ x.samples).take 64 }
      let s := if x.heard then s else settleDegraded (fireGroup g s)
      let view : PartnerView := { state := m.state, head := m.head, nqnTag := m.nqnTag, ownGen := m.ownGen, leaseSeq := m.leaseSeq, heardPins := m.heardPins }
      let s := slewOffset { s with peer := { s.peer with partner := some view } }
      let s := retireMirror m.jseqRetired s
      let s := settlePins (if m.heardPins then s else pinFault s)
      endDrained (settleHeldCommit m (beaconEvent m first s))

/-- PHB_IN_EDGE (11 R277). -/
def execPhbInEdge : State → Host.Outcome State Fault Refusal :=
  act fun s => settleDegraded { s with peer := { s.peer with pinsHeard := true, pinsAt := s.now } }

/-- SEVERED: the pins alone are heard; SEVER_MAX runs. -/
def enterSevered (s : State) : State :=
  let s := setPeer .severed s
  { s with peer := { s.peer with severMax := some (s.now + s.fld Reg.fUBL_BEACON_CFG_SEVER_MS * ms) } }

/-- What the heartbeats that are left say (11 Table 11.5). -/
def heartbeatsLost (s : State) : State :=
  match s.peer.st with
  | .paired => if groupHeard s then s else if s.peer.pinsHeard then enterSevered s else enterRace s
  | .severed => if s.peer.pinsHeard then s else enterRace s
  | .joining => if anyHeard s then s else endAdmission cPEER_ABSENT (setPeer .alone s)
  | .lightship => if anyHeard s then s else endAdmission cPEER_ABSENT s
  | .fenced => if anyHeard s then s else endAdmission cPEER_ABSENT s
  | _ => s

/-- HEARTBEAT_LOSS: group A (0), group B (1) or the pins (2) have been silent for the loss time. -/
def execHeartbeatLoss (which : Fin 3) : State → Host.Outcome State Fault Refusal :=
  act fun s =>
    if which.val == 2 then
      if !s.peer.pinsHeard then s
      else
        let s := s.reach (s.peer.pinsAt + lossTime s)
        heartbeatsLost (settleDegraded (settlePins { s with peer := { s.peer with pinsHeard := false } }))
    else
      let g := which.val
      if !(s.group g).heard then s
      else
        let s := s.reach ((s.group g).heardAt + lossTime s)
        heartbeatsLost (settleDegraded (fireGroup g (s.putGroup g { s.group g with heard := false })))

/-- PHB_OUT_READBACK_FAULT (11 R279). -/
def execPhbOutReadbackFault : State → Host.Outcome State Fault Refusal :=
  act fun s =>
    if !s.peer.pinDrive then s
    else
      let s := { s with peer := { s.peer with pinDrive := false } }
      if s.flag Reg.fUBL_PEER_STATE_PIN_SHORT then s else fire 515 (s.setFlag Reg.fUBL_PEER_STATE_PIN_SHORT true)

/-! ## Timers of the Beacon state (11 R280, R283) -/

/-- START_WAIT_EXPIRY. -/
def execStartWaitExpiry : State → Host.Outcome State Fault Refusal :=
  act fun s => match s.peer.startWait with
  | some t => if s.peer.st != .alone || groupHeard s || !s.peer.leaseKnown || s.peer.lease == .mine || s.peer.lset.isEmpty then s
      else enterRace (s.reach t)
  | none => s

/-- SEVER_MAX_EXPIRY: head 1 stops PHB_OUT and fences itself; head 0 waits for the pins. -/
def execSeverMaxExpiry : State → Host.Outcome State Fault Refusal :=
  act fun s => match s.peer.severMax with
  | some t =>
    let s := s.reach t
    let s := { s with peer := { s.peer with severMax := none } }
    if s.peer.st != .severed then s
    else if s.peer.head == 1 then selfFence { s with peer := { s.peer with pinDrive := false } }
    else { s with peer := { s.peer with severDone := true } }
  | none => s

/-- RACE_DELAY_EXPIRY: head 1 issues its first takes. -/
def execRaceDelayExpiry : State → Host.Outcome State Fault Refusal :=
  act fun s => match s.peer.race with
  | some r =>
    if r.takes || s.peer.st != .racing then s
    else
      let s := s.reach (r.since + s.fld Reg.fUBL_BEACON_CFG_RACE_DELAY_US * us)
      let s := putRace { r with takes := true } s
      (r.modules.filter fun x => x.read && x.takes == 0 && !x.lost && !x.won).foldl (fun s x => takeModule x.module s) s
  | none => s

/-- LEASE_RACE_TIMER: 100 ms without a majority. -/
def execLeaseRaceTimer : State → Host.Outcome State Fault Refusal :=
  act fun s => match s.peer.race with
  | some r => if r.wonIt || s.peer.st != .racing then s else loseRace (s.reach (r.since + 100 * ms))
  | none => s

/-! ## Module responses (09 R222 to R226) -/

/-- A joiner shares a module: the block with MODE 0 and HOLDER 0xFF, mode 2 (11 Table 11.8). -/
def joinerShares (s : State) (m : Nat) : Bool := s.peer.phase == 4 && s.peer.sharing.contains m && s.peer.st != .lightship

/-- The joiner has shared a module, or failed to: the survivor is told (11 Table 11.8). -/
def shareDone (m : Nat) (ok : Bool) (s : State) : State :=
  let s := { s with peer := { s.peer with sharing := s.peer.sharing.filter (· != m) } }
  let s := if ok then moduleTaken m 0 s else s
  s.send (.admitDone (phaseDone 4 (if ok then [m] else []) (if ok then [] else [m])))

/-- A module of the set is written with a new lease set (11 R282): the block read gives the SEQ. -/
def lsetRead (m : Nat) (b : LeaseBlock) (s : State) : State := leaseCas m b.seq 0 (s.peer.lease == .mine) s

/-- A LEASE_READ has answered. -/
def leaseRead_ (m : Nat) (b : LeaseBlock) (s : State) : State :=
  if (s.peer.race.map fun r => !r.wonIt || r.modules.any fun x => x.module == m && x.extra && !x.won).getD false then raceRead m b s
  else if (s.peer.lsetWrite.map fun w => w.pending.contains m).getD false then lsetRead m b s
  else if joinerShares s m then leaseCas m b.seq 2 false s
  else if s.peer.toTake.contains m then leaseCas m b.seq 1 true s
  else s

/-- A LEASE_CAS has answered, with the sequence now held. -/
def leaseCas_ (m mode : Nat) (st : SmlStatus) (seq : Nat) (s : State) : State :=
  if mode == 1 then
    if (s.peer.race.map fun r => r.modules.any fun x => x.module == m && x.inFlight).getD false then raceTake m st seq s
    else match st with
      | .ok => moduleTaken m seq s
      | .casMismatch => if s.peer.toTake.contains m then leaseRead m s else s
      | _ => s
  else if mode == 2 then
    match st with
    | .ok => shareDone m true { s with peer := { s.peer with leaseSeq := max s.peer.leaseSeq seq } }
    | .casMismatch => if joinerShares s m then leaseRead m s else s
    | _ => if joinerShares s m then shareDone m false s else s
  else if (s.peer.lsetWrite.map fun w => w.pending.contains m).getD false then
    match st with
    | .ok => lsetWritten m { s with peer := { s.peer with leaseSeq := max s.peer.leaseSeq seq } }
    | .casMismatch => leaseRead m s
    | _ => lsetWritten m s
  else s

/-- GEN_READ has answered: this port's GEN and the other's. -/
def genRead_ (m gen other : Nat) (s : State) : State :=
  match portOf s m with
  | none => s
  | some p =>
    let x := s.mport p
    shareLearned m ((s.putMport { x with attached := x.attached.map fun a => { a with otherGen := other } }).setFld Reg.fSML_PORT_STATUS_GEN gen p)

/-- A lease command has answered. -/
def leaseAnswer (m : Nat) (b : SmlCmdBody) (r : SmlRsp) (s : State) : State :=
  match b.op with
  | .leaseRead =>
    match r.status, r.lease with
    | .ok, some x => leaseRead_ m x s
    | _, _ => if (s.peer.race.map fun r => r.modules.any fun x => x.module == m && !x.won).getD false then onRace m (fun x => { x with lost := true }) s
        else if joinerShares s m then shareDone m false s else lsetWritten m s
  | .leaseCas => leaseCas_ m b.mode r.status r.heldSeq s
  | .genRead => if r.status == .ok then genRead_ m r.gen r.otherGen s else s
  | _ => s

/-- A media command ended with FENCED: this head's port there is fenced, and GEN_READ learns the new generation (09 R226). -/
def portFenced (p : Nat) (s : State) : State :=
  if s.flag Reg.fSML_PORT_STATUS_FENCED p then s
  else
    let s := firePort p (s.setFlag Reg.fSML_PORT_STATUS_FENCED true p)
    match servedModule s p with
    | some m => genRead m.index (settleRebuild (rejudge (onModule m.index (fun x => { x with fencedHere := true }) s)))
    | none => rejudge s

/-- What a response does whatever port it came through: the partner's command is answered, a lease command goes on. -/
def smlDone (b : SmlCmdBody) (r : SmlRsp) (f : TakeoverFacts) (s : State) : State :=
  match b.why with
  | .partner tag => s.send (.mediaRsp tag (match r.status with
      | .ok => 0 | .fenced => 1 | .badAddress => 2 | .programFail => 3 | .eraseFail => 4 | .casMismatch => 5 | .dieFault => 6 | .badCommand => 7))
  | .lease m => settleRace f (leaseAnswer m b r s)
  | _ => s

/-- The queue length that DIE_WAIT shows for a die (09 R228). -/
def noteWait (p die wait : Nat) (s : State) : State :=
  match servedModule s p with
  | some m => s.putModule { m with dieQueue := setKey die (if wait == 0 then 0 else 1) m.dieQueue }
  | none => s

/-- SML_RESPONSE (09 R222): the response ends its command by tag. What a page, an erase, a temperature or a die fault brings is the effect of its own command row. -/
def execSmlResponse (via : SmlVia) (r : SmlRsp) (facts : TakeoverFacts) : State → Host.Outcome State Fault Refusal :=
  act fun s => match via with
  | .partner tag =>
    match s.sml.forwarded.find? (·.1 == tag) with
    | none => s
    | some q => smlDone q.2 r facts { s with sml := { s.sml with forwarded := s.sml.forwarded.filter (·.1 != tag) } }
  | .port port tag =>
    let p := port.val
    let x := s.mport p
    match x.pending.find? (·.tag == tag) with
    | none => s
    | some q =>
      let s := noteWait p q.body.addr.die r.dieWait (s.putMport { x with pending := x.pending.filter (·.tag != tag) })
      let s := if r.status == .fenced && mediaOp q.body.op then portFenced p s else s
      tellShare (pumpPort p (smlDone q.body r facts s))

end Sys2Proof.Machine
end

