-- ==== Sys2Proof/Machine/Join.lean ====
section
/-!
DEFINITION. Admission of a partner, the cold join, and what a head finds in its lease at a start (11 R292, R528, R529).
-/
namespace Sys2Proof.Machine

/-! ## The survivor (11 R292, Table 11.8) -/

/-- A joiner is heard: the partner is in JOINING or FENCED. -/
def joinerHeard (s : State) : Bool := groupHeard s && s.peer.partner.any fun p => p.state == .joining || p.state == .fenced

/-- A store in parts, its counters last, with the number of the next transaction. -/
def Store.parts (st : Store) (txn : Nat) : List StorePart :=
  st.pages.map .page ++ st.dir.map .dir ++ st.index.map .index ++ st.nss.map .space ++ st.snaps.map .snap ++ st.segments.map .segment ++
  st.blocks.map .block ++ st.losses.map .loss ++ st.dicts.map .dict ++ [.counters st.gen st.grainNext st.snapNext st.segNext st.dictNext txn]

/-- The joiner's JSEQ_NEXT: the highest JSEQ of its index in any copy here, plus 2^32. -/
def joinerJseq (s : State) : Nat :=
  let inRing := (s.wr.ring.filter fun e => !ownRecord s e).map fun e => e.rec_.jseq - 2 ^ 64
  ((inRing ++ s.wr.mirror.map (·.jseq)).foldl max s.wr.mirrorRetired) + 2 ^ 32

/-- Phase 1 passed: the joiner learns what it takes over; phase 2 streams both stores. -/
def admitStart (s : State) : State :=
  let m : AdmitMsg := { phase := 1, modules := [], failed := [], owners := s.peer.owners, ownGen := s.peer.ownGen, jseqNext := joinerJseq s,
                        lset := s.peer.lset, lsetGen := s.peer.lsetGen }
  let s := { s with peer := { s.peer with phase := 2 }, md := { s.md with savedShadow := s.md.shadow } }
  let s := s.send (.admitDone m)
  let s := s.sendAll ((s.md.shadow.parts s.md.shadowTxn).map fun x => Output.ckptPage false x)
  let s := s.sendAll ((s.md.store.parts s.md.txn).map fun x => Output.ckptPage true x)
  s.send (.admitDone (phaseDone 2 [] []))

/-- Why phase 1 fails. -/
def phaseOneFault (s : State) (ifaceEqual fwEqual : Bool) : Option Nat :=
  match s.peer.partner with
  | none => some cSTATE_CONFLICT
  | some p => if p.nqnTag != nqnTag s || p.head == s.peer.head then some cSTATE_CONFLICT
      else if !ifaceEqual || !fwEqual then some cLENS_INCOMPATIBLE else none

/-- PEER_ADMIT (11 R292, Table 11.9): the comparisons of the live base Lenses and firmware levels are facts about both heads. -/
def execPeerAdmit (r : TaskReq) (ifaceEqual fwEqual : Bool) : State → Host.Outcome State Fault Refusal :=
  taskCmd { opcode := 0x0404, windows := [0] } [] r fun s =>
    if s.peer.st != .lightship || !joinerHeard s || s.peer.admitJob.isSome then .fail cSTATE_CONFLICT
    else startJob 0x0404 r { cancellable := true } s fun n s =>
      match phaseOneFault s ifaceEqual fwEqual with
      | some c => endJob n c 0 [] s
      | none => admitStart { s with peer := { s.peer with admitJob := some n } }

/-- Phase 3: the unretired records go to the joiner; new ones are mirrored as they are appended. -/
def admitCopy (s : State) : State :=
  if admitStopping s then endAdmission cCANCELLED s
  else
    let s := { s with peer := { s.peer with phase := 3 } }
    let s := s.sendAll ((s.wr.ring.filter fun e => ownRecord s e && !e.mirrored).map fun e => Output.ringCopy e.rec_)
    if allMirrored s then enterShare s else s

/-! ## The joiner -/

/-- Phase 1 at the joiner: its journal and metadata caches are discarded (11 R286); it takes over ownership and lease set, and its JSEQs start beyond every copy. -/
def joinDiscard (m : AdmitMsg) (s : State) : State :=
  let top := max m.jseqNext (s.wr.jseqNext + 2 ^ 32)
  let s := { s with wr := { s.wr with ring := [], mirror := [], pages := [], ringWait := [], rows := [], unpacked := [], sieve := [],
                                      jseqNext := top, jseqRetired := top },
                    md := { s.md with store := .empty, taking := .empty, shadow := .empty, log := [], remote := [], conflicts := [], lostPages := [],
                                      dirty := [], freedSnaps := [], replay := [], deletes := [] } }
  { s with peer := { s.peer with phase := 2, owners := m.owners, ownGen := m.ownGen, lset := m.lset, lsetGen := m.lsetGen, changes := [] } }

/-- Phase 2 is complete at the joiner: its store stands on its anchor blocks; dump and stream areas are erased (11 R529). -/
def joinRestored (s : State) : State :=
  let s := { s with peer := { s.peer with phase := 3 }, md := { s.md with saved := s.md.store }, hup := { s.hup with image := none, stream := [] } }
  s.send (.admitDone (phaseDone 2 [] []))

/-- Phase 4 at the joiner: it reads slot 0 of the named modules, then shares them. -/
def joinShare (ms : List Nat) (s : State) : State :=
  let s := { s with peer := { s.peer with phase := 4, sharing := ms.foldl (fun l m => insertNat m l) s.peer.sharing } }
  ms.foldl (fun s m => if (reachPort s m).isSome then leaseRead m s else shareDone m false s) s

/-- Phase 5 at the joiner: PAIRED, its segments and its service return. -/
def joinDone (s : State) : State :=
  let s := { s with peer := { s.peer with phase := 0, sharing := [], lease := .shared, waitsAdmission := false, leaseKnown := true },
                    media := { s.media with ioAdmitted := true } }
  releaseHeld (settleRebuild (setPeer .paired s))

/-- This head joins: it is in JOINING or FENCED. -/
def joins (s : State) : Bool := s.peer.st == .joining || s.peer.st == .fenced

/-- CKPT_PAGE (11 Table 11.8): a page of the joiner's own store, or of the sender's for the shadow. -/
def execCkptPage (shadow : Bool) (x : StorePart) : State → Host.Outcome State Fault Refusal :=
  act fun s =>
    if !joins s then s
    else
      let s := s.putStore shadow ((s.store shadow).take x)
      match x with
      | .counters _ _ _ _ _ t => { s with md := if shadow then { s.md with shadowTxn := t } else { s.md with txn := t } }
      | _ => s

/-- RING_COPY (11 Table 11.8, R528): an unretired record of the other head enters the mirror ring and is acknowledged. -/
def execRingCopy (r : JRecord) : State → Host.Outcome State Fault Refusal :=
  act fun s => if joins s && r.head != s.peer.head then mirrorRecord r s else s

/-! ## The cold join (11 R528) -/

/-- Both heads' records are mirrored: PAIRED with mode 0. -/
def settleCold (s : State) : State :=
  if s.peer.st == .joining && s.peer.coldStep == 4 && allMirrored s then
    let s := if s.peer.coldTold then s else ({ s with peer := { s.peer with coldTold := true } }).send (.admitDone (phaseDone 3 [] []))
    if s.peer.partnerCopied then
      releaseHeld (settleAck (setPeer .paired { s with peer := { s.peer with coldStep := 0, coldTold := false, partnerCopied := false } }))
    else s
  else s

/-- The partner can join cold: it is heard, in ALONE or JOINING, and the lease is shared. -/
def coldReady (s : State) : Bool :=
  s.peer.st == .joining && groupHeard s && s.peer.lease == .shared && s.peer.leaseKnown && !s.peer.waitsAdmission && s.peer.phase == 0 &&
  s.peer.partner.any fun p => p.state == .alone || p.state == .joining

/-- COLD_JOIN: the next step that can be taken. A failed check leaves both heads in JOINING with its code in the join event; step 2 waits for the metadata restart. -/
def execColdJoin (ifaceEqual fwEqual : Bool) : State → Host.Outcome State Fault Refusal :=
  act fun s =>
    if !coldReady s then s
    else if s.peer.coldStep ≤ 1 then
      match phaseOneFault s ifaceEqual fwEqual with
      | some c => fire 512 s (code := c)
      | none => { s with peer := { s.peer with coldStep := 2 } }
    else if s.peer.coldStep == 2 then
      if !s.media.ioAdmitted then s
      else
        let s := { s with peer := { s.peer with coldStep := 3 } }
        s.sendAll ((s.md.store.parts s.md.txn).map fun x => Output.ckptPage true x)
    else if s.peer.coldStep == 3 then
      let s := { s with peer := { s.peer with coldStep := 4 } }
      settleCold (s.sendAll ((s.wr.ring.filter fun e => ownRecord s e && !e.mirrored).map fun e => Output.ringCopy e.rec_))
    else settleCold s

/-! ## ADMIT_DONE, REC_ACK -/

/-- ADMIT_DONE (11 Table 11.8): a phase has ended at the other head. -/
def execAdmitDone (m : AdmitMsg) : State → Host.Outcome State Fault Refusal :=
  act fun s =>
    if s.peer.st == .lightship then
      if s.peer.admitJob.isNone then s
      else if (m.phase == 2 || m.phase == 3) && !m.failed.isEmpty then endAdmission cHW_FAULT s
      else if m.phase == 2 && s.peer.phase == 2 then admitCopy s
      else if m.phase == 4 && s.peer.phase == 4 then
        let s := m.failed.foldl (fun s x => shareFailed x s) s
        let s := m.modules.foldl (fun s x => if s.peer.told.contains x then genRead x s else s) s
        shareNext s
      else s
    else if joins s then
      if m.phase == 1 then joinDiscard m s
      else if m.phase == 2 && s.peer.phase == 2 then joinRestored s
      else if m.phase == 3 && 2 ≤ s.peer.coldStep then settleCold { s with peer := { s.peer with partnerCopied := true } }
      else if m.phase == 4 && 3 ≤ s.peer.phase then joinShare m.modules s
      else if m.phase == 5 && 3 ≤ s.peer.phase then joinDone s
      else s
    else s

/-- REC_ACK: the partner holds a record; what the acknowledgement mode lets through is posted, and an admission or cold join that waits for it goes on (05 R115; 11 R274, Table 11.8). -/
def execRecAck (head jseq : Nat) : State → Host.Outcome State Fault Refusal :=
  act fun s =>
    if head != s.peer.head then s
    else
      let s := { s with wr := { s.wr with ring := updateIf (fun e => e.rec_.jseq == jseq) (fun e => { e with mirrored := true }) s.wr.ring } }
      let s := settleAck (postWrites s)
      if s.peer.st == .lightship && s.peer.phase == 3 && allMirrored s then enterShare s else settleCold s

/-! ## The lease at a start (11 R529) -/

/-- The block of highest LSET_GEN among those read. -/
def newestBlock (bs : List LeaseBlock) : Option LeaseBlock :=
  bs.foldl (fun o b => match o with
    | none => some b
    | some c => if c.lsetGen < b.lsetGen || (c.lsetGen == b.lsetGen && c.seq < b.seq) then some b else some c) none

/-- START_WAIT runs. -/
def startWaiting (s : State) : State :=
  match s.peer.startWait with
  | some _ => s
  | none => { s with peer := { s.peer with startWait := some (s.now + s.fld Reg.fUBL_BEACON_CFG_START_WAIT_S * sec) } }

/-- START_LEASE_READ: `reads` is what slot 0 of each reachable module held. Without a majority the head waits in ALONE and reads again after 1 s. -/
def execStartLeaseRead (reads : List (Nat × LeaseBlock)) : State → Host.Outcome State Fault Refusal :=
  act fun s =>
    if s.peer.st != .alone || s.peer.leaseKnown then s
    else
      let valid := reads.filter fun x => ourBlock x.2 s
      match newestBlock (valid.map (·.2)) with
      | none =>
        if s.peer.lset.isEmpty then { s with peer := { s.peer with leaseKnown := true, lease := .shared, startWait := none } }
        else s.reach (s.now + sec)
      | some b =>
        let got := valid.filter fun x => b.lset.contains x.1
        let q := quorum b.lset.length
        let sole := fun (h : Nat) => (got.filter fun x => x.2.sole && x.2.holder == h).length
        let shared := (got.filter fun x => !x.2.sole).length
        let adopt := fun (s : State) => { s with peer := { s.peer with lset := b.lset, lsetGen := b.lsetGen, owners := b.owners, ownGen := max s.peer.ownGen b.ownGen,
                                                                       leaseSeq := (got.map (·.2.seq)).foldl max s.peer.leaseSeq, leaseKnown := true } }
        if q ≤ sole (1 - s.peer.head) then
          let s := startWaiting (adopt s)
          { s with peer := { s.peer with lease := .partner, waitsAdmission := true } }
        else if q ≤ sole s.peer.head then
          let s := adopt s
          setPeer .lightship { s with peer := { s.peer with lease := .mine, survivor := true, startWait := none } }
        else if q ≤ shared then
          let s := startWaiting (adopt s)
          { s with peer := { s.peer with lease := .shared } }
        else { s with peer := { s.peer with lset := b.lset, lsetGen := b.lsetGen } }.reach (s.now + sec)

end Sys2Proof.Machine
end

