-- ==== Sys2Proof/Machine/Repl.lean ====
section
/-!
DEFINITION. Replication between arrays: partners and streams, Uberuf Remote connections, asynchronous and synchronous streams (13_replication.md).
-/
namespace Sys2Proof.Machine

/-! ## Records (13 R315, R316) -/

/-- A partner record. -/
def State.replPartner (s : State) (p : Nat) : Option ReplPartner := s.repl.partners.find? (·.index == p)

/-- A stream. -/
def State.stream (s : State) (id : Nat) : Option Stream := s.repl.streams.find? (·.id == id)

/-- Store a stream whose record has changed: the partner Bardar gets a copy. -/
def noteStream (x : Stream) (s : State) : State := (s.putStream x).emit (.replStream x)

/-- A stream runs on the head that owns its namespace's group (13 R316). -/
def runsHere (s : State) (x : Stream) : Bool := (s.ns x.nsid).any fun p => s.owns p.2.group

/-- A source stream. -/
def Stream.source (x : Stream) : Bool := x.role != .target

/-- End a stream's REPL_START job. -/
def endStart (x : Stream) (code : Nat) (s : State) : State :=
  match x.job with
  | none => s
  | some j =>
    let s := if code == cOK then endJobPlanned j s else endJob j code 0 [] s
    s.putStream { (s.stream x.id).getD x with job := none }

/-- A stream as it was before any cycle. -/
def Stream.fresh (id nsid remote partner : Nat) (role : StreamRole) : Stream :=
  { id := id, nsid := nsid, remote := remote, partner := partner, role := role, st := .idle, prev := .idle, interval := 0, hold := 0,
    strict := false, dueAt := 0, base := 0, snap := 0, cursor := 0, durable := 0, changed := [], bytes := 0, grains := 0, hits := 0,
    unacked := [], wanted := [], mismatch := [], replicas := [], open_ := [], job := none, peerId := 0, answered := [], count := 0,
    ended := false, pass := [], closed := 0, acks := [], making := 0, baseAt := 0, snapAt := 0, promoted := false, srcJseq := 0 }

/-! ## Snapshots of a stream (13 R321, R324) -/

/-- Delete a snapshot unless a lock or another stream holds it. -/
def dropSnapshot (id : Nat) (s : State) : State :=
  match s.snap id with
  | none => s
  | some (sh, x) =>
    if locked s x.lock || x.st == .deleting || snapPinned s id then s
    else
      let s := oneDelta sh (.snapSet { x with st := .deleting }) s
      settleDeletes { s with md := { s.md with deletes := s.md.deletes ++ [(noJob, 0, id)] } }

/-! ## What is sent (13 R321, R322, R327) -/

/-- Keys and entries under a root. -/
def treeEntries (st : Store) (height : Nat) (root : Option Nat) : List (Nat × MapEntry) :=
  match root with
  | some r => (st.treePages height r).flatMap fun p => if p.level == 0 then p.entries else []
  | none => []

/-- The keys whose entries differ between two trees, rising. -/
def diffKeys (old new : List (Nat × MapEntry)) : List Nat :=
  let keys := (old ++ new).foldl (fun l e => insertNat e.1 l) []
  keys.filter fun k => lookupD MapEntry.unmapped k old != lookupD .unmapped k new

/-- One entry as it goes out: a run of kind 0, 1 or 2, or a grain with its fingerprint. -/
inductive SendItem where
  | run (key kind : Nat)
  | grain (key : Nat) (fp : BitVec 256)
deriving DecidableEq, Repr

/-- A grain's fingerprint, from the headers read or from the index. -/
def fingerprintOf (s : State) (fps : List (Nat × BitVec 256)) (g : Nat) : Option (BitVec 256) :=
  match fps.find? (·.1 == g) with
  | some p => some p.2
  | none => ((s.md.store.index ++ s.md.shadow.index).find? (·.grain == g)).map (·.fp)

/-- What goes out for a key: a lost grain, or one whose header cannot be read, is an error run (13 R322). -/
def sendItem (s : State) (fps : List (Nat × BitVec 256)) (key : Nat) : MapEntry → SendItem
  | .unmapped => .run key 0
  | .zero => .run key 1
  | .grain g =>
    if (s.dirOf g).any fun e => e.st == .lost then .run key 2
    else match fingerprintOf s fps g with
    | some fp => .grain key fp
    | none => .run key 2

/-- Join items into runs of consecutive keys of one kind. -/
def runsOf (is : List SendItem) : List (Nat × Nat × Nat) :=
  (is.foldl (fun (l : List (Nat × Nat × Nat)) i => match i, l with
    | .run k d, (f, c, e) :: t => if f + c == k && d == e then (f, c + 1, e) :: t else (k, 1, d) :: (f, c, e) :: t
    | .run k d, [] => [(k, 1, d)]
    | .grain _ _, l => l) []).reverse

/-- The grains of items. -/
def grainsIn (is : List SendItem) : List (Nat × BitVec 256) := is.filterMap fun i => match i with
  | .grain k fp => some (k, fp)
  | .run _ _ => none

/-- Payload bytes of a frame, as RES4 counts them (13 Table 13.3). -/
def payloadLen : RrMsg → Nat
  | .fpBatch _ es => 40 * es.length
  | .data es => 4104 * es.length
  | .mapRun _ rs => 16 * rs.length
  | .syncRec _ r => 8 + recordLen r
  | _ => 0

/-- Send a frame of a stream and count its bytes. -/
def sendCounted (id : Nat) (m : RrMsg) (s : State) : State :=
  match s.stream id with
  | none => s
  | some x => sendStream x m (s.putStream { x with bytes := x.bytes + payloadLen m })

/-- Send a batch: the runs of its keys, then its fingerprints; its FSEQ is kept until the cycle ends. The last frame carries FLAGS[0]. -/
def sendBatch (id : Nat) (is : List SendItem) (s : State) : State :=
  let runs := runsOf is
  let gs := grainsIn is
  let s := if runs.isEmpty then s else sendCounted id (.mapRun gs.isEmpty runs) s
  if gs.isEmpty then s
  else match (s.stream id).bind (connFor s) with
  | none => s
  | some c =>
    let s := sendCounted id (.fpBatch true gs) s
    match s.stream id with
    | some x => s.putStream { x with wanted := x.wanted ++ [(c.txSeq, gs)] }
    | none => s

/-- A list in pieces of `n`. -/
def chunks {α : Type} (n : Nat) (l : List α) : List (List α) := (List.range ((l.length + n - 1) / n)).map fun i => (l.drop (i * n)).take n

/-- Every batch has been answered: DIFF_END (13 R324). -/
def settleDiff (id : Nat) (s : State) : State :=
  match s.stream id with
  | none => s
  | some x =>
    if x.role == .asyncSource && x.st == .diffing && x.snap != 0 && !x.ended && x.wanted.all fun w => x.answered.contains w.1 then
      sendStream x (.diffEnd x.count) (s.putStream { x with ended := true })
    else s

/-- Send the differences of a cycle from the cursor on: batches of at most 1,024 entries. -/
def sendItems (id : Nat) (is : List SendItem) (s : State) : State := (chunks 1024 is).foldl (fun s b => sendBatch id b s) s

/-- The difference walk of a cycle whose snapshot is READY (13 R321). -/
def walkDiff (id : Nat) (fps : List (Nat × BitVec 256)) (s : State) : State :=
  match (s.stream id).filter fun x => x.role == .asyncSource && x.st == .diffing with
  | none => s
  | some x =>
    match s.snap x.snap with
    | none => s
    | some (sh, n) =>
      if n.st != .ready then s
      else
        let st := s.store sh
        let h := ((st.ns x.nsid).map (·.height)).getD 8
        let new := treeEntries st h n.root
        let old := treeEntries st h ((s.snap x.base).bind fun b => b.2.root)
        let keys := (diffKeys old new).filter (x.cursor ≤ ·)
        let is := keys.map fun k => sendItem s fps k (lookupD .unmapped k new)
        let s := s.putStream { x with wanted := [], answered := [], count := is.length, ended := false }
        settleDiff id (sendItems id is s)

/-- Begin a cycle: S_n is taken in the stream's name. With no room for a snapshot the cycle waits for the next interval (13 R321). -/
def startCycle (id : Nat) (s : State) : State :=
  match (s.stream id).bind fun x => (s.ns x.nsid).map fun p => (x, p) with
  | none => s
  | some (x, sh, n) =>
    let due := s.now + x.interval * sec
    if snapsFull s n then s.putStream { x with st := .waiting, dueAt := due }
    else
      let p := takeSnapshot sh n false .none s
      noteStream { x with st := .diffing, snap := p.1, snapAt := s.now, dueAt := due, cursor := 0, durable := 0, count := 0, ended := false, wanted := [], answered := [] } p.2

/-! ## Resynchronisation (13 R327) -/

/-- Every 1 MiB region of a namespace. -/
def allRegions (n : Namespace) : List Nat := List.range ((grainsOf n + 255) / 256)

/-- No record of a namespace is on its way to the map. -/
def mapSettled (s : State) (nsid : Nat) : Bool := s.wr.ring.all fun e => e.rec_.nsid != nsid || e.mapped.length == recordSteps e.rec_

/-- A pass: every grain of each marked region, or the boundary from which the stream is in SYNC. A pass begins once the map holds what was written. -/
def resyncPass (id : Nat) (fps : List (Nat × BitVec 256)) (s : State) : State :=
  match (s.stream id).bind fun x => (s.ns x.nsid).map fun p => (x, p) with
  | none => s
  | some (x, sh, n) =>
    if x.st != .resyncing then s
    else if x.changed.isEmpty && x.unacked.length < 64 then endStart x cOK (noteStream { x with st := .sync, pass := [] } s)
    else if !mapSettled s x.nsid then s
    else
      let es := treeEntries (s.store sh) n.height n.root
      let keys := (x.changed.foldl (fun l g => insertNat g l) []).flatMap fun g => (List.range' (256 * g) 256).filter (· < grainsOf n)
      let is := keys.map fun k => sendItem s fps k (lookupD .unmapped k es)
      sendItems id is (s.putStream { x with pass := x.changed, wanted := [], answered := [] })

/-- FRACTURED: the regions of the records not acknowledged are marked, and the writes that wait follow the policy (13 R326). -/
def fracture (x : Stream) (code : Nat) (s : State) : State :=
  match s.ns x.nsid with
  | none => s
  | some (_, n) =>
    let js := x.unacked.map (·.1)
    let rs := (s.wr.ring.filter fun e => js.contains e.rec_.jseq).flatMap fun e => regionsOf n e.rec_.slba e.rec_.nblk
    let s := noteStream { x with st := .fractured, unacked := [], changed := rs.foldl (fun l g => insertNat g l) x.changed } s
    let s := { s with wr := { s.wr with ring := updateIf (fun e => js.contains e.rec_.jseq) (fun e => { e with syncWait := false }) s.wr.ring } }
    if x.strict then
      let held := s.host.cmds.filter fun c => c.phase == .journaled && c.jseqs.any js.contains
      postWrites (held.foldl (fun s c => complete c (if code == cCAPACITY_EXHAUSTED then .capacityExceeded else .writeProtected) s) s)
    else postWrites s

/-! ## Connections (13 R318 to R320) -/

/-- A connection by number. -/
def State.conn (s : State) (c : Nat) : Option ReplConn := s.repl.conns.find? (·.conn == c)

/-- A connection ends: the streams it carries keep pins and change map and wait in DISCONNECTED (13 Table 13.4). -/
def dropConn (c : ReplConn) (s : State) : State :=
  let mine := s.repl.streams.filter fun x => (connFor s x).any fun d => d.conn == c.conn
  let s := { s with repl := { s.repl with conns := s.repl.conns.filter (·.conn != c.conn) } }
  mine.foldl (fun s x => if x.st == .diffing || x.st == .resyncing then noteStream { x with st := .disconnected, prev := x.st } s else s) s

/-- A connection is refused or closed: the partner's source fires (13 R319; 18 Table 18.1). -/
def closeConn (c : ReplConn) (s : State) : State := fire (768 + c.partner) (dropConn c s)

/-- A frame arrives on a connection: FSEQ in order, and for enciphered frames the key generation and the tag; else the connection closes and nothing of it is applied (13 R320). -/
def onFrame (h : RrHead) (clear : Bool) (k : ReplConn → State → State) (s : State) : State :=
  match s.conn h.conn with
  | none => s
  | some c =>
    if !h.intact || h.fseq != c.rxSeq || h.gen != (if clear then 0xFFFF else c.rxGen) then closeConn c s
    else
      let c := { c with rxSeq := c.rxSeq + 1, rxAt := s.now }
      k c (s.putConn c)

/-- A frame of a proved connection. -/
def onProved (h : RrHead) (k : ReplConn → State → State) : State → Host.Outcome State Fault Refusal :=
  act (onFrame h false fun c s => if c.proved then k c s else closeConn c s)

/-- The stream that a frame names, at its source. -/
def sourceOf (s : State) (c : ReplConn) (h : RrHead) : Option Stream :=
  (s.stream h.stream).filter fun x => x.source && x.partner == c.partner && runsHere s x

/-- The stream that a frame names, at its target. -/
def targetOf (s : State) (c : ReplConn) (h : RrHead) : Option Stream :=
  s.repl.streams.find? fun x => !x.source && x.partner == c.partner && x.peerId == h.stream && x.st != .stopped && runsHere s x

/-- Connections that a head holds to a partner. -/
def connCount (s : State) (p : Nat) : Nat := (s.repl.conns.filter (·.partner == p)).length

/-- Open a connection to a partner's next address: HELLO (13 R319, R328). -/
def callPartner (p : ReplPartner) (conn : Nat) (rand : BitVec 256) (s : State) : State :=
  if 8 ≤ connCount s p.index || (s.conn conn).isSome then s
  else
    let n := max 1 (p.addrs.filter (· != 0)).length
    let c : ReplConn := { conn := conn, partner := p.index, caller := true, proved := false, mine := rand, theirs := 0, txGen := 0, rxGen := 0,
                          txSeq := 1, rxSeq := 1, frames := 0, keyAt := s.now, txAt := s.now, rxAt := s.now }
    let s := { s with repl := { s.repl with nextAddr := setKey p.index ((lookupD 0 p.index s.repl.nextAddr + 1) % n) s.repl.nextAddr } }
    sendConn c 0 (.hello (pairId s) rand) (s.putConn c)

/-- STREAM_OPEN of a source stream, with its cursor (13 R328). -/
def openStream (x : Stream) (s : State) : State :=
  sendStream x (.streamOpen (x.role == .syncSource) x.nsid x.remote x.base x.snap x.cursor) s

/-- Source streams of a partner that wait for a connection are opened, or resumed. -/
def openWaiting (p : Nat) (s : State) : State :=
  (s.repl.streams.filter fun x => x.source && x.partner == p && runsHere s x && (x.st == .opening || x.st == .disconnected || x.st == .fractured)).foldl
    (fun s x => openStream x s) s

/-- The keys of a proved connection are in use. -/
def proveConn (c : ReplConn) (s : State) : State := s.putConn { c with proved := true, frames := 0, keyAt := s.now }

/-- The HMAC of R319 over both PAIR_IDs, the connecting side's first, and both random values in an order. -/
def macFor (p : ReplPartner) (caller other : BitVec 128) (r1 r2 : BitVec 256) : BitVec 384 := Config.replMac p.psk caller other r1 r2

/-- HELLO: the partner named by PAIR_ID is answered; an unknown one is refused, and so is a ninth connection. `mine` is the random value drawn here. -/
def execHello (conn : Nat) (h : RrHead) (id : BitVec 128) (rand mine : BitVec 256) : State → Host.Outcome State Fault Refusal :=
  act fun s =>
    if !h.intact || h.gen != 0xFFFF || h.fseq != 1 || (s.conn conn).isSome then s
    else match s.repl.partners.find? (·.pairId == id) with
    | none => s
    | some p =>
      if 8 ≤ connCount s p.index then fire (768 + p.index) s
      else
        let c : ReplConn := { conn := conn, partner := p.index, caller := false, proved := false, mine := mine, theirs := rand, txGen := 0, rxGen := 0,
                              txSeq := 1, rxSeq := 2, frames := 0, keyAt := s.now, txAt := s.now, rxAt := s.now }
        sendConn c 0 (.helloAck (pairId s) mine (macFor p id (pairId s) rand mine)) (s.putConn c)

/-- HELLO_ACK: the connecting side checks the HMAC, sends PROOF, and opens the streams that wait. -/
def execHelloAck (h : RrHead) (id : BitVec 128) (rand : BitVec 256) (mac : BitVec 384) : State → Host.Outcome State Fault Refusal :=
  act (onFrame h true fun c s => match s.replPartner c.partner with
    | none => closeConn c s
    | some p =>
      if c.proved || !c.caller || p.pairId != id || mac != macFor p (pairId s) id c.mine rand then closeConn c s
      else
        let c := { c with theirs := rand }
        let s := sendConn c 0 (.proof (macFor p (pairId s) id rand c.mine)) (s.putConn c)
        openWaiting p.index (proveConn ((s.conn c.conn).getD c) s))

/-- PROOF: the other side checks the same HMAC with the random values exchanged. -/
def execProof (h : RrHead) (mac : BitVec 384) : State → Host.Outcome State Fault Refusal :=
  act (onFrame h false fun c s => match s.replPartner c.partner with
    | none => closeConn c s
    | some p =>
      if c.proved || c.caller || mac != macFor p p.pairId (pairId s) c.mine c.theirs then closeConn c s
      else openWaiting p.index (proveConn c s))

/-- REKEY: the other side moves to its next key generation. -/
def execRekey (h : RrHead) (gen : Nat) : State → Host.Outcome State Fault Refusal :=
  onProved h fun c s => if gen == c.rxGen + 1 && gen < 0xFFFF then s.putConn { c with rxGen := gen } else closeConn c s

/-- REKEY_LIMIT: 2^31 frames or 24 h under one key. A connection that would need generation 0xFFFF is closed, to be opened again. -/
def execRekeyLimit (conn : Nat) : State → Host.Outcome State Fault Refusal :=
  act fun s => match (s.conn conn).filter (·.proved) with
  | none => s
  | some c =>
    let s := if 2 ^ 31 ≤ c.frames then s else s.reach (c.keyAt + 24 * hour)
    if c.txGen + 1 == 0xFFFF then dropConn c s
    else
      let s := sendConn c 0 (.rekey (c.txGen + 1)) s
      s.putConn { (s.conn conn).getD c with txGen := c.txGen + 1, frames := 0, keyAt := s.now }

/-- KEEPALIVE. -/
def execKeepalive (h : RrHead) : State → Host.Outcome State Fault Refusal := onProved h fun _ s => s

/-- KEEPALIVE_IDLE_TIMER: 1 s with nothing sent. -/
def execKeepaliveIdleTimer (conn : Nat) : State → Host.Outcome State Fault Refusal :=
  act fun s => match (s.conn conn).filter (·.proved) with
  | none => s
  | some c => sendConn c 0 .keepAlive (s.reach (c.txAt + sec))

/-- CONNECTION_SILENCE_TIMER: 5 s with nothing received. -/
def execConnectionSilenceTimer (conn : Nat) : State → Host.Outcome State Fault Refusal :=
  act fun s => match s.conn conn with
  | none => s
  | some c => closeConn c (s.reach (c.rxAt + 5 * sec))

/-- REPLICATION_CONNECTION_LOSS (13 R328). -/
def execReplicationConnectionLoss (conn : Nat) : State → Host.Outcome State Fault Refusal :=
  act fun s => match s.conn conn with
  | none => s
  | some c => dropConn c s

/-- RECONNECT_RETRY: every 1 s the partner's streams that wait are opened, on a connection that is up or on a new one to its next address. -/
def execReconnectRetry (partner : Fin 256) (conn : Nat) (rand : BitVec 256) : State → Host.Outcome State Fault Refusal :=
  act fun s => match s.replPartner partner.val with
  | none => s
  | some p =>
    let s := s.reach ((s.now / sec + 1) * sec)
    let waits := s.repl.streams.any fun x => x.source && x.partner == p.index && runsHere s x && (x.st == .opening || x.st == .disconnected || x.st == .fractured)
    if !waits then s
    else if s.repl.conns.any fun c => c.proved && c.partner == p.index then openWaiting p.index s
    else
      let s := (s.repl.conns.filter fun c => c.partner == p.index && c.caller).foldl (fun s c => dropConn c s) s
      callPartner p conn rand s

/-! ## Task commands (13 Table 13.1) -/

/-- REPL_PARTNER_ADD: `pairId`, `addrs` and the wrapped key are the bulk data. -/
def execReplPartnerAdd (r : TaskReq) (pairId : BitVec 128) (addrs : List (BitVec 128)) (psk : Nat) : State → Host.Outcome State Fault Refusal :=
  taskCmd { opcode := 0x0701, windows := [0], bulk := .take none } [(1, mask 8 0 ||| mask 31 16), (2, mask 15 0)] r fun s =>
    let i := r.argBits 1 7 0
    if r.argBits 1 31 16 == 0 then moved r (.fail cBAD_FIELD 1)
    else if r.arg 2 == 0 then moved r (.fail cBAD_FIELD 2)
    else if (addrs.take 4).all (· == 0) then moved r (.fail cBAD_FIELD (bulkDetail false 16))
    else if (s.replPartner i).isSome then moved r (.fail cSTATE_CONFLICT)
    else
      let p : ReplPartner := { index := i, pairId := pairId, addrs := addrs.take 4, roce := r.argBits 1 8 8 == 1, port := r.arg 2,
                               cap := r.argBits 1 31 16, psk := psk }
      moved r (.done (({ s with repl := { s.repl with partners := putBy ReplPartner.index p s.repl.partners } }).emit (.replPartner i (some p))))

/-- REPL_PARTNER_REMOVE. -/
def execReplPartnerRemove (r : TaskReq) : State → Host.Outcome State Fault Refusal :=
  taskCmd { opcode := 0x0702, windows := [0] } [(1, mask 7 0)] r fun s =>
    let i := r.argBits 1 7 0
    if s.repl.streams.any fun x => x.partner == i && x.st != .stopped then .fail cSTATE_CONFLICT
    else startJob 0x0702 r {} s fun k s =>
      let s := (s.repl.conns.filter (·.partner == i)).foldl (fun s c => dropConn c s) s
      endJobPlanned k (({ s with repl := { s.repl with partners := s.repl.partners.filter (·.index != i) } }).emit (.replPartner i none))

/-- Streams that run for a namespace. -/
def streamsOf (s : State) (nsid : Nat) : List Stream := s.repl.streams.filter fun x => x.nsid == nsid && x.st != .stopped

/-- The role that ARG1 names. -/
def streamRole (n : Nat) : Option StreamRole := [some .asyncSource, some .syncSource, some .target, none].getD n none

/-- Why REPL_START is refused (13 R315 to R317, Table 13.1). -/
def startFault (s : State) (r : TaskReq) : Option (Nat × Nat) :=
  let nsid := r.argBits 1 31 0
  match streamRole (r.argBits 1 33 32) with
  | none => some (cBAD_FIELD, 1)
  | some role =>
    let a3 := r.arg 3
    let bad3 := match role with
      | .asyncSource => !(10 ≤ a3 && a3 ≤ 86400)
      | .syncSource => !(5 ≤ r.argBits 3 15 0 && r.argBits 3 15 0 ≤ 5000) || a3 ≥ 2 ^ 17
      | .target => a3 != 0
    match s.ns nsid with
    | none => some (cBAD_FIELD, 1)
    | some (sh, n) =>
      if (s.replPartner (r.argBits 1 47 40)).isNone then some (cBAD_FIELD, 1)
      else if bad3 then some (cBAD_FIELD, 3)
      else if !s.owns n.group then some (cNOT_OWNER, 0)
      else
        let xs := streamsOf s nsid
        let live := s.repl.streams.filter (·.st != .stopped)
        if 8192 ≤ live.length || (role == .syncSource && 1024 ≤ (live.filter (·.role == .syncSource)).length) ||
           (role != .target && 4 ≤ (xs.filter (·.source)).length) || (role == .target && xs.any (!·.source)) then some (cNO_RESOURCE, 0)
        else if n.deleting || (role == .target && xs.any (·.source)) || (role != .target && replTarget s nsid) then some (cSTATE_CONFLICT, 0)
        else if role == .target && (!(treeEntries (s.store sh) n.height n.root).isEmpty || (s.store sh).snaps.any (·.nsid == nsid)) then some (cSTATE_CONFLICT, 0)
        else none

/-- REPL_START: the stream is OPENING; a source sends STREAM_OPEN on a connection that is up, or calls its partner. -/
def execReplStart (r : TaskReq) (conn : Nat) (rand : BitVec 256) : State → Host.Outcome State Fault Refusal :=
  taskCmd { opcode := 0x0703, windows := [0] } [(1, mask 33 0 ||| mask 47 40), (2, mask 31 0), (3, mask64)] r fun s =>
    match startFault s r, streamRole (r.argBits 1 33 32) with
    | some (c, d), _ => .fail c d
    | none, none => .fail cBAD_FIELD 1
    | none, some role =>
      let id := s.repl.streamNext
      startJob 0x0703 r { cancellable := true, results := [BitVec.ofNat 64 id] } s fun k s =>
        let nsid := r.argBits 1 31 0
        let x := { Stream.fresh id nsid (r.argBits 2 31 0) (r.argBits 1 47 40) role with
          st := .opening, interval := if role == .asyncSource then r.arg 3 else 0, hold := if role == .syncSource then r.argBits 3 15 0 else 0,
          strict := role == .syncSource && r.argBits 3 16 16 == 1, job := some k }
        let s := { s with repl := { s.repl with streamNext := id + 1, streams := s.repl.streams.filter fun y => !(y.nsid == nsid && y.role == .target && y.st == .stopped) } }
        let s := noteStream x s
        if role == .target then s
        else if s.repl.conns.any fun c => c.proved && c.partner == x.partner then openStream x s
        else match s.replPartner x.partner with
        | some p => callPartner p conn rand s
        | none => s

/-- A stream ends in STOPPED: its pins are released, its change map goes, and writes that waited for it wait no more (13 Table 13.4). -/
def stopStream (x : Stream) (code : Nat) (s : State) : State :=
  let js := x.unacked.map (·.1)
  let s := endStart x code s
  let s := noteStream { x with st := .stopped, job := none, base := 0, snap := 0, unacked := [], wanted := [], changed := [], pass := [], acks := [] } s
  let s := { s with wr := { s.wr with ring := updateIf (fun e => js.contains e.rec_.jseq) (fun e => { e with syncWait := false }) s.wr.ring } }
  settleDeletes (postWrites s)

/-- The snapshots that a source stream has taken go, where nothing else holds them. -/
def dropStreamSnaps (x : Stream) (s : State) : State :=
  if x.role == .asyncSource then ([x.base, x.snap].filter (· != 0)).foldl (fun s i => dropSnapshot i s) s else s

/-- REPL_STOP: CLOSE is sent, the pins are released. A target stays inactive. -/
def execReplStop (r : TaskReq) : State → Host.Outcome State Fault Refusal :=
  taskCmd { opcode := 0x0704, windows := [0] } [(1, mask64), (2, mask 0 0)] r fun s =>
    match s.stream (r.arg 1) with
    | none => .fail cBAD_FIELD 1
    | some x => .done (dropStreamSnaps x (stopStream x cCANCELLED (sendStream x (.close cOK) s)))

/-- REPL_PROMOTE (13 R329): the map root becomes that of the newest replica snapshot, and the namespace becomes active. -/
def execReplPromote (r : TaskReq) : State → Host.Outcome State Fault Refusal :=
  taskCmd { opcode := 0x0704, windows := [0] } [(1, mask64), (2, mask 0 0)] r fun s =>
    match s.stream (r.arg 1) with
    | none => .fail cBAD_FIELD 1
    | some x =>
      if x.source then .fail cNOT_PERMITTED
      else
        let s := stopStream x cCANCELLED (sendStream x (.close cOK) s)
        let s := s.putStream { (s.stream x.id).getD x with promoted := true }
        match s.ns x.nsid with
        | none => .done s
        | some (sh, n) =>
          let root := ((x.replicas.filterMap s.snap).find? fun p => p.2.st == .ready).bind fun p => p.2.root
          let t := (Tx.start s).add sh (.nsSet { n with root := root })
          let t := match n.root with
            | some q => t.add sh (.treeRelease n.nsid q)
            | none => t
          .done (postAll evNamespace t.commit)

/-- Number of a stream's state, in the order of Table 13.4 (log 41). -/
def streamCode : StreamState → Nat
  | .idle => 0 | .opening => 1 | .diffing => 2 | .waiting => 3 | .resyncing => 4 | .sync => 5 | .fractured => 6 | .disconnected => 7 | .stopped => 8

/-- REPL_STATUS: lag in s since the base snapshot, or in records. -/
def execReplStatus (r : TaskReq) : State → Host.Outcome State Fault Refusal :=
  taskCmd { opcode := 0x0705, windows := [0] } [(1, mask64)] r fun s =>
    match s.stream (r.arg 1) with
    | none => .fail cBAD_FIELD 1
    | some x =>
      let lag := if x.role == .syncSource then x.unacked.length else (s.now - x.baseAt) / sec
      .done s cOK 0 ([streamCode x.st, lag, x.cursor, x.bytes, x.grains, x.hits].map (BitVec.ofNat 64))

/-! ## The source (13 R321 to R328) -/

/-- A start that was cancelled ends between frames: the stream is IDLE, the target is told and empties itself (13, after Table 13.1). -/
def settleCancel (x : Stream) (s : State) : Bool × State :=
  if (x.job.bind s.job).any (·.stopping) then
    let s := sendStream x (.close cCANCELLED) s
    let s := endStart x cCANCELLED s
    (true, dropStreamSnaps x (noteStream { Stream.fresh x.id x.nsid x.remote x.partner x.role with interval := x.interval, hold := x.hold, strict := x.strict } s))
  else (false, s)

/-- A source row: its stream, unless its start has been cancelled. -/
def onSource (h : RrHead) (k : Stream → State → State) : State → Host.Outcome State Fault Refusal :=
  onProved h fun c s => match sourceOf s c h with
    | none => s
    | some x =>
      let p := settleCancel x s
      if p.1 then p.2 else k x p.2

/-- REPLICATION_INTERVAL: a stream in WAITING takes S_n when its interval falls due. -/
def execReplicationInterval (stream : Nat) : State → Host.Outcome State Fault Refusal :=
  act fun s => match (s.stream stream).filter fun x => x.role == .asyncSource && x.st == .waiting && runsHere s x with
  | none => s
  | some x => startCycle x.id (s.reach x.dueAt)

/-- The target has accepted: the first cycle, the first pass, or the state before the loss, from the lower cursor on (13 Table 13.4, R328). -/
def opened (x : Stream) (cursor : Nat) (fps : List (Nat × BitVec 256)) (s : State) : State :=
  let low := min x.cursor cursor
  match x.st, x.role with
  | .opening, .asyncSource => startCycle x.id s
  | .opening, .syncSource =>
    match s.ns x.nsid with
    | some (_, n) => resyncPass x.id fps (noteStream { x with st := .resyncing, changed := allRegions n } s)
    | none => s
  | .disconnected, .asyncSource => walkDiff x.id fps (noteStream { x with st := x.prev, cursor := low } s)
  | .disconnected, .syncSource => resyncPass x.id fps (noteStream { x with st := x.prev } s)
  | .fractured, _ => resyncPass x.id fps (noteStream { x with st := .resyncing } s)
  | _, _ => s

/-- STREAM_OPEN (13 R328): at the target it opens or resumes the stream that REPL_START made for it, and is answered with the durable cursor; with no such stream it is refused. Its answer starts the source; `fps` are fingerprints read from grain headers. -/
def execStreamOpen (h : RrHead) (m : Sum (Nat × Nat) Nat) (fps : List (Nat × BitVec 256)) : State → Host.Outcome State Fault Refusal :=
  match m with
  | .inl (source, target) => onProved h fun c s =>
      let fit := fun (x : Stream) => !x.source && x.partner == c.partner && x.nsid == target && x.remote == source && x.st != .stopped && runsHere s x
      match s.repl.streams.find? fit with
      | none => sendConn c h.stream (.close cSTATE_CONFLICT) s
      | some x =>
        let x := { x with peerId := h.stream, st := if x.st == .opening then .diffing else x.st, wanted := [], mismatch := [], ended := false }
        sendStream x (.streamOpened x.durable) (noteStream x s)
  | .inr cursor => onSource h fun x s => opened x cursor fps s

/-- FP_WANT (13 R322): each wanted grain is read and verified (`reads`), and sent; one that is lost is an error run. -/
def execFpWant (h : RrHead) (fseq : Nat) (keys : List Nat) (reads : List (Nat × List Sector)) : State → Host.Outcome State Fault Refusal :=
  onSource h fun x s => match x.wanted.find? (·.1 == fseq) with
    | none => s
    | some b =>
      let ask := keys.filter fun k => b.2.any (·.1 == k)
      let have_ := ask.filterMap fun k => (reads.find? (·.1 == k))
      let lost := ask.filter fun k => !(reads.any (·.1 == k))
      let first := !x.answered.contains fseq
      let s := s.putStream { x with answered := insertNat fseq x.answered, grains := x.grains + have_.length,
                                    hits := if first then x.hits + (b.2.length - ask.length) else x.hits }
      let s := (chunks 15 have_).foldl (fun s es => sendCounted x.id (.data es) s) s
      let s := if lost.isEmpty then s else sendCounted x.id (.mapRun true (lost.map fun k => (k, 1, 2))) s
      settleDiff x.id s

/-- CURSOR (13 R324, R327): the source's cursor; regions below it are clear, and the next pass follows. -/
def execCursor (h : RrHead) (key : Nat) (fps : List (Nat × BitVec 256)) : State → Host.Outcome State Fault Refusal :=
  onSource h fun x s =>
    let size := ((s.ns x.nsid).map fun p => grainsOf p.2).getD 0
    let done := x.pass.filter fun g => min (256 * (g + 1)) size ≤ key
    let x := { x with cursor := key, durable := key, changed := x.changed.filter (!done.contains ·), pass := x.pass.filter (!done.contains ·) }
    let s := noteStream x s
    if x.st == .resyncing && x.pass.isEmpty then resyncPass x.id fps s else s

/-- The replica snapshot of a cycle has been answered: the base advances, the old one goes, and the stream waits (13 R324). -/
def cycleDone (x : Stream) (s : State) : State :=
  let old := x.base
  let s := noteStream { x with st := .waiting, base := x.snap, baseAt := x.snapAt, snap := 0, wanted := [], answered := [], ended := false, cursor := 0 } s
  let s := endStart x cOK s
  if old == 0 then s else dropSnapshot old s

/-- SYNC_ACK (13 R325, R326). -/
def execSyncAck (h : RrHead) (jseq code : Nat) : State → Host.Outcome State Fault Refusal :=
  onSource h fun x s =>
    if !(x.unacked.any (·.1 == jseq)) then s
    else if code == cOK then
      let s := s.putStream { x with unacked := x.unacked.filter (·.1 != jseq) }
      postWrites { s with wr := { s.wr with ring := updateIf (fun e => e.rec_.jseq == jseq) (fun e => { e with syncWait := false }) s.wr.ring } }
    else fracture x code s

/-- SYNC_HOLD_EXPIRY (13 R326): the oldest record has waited for SYNC_HOLD_MS. -/
def execSyncHoldExpiry (stream : Nat) : State → Host.Outcome State Fault Refusal :=
  act fun s => match (s.stream stream).filter fun x => x.st == .sync with
  | none => s
  | some x => match x.unacked.head? with
    | none => s
    | some u => fracture x cOK (s.reach (u.2 + x.hold * ms))

/-! ## The target (13 R322 to R325) -/

/-- The target's namespace with its store. -/
def targetNs (s : State) (x : Stream) : Option (Bool × Namespace) := s.ns x.nsid

/-- Raw bytes that data grains reserve; none for a confirmed hit (05 R119). -/
def ingestShort (s : State) (n : Namespace) (gs : Nat) : Bool :=
  let d := domainOf s n.profile
  0 < gs && ((s.domain d).readOnly || freeSpace s d < gs * reservePer s d)

/-- Journal a record at the target like a host write (13 R323). -/
def ingest (x : Stream) (n : Namespace) (k : JKind) (slba nblk src : Nat) (gs : List JGrain) (hit : Bool) (s : State) : State :=
  let q := appendRecord n false k slba nblk src gs hit (if hit then 0 else dataGrains gs * reservePer s (domainOf s n.profile)) s
  let y := (q.2.stream x.id).getD x
  q.2.putStream { y with open_ := y.open_ ++ [q.1] }

/-- Journal one grain. -/
def ingestGrain (x : Stream) (n : Namespace) (key : Nat) (ss : List Sector) (hit : Bool) (s : State) : State :=
  let slba := key * blocksPerGrain n
  ingest x n .data slba (min (blocksPerGrain n) (n.size - slba)) 0 [formGrain (8 * key) ss key] hit s

/-- A target stream ends with a code: it is closed. -/
def endTarget (x : Stream) (code : Nat) (s : State) : State := stopStream x code (sendStream x (.close code) s)

/-- Grain index of the first grain of a record. -/
def recordKey (s : State) (nsid j : Nat) : Option Nat :=
  (s.wr.ring.find? fun e => e.rec_.jseq == j).bind fun e => (s.ns nsid).map fun p => e.rec_.slba / blocksPerGrain p.2

/-- The grain index below which every entry is durable: what has arrived in whole batches, less what is wanted or not yet durable. -/
def durableKey (s : State) (x : Stream) : Nat :=
  (((x.wanted.flatMap (·.2)).map (·.1)) ++ (x.open_.filterMap (recordKey s x.nsid))).foldl min x.closed

/-- A record is durable: its transaction is covered by the log, or it has gone. -/
def recordDurable (s : State) (j : Nat) : Bool := (s.wr.ring.find? fun e => e.rec_.jseq == j).all RingEntry.logged

/-- CURSOR follows what has become durable; with the cycle whole, the replica snapshot is taken (13 R324). -/
def settleIngest (s : State) : State :=
  (s.repl.streams.filter fun x => x.role == .target && x.st != .stopped && runsHere s x).foldl (fun (s : State) y =>
    let x := (s.stream y.id).getD y
    let x := { x with open_ := x.open_.filter fun j => !recordDurable s j }
    let key := durableKey s x
    let s := if key == x.durable then s.putStream x
      else sendStream x (.cursor key) (noteStream { x with durable := key } s)
    let x := (s.stream x.id).getD x
    if x.ended && x.open_.isEmpty && x.wanted.isEmpty && x.making == 0 then
      match targetNs s x with
      | none => s
      | some (sh, n) =>
        if snapsFull s n then endTarget x cNO_RESOURCE s
        else
          let p := takeSnapshot sh n false .none s
          p.2.putStream { x with making := p.1 }
    else s) s

/-- A target row: its stream and namespace, while host I/O is served and the journal ring has room; else the frame waits. -/
def onTarget (h : RrHead) (k : Stream → Bool × Namespace → State → State) (s : State) : Host.Outcome State Fault Refusal :=
  if !s.serves || ringCapacity s < ringBytes s + 2 ^ 20 + 4096 then .next s
  else onProved h (fun c s => match (targetOf s c h).bind fun x => (targetNs s x).map fun p => (x, p) with
    | none => s
    | some (x, p) => postWrites (settleIngest (k x p s))) s

/-- FP_BATCH (13 R322, R323): each fingerprint is looked up in the namespace's scope; a hit whose grain reads back (`held`) is journaled, the rest is wanted. -/
def execFpBatch (h : RrHead) (last : Bool) (entries : List (Nat × BitVec 256)) (resident : Bool) (held : List (Nat × List Sector)) : State → Host.Outcome State Fault Refusal :=
  onTarget h fun x p s =>
    let n := p.2
    let hits := entries.filterMap fun e => match lookupFp s e.2 (scopeOf s n) resident, held.find? (·.1 == e.1) with
      | some g, some c => if (s.dirOf g).any hitAllowed && Config.sha256 (grainBytes c.2) == e.2 then some c else none
      | _, _ => none
    let want := entries.filter fun e => !(hits.any (·.1 == e.1))
    let x := { x with wanted := if want.isEmpty then x.wanted else x.wanted ++ [(h.fseq, want)],
                      closed := if last then (entries.map (·.1 + 1)).foldl max x.closed else x.closed, hits := x.hits + hits.length }
    let s := sendStream x (.fpWant h.fseq (want.map (·.1))) (s.putStream x)
    hits.foldl (fun s c => ingestGrain x n c.1 c.2 true s) s

/-- DATA (13 R323): each grain is checked against its batch's fingerprint; a first mismatch asks again, a second ends the stream. -/
def execData (h : RrHead) (entries : List (Nat × List Sector)) : State → Host.Outcome State Fault Refusal :=
  onTarget h fun x p s => entries.foldl (fun (s : State) e =>
    let x := (s.stream x.id).getD x
    match x.wanted.find? fun w => w.2.any (·.1 == e.1) with
    | none => s
    | some w =>
      if x.st == .stopped then s
      else if (w.2.find? (·.1 == e.1)).any fun f => Config.sha256 (grainBytes e.2) == f.2 then
        if ingestShort s p.2 1 then endTarget x (if (s.domain (domainOf s p.2.profile)).readOnly then cREAD_ONLY else cCAPACITY_EXHAUSTED) s
        else
          let left := updateIf (fun v => v.1 == w.1) (fun (v : Nat × List (Nat × BitVec 256)) => (v.1, v.2.filter (·.1 != e.1))) x.wanted
          let x := { x with wanted := left.filter fun v => !v.2.isEmpty, grains := x.grains + 1 }
          ingestGrain x p.2 e.1 e.2 false (s.putStream x)
      else if x.mismatch.contains e.1 then endTarget x cCORRUPT_INPUT s
      else sendStream x (.fpWant w.1 [e.1]) (s.putStream { x with mismatch := insertNat e.1 x.mismatch })) s

/-- A grain index of the target is marked LOST through its own directory (13 R322). -/
def markLost (sh : Bool) (n : Namespace) (key : Nat) (s : State) : State :=
  let g := s.peer.head * 2 ^ 47 + s.md.store.grainNext
  let s := s.putStore false { s.md.store with grainNext := s.md.store.grainNext + 1 }
  let a : MediaAddr := { oneBit := false, module := 0, die := 0, plane := 0, block := 0, page := 0, codeword := 0 }
  let e : DirEntry := { grain := g, addr := a, segment := 0, member := 0, lostMask := 0, refs := 0, len16 := 0, off16 := 0, st := .lost }
  (((Tx.start s).addAt (s.grainShadow g) (.dirSet e)).setMap sh n.nsid key (.grain g) (some g)).commit

/-- MAP_RUN (13 R321, R322): runs become Deallocate or Write Zeroes records; an error run marks its blocks LOST, and answers what was wanted of them. -/
def execMapRun (h : RrHead) (last : Bool) (runs : List (Nat × Nat × Nat)) : State → Host.Outcome State Fault Refusal :=
  onTarget h fun x p s =>
    let n := p.2
    let upto := (runs.map fun r => r.1 + r.2.1).foldl max x.closed
    let lost := (runs.filter (·.2.2 == 2)).flatMap fun r => List.range' r.1 (min r.2.1 (grainsOf n - r.1))
    let wanted := x.wanted.map fun (w : Nat × List (Nat × BitVec 256)) => (w.1, w.2.filter fun e => !lost.contains e.1)
    let x := { x with closed := if last then upto else x.closed, wanted := wanted.filter fun w => !w.2.isEmpty }
    let s := s.putStream x
    let s := (runs.filter (·.2.2 < 2)).foldl (fun s r =>
      let k := if r.2.2 == 1 then JKind.writeZeroes else .deallocate
      let slba := r.1 * blocksPerGrain n
      (pieces (blocksPerMiB n) (r.2.1 * blocksPerGrain n / blocksPerMiB n + 1) slba (min (r.2.1 * blocksPerGrain n) (n.size - slba)) 0).foldl
        (fun s q => ingest x n k q.1 q.2.1 0 [] false s) s) s
    lost.foldl (fun s k => markLost p.1 n k s) s

/-- DIFF_END (13 R324): at the target the cycle is whole once it is durable; the answer, with R_n's ID, ends it at the source. -/
def execDiffEnd (h : RrHead) (m : Sum Nat Nat) : State → Host.Outcome State Fault Refusal :=
  match m with
  | .inl _ => onTarget h fun x _ s => s.putStream { x with ended := true }
  | .inr _ => onSource h fun x s => if x.st == .diffing && x.ended then cycleDone x s else s

/-- SYNC_REC (13 R325): a record is journaled in source JSEQ order; its acknowledgement goes when this head's own condition lets it. A record that finds no room is answered with the code. -/
def execSyncRec (h : RrHead) (jseq : Nat) (r : JRecord) : State → Host.Outcome State Fault Refusal :=
  onTarget h fun x p s =>
    if x.st == .sync && jseq < x.srcJseq then s
    else
      let n := p.2
      let s := endStart x cOK (s.putStream { x with srcJseq := jseq + 1, st := .sync })
      let x := (s.stream x.id).getD x
      if ingestShort s n (dataGrains r.grains) then
        sendStream x (.syncAck jseq (if (s.domain (domainOf s n.profile)).readOnly then cREAD_ONLY else cCAPACITY_EXHAUSTED)) s
      else if n.size < r.slba + r.nblk then sendStream x (.syncAck jseq cBAD_FIELD) s
      else
        let j := s.wr.jseqNext
        let s := ingest x n r.kind r.slba r.nblk r.srcSlba r.grains false s
        let x := (s.stream x.id).getD x
        s.putStream { x with acks := x.acks ++ [(j, jseq)] }

/-- CLOSE (13 R318): a stream ends with a code, or the connection. A refused start fails with STATE_CONFLICT; a target whose start was cancelled is emptied. -/
def execClose (h : RrHead) (code : Nat) : State → Host.Outcome State Fault Refusal :=
  onProved h fun c s =>
    if h.stream == 0 then dropConn c s
    else match sourceOf s c h, targetOf s c h with
    | some x, _ => dropStreamSnaps x (stopStream x (if x.st == .opening then cSTATE_CONFLICT else code) s)
    | none, some x =>
      let s := stopStream x code s
      if code != cCANCELLED then s
      else match targetNs s x with
      | some (sh, n) =>
        let t := match n.root with
          | some q => ((Tx.start s).add sh (.nsSet { n with root := none })).add sh (.treeRelease n.nsid q)
          | none => Tx.start s
        settleDeletes t.commit
      | none => s
    | none, none => s

/-! ## Events of the metadata that streams wait for -/

/-- Replica snapshots older than the newest two go (13 R324). -/
def trimReplicas (x : Stream) (s : State) : State := (x.replicas.drop 2).foldl (fun s i => dropSnapshot i s) s

/-- SNAPSHOT_READY (10 R265, R266): the snapshot takes the root and becomes READY. A difference walk that waited for it begins; a replica snapshot is answered (13 R321, R324). -/
def execSnapshotReady (id : Nat) (fps : List (Nat × BitVec 256)) : State → Host.Outcome State Fault Refusal :=
  act fun s =>
    let s := snapReady id s
    if !((s.snap id).any fun p => p.2.st == .ready) then s
    else
      let s := (s.repl.streams.filter fun x => x.snap == id && x.st == .diffing && x.count == 0 && !x.ended && x.wanted.isEmpty).foldl (fun s x => walkDiff x.id fps s) s
      (s.repl.streams.filter fun x => x.making == id && x.role == .target).foldl (fun (s : State) x =>
        let x := { x with making := 0, ended := false, replicas := id :: x.replicas, closed := 0, durable := 0, mismatch := [], st := .waiting }
        let s := endStart x cOK (sendStream x (.diffDone id) (noteStream x s))
        trimReplicas x (s.putStream { (s.stream x.id).getD x with replicas := x.replicas.take 2 })) s

/-- LOG_PAGE_DURABLE (10 R251, R252): both copies of a log page have programmed; target streams send their cursors. -/
def execLogPageDurable (lpseq : Nat) : State → Host.Outcome State Fault Refusal :=
  act fun s => settleIngest (logDurable lpseq s)

end Sys2Proof.Machine
end

