-- ==== Sys2Proof/Machine/Cry.lean ====
section
/-!
DEFINITION. The cipher and digest engines: job channels, contexts, digests, ciphers, signatures, key tasks (14_cipher_and_digest.md).
-/
namespace Sys2Proof.Machine

/-! ## Rings (14 R331, R334) -/

/-- A job ring by its channel register block: base of the channel's registers, the source of its completions. -/
structure Ring where
  block   : Nat
  channel : Nat
  size    : Nat
  head    : Fld
  phase   : Fld
  source  : Nat

/-- The ring of a CRY channel. -/
def cryRing (ch : Nat) (s : State) : Ring :=
  { block := 0, channel := ch, size := 2 ^ s.fld Reg.fCRY_CH_CTRL_SIZE_LOG2 ch, head := Reg.fCRY_CH_STATUS_HEAD, phase := Reg.fCRY_CH_STATUS_PHASE, source := 544 + ch }

/-- A completion: it is written at HEAD with the pass's PHASE, HEAD advances, PHASE toggles at the wrap, the channel's source fires. -/
def ringDone (r : Ring) (c : JobCpl) (s : State) : State :=
  let h := s.fld r.head r.channel
  let p := s.flag r.phase r.channel
  let s := s.emit (.jobCompletion r.block r.channel { c with index := h, phase := p, stamp := s.now })
  let next := (h + 1) % r.size
  let s := s.setFld r.head next r.channel
  let s := if next == 0 then s.setFlag r.phase (!p) r.channel else s
  fire r.source s

/-- A completion record with nothing but a code. -/
def cplOf (code : Nat) : JobCpl :=
  { index := 0, code := code, ctx := 0, detail := 0, bytes := 0, compare := 0, valid := false, phase := false, keyGen := 0, stamp := 0, more := [] }

/-- CRY00 is being re-lensed: descriptors are held at submission (02 Table 2.8, 14 R363). -/
def islandHeld (s : State) (i : Nat) : Bool := s.isFenced i || s.lens.relens.any fun r => r.changed.contains i

/-- A channel fetches its next descriptor: enabled, and one is there. -/
def cryFetches (ch : Nat) (s : State) : Bool :=
  s.flag Reg.fCRY_CH_CTRL_EN ch && s.fld Reg.fCRY_CH_STATUS_HEAD ch != s.fld Reg.fCRY_CH_TAIL_TAIL ch && !islandHeld s iCRY

/-! ## Modes (14 Table 14.5) -/

/-- The descriptor operations. -/
inductive CryOp where
  | open_ | update | final | single | close | save | verify | sign
deriving DecidableEq, Repr

/-- A cipher MODE, or a digest MODE. -/
def cipherMode (m : Nat) : Bool := 1 ≤ m && m ≤ 6
def digestMode (m : Nat) : Bool := 0x10 ≤ m && m ≤ 0x15

/-- Digest length in bytes. -/
def digestLen (m : Nat) : Nat := if m == 0x11 || m == 0x15 then 48 else if m == 0x12 then 64 else 32

/-- Block size of a SHA-2 mode. -/
def digestBlock (m : Nat) : Nat := if m == 0x10 then 64 else 128

/-- The USE that a MODE needs (14 Table 14.7). -/
def modeUse (m : Nat) : Nat := if digestMode m then 4 else if m == 5 then 2 else if m == 6 then 3 else 1

/-- USE of the key in a slot. -/
def keyUse (k : KeySlot) : Nat := (k.key.map (·.use)).getD 0

/-- Usage limit of a USE. -/
def useLimit (u : Nat) : Option Nat := if u == 1 then some (2 ^ 40) else if u == 2 then some (2 ^ 36) else if u == 3 || u == 5 then some (2 ^ 32) else none

/-- What a message charges. -/
def demand (m msgLen duLen : Nat) : Nat := if m == 5 then msgLen / max 1 duLen else if m == 6 then 1 else if digestMode m then 0 else (msgLen + 15) / 16

/-- The slot number that a KEY field names. -/
def keyNumber (k : Nat) : Nat := k % 4096 + (if k / 4096 % 2 == 1 then 4096 else 0)

/-- A descriptor names a key: every cipher, and a digest with a KEY other than zero (14 R351, Table 14.11). -/
def namesKey (d : CryDesc) : Bool := cipherMode d.mode || d.key != 0

/-! ## Checks before output (14 R335) -/

/-- A space is open to a channel (14 R333). -/
def spaceOpen (ch sp : Nat) : Bool := (sp == 0 && ch ≤ 7) || (sp == 1 && 8 ≤ ch) || (sp == 2 && 12 ≤ ch)

/-- The operations that name a context. -/
def CryOp.names (o : CryOp) : Bool := o == .update || o == .final || o == .close || o == .save

/-- The operations that start a message. -/
def CryOp.starts (o : CryOp) : Bool := o == .open_ || o == .single

/-- The operations that finish one. -/
def CryOp.ends (o : CryOp) : Bool := o == .final || o == .single

/-- The context that a descriptor names: allocated, of this serial and owner. -/
def namedCtx (ch : Nat) (d : CryDesc) (s : State) : Option Ctx := (s.ctx (d.ctx % 4096)).filter fun c => c.serial == d.ctx / 4096 && c.owner == ch

/-- Number of contexts of a kind in use. -/
def ctxUsed (s : State) (digest : Bool) : Nat := (s.eng.ctxs.filter fun c => c.busy && (decide (c.index < 1024) == digest)).length

/-- MODE, decryption and the raw class of the message that a descriptor belongs to. -/
def msgOf (o : CryOp) (d : CryDesc) (c : Option Ctx) : Nat × Bool × Bool := match c with
  | some x => if o.names then (x.mode, x.decrypt, x.raw) else (d.mode, d.decrypt, d.raw)
  | none => (d.mode, d.decrypt, d.raw)

/-- Bytes of a descriptor that are text: TOTAL less the AAD, a context image and a tag. -/
def textLen (o : CryOp) (d : CryDesc) (c : Option Ctx) : Nat :=
  let m := msgOf o d c
  d.total - (if o.starts then d.aadLen else 0) - (if d.restore then 256 else 0) - (if m.1 == 6 && m.2.1 && o.ends then 16 else 0)

/-- Bytes that a descriptor writes. -/
def outLen (o : CryOp) (d : CryDesc) (c : Option Ctx) : Nat :=
  let m := msgOf o d c
  match o with
  | .close => 0
  | .save => 256
  | .verify => 0
  | .sign => 96
  | _ => if digestMode m.1 then (if o.ends then digestLen m.1 else 0)
      else textLen o d c + (if m.1 == 6 && !m.2.1 && o.ends then 16 else 0)

/-- Check 2: MODE, the fields that must be zero, the GCM nonce, and what a privileged channel may run. -/
def fieldFault (o : CryOp) (ch : Nat) (d : CryDesc) (c : Option Ctx) : Bool :=
  let m := (msgOf o d c).1
  let cipher := (o.starts && cipherMode d.mode) || (o.names && c.any fun x => cipherMode x.mode)
  !d.rsvdZero || (o.starts && !(cipherMode d.mode || digestMode d.mode)) || (!o.starts && d.mode != 0) ||
  (!o.names && d.ctx != 0) || (!o.starts && (d.msgLen != 0 || d.iv != 0 || d.duLen != 0 || d.aadLen != 0)) ||
  (o.starts && ((d.mode != 6 && d.aadLen != 0) || (d.mode != 5 && d.duLen != 0) || (d.mode == 6 && d.iv.toNat % 2 ^ 128 / 2 ^ 96 != 0))) ||
  (o.starts && digestMode d.mode && d.key != 0 && (d.raw || 0x14 ≤ d.mode)) ||
  (d.compare && !(o.ends && digestMode m)) || (d.restore && o != .open_) || (d.raw && !o.starts) ||
  (12 ≤ ch && cipher && o != .single)

/-- Check 3: spaces, and what is kept to channels 12 to 14. -/
def permitFault (o : CryOp) (ch : Nat) (d : CryDesc) : Bool :=
  !spaceOpen ch d.srcSpace || !spaceOpen ch d.dstSpace || (ch < 12 && (d.key / 4096 % 2 == 1 || d.raw || d.restore || o == .save || o == .sign))

/-- Check 9: the fragment sums. -/
def sumFault (o : CryOp) (d : CryDesc) (c : Option Ctx) : Bool :=
  let m := (msgOf o d c).1
  let out := outLen o d c
  d.srcFrags.sum != d.total || (o == .verify && d.total != 240) || (o == .sign && d.total != 48) ||
  (if d.compare || o == .verify then !d.dstFrags.isEmpty
   else if d.dstFrags.isEmpty then out != 0 && !digestMode m
   else d.dstFrags.sum != out)

/-- Check 10: the lengths of Table 14.5 and of the raw class. -/
def lengthFault (o : CryOp) (ch : Nat) (d : CryDesc) (c : Option Ctx) (s : State) : Bool :=
  let m := msgOf o d c
  let len := if o.starts then d.msgLen else (c.map (·.msgLen)).getD 0
  let text := textLen o d c
  let last := (c.map fun x => s.fld Reg.fDIG_LAST_COUNT_COUNT x.index).getD 0
  if o == .close || o == .save || o == .verify || o == .sign then false
  else if cipherMode m.1 then
    (12 ≤ ch && 65536 < len) ||
    (if m.1 == 1 then (o.starts && len < 16) || text % 16 != 0
     else if m.1 == 5 then
       (o.starts && (d.duLen < 16 || 16777216 < d.duLen || d.duLen % 16 != 0 || len == 0 || len % d.duLen != 0)) || text % 16 != 0
     else if m.1 == 6 then
       (o.starts && (1048576 < d.aadLen || d.total < d.aadLen || len < d.aadLen || 67108864 < len - d.aadLen)) ||
       (m.2.1 && o.ends && d.total < 16 + (if o.starts then d.aadLen else 0))
     else o.starts && len == 0)
  else if m.2.2 then
    (o.starts && d.msgLen != 0) || (d.restore && d.total < 256) || text % digestBlock m.1 != 0 || (o == .final && last != 0)
  else d.total % 8 != 0

/-- Check 11: the message's declared length is not passed. -/
def passedFault (o : CryOp) (d : CryDesc) (c : Option Ctx) : Bool :=
  let m := msgOf o d c
  let len := if o.starts then d.msgLen else (c.map (·.msgLen)).getD 0
  (o.starts || o == .update || o == .final) && !m.2.2 &&
    len < (c.map (·.received)).getD 0 + textLen o d c + (if o.starts then d.aadLen else 0)

/-- The first check that fails, with whether the slot becomes SPENT. -/
def cryFault (o : CryOp) (ch : Nat) (d : CryDesc) (s : State) : Option (Nat × Bool) :=
  let c := if o.names then namedCtx ch d s else none
  let k := s.slot (keyNumber d.key)
  let keyed := (o.starts && namesKey d) || o == .sign
  let spent := (useLimit (keyUse k)).any fun l => l < k.usage + demand d.mode d.msgLen d.duLen
  if fieldFault o ch d c then some (cBAD_FIELD, false)
  else if permitFault o ch d then some (cNOT_PERMITTED, false)
  else if o.names && 3071 < d.ctx % 4096 then some (cBAD_FIELD, false)
  else if o.names && (c.isNone || c.any fun x => x.st != .open_ || (o == .save && !x.raw)) then some (cSTATE_CONFLICT, false)
  else if o.names && c.any (·.cut.isSome) then some ((c.bind (·.cut)).getD cKEY_ABSENT, false)
  else if o.starts && (if digestMode d.mode then 1024 else 2048) ≤ ctxUsed s (digestMode d.mode) then some (cNO_RESOURCE, false)
  else if 4096 < d.srcFrags.length || 4096 < d.dstFrags.length then some (cBAD_LENGTH, false)
  else if !d.fragsZero then some (cBAD_FIELD, false)
  else if sumFault o d c then some (cLENGTH_MISMATCH, false)
  else if lengthFault o ch d c s then some (cBAD_LENGTH, false)
  else if passedFault o d c then some (cLENGTH_MISMATCH, false)
  else if keyed && k.st != .active && k.st != .spent then some (cKEY_ABSENT, false)
  else if keyed && keyUse k != (if o == .sign then 6 else modeUse d.mode) then some (cBAD_FIELD, false)
  else if keyed && o.starts && (k.st == .spent || spent) then some (cKEY_SPENT, spent)
  else none

/-! ## Running a descriptor (14 R336 to R351, R359) -/

/-- Key bytes of the generation that a message pins. -/
def pinnedKey (s : State) (p : Option KeyPin) : Option (List Byte) :=
  p.bind fun p =>
    let k := s.slot p.slot
    if k.gen == p.gen then k.key.map (·.bytes) else (k.previous.filter (·.1 == p.gen)).map (·.2.bytes)

/-- Charge a message's whole demand; at the limit exactly the slot becomes SPENT (14 R353). -/
def charge (slot : Nat) (d : CryDesc) (s : State) : State :=
  let k := s.slot slot
  let u := k.usage + demand d.mode d.msgLen d.duLen
  s.putSlot { k with usage := u, st := if (useLimit (keyUse k)).any (· == u) then .spent else k.st }

/-- The lowest free index of a kind, and its next serial (14 R340; which free context is taken is not stated). -/
def freeCtxOf (s : State) (digest : Bool) : Nat × Nat :=
  let ids := if digest then List.range 1024 else List.range' 1024 2048
  let i := (ids.find? fun i => (s.ctx i).isNone).getD 0
  (i, (((s.eng.ctxs.find? (·.index == i)).map (·.serial + 1)).getD 0) % 16)

/-- Allocate a context for OPEN or SINGLE: the message pins the slot's active generation. -/
def allocCtx (ch : Nat) (d : CryDesc) (s : State) : Ctx × State :=
  let p := freeCtxOf s (digestMode d.mode)
  let k := keyNumber d.key
  let pin := if namesKey d then some ({ slot := k, gen := (s.slot k).gen } : KeyPin) else none
  let c : Ctx := { index := p.1, st := .open_, owner := ch, serial := p.2, mode := d.mode, code := 0, early := false, decrypt := d.decrypt, raw := d.raw,
                   msgLen := d.msgLen, received := 0, aadLen := d.aadLen, duLen := d.duLen, iv := d.iv, data := [], pin := pin, cut := none,
                   lastAt := s.now, result := [] }
  let s := if namesKey d then charge k d s else s
  (c, s.putCtx c)

/-- Bytes of a 64-bit register group, byte 0 in the low byte of word 0. -/
def regBytes (ws : Nat → Word) (n : Nat) : List Byte := (List.range n).map fun i => (ws (i / 8)).extractLsb' (8 * (i % 8)) 8

/-- Output text of a descriptor: the bytes of the message from where it stood. -/
def cipherOut (c : Ctx) (key : List Byte) (text : List Byte) : List Byte :=
  let all := c.data ++ text
  (List.range text.length).map fun i => Config.cipherByte c.mode c.decrypt key c.iv c.duLen (all, c.data.length + i)

/-- What running a descriptor gave: code, output, compare result, context kept. -/
structure CryRun where
  code    : Nat
  out     : List Byte
  compare : Nat
  ctx     : Ctx
  keep    : Bool

/-- A 128-bit tag as bytes, byte 0 first. -/
def tagBytes (t : BitVec 128) : List Byte := (List.range 16).map fun i => t.extractLsb' (8 * i) 8

/-- Run a cipher descriptor on its context (14 R337 to R339). The additional data stands in `result` until the tag is made. -/
def runCipher (o : CryOp) (d : CryDesc) (c : Ctx) (s : State) : CryRun :=
  let key := (pinnedKey s c.pin).getD []
  let aad := if o.starts then d.data.take d.aadLen else c.result
  let rest := if o.starts then d.data.drop d.aadLen else d.data
  let n := textLen o d (some c)
  let text := rest.take n
  let out := cipherOut c key text
  let c' := { c with data := c.data ++ text, received := c.received + n + (if o.starts then d.aadLen else 0), result := aad }
  if !o.ends then { code := cOK, out := out, compare := 0, ctx := c', keep := true }
  else if c'.received != c.msgLen then { code := cLENGTH_MISMATCH, out := out, compare := 0, ctx := c', keep := false }
  else if c.mode != 6 then { code := cOK, out := out, compare := 0, ctx := c', keep := false }
  else
    let tag := tagBytes (Config.gcmTag c.decrypt key c.iv aad c'.data)
    if c.decrypt then { code := if rest.drop n == tag then cOK else cAUTH_FAIL, out := out, compare := 0, ctx := c', keep := false }
    else { code := cOK, out := out ++ tag, compare := 0, ctx := c', keep := false }

/-- Expected digest of a compare: the context's DIG_EXPECT, or the channel's register for SINGLE (14 R350). -/
def expected (o : CryOp) (c : Ctx) (s : State) (n : Nat) : List Byte :=
  regBytes (fun w => if o == .single then s.word (0xA00800 + 0x40 * c.owner + 8 * w) else s.word (0xA40080 + 0x100 * c.index + 8 * w)) n

/-- Run a digest descriptor (14 R344 to R351). -/
def runDigest (o : CryOp) (d : CryDesc) (c : Ctx) (s : State) : CryRun :=
  let body := if d.restore then d.data.drop 256 else d.data
  let start := if d.restore then (d.image.map (·.data)).getD [] else c.data
  let count := if o == .final && !c.raw then s.fld Reg.fDIG_LAST_COUNT_COUNT c.index else 0
  let last := regBytes (fun _ => s.word (0xA40008 + 0x100 * c.index)) count
  let all := start ++ body ++ (if o.ends then last else [])
  let got := c.received + body.length + (if o.ends then count else 0)
  let c' := { c with data := all, received := got }
  if !o.ends then { code := cOK, out := [], compare := 0, ctx := c', keep := true }
  else if !c.raw && got != c.msgLen then { code := cLENGTH_MISMATCH, out := [], compare := 0, ctx := c', keep := false }
  else
    let n := digestLen c.mode
    let dig := (List.range n).map fun i => (Config.digest (if c.raw then c.mode + 256 else c.mode) (pinnedKey s c.pin) all).extractLsb' (8 * i) 8
    if d.compare then { code := cOK, out := [], compare := if dig == expected o c s n then 1 else 2, ctx := c', keep := false }
    else if d.dstFrags.isEmpty then { code := cOK, out := [], compare := 0, ctx := { c' with st := .done, result := dig, data := [], pin := none }, keep := true }
    else { code := cOK, out := dig, compare := 0, ctx := c', keep := false }

/-- Write a message's completion. On a privileged channel a cipher's output leaves the hold buffer only with OK (14 R358, R359). -/
def cryFinish (o : CryOp) (ch : Nat) (d : CryDesc) (r : CryRun) (s : State) : State :=
  let held := 12 ≤ ch && cipherMode r.ctx.mode
  let out := if held && r.code != cOK then [] else r.out
  let s := if out.isEmpty then s else s.emit (.jobData 0 ch d.dstSpace out)
  let valid := r.code == cOK && !(r.ctx.mode == 6 && r.ctx.decrypt && !o.ends)
  let c := { r.ctx with lastAt := s.now, code := r.code, early := false }
  let s := if r.keep then s.putCtx c else freeCtx c s
  let s := match r.ctx.pin with
    | some p => if r.keep && c.pin.isNone then settleSlot p.slot s else s
    | none => s
  ringDone (cryRing ch s) { cplOf r.code with ctx := 4096 * c.serial + c.index, bytes := out.length, compare := r.compare, valid := valid,
                                              keyGen := ((r.ctx.pin.map (·.gen)).getD 0) % 65536 } s

/-- A descriptor that meets a fault part-way: the message fails as a whole (14 R336). -/
def cryBroken (ch : Nat) (c : Ctx) (poison : Bool) (off : Nat) (s : State) : State :=
  let s := freeCtx c s
  ringDone (cryRing ch s) { cplOf (if poison then cPOISONED else cHW_FAULT) with ctx := 4096 * c.serial + c.index, detail := off,
                                                                                 keyGen := ((c.pin.map (·.gen)).getD 0) % 65536 } s

/-- OPEN, UPDATE, FINAL or SINGLE on its context. -/
def runMessage (o : CryOp) (ch : Nat) (d : CryDesc) (c : Ctx) (s : State) : State :=
  match d.fault with
  | some (poison, off) => cryBroken ch c poison off s
  | none => cryFinish o ch d (if digestMode c.mode then runDigest o d c s else runCipher o d c s) s

/-- A RESTORE image that cannot be taken (14 R347). -/
def badImage (d : CryDesc) : Bool := d.restore && !(d.image.any fun i => i.crcOk && i.mode == d.mode)

/-- A descriptor is fetched, checked and run. A failed check changes nothing but a slot that its demand would overrun (14 R335, R353). -/
def cryDescriptor (o : CryOp) (ch : Nat) (d : CryDesc) (run : State → State) (s : State) : State :=
  if !cryFetches ch s then s
  else match cryFault o ch d s with
  | some (code, spend) =>
    let c := if o.names then namedCtx ch d s else none
    let s := if spend then s.putSlot { s.slot (keyNumber d.key) with st := .spent } else s
    let s := match c with
      | some x => if x.cut == some code then freeCtx x s else s
      | none => s
    ringDone (cryRing ch s) { cplOf code with ctx := if o.names then d.ctx else 0 } s
  | none => run s

/-- CRY_OPEN. -/
def execCryOpen (ch : Fin 15) (d : CryDesc) : State → Host.Outcome State Fault Refusal :=
  act (cryDescriptor .open_ ch.val d fun s =>
    if badImage d then ringDone (cryRing ch.val s) (cplOf cCORRUPT_INPUT) s
    else
      let p := allocCtx ch.val d s
      runMessage .open_ ch.val d p.1 p.2)

/-- CRY_UPDATE. -/
def execCryUpdate (ch : Fin 15) (d : CryDesc) : State → Host.Outcome State Fault Refusal :=
  act (cryDescriptor .update ch.val d fun s => match namedCtx ch.val d s with
    | some c => runMessage .update ch.val d c s
    | none => s)

/-- CRY_FINAL. -/
def execCryFinal (ch : Fin 15) (d : CryDesc) : State → Host.Outcome State Fault Refusal :=
  act (cryDescriptor .final ch.val d fun s => match namedCtx ch.val d s with
    | some c => runMessage .final ch.val d c s
    | none => s)

/-- CRY_SINGLE. -/
def execCrySingle (ch : Fin 15) (d : CryDesc) : State → Host.Outcome State Fault Refusal :=
  act (cryDescriptor .single ch.val d fun s =>
    let p := allocCtx ch.val d s
    runMessage .single ch.val d p.1 p.2)

/-- CRY_CLOSE. -/
def execCryClose (ch : Fin 15) (d : CryDesc) : State → Host.Outcome State Fault Refusal :=
  act (cryDescriptor .close ch.val d fun s => match namedCtx ch.val d s with
    | some c => ringDone (cryRing ch.val s) { cplOf cOK with ctx := d.ctx, keyGen := ((c.pin.map (·.gen)).getD 0) % 65536 } (freeCtx c s)
    | none => s)

/-- The 256-byte image that SAVE writes, as the part writes it: its fields as Table 14.6 lays them out, the chaining state as the digest unit holds it. -/
def imageBytes (c : Ctx) : List Byte :=
  let le := fun (n v : Nat) => (List.range n).map fun i => (BitVec.ofNat 8 (v / 2 ^ (8 * i)) : Byte)
  let st := (List.range 64).map fun i => (Config.digest (c.mode + 512) none c.data).extractLsb' (8 * i) 8
  let body : List Byte := le 8 c.mode ++ le 16 c.data.length ++ st ++ List.replicate 164 0
  body ++ le 4 (crc32c body).toNat

/-- CRY_SAVE (14 R347): the image goes to the destination; the context stays open. -/
def execCrySave (ch : Fin 15) (d : CryDesc) : State → Host.Outcome State Fault Refusal :=
  act (cryDescriptor .save ch.val d fun s => match namedCtx ch.val d s with
    | some c => match d.fault with
      | some (poison, off) => cryBroken ch.val c poison off s
      | none =>
        let s := (s.putCtx { c with lastAt := s.now }).emit (.jobData 0 ch.val d.dstSpace (imageBytes c))
        ringDone (cryRing ch.val s) { cplOf cOK with ctx := d.ctx, bytes := 256, valid := true } s
    | none => s)

/-- ECDSA_VERIFY (14 R360). -/
def execEcdsaVerify (ch : Fin 15) (d : CryDesc) : State → Host.Outcome State Fault Refusal :=
  act (cryDescriptor .verify ch.val d fun s => match d.fault with
    | some (poison, off) => ringDone (cryRing ch.val s) { cplOf (if poison then cPOISONED else cHW_FAULT) with detail := off } s
    | none => ringDone (cryRing ch.val s) { cplOf (if Config.ecdsaVerify d.data then cOK else cAUTH_FAIL) with valid := Config.ecdsaVerify d.data } s)

/-- ECDSA_SIGN (14 R360): the per-signature secret is a free value. -/
def execEcdsaSign (ch : Fin 15) (d : CryDesc) : State → Host.Outcome State Fault Refusal :=
  act (cryDescriptor .sign ch.val d fun s => match d.fault with
    | some (poison, off) => ringDone (cryRing ch.val s) { cplOf (if poison then cPOISONED else cHW_FAULT) with detail := off } s
    | none =>
      let k := s.slot (keyNumber d.key)
      let p := s.draw
      let sig := Config.ecdsaSign ((k.key.map (·.bytes)).getD []) d.data p.1
      let out := (List.range 96).map fun i => sig.extractLsb' (8 * (95 - i)) 8
      let s := p.2.emit (.jobData 0 ch.val d.dstSpace out)
      ringDone (cryRing ch.val s) { cplOf cOK with bytes := 96, valid := true, keyGen := k.gen % 65536 } s)

/-! ## Channels, contexts, registers (14 R342, R348, R349, R364) -/

/-- CRY_CHANNEL_DISABLE: a BAR0 write clears EN of a channel of the head processor; the others are not BAR0's (14 R364). -/
def execCryChannelDisable (ch : Fin 15) : State → Host.Outcome State Fault Refusal :=
  act fun s =>
    if 8 ≤ ch.val then captureErr cNOT_PERMITTED (0xA01010 + 0x100 * ch.val) s
    else s.setFlag Reg.fCRY_CH_CTRL_EN false ch.val

/-- CRY_CONTEXT_IDLE_EXPIRY (14 R342): IDLE_S without a descriptor. -/
def execCryContextIdleExpiry (ctx : Fin 3072) : State → Host.Outcome State Fault Refusal :=
  act fun s => match s.ctx ctx.val with
  | none => s
  | some c => freeCtx c (s.reach (c.lastAt + s.fld Reg.fCRY_CFG_IDLE_S * sec))

/-- KEY_ERASE_TIMEOUT (14 R355): the messages that still pin the slot are cut off, and the slot is zeroised. -/
def execKeyEraseTimeout (slot : Fin 4160) : State → Host.Outcome State Fault Refusal :=
  act fun s =>
    let k := s.slot slot.val
    match k.eraseAt with
    | none => s
    | some t =>
      let s := s.reach t
      let cs := pinsAny s slot.val
      let s := cs.foldl (fun (s : State) c => s.putCtx { c with cut := some cKEY_ABSENT, pin := none }) s
      zeroise k (0x0304 + 65536 * min 65535 cs.length) s

/-- DIG_RESULT_READ (14 R348, R349): a word of a DONE context of the head processor; before DONE zeros, and CODE reads RESULT_NOT_READY until the next completion. -/
def execDigResultRead (ctx : Fin 1024) (w : Fin 8) : State → Host.Outcome State Fault Refusal :=
  act fun s =>
    let off := 0xA40040 + 0x100 * ctx.val + 8 * w.val
    match s.ctx ctx.val with
    | none => s.emit (.readData off 0)
    | some c =>
      if 8 ≤ c.owner then s.emit (.readData off 0)
      else if c.st == .done then
        let b := fun i => ((c.result[8 * w.val + i]?).getD 0).toNat * 2 ^ (8 * i)
        s.emit (.readData off (BitVec.ofNat 64 (((List.range 8).map b).sum)))
      else (s.putCtx { c with early := true }).emit (.readData off 0)

/-- DIG_CTX_RELEASE (14 R348, R364): frees a DONE context of the head processor; in any other state, or of another owner, the write is discarded. -/
def execDigCtxRelease (ctx : Fin 1024) : State → Host.Outcome State Fault Refusal :=
  act fun s => match s.ctx ctx.val with
  | some c => if c.st == .done && c.owner < 8 then freeCtx c s else captureErr cSTATE_CONFLICT (0xA40018 + 0x100 * ctx.val) s
  | none => captureErr cSTATE_CONFLICT (0xA40018 + 0x100 * ctx.val) s

/-! ## Key tasks (14 R356, R357) -/

/-- A slot number that a key task can name; Keeper slots 0 to 31 are the Keeper's own. -/
def keeperOnly (k : Nat) : Bool := 4096 ≤ k && k < 4096 + 32

/-- A slot that exists. -/
def slotExists (k : Nat) : Bool := k < 4096 + 64

/-- USE and KEY_LEN agree with Table 14.7; WRAP and SIGN keys stand in Keeper slots only. -/
def keyFits (slot use len : Nat) : Bool :=
  if use == 1 || use == 3 then len == 16 || len == 24 || len == 32
  else if use == 2 then len == 32 || len == 64
  else if use == 4 then 1 ≤ len && len ≤ 128
  else if use == 5 then len == 32 && 4096 ≤ slot
  else if use == 6 then len == 48 && 4096 ≤ slot
  else false

/-- KEY_LOAD (14 R356): the blob is unwrapped on channel 14 under its KEK, which is charged; the key is staged. -/
def execKeyLoad (r : TaskReq) (b : KeyBlob) : State → Host.Outcome State Fault Refusal :=
  taskCmd { opcode := 0x0501, windows := [1], bulk := .take none } [(1, mask 12 0), (2, mask 2 0)] r fun s =>
    let slot := r.arg 1
    let n := r.arg 2
    let kek := s.slot (4096 + b.kek)
    let x := s.slot slot
    if keeperOnly slot then .fail cNOT_PERMITTED
    else if !slotExists slot then .fail cBAD_FIELD 1
    else if !canStage n s [iCRY] || keyInUse s slot || x.st == .erasing || x.previous.isSome || keyStaged s slot then .fail cSTATE_CONFLICT
    else if b.length != 48 + b.keyLen then moved r (.fail cLENGTH_MISMATCH)
    else if b.kek > 63 || !b.rsvdZero || b.target != slot || !keyFits slot b.use b.keyLen then moved r (.fail cBAD_FIELD 32)
    else if (kek.st != .active && kek.st != .spent) || keyUse kek != 5 then moved r (.fail cKEY_ABSENT)
    else if kek.st == .spent || 2 ^ 32 ≤ kek.usage then moved r (.done (s.putSlot { kek with st := .spent }) cKEY_SPENT)
    else
      let s := s.putSlot { kek with usage := kek.usage + 1, st := if kek.usage + 1 == 2 ^ 32 then .spent else kek.st }
      if !b.tagOk then moved r (.done s cAUTH_FAIL)
      else moved r (.done (stageItem n (.key slot { bytes := b.key.take b.keyLen, use := b.use }) s) cOK 0 [BitVec.ofNat 64 (x.gen + 1)])

/-- KEY_ERASE (14 R355): an EMPTY slot ends at once; pins have ERASE_TIMEOUT_MS. -/
def execKeyErase (r : TaskReq) : State → Host.Outcome State Fault Refusal :=
  taskCmd { opcode := 0x0502, windows := [1] } [(1, mask 12 0)] r fun s =>
    let slot := r.arg 1
    let x := s.slot slot
    if keeperOnly slot then .fail cNOT_PERMITTED
    else if !slotExists slot then .fail cBAD_FIELD 1
    else if keyInUse s slot || x.st == .erasing || keyStaged s slot then .fail cSTATE_CONFLICT
    else startJob 0x0502 r {} s fun n s =>
      if x.st == .empty then endJob n cOK 0 [] s
      else settleSlot slot (s.putSlot { x with st := .erasing, eraseJob := some n, eraseAt := some (s.now + s.fld Reg.fCRY_CFG_ERASE_TIMEOUT_MS * ms) })

/-- Number of a slot's state (14 Table 14.9). -/
def slotCode : SlotState → Nat
  | .empty => 0 | .active => 1 | .spent => 2 | .erasing => 3

/-- KEY_STATUS (14 Table 14.9). -/
def execKeyStatus (r : TaskReq) : State → Host.Outcome State Fault Refusal :=
  taskCmd { opcode := 0x0503, windows := [0, 1] } [(1, mask 12 0)] r fun s =>
    let slot := r.arg 1
    let x := s.slot slot
    if !slotExists slot then .fail cBAD_FIELD 1
    else
      let staged := if keyStaged s slot then 256 else 0
      let old := match x.previous with
        | some p => pins s slot p.1
        | none => 0
      .done s cOK 0 ([slotCode x.st + 16 * keyUse x + staged + 2 ^ 32 * (x.gen % 2 ^ 32), x.usage, pins s slot x.gen + 2 ^ 32 * old].map (BitVec.ofNat 64))

end Sys2Proof.Machine
end

