-- ==== Sys2Proof/Machine/Cmp.lean ====
section
/-!
DEFINITION. Compression jobs, pattern images and scan jobs (15_compression_and_pattern_jobs.md).
-/
namespace Sys2Proof.Machine

/-! ## Channels (15 R365, R377) -/

/-- The ring of a CMP channel. -/
def cmpRing (ch : Nat) (s : State) : Ring :=
  { block := 1, channel := ch, size := 2 ^ s.fld Reg.fCMP_CH_CTRL_SIZE_LOG2 ch, head := Reg.fCMP_CH_STATUS_HEAD, phase := Reg.fCMP_CH_STATUS_PHASE, source := 576 + ch }

/-- The ring of a PAT channel. -/
def patRing (ch : Nat) (s : State) : Ring :=
  { block := 2, channel := ch, size := 2 ^ s.fld Reg.fPAT_CH_CTRL_SIZE_LOG2 ch, head := Reg.fPAT_CH_STATUS_HEAD, phase := Reg.fPAT_CH_STATUS_PHASE, source := 592 + ch }

/-- A channel fetches its next descriptor. -/
def cmpFetches (ch : Nat) (s : State) : Bool :=
  s.flag Reg.fCMP_CH_CTRL_EN ch && s.fld Reg.fCMP_CH_STATUS_HEAD ch != s.fld Reg.fCMP_CH_TAIL_TAIL ch

/-- The same of a PAT channel. -/
def patFetches (ch : Nat) (s : State) : Bool :=
  s.flag Reg.fPAT_CH_CTRL_EN ch && s.fld Reg.fPAT_CH_STATUS_HEAD ch != s.fld Reg.fPAT_CH_TAIL_TAIL ch && !islandHeld s iPAT

/-- A space is open to a channel of 8 for the head processor, the rest for service cores and Keepers (14 R333, 15 R365). -/
def jobSpaceOpen (ch sp : Nat) : Bool := (sp == 0 && ch ≤ 7) || (sp == 1 && 8 ≤ ch) || (sp == 2 && 12 ≤ ch)

/-- The job that a channel has in hand. -/
def jobOf (s : State) (block ch : Nat) : Option EngJob := s.eng.jobs.find? fun j => j.block == block && j.channel == ch

/-- Jobs that run on a PT. -/
def running (s : State) : Nat := (s.eng.jobs.filter fun j => j.pt.isSome).length

/-- Put the jobs and the count that CMP_STATUS shows. -/
def putJobs (js : List EngJob) (s : State) : State :=
  let s := { s with eng := { s.eng with jobs := js } }
  s.setFld Reg.fCMP_STATUS_RUNNING (running s)

/-- Store a job. -/
def putJob (j : EngJob) (s : State) : State :=
  putJobs (s.eng.jobs.filter (fun x => !(x.block == j.block && x.channel == j.channel)) ++ [j]) s

/-- Drop a channel's job. -/
def dropJob (block ch : Nat) (s : State) : State := putJobs (s.eng.jobs.filter fun x => !(x.block == block && x.channel == ch)) s

/-- A job stops part-way: how much of its output it had written is not stated, and the whole destination is invalid (15 R369, R371, R378; log 5). -/
def cutShort (out : List Byte) (limit : Nat) (s : State) : List Byte × State :=
  let p := s.draw
  (out.take (p.1.toNat % (min out.length limit + 1)), p.2)

/-- Output and completion of a job. -/
def jobDone (r : Ring) (space : Nat) (out : List Byte) (c : JobCpl) (s : State) : State :=
  let s := if out.isEmpty then s else s.emit (.jobData r.block r.channel space out)
  ringDone r { c with bytes := out.length, valid := c.code == cOK } (dropJob r.block r.channel s)

/-! ## Compression jobs (15 R366 to R371) -/

/-- The dictionaries that the head pair holds (05 R131). -/
def dictionaries (s : State) : List (Nat × List Byte) := (s.md.store.dicts ++ s.md.shadow.dicts).map fun d => (d.id, d.data)

/-- The first check that fails (15 R368). -/
def cmpFault (decompress : Bool) (ch : Nat) (d : CmpDesc) (s : State) : Option Nat :=
  let levels := if d.deflate then 9 else 12
  if !d.rsvdZero || (if decompress then d.level != 0 else d.level == 0 || levels < d.level) || !d.fragsZero ||
     (d.dictId != 0 && (d.deflate || decompress)) then some cBAD_FIELD
  else if !jobSpaceOpen ch d.srcSpace || !jobSpaceOpen ch d.dstSpace then some cNOT_PERMITTED
  else if 4096 < d.srcFrags.length || 4096 < d.dstFrags.length || d.outLimit == 0 || 16777216 < d.total || 33554432 < d.outLimit then some cBAD_LENGTH
  else if d.srcFrags.sum != d.total || d.dstFrags.sum != d.outLimit then some cLENGTH_MISMATCH
  else if d.dictId != 0 && !((dictionaries s).any fun x => x.1 == d.dictId) then some cBAD_FIELD
  else none

/-- A PT that can run a job: in service. -/
def ptServes (s : State) (pt : Nat) : Bool := pt < 66 && !islandHeld s (iPT + pt)

/-- A job moves to a PT. A second one is a restart (15 R366). -/
def onPt (j : EngJob) (pt : Nat) (s : State) : State :=
  let again := j.pt.any (· != pt)
  let s := putJob { j with pt := some pt } s
  if again then s.bump Reg.fCMP_STATUS_RESTARTS else s

/-- A compression job ends. -/
def cmpFinish (j : EngJob) (s : State) : State :=
  let r := cmpRing j.channel s
  let finish := fun (d : CmpDesc) (out : List Byte) (good : Bool) =>
    let c := { cplOf cOK with ctx := d.total % 65536 }
    match d.fault with
    | some (poison, off) =>
      let p := cutShort out d.outLimit s
      jobDone r d.dstSpace p.1 { c with code := if poison then cPOISONED else cHW_FAULT, detail := off } p.2
    | none =>
      if d.outLimit < out.length then
        let p := cutShort out d.outLimit s
        jobDone r d.dstSpace p.1 { c with code := cOUTPUT_LIMIT } p.2
      else if good then jobDone r d.dstSpace out c s
      else
        let p := cutShort out d.outLimit s
        jobDone r d.dstSpace p.1 { c with code := cCORRUPT_INPUT } p.2
  match j.desc with
  | .compress d => finish d (Config.compressed d.deflate d.level ((dictionaries s).find? (·.1 == d.dictId) |>.map (·.2)) d.data) true
  | .decompress d =>
    if d.total == 0 then finish d [] false
    else
      let x := Config.expanded d.deflate (dictionaries s) d.data
      finish d x.1 x.2
  | _ => s

/-- A channel's descriptor goes on: fetched and checked if the channel has no job yet, then as the step says. At most 16 run at once. -/
def cmpStep (fresh : JobDesc) (fault : Option Nat) (ch : Nat) (st : JobStep) (s : State) : State :=
  let go := fun (j : EngJob) (s : State) => match st with
    | .wait => putJob { j with pt := none, since := if j.pt.isSome then s.now else j.since } s
    | .run p => if ptServes s p.val && (j.pt.isSome || running s < 16) then onPt j p.val s else putJob j s
    | .finish p => if ptServes s p.val && (j.pt.isSome || running s < 16) then cmpFinish j (onPt j p.val s) else putJob j s
  match jobOf s 1 ch with
  | some j => go j s
  | none =>
    if !cmpFetches ch s then s
    else match fault with
    | some c => ringDone (cmpRing ch s) (cplOf c) s
    | none => go { block := 1, channel := ch, desc := fresh, pt := none, since := s.now, snap := 0, bank := 0 } s

/-- COMPRESS (15 R366 to R369). -/
def execCompress (ch : Fin 14) (d : CmpDesc) (st : JobStep) : State → Host.Outcome State Fault Refusal :=
  act fun s => cmpStep (.compress d) (cmpFault false ch.val d s) ch.val st s

/-- DECOMPRESS (15 R366 to R368, R371). -/
def execDecompress (ch : Fin 14) (d : CmpDesc) (st : JobStep) : State → Host.Outcome State Fault Refusal :=
  act fun s => cmpStep (.decompress d) (cmpFault true ch.val d s) ch.val st s

/-- COMPRESSION_JOB_NO_PT (15 R366): 100 ms without a PT. -/
def execCompressionJobNoPt (ch : Fin 14) : State → Host.Outcome State Fault Refusal :=
  act fun s => match jobOf s 1 ch.val with
  | some j =>
    if j.pt.isSome then s
    else
      let s := s.reach (j.since + 100 * ms)
      ringDone (cmpRing ch.val s) (cplOf cNO_RESOURCE) (dropJob 1 ch.val s)
  | none => s

/-! ## Scan jobs (15 R375, R377, R378) -/

/-- The first check that fails (15 R377, in the order of R368). -/
def scanFault (snapshot : Bool) (ch : Nat) (d : ScanDesc) (s : State) : Option Nat :=
  let img := s.bank (s.fld Reg.fPAT_CFG_BANK)
  let empty := (List.range 16).any fun g => d.mask.getLsbD g && (img.map (groupCount · g)).getD 0 == 0
  let unused := if snapshot then d.srcSpace != 0 || d.total != 0 || !d.srcFrags.isEmpty else d.snap != 0 || d.first != 0 || d.count != 0
  if !d.rsvdZero || !d.fragsZero || unused || d.mask == 0 || empty then some cBAD_FIELD
  else if (!snapshot && !jobSpaceOpen ch d.srcSpace) || !jobSpaceOpen ch d.dstSpace then some cNOT_PERMITTED
  else if (snapshot && (d.count == 0 || 2 ^ 32 < d.count)) || (!snapshot && (d.total == 0 || 16777216 < d.total)) || d.outLimit < 8 || 67108864 < d.outLimit ||
      4096 < d.srcFrags.length || 4096 < d.dstFrags.length then some cBAD_LENGTH
  else if (!snapshot && d.srcFrags.sum != d.total) || d.dstFrags.sum != d.outLimit then some cLENGTH_MISMATCH
  else if snapshot && !((s.snap d.snap).any fun x => x.2.st == .ready) then some cSTATE_CONFLICT
  else none

/-- The patterns of a mask, in index order. -/
def maskPatterns (img : PatImage) (mask : BitVec 16) : List (Nat × Pattern) :=
  let ids := ((List.range 16).filter fun g => mask.getLsbD g).flatMap (groupPatterns img)
  (List.range img.patterns.length).filterMap fun i => if ids.contains i then (img.patterns[i]?).map (Prod.mk i) else none

/-- The tag of a position: of the patterns that end there, the one of highest priority, then of lowest index (15 R375). -/
def tagAt (ps : List (Nat × Pattern)) (bytes : List Byte) (pos : Nat) : Option Nat :=
  let hit := ps.filter fun p => patternEnds p.2 bytes pos
  let best := (hit.map (·.2.priority)).foldl max 0
  (hit.find? (·.2.priority == best)).map (·.1)

/-- A number as bytes, low byte first. -/
def leBytes (n v : Nat) : List Byte := (List.range n).map fun i => BitVec.ofNat 8 (v / 2 ^ (8 * i))

/-- What a scan writes over its texts, each with the offset of its first byte: count entries, tag records, and a free value where a count passes 32 bits (15 R378; log 5). -/
def scanOutput (img : PatImage) (d : ScanDesc) (texts : List (Nat × List Byte)) (free : Word) : List Byte × List (List Byte) :=
  let ps := maskPatterns img d.mask
  let counts := ps.flatMap fun p =>
    let n := (texts.map fun (t : Nat × List Byte) => patternHits p.2 t.2).sum
    if n == 0 then [] else leBytes 2 p.1 ++ [0, 0] ++ leBytes 4 (if n < 2 ^ 32 then n else free.toNat)
  let tags := texts.flatMap fun (t : Nat × List Byte) => (List.range t.2.length).filterMap fun i =>
    (tagAt ps t.2 i).map fun k => leBytes 8 (t.1 + i) ++ leBytes 2 k ++ List.replicate 6 (0 : Byte)
  (counts, tags)

/-- The grains that a snapshot maps in a range, as (index, grain). -/
def snapGrains (s : State) (id first count : Nat) : List (Nat × Nat) :=
  match s.snap id with
  | none => []
  | some (sh, x) => match x.root, s.ns x.nsid with
    | some r, some (_, n) =>
      (((s.store sh).treePages (max n.height (treeHeight x.size)) r).flatMap fun p => p.entries.filterMap fun e => match e.2 with
        | .grain g => if first ≤ e.1 && e.1 < first + count then some (e.1, g) else none
        | _ => none).mergeSort fun a b => decide (a.1 ≤ b.1)
    | _, _ => []

/-- A scan job ends. `read` is what the read path gave of each grain; a mapped grain without a text is lost and counted. -/
def scanFinish (j : EngJob) (read : List (Nat × List Byte)) (s : State) : State :=
  let r := patRing j.channel s
  let finish := fun (d : ScanDesc) (texts : List (Nat × List Byte)) (lost : Nat) => match d.fault, s.bank j.bank with
    | some (poison, off), _ => jobDone r d.dstSpace [] { cplOf (if poison then cPOISONED else cHW_FAULT) with detail := off } s
    | none, none => s
    | none, some img =>
      let p := s.draw
      let o := scanOutput img d texts p.1
      if d.outLimit < o.1.length then
        let q := cutShort o.1 d.outLimit p.2
        jobDone r d.dstSpace q.1 { cplOf cOUTPUT_LIMIT with detail := lost } q.2
      else
        let wanted := o.2.take d.tagLimit
        let tags := wanted.take ((d.outLimit - o.1.length) / 16)
        jobDone r d.dstSpace (o.1 ++ tags.flatten) { cplOf cOK with ctx := o.1.length, detail := lost, more := if tags.length < wanted.length then [2] else [] } p.2
  match j.desc with
  | .scanBuffer d => finish d [(0, d.data)] 0
  | .scanSnapshot d =>
    let gs := snapGrains s d.snap d.first d.count
    let texts := gs.filterMap fun (g : Nat × Nat) => (read.find? (·.1 == g.1)).map fun (t : Nat × List Byte) => (4096 * g.1, t.2)
    settleDeletes (finish d texts (gs.length - texts.length))
  | _ => s

/-- A PAT channel's descriptor goes on: fetched, checked and pinned if the channel has no job yet, and finished when it has ended. -/
def scanStep (fresh : JobDesc) (fault : Option Nat) (ch snap : Nat) (done : Option (List (Nat × List Byte))) (s : State) : State :=
  let go := fun (j : EngJob) (s : State) => match done with
    | none => putJob j s
    | some read => scanFinish j read s
  match jobOf s 2 ch with
  | some j => go j s
  | none =>
    if !patFetches ch s then s
    else match fault with
    | some c => ringDone (patRing ch s) (cplOf c) s
    | none => go { block := 2, channel := ch, desc := fresh, pt := none, since := s.now, snap := snap, bank := s.fld Reg.fPAT_CFG_BANK } s

/-- SCAN_BUFFER (15 R377, R378): `done` when the scan has ended. -/
def execScanBuffer (ch : Fin 12) (d : ScanDesc) (done : Bool) : State → Host.Outcome State Fault Refusal :=
  act fun s => scanStep (.scanBuffer d) (scanFault false ch.val d s) ch.val 0 (if done then some [] else none) s

/-- SCAN_SNAPSHOT (15 R377, R378): `done` gives the plaintext of the grains that could be read, when the scan has ended. -/
def execScanSnapshot (ch : Fin 12) (d : ScanDesc) (done : Option (List (Nat × List Byte))) : State → Host.Outcome State Fault Refusal :=
  act fun s => scanStep (.scanSnapshot d) (scanFault true ch.val d s) ch.val d.snap done s

/-! ## Pattern images (15 R372, R373) -/

/-- The fault of an image: CRC or format, then the group runs. -/
def imageFault (img : PatImage) (len : Nat) : Option Nat :=
  let used := (img.groups.filter fun (g : Nat × Nat) => g.2 != 0).mergeSort fun a b => decide (a.1 ≤ b.1)
  let runs := used.foldl (fun (a : Bool × Nat) (g : Nat × Nat) => (a.1 && g.1 == a.2, a.2 + g.2)) (true, 0)
  if !img.crcOk || img.format != 1 || img.count == 0 || 4096 < img.count || img.imageLen != len || !img.rsvdZero || img.groups.length != 16 ||
     img.patterns.length != img.count || img.patterns.any (fun p => p.bytes.isEmpty || 256 < p.bytes.length || 15 < p.priority) then some cCORRUPT_INPUT
  else if !runs.1 || runs.2 != img.count then some cBAD_FIELD
  else none

/-- A staged set names a change of PAT_CFG.BANK. -/
def bankStaged (s : State) : Bool :=
  s.lens.sets.any fun x => x.writes.any fun w => Reg.PAT_CFG.holds w.1 && bits w.2 0 0 != s.fld Reg.fPAT_CFG_BANK

/-- Write the shadow bank. -/
def putShadow (img : Option PatImage) (s : State) : State :=
  if s.fld Reg.fPAT_CFG_BANK == 0 then { s with eng := { s.eng with bank1 := img } } else { s with eng := { s.eng with bank0 := img } }

/-- PATTERN_LOAD: PAT_LOAD_CTRL written with GO and LEN; `done` gives the image copied, when the copy has ended (15 R373). -/
def execPatternLoad (len : Fin 16777216) (done : Option PatImage) : State → Host.Outcome State Fault Refusal :=
  act fun s =>
    let off := Reg.PAT_LOAD_CTRL.base
    let finish := fun (img : PatImage) (s : State) =>
      let n := s.fld Reg.fPAT_LOAD_CTRL_LEN
      let s := s.setFlag Reg.fPAT_LOAD_STATUS_BUSY false
      match imageFault img n with
      | some c => (putShadow none s).setFld Reg.fPAT_LOAD_STATUS_CODE c
      | none =>
        let s := (putShadow (some img) s).setFlag Reg.fPAT_LOAD_STATUS_VALID true
        (s.setFld Reg.fPAT_LOAD_STATUS_CODE cOK).setFld Reg.fPAT_LOAD_STATUS_PATTERNS (img.count - 1)
    if s.flag Reg.fPAT_LOAD_STATUS_BUSY then
      match done with
      | some img => finish img s
      | none => captureErr cSTATE_CONFLICT off s
    else if len.val < 512 || 8388608 < len.val then captureErr cBAD_FIELD off s
    else if bankStaged s || s.eng.jobs.any (fun j => j.block == 2 && j.bank != s.fld Reg.fPAT_CFG_BANK) then captureErr cSTATE_CONFLICT off s
    else
      let s := ((s.setFld Reg.fPAT_LOAD_CTRL_LEN len.val).setFlag Reg.fPAT_LOAD_STATUS_BUSY true).setFlag Reg.fPAT_LOAD_STATUS_VALID false
      match done with
      | some img => finish img s
      | none => s

end Sys2Proof.Machine
end

