-- ==== Sys2Proof/Machine/Wake.lean ====
section
/-!
DEFINITION. Power domains: their states, waking what is parked, the turn of supply ramps, domains whose units are fenced (21 R491 to R495, R503).
-/
namespace Sys2Proof.Machine

/-- The power domain of an island; none for an island that is not power-switched (21 R491). -/
def powerDomain (i : Nat) : Option Nat := (List.range 48).find? fun d => (domainIslands d).contains i

/-- The power plan entry of a domain. -/
def planOf (d : Nat) (s : State) : Option PowerEntry := s.lens.live.power.find? (·.domain == d)

/-- STATE of a power domain. -/
def State.domainState (s : State) (d : Nat) : Nat := s.fld Reg.fPWR_DOMAIN_STATUS_STATE d

/-- Set STATE of a power domain; a change fires its source with the new state in DETAIL (21 R503). -/
def setDomain (d v : Nat) (s : State) : State :=
  if s.domainState d == v then s
  else fire (696 + d) (s.setFld Reg.fPWR_DOMAIN_STATUS_STATE v d) (detail := v)

/-- Islands leave PARK. -/
def unpark (is : List Nat) (s : State) : State := { s with env := { s.env with parked := s.env.parked.filter fun i => !is.contains i } }

/-- Supply ramps begun in the last 100 µs (21 R495). -/
def recentRamps (s : State) : List Nat := s.env.ramps.filter fun t => s.now < t + 100 * us

/-- Waiting ramps begin, at most 4 in any 100 µs, and none while AVS is held (21 R495, R496). -/
def pumpRamps (s : State) : State :=
  if s.flag Reg.fPWR_AVS_STATUS_HELD then s
  else
    let n := 4 - (recentRamps s).length
    let s' := { s with env := { s.env with ramps := List.replicate (min n s.env.rampQ.length) s.now ++ recentRamps s, rampQ := s.env.rampQ.drop n } }
    (s.env.rampQ.take n).foldl (fun s d => setDomain d 5 s) s'

/-- A domain is needed: parked islands run at once, a deep-parked domain takes its turn to ramp. -/
def wakeDomain (d : Nat) (s : State) : State :=
  if s.domainState d == 1 then setDomain d 0 (unpark (domainIslands d) s)
  else if s.domainState d == 2 && !s.env.rampQ.contains d then pumpRamps { s with env := { s.env with rampQ := s.env.rampQ ++ [d] } }
  else s

/-- A request at a crossing of an island (21 Table 21.2). -/
def wakeIsland (i : Nat) (s : State) : State :=
  match powerDomain i with
  | some d => wakeDomain d s
  | none => s

/-- Every parked island runs: a re-lens may need any of them as a drain target (21 R495). -/
def wakeParked (s : State) : State := (List.range 48).foldl (fun s d => if s.domainState d == 1 then wakeDomain d s else s) s

/-- The domain has no supply, or is still waking. -/
def State.asleep (s : State) (i : Nat) : Bool :=
  match powerDomain i with
  | some d => s.domainState d == 2 || s.domainState d == 5
  | none => false

/-- Every island of a domain is fenced or unused. -/
def domainOut (d : Nat) (s : State) : Bool := (domainIslands d).all fun k => s.isFenced k || roleOf s.lens.live k == 0

/-- An island has been fenced: a domain without any island left is FENCED, or `off` after a retest failure (21 Table 21.2). -/
def domainFenced (i : Nat) (off : Bool) (s : State) : State :=
  match powerDomain i with
  | some d =>
    if d != 47 && domainOut d s then
      let s := { s with env := { s.env with rampQ := s.env.rampQ.filter (· != d) } }
      setDomain d (if off then 3 else 4) (unpark (domainIslands d) s)
    else s
  | none => s

/-- An island is back: its domain runs. -/
def domainBack (i : Nat) (s : State) : State :=
  match powerDomain i with
  | some d => if 3 ≤ s.domainState d && s.domainState d ≤ 4 then setDomain d 0 s else s
  | none => s

end Sys2Proof.Machine
end

