-- ==== Sys2Proof/Machine/Fence.lean ====
section
/-!
DEFINITION. Fencing a unit and putting a spare in its place (01 R15, R18, R19; 20 R478 to R482).
-/
namespace Sys2Proof.Machine

/-! ## Units (20 R477, R478) -/

/-- Number of core `k` of cluster `c` among units. -/
def coreUnit (c k : Nat) : Nat := 512 + 32 * c + k

/-- The unit is a service core. -/
def isCore (u : Nat) : Bool := 512 ≤ u

/-- Island of a unit. -/
def unitIsland (u : Nat) : Nat := if isCore u then iSC + (u - 512) / 32 else u

/-- A unit as (cluster, core). -/
def coreOf (u : Nat) : Nat × Nat := ((u - 512) / 32, (u - 512) % 32)

/-- A unit is out of service. -/
def State.unitOut (s : State) (u : Nat) : Bool := if isCore u then s.lens.coresFenced.contains (coreOf u) else s.isFenced u

/-- Take a unit out of service, or put it back. -/
def setOut (u : Nat) (out : Bool) (s : State) : State :=
  if isCore u then
    let rest := s.lens.coresFenced.filter (· != coreOf u)
    { s with lens := { s.lens with coresFenced := if out then coreOf u :: rest else rest } }
  else { s with lens := { s.lens with fenced := if out then insertNat u s.lens.fenced else s.lens.fenced.filter (· != u) } }

/-- Units out of service now. -/
def fencedNow (s : State) : Nat := s.lens.fenced.length + s.lens.coresFenced.length

/-- Record the last fence in LNS_LAST_FENCE. -/
def noteFence (u cause : Nat) (s : State) : State :=
  let s := s.setFld Reg.fLNS_LAST_FENCE_CAUSE cause
  let s := s.setFld Reg.fLNS_LAST_FENCE_FENCED_NOW (fencedNow s)
  (s.setFld Reg.fLNS_LAST_FENCE_CORE (if isCore u then (coreOf u).2 else 0)).setFld Reg.fLNS_LAST_FENCE_ISLAND (unitIsland u)

/-! ## Spares (01 R18, R19; 20 R481) -/

/-- Kind of a unit that has spares: 0 PT, 1 MT, 2 service core; 3 every other. -/
def spareKind (u : Nat) : Nat := if isCore u then 2 else if u < 66 then 0 else if u < 100 then 1 else 3

/-- Spares taken or promised. -/
def sparesGone (s : State) : List Nat :=
  s.lens.sparesUsed.map (·.1) ++ s.env.toSub.map (·.2.1) ++ (match s.lens.relens with
    | some r => r.subs.map (·.1)
    | none => [])

/-- Spares that can stand in for a unit, lowest first. -/
def freeSpares (s : State) (u : Nat) : List Nat :=
  let all := match spareKind u with
    | 0 => (List.range 66).filter fun i => roleOf s.lens.live i == 2
    | 1 => (List.range' 66 34).filter fun i => roleOf s.lens.live i == 2
    | 2 =>
      let c := (coreOf u).1
      ((List.range 17).filter fun k => !(lookupD 0x0FFFF#17 c s.lens.live.coreMasks).getLsbD k).map (coreUnit c)
    | _ => []
  all.filter fun i => !s.unitOut i && !(sparesGone s).contains i

/-- A kind with no spare left raises its Fog cause (01 R19, 20 Table 20.3). -/
def checkSpares (u : Nat) (s : State) : State :=
  if spareKind u < 3 && (freeSpares s u).isEmpty then raiseFog (spareKind u) s (arg := u) else s

/-! ## Substitution (20 R481) -/

/-- The Sector of a substitution, for LNS_SECTOR_STATE. -/
def subSector (subs : List (Nat × Nat)) : Nat := ((subs.head?).map fun p => sectorOf (unitIsland p.2)).getD 12

/-- Start the waiting substitutions as one re-lens without a drain epoch: a stage set of their own, checked, committed with the default lead. A spare that sleeps is woken first (21 R495). -/
def startSubs (s : State) : State :=
  match freeSet s, s.env.toSub with
  | some n, _ :: _ =>
    let subs := s.env.toSub.map fun (t : Nat × Nat × Option Nat) => (t.2.1, t.1)
    let items := subs.map fun (p : Nat × Nat) => StagedItem.subst p.1 p.2
    let sleepers := (subs.map (·.1)).filter fun i => !isCore i && s.asleep i
    if !sleepers.isEmpty then sleepers.foldl (fun s i => wakeIsland i s) s
    else if claimedElsewhere n s (items.flatMap itemClaims) then s
    else
      let s := (subs.map (·.1)).foldl (fun (s : State) i => if isCore i then s else wakeIsland i s) s
      let jobs := s.env.toSub.filterMap (·.2.2)
      let s := items.foldl (fun s i => stageItem n i s) (s.putSet n { StageSet.free with st := .staging })
      let s := runCheck n { s with env := { s.env with toSub := [] } }
      if (s.set n).st == .checked then
        let r : Relens := { subs := subs, sector := subSector subs, phase := .draining, set := n, jobs := jobs, changed := subs.map (·.1),
                            waiting := [], failed := [], epoch := true, previous := s.lens.live, drainT := s.now }
        commitSet n defaultLead .lens { s with lens := { s.lens with relens := some r } }
      else
        let s := s.putSet n ((s.set n).freed (s.set n).code (s.set n).detail)
        jobs.foldl (fun s j => endJob j cCHECK_FAILED 0 [] s) s
  | _, _ => s

/-- Stage, check and commit the return of a unit in a set of its own; while none is free, or the unit is claimed, it waits (20 R480). -/
def commitReturn (u : Nat) (job : Option Nat) (s : State) : State :=
  match freeSet s with
  | some n =>
    if claimedElsewhere n s (itemClaims (.restore u)) then s
    else
      let s := runCheck n (stageItem n (.restore u) (s.putSet n { StageSet.free with st := .staging }))
      commitSet n defaultLead .plain (s.putSet n { s.set n with job := job })
  | none => s

/-- Units without spares that have passed their retest and are not being returned yet. -/
def returnsDue (s : State) : List Nat :=
  (s.env.fences.filter fun (f : Fence) => f.repaired && spareKind f.unit == 3 &&
    !(s.lens.sets.any fun x => x.items.contains (.restore f.unit))).map (·.unit)

/-- Waiting returns are committed, and waiting substitutions start once no re-lens runs. -/
def settleSubs (s : State) : State :=
  let s := (returnsDue s).foldl (fun (s : State) u => commitReturn u none s) s
  if s.lens.relens.isNone then startSubs s else s

/-- A substitution whose Lens epoch has not committed is taken back, so that a second unit enters it too (20, "Two faults close together"). -/
def reopenSubs (s : State) : State :=
  match s.lens.relens with
  | some r =>
    if !r.subs.isEmpty && r.phase == .draining && (s.set r.set).st == .preparing then
      let back := r.subs.zipIdx.map fun (p : (Nat × Nat) × Nat) => (p.1.2, p.1.1, r.jobs[p.2]?)
      let s := s.putSet r.set ((s.set r.set).freed cOK 0)
      { s with lens := { s.lens with relens := none }, env := { s.env with toSub := back ++ s.env.toSub } }
    else s
  | none => s

/-- A unit fenced with no replacement: Fog cause 3 (01 R19, 20 Table 20.3). -/
def noReplacement (u : Nat) (s : State) : State :=
  raiseFog 3 { s with env := { s.env with fogUnits := insertNat u s.env.fogUnits } } (arg := u)

/-- Give a unit a spare: it is promised now, and the substitution starts or waits. Without a spare the work is spread and Fog cause 3 is raised (01 R19). -/
def substitute (u : Nat) (job : Option Nat) (s : State) : State :=
  match (freeSpares s u).head? with
  | none => noReplacement u s
  | some sp => settleSubs (let s := reopenSubs s; { s with env := { s.env with toSub := s.env.toSub ++ [(u, sp, job)] } })

/-! ## What a fence does (01 R15; 20 R479, Table 20.2) -/

/-- Reset of SIG00: one event on every enabled source (20, after Table 20.2). -/
def resetSig (s : State) : State := (List.range 4096).foldl (fun s n => if s.flag Reg.fSIG_ROUTE_EN n then fire n s else s) s

/-- A map-cache slice is fenced: its lines are gone and its addresses bypass the cache (16 R402). -/
def fenceSlice (k : Nat) (s : State) : State :=
  let s := { s with eng := { s.eng with slices := s.eng.slices.filter (·.index != k) } }
  fire 672 (s.setFld Reg.fMCC_CTRL_STATE 3 k) 0 k

/-- A Sieve bank yields misses only (16 R405). -/
def failBank (b : Nat) (s : State) : State :=
  fire 673 (s.setFld Reg.fMCC_SIEVE_STATUS_FAULT_BANKS (s.fld Reg.fMCC_SIEVE_STATUS_FAULT_BANKS ||| 2 ^ b)) 0 b

/-- The compression jobs of a PT look for another; its reconstructions go on in the lowest PT in service (15 R366, 20 R479). -/
def leavePt (p : Nat) (s : State) : State :=
  let js := s.eng.jobs.map fun (j : EngJob) => if j.pt == some p then { j with pt := none, since := s.now } else j
  let again := (s.eng.jobs.filter fun j => j.pt == some p).length
  let s := (putJobs js s).bump Reg.fCMP_STATUS_RESTARTS again
  match (List.range 66).find? fun i => i != p && !s.isFenced i with
  | some q => { s with rd := { s.rd with recons := s.rd.recons.map fun (x : Recon) => if x.pt == p then { x with pt := q } else x } }
  | none => s

/-- What the loss of an island does to what it serves. -/
def fenceEffect (i : Nat) (s : State) : State :=
  if i < 66 then leavePt i s
  else if i < 108 then s
  else if i < 116 then (List.range' (4 * (i - 108)) 4).foldl (fun s p => hostPortDown p s) s
  else if i < 148 then (List.range' (8 * (i - 116)) 8).foldl (fun s p => firePort p (portDown p s)) s
  else if i < 152 then (List.range' (64 * (i - 148)) 64).foldl (fun s p => firePort p (portDown p s)) s
  else if i < 168 then raiseFog 17 (headExit (i - 152) (s.setFld Reg.fMEM_CH_STATUS_STATE 3 (i - 152))) (arg := i - 152)
  else if i < 232 then fenceSlice (i - 168) s
  else if i < 236 then failBank (i - 232) s
  else if i = 236 then (List.range 15).foldl (fun s ch => failChannel ch s) s
  else if i = 245 || i = 246 then fireGroup (i - 245) (groupDown (i - 245) s)
  else if i = 247 then settleAck (s.send (.mirState true))
  else if i = 264 || i = 265 then raiseFog 4 (takeOver (i - 264) (s.setPair (i - 264) 2)) (arg := i - 264)
  else if i = 266 then resetSig s
  else if i = 270 || i = 271 then s.setFlag Reg.fKPR_MGMT_STATUS_UP false (i - 270)
  else s

/-- Islands that are reset in place, and so serve again at once (20 Table 20.2). -/
def resetInPlace (u : Nat) : Bool := 266 ≤ u && u ≤ 269

/-- Fences of a unit since cold start. -/
def fenceCount (s : State) (u : Nat) : Nat := lookupD 0 u s.env.fenceCounts

/-- The fence list as the last queued write leaves it. -/
def lastFenceList (s : State) : List Nat :=
  s.kpr.flashQ.foldl (fun (l : List Nat) (w : FlashWrite) => match w.item with
    | .fenceList us => us
    | _ => l) s.env.fenceList

/-- A unit is fenced for good: Keeper A records it in the fence list (20 R480). -/
def fenceForGood (u : Nat) (s : State) : State :=
  let fs := s.env.fences.map fun (f : Fence) => if f.unit == u then { f with permanent := true, repaired := false } else f
  let units := insertNat u (lastFenceList s)
  queueFlash (.fenceList units) { s with env := { s.env with fences := fs } }

/-- A fence takes effect at once (20 R479): crossings close, requests return for reissue, the live generation rises, what the island served is served otherwise. `sub` asks for a substitution. -/
def fenceUnit (u cause : Nat) (sub : Bool) (s : State) : State :=
  if s.unitOut u then s
  else if resetInPlace u then noteFence u cause (fenceEffect u (bumpGen s))
  else
    let n := fenceCount s u + 1
    let s := setOut u true s
    let f : Fence := { unit := u, cause := cause, at_ := s.now, repaired := false, permanent := false }
    let s := { s with env := { s.env with fences := s.env.fences.filter (·.unit != u) ++ [f], fenceCounts := setKey u n s.env.fenceCounts },
                      lens := { s.lens with reissued := unitIsland u :: s.lens.reissued } }
    let s := noteFence u cause (bumpGen s)
    let s := if 3 ≤ n then fenceForGood u s else s
    let s := if isCore u then s else domainFenced u false (fenceEffect u s)
    let stood := s.lens.sparesUsed.find? (·.1 == u)
    let s := { s with lens := { s.lens with sparesUsed := s.lens.sparesUsed.filter (·.1 != u) } }
    let role := (stood.map (·.2)).getD u
    let idle := stood.isNone && !isCore u && spareKind u < 3 && roleOf s.lens.live u == 2
    if spareKind u == 3 then (if 152 ≤ u && u < 168 || u == iKPA || u == iKPB then s else noReplacement u s)
    else if idle then checkSpares u s
    else if sub && s.flag Reg.fLNS_REPAIR_CFG_AUTO_SUB then substitute role none s
    else s

end Sys2Proof.Machine
end

