-- ==== Sys2Proof/Machine/Mem.lean ====
section
/-!
DEFINITION. DRAM, SRAM protection, leaky buckets, scrubbing, the map cache (16_memory_and_map_cache.md).
-/
namespace Sys2Proof.Machine

/-! ## DRAM (16 R382, R383) -/

/-- Installed DRAM in GiB: 16 channels. -/
def installedGib (s : State) : Nat := 16 * s.fld Reg.fMEM_CONFIG_DIMM_GIB * s.fld Reg.fMEM_CONFIG_DPC

/-- One GiB. -/
def gib : Nat := 1073741824

/-- The channel of a byte address. -/
def dramChannel (a : Nat) : Nat := (a / 4096 % 16) ^^^ (a / 65536 % 16) ^^^ (a / 1048576 % 16) ^^^ (a / 16777216 % 16)

/-! ## Leaky buckets (16 R394) -/

/-- The bucket's threshold. -/
def threshold (s : State) (b : Nat) : Nat := s.fld Reg.fMEM_BUCKET_CFG_THRESHOLD b

/-- The count of a bucket, with OVER as it follows. -/
def setCount (b n : Nat) (s : State) : State :=
  let s := s.setFld Reg.fMEM_BUCKET_STATUS_COUNT n b
  s.setFlag Reg.fMEM_BUCKET_STATUS_OVER (threshold s b < n) b

/-- A device erased in every correction of three firings within 24 h: Fog cause 17 (20 R482). -/
def noteErased (b : Nat) (s : State) : State :=
  let devs := (s.eng.erased.filter (·.1 == b)).map (·.2) |>.eraseDups
  let s := { s with eng := { s.eng with erased := s.eng.erased.filter (·.1 != b) } }
  match devs with
  | [(dimm, dev)] =>
    let fs := (s.env.erasedFirings ++ [(b, dimm, dev, s.now)]).filter fun (f : Nat × Nat × Nat × Nat) => s.now ≤ f.2.2.2 + 24 * hour
    let s := { s with env := { s.env with erasedFirings := fs } }
    if 3 ≤ (fs.filter fun (f : Nat × Nat × Nat × Nat) => f.1 == b && f.2.1 == dimm && f.2.2.1 == dev).length then raiseFog 17 s (arg := 16 * dimm + b) else s
  | _ => { s with env := { s.env with erasedFirings := s.env.erasedFirings.filter (·.1 != b) } }

/-- A bucket fires: its source, OVERFLOWS, an overflow in the Keeper's Log. -/
def fireBucket (b : Nat) (s : State) : State :=
  let s := logCount 0x360 b (fire (640 + b) (s.bump Reg.fMEM_BUCKET_STATUS_OVERFLOWS 1 b))
  if b < 16 then noteErased b s else s

/-- A correctable error counts into its bucket; it fires when the count goes from T to T + 1, or at every error with T = 0. -/
def countBucket (b : Nat) (s : State) : State :=
  let n := s.fld Reg.fMEM_BUCKET_STATUS_COUNT b
  let t := threshold s b
  let s := setCount b (satAdd 65535 n 1) s
  if t == 0 || n == t then fireBucket b s else s

/-- LEAKY_BUCKET_LEAK (16 R394): every INTERVAL_MS the count falls by 1 unless it is 0. -/
def execLeakyBucketLeak (b : Fin 24) : State → Host.Outcome State Fault Refusal :=
  act fun s =>
    let t := lookupD 0 b.val s.eng.leakAt + s.fld Reg.fMEM_BUCKET_CFG_INTERVAL_MS b.val * ms
    let s := s.reach t
    let s := { s with eng := { s.eng with leakAt := setKey b.val t s.eng.leakAt } }
    setCount b.val (s.fld Reg.fMEM_BUCKET_STATUS_COUNT b.val - 1) s

/-- A committed change of a bucket (16 R395): the count judged against the new threshold, the leak timer restarted by a change of interval. -/
def bucketCommitted (b : Nat) (old : Word) (s : State) : State :=
  let n := s.fld Reg.fMEM_BUCKET_STATUS_COUNT b
  let s := setCount b n s
  let s := if bits old 63 32 != s.fld Reg.fMEM_BUCKET_CFG_INTERVAL_MS b then { s with eng := { s.eng with leakAt := setKey b s.now s.eng.leakAt } } else s
  if bits old 15 0 != threshold s b && threshold s b < n then fireBucket b s else s

/-- BUCKET_CONFIG (16 Table 16.3): one stage set for every bucket named, committed with the default lead; the command ends with the commit. -/
def execBucketConfig (r : TaskReq) : State → Host.Outcome State Fault Refusal :=
  taskCmd { opcode := 0x0902, windows := [0] } [(1, mask 5 0), (2, mask 31 0), (3, mask 15 0)] r fun s =>
    let b := r.arg 1
    let iv := r.arg 2
    let off := fun b => Reg.MEM_BUCKET_CFG.base + 8 * b
    if b != 0x3F && 24 ≤ b then .fail cBAD_FIELD 1
    else if iv == 0 || 86400000 < iv then .fail cBAD_FIELD 2
    else match freeSet s with
    | none => .fail cNO_RESOURCE
    | some n =>
      if claimedElsewhere n s (regClaims (off 0)) then .fail cSTATE_CONFLICT
      else
        let w := BitVec.ofNat 64 (iv * 2 ^ 32 + r.arg 3)
        let bs := if b == 0x3F then List.range 24 else [b]
        let s := bs.foldl (fun s k => stageReg n (off k) w s) (s.putSet n { StageSet.free with st := .staging })
        let s := runCheck n s
        let s := s.putSet n { s.set n with window := some r.window }
        .later (commitSet n defaultLead .plain s)

/-! ## Reads of DRAM (16 R385 to R388, R393) -/

/-- MEM_UE_LOG holds the first uncorrectable error (16 R393). -/
def logUe (source addr : Nat) (writer : Bool) (s : State) : State :=
  if s.flag Reg.fMEM_UE_LOG_VALID then s
  else
    let s := (s.setFlag Reg.fMEM_UE_LOG_VALID true).setFlag Reg.fMEM_UE_LOG_WRITER_POISON writer
    (s.setFld Reg.fMEM_UE_LOG_SOURCE source).setFld Reg.fMEM_UE_LOG_ADDR addr

/-- The outcome that counts: a burst that a writer marked stays poisoned until it is written again in full, which `rewritten` says has happened since (16 R387). -/
def burstOutcome (s : State) (addr : Nat) (rewritten : Bool) (o : BurstRead) : BurstRead :=
  if s.eng.poisoned.contains addr && !rewritten then .marker else o

/-- What a read of a burst counts, fires and queues. A burst whose corrected data waits for write-back is taken from there and counts once (16 R397). -/
def countBurst (addr : Nat) (o : BurstRead) (s : State) : State :=
  let ch := dramChannel addr
  match o with
  | .clean => s
  | .device dimm dev =>
    if s.eng.writeBacks.contains addr then s
    else
      let s := { s with eng := { s.eng with writeBacks := s.eng.writeBacks ++ [addr], erased := s.eng.erased ++ [(ch, dimm.val, dev.val)] } }
      countBucket ch (s.bump Reg.fMEM_CH_STATUS_CORRECTED 1 ch)
  | .marker => fire (608 + ch) (logUe ch addr true s) 0 addr
  | .bad => fire (608 + ch) (logUe ch addr false (s.bump Reg.fMEM_CH_STATUS_UNCORR 1 ch)) 0 addr

/-- A burst that the decoder delivers as POISONED. -/
def BurstRead.poison : BurstRead → Bool
  | .marker | .bad => true
  | _ => false

/-- A copy of a key-store entry fails: the other copy serves and the failed one is rewritten; with both failed the slot reads EMPTY (14 R352). -/
def keyEntryFails (slot : Nat) (both : Bool) (s : State) : State :=
  let k := s.slot slot
  let s := if both then s.putSlot { k with st := .empty, key := none, previous := none, copies := 0 } else s.putSlot { k with copies := 2 }
  fire 575 s cHW_FAULT slot

/-- What the consumer of poisoned data does (16 Table 16.2). -/
def consume (who : DramConsumer) (s : State) : State :=
  match who with
  | .other => s
  | .journal jseq => s.send (.fetch jseq)
  | .key slot both => keyEntryFails slot both s
  | .bar2 off => s.emit (.poisonedRead off)

/-- Results of a scrub (16 Table 16.4). -/
def scrubResults (p : ScrubPass) (now : Nat) : List Word :=
  [p.checked, p.corrected, p.marked * 2 ^ 32 + p.bad, p.firstBad.getD (2 ^ 64 - 1), (now - p.since + 999) / 1000].map (BitVec.ofNat 64)

/-- Store the passes and the count that MEM_SCRUB_STATUS shows. -/
def putScrubs (ps : List ScrubPass) (s : State) : State :=
  let s := { s with eng := { s.eng with scrubs := ps } }
  s.setFld Reg.fMEM_SCRUB_STATUS_JOBS ps.length

/-- A pass ends. -/
def endScrub (p : ScrubPass) (code : Nat) (s : State) : State :=
  let s := putScrubs (s.eng.scrubs.filter (·.job != p.job)) s
  endJob p.job code 0 (scrubResults p s.now) s

/-- A pass has checked `n` bursts in all; its rate caps how soon (16 R396). -/
def passReach (p : ScrubPass) (n : Nat) (s : State) : State := s.reach (p.since + (n * 64 * 10 + p.rate - 1) / p.rate)

/-- A pass reads on: `skip` clean bursts, then one with an outcome. A cancelled pass stops at the next 1 MiB boundary. -/
def passRead (p : ScrubPass) (skip : Nat) (rewritten : Bool) (o : BurstRead) (s : State) : State :=
  let stopping := ((s.job p.job).map (·.stopping)).getD false
  let left := p.len / 64 - p.checked
  let edge := (1048576 - (p.start + 64 * p.checked) % 1048576) / 64 % 16384
  if stopping && (edge ≤ skip || left ≤ skip) then
    let q := { p with checked := p.checked + min edge left }
    endScrub q (if left ≤ edge then cOK else cCANCELLED) (passReach p q.checked s)
  else if left ≤ skip then endScrub { p with checked := p.checked + left } cOK (passReach p (p.checked + left) s)
  else
    let addr := p.start + 64 * (p.checked + skip)
    let o := burstOutcome s addr rewritten o
    let fresh := !s.eng.writeBacks.contains addr
    let q := { p with checked := p.checked + skip + 1,
                      corrected := p.corrected + (match o with | .device _ _ => if fresh then 1 else 0 | _ => 0),
                      marked := p.marked + (if o == .marker then 1 else 0), bad := p.bad + (if o.poison then 1 else 0),
                      firstBad := if o.poison && p.firstBad.isNone then some addr else p.firstBad }
    let s := countBurst addr o (passReach p q.checked s)
    let s := putScrubs (putBy ScrubPass.job q s.eng.scrubs) s
    if q.checked * 64 == q.len then endScrub q cOK s else s

/-- DRAM_READ_DECODE (16 R384 to R388, R391, R393). -/
def execDramReadDecode (addr : Nat) (by_ : DramReader) (rewritten : Bool) (o : BurstRead) : State → Host.Outcome State Fault Refusal :=
  act fun s =>
    let a := addr / 64 * 64
    let o' := burstOutcome s a rewritten o
    match by_ with
    | .pass job skip => match s.eng.scrubs.find? (·.job == job) with
      | some p => passRead p skip rewritten o s
      | none => s
    | .demand who =>
      let s := if rewritten then { s with eng := { s.eng with poisoned := s.eng.poisoned.filter (· != a) } } else s
      let s := countBurst a o' s
      if o'.poison then consume who s else s
    | .merge =>
      let s := countBurst a o' s
      if o'.poison then { s with eng := { s.eng with poisoned := insertNat a s.eng.poisoned } } else s

/-- CORRECTION_WRITE_BACK (16 R386): written back, or cancelled by a write that reached the burst first. -/
def execCorrectionWriteBack (addr : Nat) (cancelled : Bool) : State → Host.Outcome State Fault Refusal :=
  act fun s =>
    if s.eng.writeBacks.contains addr then
      let s := { s with eng := { s.eng with writeBacks := s.eng.writeBacks.filter (· != addr) } }
      s.emit (.writeBack addr cancelled)
    else s

/-! ## Scrubbing (16 R396, R397) -/

/-- SCRUB_RANGE (16 Table 16.3). -/
def execScrubRange (r : TaskReq) : State → Host.Outcome State Fault Refusal :=
  taskCmd { opcode := 0x0901, windows := [0, 3] } [(1, mask64), (2, mask64), (3, mask 15 0)] r fun s =>
    let start := r.arg 1
    let len := r.arg 2
    if start % 64 != 0 then .fail cBAD_ALIGN 1
    else if len % 64 != 0 then .fail cBAD_ALIGN 2
    else if len == 0 then .fail cBAD_LENGTH 2
    else if installedGib s * gib < start + len then .fail cBAD_FIELD 1
    else if 200 < r.arg 3 then .fail cBAD_FIELD 3
    else if 4 ≤ s.eng.scrubs.length then .fail cNO_RESOURCE
    else startJob 0x0901 r { cancellable := true } s fun n s =>
      let rate := if r.arg 3 == 0 then s.fld Reg.fMEM_SCRUB_CFG_JOB_RATE else r.arg 3
      putScrubs (s.eng.scrubs ++ [{ job := n, start := start, len := len, rate := rate, checked := 0, corrected := 0, marked := 0, bad := 0, firstBad := none, since := s.now }]) s

/-- BACKGROUND_SCRUB_PASS (16 R397): Keeper B's next GiB, paced over BG_PERIOD_H; `found` are the bursts of it that are not clean, by offset. -/
def execBackgroundScrubPass (found : List (Nat × BurstRead)) : State → Host.Outcome State Fault Refusal :=
  act fun s =>
    let total := installedGib s
    if !s.background || total == 0 then s
    else
      let period := s.fld Reg.fMEM_SCRUB_CFG_BG_PERIOD_H * hour
      let s := s.reach (s.eng.bgSince + (s.eng.bgDone + 1) * period / total)
      let base := s.eng.bgDone * gib
      let s := (found.filter (·.1 < gib)).foldl (fun (s : State) (f : Nat × BurstRead) =>
        let a := base + f.1 / 64 * 64
        countBurst a (burstOutcome s a false f.2) s) s
      let n := s.eng.bgDone + 1
      if total ≤ n then
        let s := { s with eng := { s.eng with bgDone := 0, bgSince := s.now } }
        (s.bump Reg.fMEM_SCRUB_STATUS_BG_PASSES).setFld Reg.fMEM_SCRUB_STATUS_BG_PCT 0
      else
        let s := { s with eng := { s.eng with bgDone := n } }
        s.setFld Reg.fMEM_SCRUB_STATUS_BG_PCT (n * 100 / total)

/-- DRAM_ZERO_FILL (16 R392): the fill engine passes some more GiB with valid codewords; DONE at the end. -/
def execDramZeroFill (step : Nat) : State → Host.Outcome State Fault Refusal :=
  act fun s =>
    let total := installedGib s
    if s.flag Reg.fMEM_FILL_STATUS_DONE || total == 0 || s.keeperA != some true then s
    else
      let n := min total (s.fld Reg.fMEM_FILL_STATUS_FILLED_GIB + step)
      let s := s.setFld Reg.fMEM_FILL_STATUS_FILLED_GIB n
      if n == total then { s.setFlag Reg.fMEM_FILL_STATUS_DONE true with eng := { s.eng with poisoned := [], writeBacks := [] } } else s

/-! ## SRAM (16 R389, R390, R402, R405; Table 16.1) -/

/-- An error of a unit, kind 2 SRAM or 3 crossing: the third within the sliding operating hour fences it (20 R478, 17 R412). -/
def unitError (u kind : Nat) (s : State) : State :=
  let e : UnitError := { unit := u, kind := kind, opNs := s.kpr.opNs }
  let es := (s.env.errors.filter fun x => s.kpr.opNs < x.opNs + hour) ++ [e]
  let s := { s with env := { s.env with errors := es } }
  if 3 ≤ (es.filter fun x => x.unit == u && x.kind == kind).length then fenceUnit u kind true s else s

/-- The outcome of an uncorrectable word (16 Table 16.1). -/
def sramOutcome (w : SramWhere) (s : State) : State :=
  match w with
  | .sieveEntry p b t => { s with wr := { s.wr with sieve := s.wr.sieve.filter fun (e : SieveEntry) => !(e.part == p && e.bucket == b && e.tag == t) } }
  | .sieveBank b => failBank b.val s
  | .cacheLine k l => { s with eng := { s.eng with slices := s.eng.slices.map fun (x : Slice) =>
      if x.index == k.val then { x with lines := x.lines.filter (·.line != l), victim := x.victim.filter (·.line != l) } else x } }
  | .cacheTag k => fenceUnit (iMC + k.val) 2 false s
  | .keeper p => restartPair p.val s
  | .unit u => unitError u 2 s
  | .context i => match s.ctx i.val with
    | some c => s.putCtx { c with cut := some cPOISONED }
    | none => s
  | .other => s

/-- A clean cache line is refetched and its error counts as correctable; so does a parity array with a backing copy. -/
def refetched (s : State) (cls : Nat) (w : SramWhere) : Bool :=
  match w with
  | .cacheLine k l => cls == 1 && s.eng.slices.any fun x => x.index == k.val && (x.lines ++ x.victim).any fun y => y.line == l && !y.dirty
  | _ => false

/-- SRAM_PATROL (16 R389, R390): a word of a class is read, corrected and rewritten, or found uncorrectable. -/
def execSramPatrol (cls : Fin 8) (word : Nat) (f : SramFind) : State → Host.Outcome State Fault Refusal :=
  act fun s =>
    let c := cls.val
    match f with
    | .clean => s
    | .corrected => countBucket (16 + c) s
    | .bad w =>
      if refetched s c w then countBucket (16 + c) s
      else sramOutcome w (fire (624 + c) (logUe (16 + c) word false s) 0 word)

/-! ## The map cache (16 R398 to R402) -/

/-- STATE of a slice: 0 ENABLED, 1 DRAINING, 2 BYPASS, 3 FENCED. -/
def sliceState (s : State) (k : Nat) : Nat := s.fld Reg.fMCC_CTRL_STATE k

/-- Change it; each change fires source 672 (16 R408). -/
def setSlice (k st : Nat) (s : State) : State := if sliceState s k == st then s else fire 672 (s.setFld Reg.fMCC_CTRL_STATE st k) 0 k

/-- A slice's contents. -/
def State.slice (s : State) (k : Nat) : Slice :=
  (s.eng.slices.find? (·.index == k)).getD { index := k, lines := [], victim := [], wb := [], miss := none, waiting := [] }

/-- Store them. -/
def State.putSlice (s : State) (x : Slice) : State := { s with eng := { s.eng with slices := putBy Slice.index x s.eng.slices } }

/-- MCC_DISABLE (16 R401): BAR0 clears ENABLE; an enabled slice drains. -/
def execMccDisable (k : Fin 64) : State → Host.Outcome State Fault Refusal :=
  act fun s =>
    let k := k.val
    if sliceState s k == 3 then captureErr cSTATE_CONFLICT (Reg.MCC_CTRL.base + 8 * k) s
    else
      let s := s.setFlag Reg.fMCC_CTRL_ENABLE false k
      if sliceState s k == 0 then setSlice k 1 s else s

/-- MCC_ENABLE (16 R401): BAR0 sets ENABLE; refused while DRAINING; from BYPASS every line is invalid. -/
def execMccEnable (k : Fin 64) : State → Host.Outcome State Fault Refusal :=
  act fun s =>
    let k := k.val
    if sliceState s k == 1 || sliceState s k == 3 then captureErr cSTATE_CONFLICT (Reg.MCC_CTRL.base + 8 * k) s
    else
      let s := s.setFlag Reg.fMCC_CTRL_ENABLE true k
      if sliceState s k == 2 then
        setSlice k 0 { s with eng := { s.eng with slices := s.eng.slices.filter (·.index != k) } }
      else s

/-- MCC_DRAIN_COMPLETE (16 R401): within 1 ms every dirty line is written back, and the slice reads BYPASS. -/
def execMccDrainComplete (k : Fin 64) : State → Host.Outcome State Fault Refusal :=
  act fun s =>
    let k := k.val
    if sliceState s k == 1 then setSlice k 2 { s with eng := { s.eng with slices := s.eng.slices.filter (·.index != k) } } else s

/-- The set of a line address. -/
def cacheSet (a : Nat) : Nat := a / 64 % 1024

/-- Cache ways of a set: 16 less the scratch ways (16 R403). -/
def cacheWays (s : State) : Nat := 16 - s.lens.live.scratchWays

/-- Put a line into the write-back buffer. -/
def pushWb (l : Nat) (x : Slice) : Slice := { x with wb := x.wb ++ [{ line := l, issued := false }] }

/-- Put a line into its set. A full set gives up a line, which pseudo-LRU chooses (a free choice: the tree is not stated); it goes to the victim cache, whose oldest line, if dirty, goes to the write-back buffer (16 R398, R399). -/
def install (l : CacheLine) (ways : Nat) (pick : Nat) (x : Slice) : Slice :=
  let mine := x.lines.filter fun y => cacheSet y.line == cacheSet l.line
  if mine.length < ways then { x with lines := x.lines ++ [l] }
  else match mine[pick % mine.length]? with
  | none => x
  | some out =>
    let x := { x with lines := (x.lines.filter (·.line != out.line)) ++ [l], victim := x.victim ++ [out] }
    if x.victim.length ≤ 32 then x
    else match x.victim with
    | o :: t => if o.dirty then pushWb o.line { x with victim := t } else { x with victim := t }
    | [] => x

/-- Installing a line could need a write-back entry while the buffer is full (16 R400). -/
def mustWait (l ways : Nat) (x : Slice) : Bool :=
  ways ≤ (x.lines.filter fun y => cacheSet y.line == cacheSet l).length && 32 ≤ x.victim.length && (x.victim.head?).any (·.dirty) && 8 ≤ x.wb.length

/-- A request at an ENABLED slice (16 R398 to R400, "Line evicted while a request for it arrives"). -/
def cacheRequest (q : CacheReq) (x : Slice) (s : State) : Slice × State :=
  let ways := cacheWays s
  let p := s.draw
  if x.lines.any (·.line == q.line) then
    ({ x with lines := x.lines.map fun (y : CacheLine) => if y.line == q.line then { y with dirty := y.dirty || q.write } else y }, s)
  else match x.victim.find? (·.line == q.line) with
  | some v =>
    (install { v with dirty := v.dirty || q.write } ways p.1.toNat { x with victim := x.victim.filter (·.line != q.line) }, p.2.bump Reg.fMCC_STATS_VICTIM_RECALLS)
  | none => match x.wb.find? (·.line == q.line) with
    | some e =>
      let x := if e.issued then x else { x with wb := x.wb.filter (·.line != q.line) }
      (install { line := q.line, dirty := q.write || !e.issued } ways p.1.toNat x, p.2.bump Reg.fMCC_STATS_WB_FORWARDS)
    | none =>
      if !q.alloc then (x, s)
      else if x.miss.isNone then ({ x with miss := some q }, s)
      else ({ x with waiting := x.waiting ++ [q] }, s)

/-- One event: a request; the oldest write of the buffer is issued, or has reached DRAM. A DRAINING slice serves hits, writes a hit through and invalidates it (16 R401). -/
def cacheEvent (k : Nat) (s : State) (e : CacheEvent) : State :=
  let x := s.slice k
  match e with
  | .request q =>
    if sliceState s k == 0 then
      let r := cacheRequest q x s
      r.2.putSlice r.1
    else if sliceState s k == 1 && q.write then
      s.putSlice { x with lines := x.lines.filter (·.line != q.line), victim := x.victim.filter (·.line != q.line) }
    else s
  | .issue => match x.wb.find? fun w => !w.issued with
    | some w => s.putSlice { x with wb := x.wb.map fun (y : WbEntry) => if y.line == w.line then { y with issued := true } else y }
    | none => s
  | .written => match x.wb with
    | w :: t => if w.issued then s.putSlice { x with wb := t } else s
    | [] => s

/-- The next waiting misses are looked up again; the first that still misses is the outstanding one. -/
def nextMiss : Nat → Nat → State → State
  | 0, _, s => s
  | f + 1, k, s =>
    let x := s.slice k
    match x.miss, x.waiting with
    | none, q :: t =>
      let r := cacheRequest q { x with waiting := t } s
      nextMiss f k (r.2.putSlice r.1)
    | _, _ => s

/-- MAP_CACHE_MISS_FILL (16 R398 to R400): after the given events the outstanding miss returns its line, and the next waiting miss proceeds. -/
def execMapCacheMissFill (k : Fin 64) (evs : List CacheEvent) : State → Host.Outcome State Fault Refusal :=
  act fun s =>
    let k := k.val
    let s := evs.foldl (cacheEvent k) s
    let x := s.slice k
    match x.miss with
    | none => s
    | some q =>
      if sliceState s k != 0 then s.putSlice { x with miss := none, waiting := [] }
      else if mustWait q.line (cacheWays s) x then s
      else
        let p := s.draw
        let x := install { line := q.line, dirty := q.write } (cacheWays s) p.1.toNat { x with miss := none }
        nextMiss (x.waiting.length + 1) k (p.2.putSlice x)

end Sys2Proof.Machine
end

