-- ==== Sys2Proof/Machine/Epoch.lean ====
section
/-!
DEFINITION. Stage sets through their task commands and LNS_SET_CTRL, the epoch commit, the re-lens of a Sector (02_lens_and_epochs.md).
-/
namespace Sys2Proof.Machine

/-! ## Opening, checking, discarding (02 R38, R524, R525) -/

/-- Open a set. -/
def openSet (n : Nat) (s : State) : State := s.putSet n { (s.set n).freed cOK 0 with st := .staging }

/-- The Lens image of a set. -/
def StageSet.lens (x : StageSet) : Option LensImage := x.items.findSome? fun i => match i with
  | .lens img => some img
  | _ => none

/-- The ownership changes of a set, as (group, head). -/
def StageSet.owners (x : StageSet) : List (Nat × Nat) := x.items.filterMap fun i => match i with
  | .owner g h => some (g, h)
  | _ => none

/-- STAGE_OPEN. -/
def execStageOpen (r : TaskReq) : State → Host.Outcome State Fault Refusal :=
  taskCmd { opcode := 0x0101, windows := [0, 1] } [] r fun s => match freeSet s with
  | some n => .done (openSet n s) cOK 0 [BitVec.ofNat 64 n]
  | none => .fail cNO_RESOURCE

/-- STAGE_DISCARD. -/
def execStageDiscard (r : TaskReq) : State → Host.Outcome State Fault Refusal :=
  taskCmd { opcode := 0x0105, windows := [0, 1] } [(1, mask 2 0)] r fun s =>
    let n := r.arg 1
    if canDiscard n s then .done (settleSubs (s.putSet n ((s.set n).freed cOK 0))) else .fail cSTATE_CONFLICT

/-- STAGE_LENS: the set and the length first, then a job that runs checks 1 to 5 and stages the image. -/
def execStageLens (r : TaskReq) (img : LensImage) : State → Host.Outcome State Fault Refusal :=
  taskCmd { opcode := 0x0102, windows := [0, 1], bulk := .take (some (r.argBits 2 31 0)) } [(1, mask 2 0), (2, mask 31 0)] r fun s =>
    let n := r.arg 1
    let top := if img.kind == 0 then 96 else 8
    if !((s.set n).st == .staging || (s.set n).st == .checked) then .fail cSTATE_CONFLICT
    else if top * 1048576 < r.arg 2 then .fail cBAD_LENGTH 2
    else moved r (startJob 0x0102 r { cancellable := true, work := .takeLens n img } s fun _ s => s)

/-- STAGE_CHECK: a job that checks the set. -/
def execStageCheck (r : TaskReq) : State → Host.Outcome State Fault Refusal :=
  taskCmd { opcode := 0x0103, windows := [0, 1] } [(1, mask 2 0)] r fun s =>
    let n := r.arg 1
    match checkRefused n s with
    | some c => .fail c
    | none => startJob 0x0103 r { cancellable := true, work := .check n } s fun _ s => s.putSet n { s.set n with st := .checking }

/-- The end of a STAGE_LENS or STAGE_CHECK job, or its stop at a cancel, which leaves the set as it was at GO. -/
def endStageJob (j : Job) (s : State) : State :=
  match j.work with
  | .takeLens n img =>
    if j.stopping then endJob j.slot cCANCELLED 0 [] s
    else if !canStage n s (itemClaims (.lens img)) then endJob j.slot cSTATE_CONFLICT 0 [] s
    else match lensChecks img s with
    | some c => endJob j.slot c 0 [] s
    | none => endJob j.slot cOK 0 [] (stageItem n (.lens img) s)
  | .check n =>
    if j.stopping then endJob j.slot cCANCELLED 0 [] (s.putSet n { s.set n with st := .staging })
    else
      let s := runCheck n s
      let x := s.set n
      endJob j.slot x.code x.detail (if x.st == .checked then [BitVec.ofNat 64 x.checkedGen] else []) s
  | _ => s

/-! ## Commit (02 R38 to R40; 11 R289) -/

/-- COMMIT of a set: one with ownership changes makes a paired commit, whose lead is at least 50 µs. -/
def commit (n lead : Nat) (s : State) : State :=
  let os := (s.set n).owners
  if os.isEmpty then commitSet n lead .plain s
  else
    let lead := max lead 50000
    let s := commitSet n lead .plain s
    if (s.set n).st != .preparing then s
    else
      let pairT := pairNow s + lead
      let s := { s with peer := { s.peer with commit := some { pairT := pairT, changes := os, issuer := true, agreed := false, set := n } } }
      if s.peer.st == .paired then s.send (.prepare pairT os) else s

/-- Why a COMMIT cannot be taken: as Table 2.6 gives, or another paired commit under way. -/
def commitFault (n lead : Nat) (s : State) : Option Nat :=
  match commitRefused n lead s with
  | some c => some c
  | none => if !(s.set n).owners.isEmpty && s.peer.commit.isSome then some cSTATE_CONFLICT else none

/-- STAGE_COMMIT: a job that ends at T, or when the commit fails. -/
def execStageCommit (r : TaskReq) : State → Host.Outcome State Fault Refusal :=
  taskCmd { opcode := 0x0104, windows := [0, 1] } [(1, mask 2 0), (2, mask 31 0)] r fun s =>
    let n := r.arg 1
    match commitFault n (r.arg 2) s with
    | some c => .fail c (if c == cBAD_FIELD then 2 else 0)
    | none => startJob 0x0104 r {} s fun k s =>
      let s := commit n (r.arg 2) s
      if (s.set n).st == .preparing then s.putSet n { s.set n with job := some k }
      else endJob k (s.set n).code (s.set n).detail [] s

/-- A write of LNS_SET_CTRL with an operation: LEAD_NS and FORCE are written; a lead outside R39 discards it whole. -/
def setCtrl (n lead : Nat) (force : Bool) (k : State → State) (s : State) : State :=
  if lead < 5000 || 10000000 < lead then captureErr cBAD_FIELD (Reg.LNS_SET_CTRL.base + 0x40 * n) s
  else k ((s.setFld Reg.fLNS_SET_CTRL_LEAD_NS lead n).setFlag Reg.fLNS_SET_CTRL_FORCE force n)

/-- LNS_SET_OPEN. -/
def execLnsSetOpen (n : Fin 8) (lead : BitVec 32) (force : Bool) : State → Host.Outcome State Fault Refusal :=
  act (setCtrl n.val lead.toNat force fun s => if (s.set n.val).st == .free then openSet n.val s else s.setResult n.val cSTATE_CONFLICT 0)

/-- LNS_SET_CHECK. -/
def execLnsSetCheck (n : Fin 8) (lead : BitVec 32) (force : Bool) : State → Host.Outcome State Fault Refusal :=
  act (setCtrl n.val lead.toNat force fun s => match checkRefused n.val s with
    | some c => s.setResult n.val c 0
    | none => runCheck n.val s)

/-- LNS_SET_COMMIT: LEAD_NS is the lead. -/
def execLnsSetCommit (n : Fin 8) (lead : BitVec 32) (force : Bool) : State → Host.Outcome State Fault Refusal :=
  act (setCtrl n.val lead.toNat force fun s => match commitFault n.val lead.toNat s with
    | some c => s.setResult n.val c 0
    | none => commit n.val lead.toNat s)

/-- LNS_SET_DISCARD. -/
def execLnsSetDiscard (n : Fin 8) (lead : BitVec 32) (force : Bool) : State → Host.Outcome State Fault Refusal :=
  act (setCtrl n.val lead.toNat force fun s =>
    if canDiscard n.val s then settleSubs (s.putSet n.val ((s.set n.val).freed cOK 0)) else s.setResult n.val cSTATE_CONFLICT 0)

/-- LNS_SET_NO_OPERATION. -/
def execLnsSetNoOperation (n : Fin 8) (lead : BitVec 32) (force : Bool) : State → Host.Outcome State Fault Refusal :=
  act (setCtrl n.val lead.toNat force id)

/-! ## The swap (02 R41, R42) -/

/-- What a committed register value changes beside the register. -/
def regCommitted (off : Nat) (old : Word) (s : State) : State :=
  if Reg.MEM_BUCKET_CFG.holds off then bucketCommitted ((off - Reg.MEM_BUCKET_CFG.base) / 8) old s
  else if Reg.PAT_CFG.holds off then
    let b := s.fld Reg.fPAT_CFG_BANK
    if bits old 0 0 == b then s
    else
      let s := clearRegs Reg.PAT_HITS.base (Reg.PAT_HITS.base + 8 * 4095) (s.setFld Reg.fPAT_STATUS_LIVE_BANK b)
      match s.bank (1 - b) with
      | some img => (s.setFlag Reg.fPAT_LOAD_STATUS_VALID true).setFld Reg.fPAT_LOAD_STATUS_PATTERNS (img.count - 1)
      | none => (s.setFlag Reg.fPAT_LOAD_STATUS_VALID false).setFld Reg.fPAT_LOAD_STATUS_PATTERNS 0
  else if Reg.SIG_ROUTE.holds off then
    let n := (off - Reg.SIG_ROUTE.base) / 8
    if n ∈ s.sig.pend then routeSource n s else s
  else if Reg.SML_PORT_BIND.holds off then settleRemap (rejudge s)
  else if Reg.PTL_JRING_CFG.holds off then settleHwm s
  else if Reg.MTL_FM_CFG.holds off then
    let s := if bits old Reg.fMTL_FM_CFG_MARGIN_PCT.hi Reg.fMTL_FM_CFG_MARGIN_PCT.lo == s.fld Reg.fMTL_FM_CFG_MARGIN_PCT then s
      else s.send (.partnerMargin (s.fld Reg.fMTL_FM_CFG_MARGIN_PCT))
    settleRo s
  else if Reg.MTL_REBUILD_CFG.holds off then settleRo (settleRebuild s)
  else if Reg.HUP_CFG.holds off || Reg.HUP_STORE_CFG.holds off || Reg.HUP_SENSE_CFG.holds off then rejudge s
  else s

/-- A unit comes back into service. -/
def unitBack (u : Nat) (s : State) : State :=
  let s := setOut u false s
  let s := { s with env := { s.env with fences := s.env.fences.filter (·.unit != u) },
                    lens := { s.lens with sparesUsed := s.lens.sparesUsed.filter (·.2 != u) } }
  let s := s.setFld Reg.fLNS_LAST_FENCE_FENCED_NOW (fencedNow s)
  let s := if isCore u then s else domainBack u s
  if u == iMIR then
    let s := s.sendAll ((s.wr.ring.filter fun e => !e.mirrored && ownRecord s e).map fun e => Output.mirrorRec e.rec_)
    settleAck (s.send (.mirState false))
  else if 152 ≤ u && u < 168 then s.setFld Reg.fMEM_CH_STATUS_STATE 2 (u - 152)
  else if 168 ≤ u && u < 232 then setSlice (u - 168) 0 s
  else if 232 ≤ u && u < 236 then
    let b := u - 232
    let s := { s with wr := { s.wr with sieve := s.wr.sieve.filter fun (e : SieveEntry) => Config.sieveBank e.part e.bucket % 4 != b } }
    s.setFld Reg.fMCC_SIEVE_STATUS_FAULT_BANKS (s.fld Reg.fMCC_SIEVE_STATUS_FAULT_BANKS &&& (15 - 2 ^ b))
  else s

/-- A staged item becomes live; a Lens and a substitution by their own epochs. A Lens committed without a re-lens is recorded for the next start (DESIGN CHOICE, log 57). -/
def swapItem (s : State) : StagedItem → State
  | .key slot img => commitKey slot img s
  | .restore u => unitBack u s
  | .lens img => { s with lens := { s.lens with recordNext := some (applyLens img s.lens.live) } }
  | .subst _ _ => s
  | .owner _ _ => s

/-- Every island of the set swaps its shadow in; the live generation rises by 1. -/
def swapSet (n : Nat) (s : State) : State :=
  let x := s.set n
  let s := x.writes.foldl (fun (s : State) (p : Nat × Word) => regCommitted p.1 (s.word p.1) (swapReg s p)) s
  let s := x.items.foldl (fun (s : State) (i : StagedItem) => match i with
    | .lens _ => if x.kind == .plain then swapItem s i else s
    | i => swapItem s i) s
  let s := if x.owners.isEmpty then s else ownSwap x.owners { s with peer := { s.peer with commit := none } }
  bumpGen s

/-! ## The phases of a re-lens (02 R45 to R49; 20 R481) -/

/-- Store the re-lens. -/
def putRelens (r : Option Relens) (s : State) : State := { s with lens := { s.lens with relens := r } }

/-- Prepare the next epoch of a re-lens, with the default lead. -/
def relensEpoch (r : Relens) (kind : CommitKind) (s : State) : State :=
  sendPrepare r.set defaultLead kind (putRelens (some { r with epoch := true }) s)

/-- The re-lens is over: its set is freed, its jobs end, what waited for it starts. -/
def endRelens (r : Relens) (code detail : Nat) (res : List Word) (s : State) : State :=
  let s := s.putSet r.set ((s.set r.set).freed code detail)
  let s := r.jobs.foldl (fun s j => endJob j code detail res s) (putRelens none s)
  settleSubs s

/-- What serves an island that a re-lens changes is moved at the drain epoch: ports of a changed HQ go down, a changed group's traffic moves to the other, PTs hand on their work. -/
def drainIsland (i : Nat) (s : State) : State :=
  if i < 66 then leavePt i s
  else if 108 ≤ i && i < 152 then fenceEffect i s
  else if i = 245 || i = 246 then fenceEffect i s
  else if i = 247 then settleAck (s.send (.mirState true))
  else s

/-- A spare takes on the role of a unit at the Lens epoch's T; with the last one gone, Fog Signal (01 R19). -/
def claimSpare (s : State) (p : Nat × Nat) : State :=
  let s := { s with lens := { s.lens with sparesUsed := s.lens.sparesUsed ++ [p] } }
  checkSpares p.2 s

/-- The Lens epoch's T: the new plan is live, the changed islands are fenced for their load, spares are claimed. A core needs no load. -/
def lensEpoch (r : Relens) (s : State) : State :=
  let img := (s.set r.set).lens
  let live := match img with
    | some i => applyLens i s.lens.live
    | none => s.lens.live
  let waiting := r.changed.filter fun u => !isCore u
  let s := { s with lens := { s.lens with live := live, fenced := if r.subs.isEmpty then waiting.foldl (fun l i => insertNat i l) s.lens.fenced else s.lens.fenced } }
  let r := { r with phase := .loading, waiting := waiting, epoch := false }
  let s := r.subs.foldl claimSpare { s with lens := { s.lens with relens := some { r with subs := [] } } }
  let s := putRelens (some r) s
  if waiting.isEmpty then relensEpoch { r with phase := .returning } .giveBack s else s

/-- The return epoch's T: the islands take their work back under the new plan, or under the previous one when an island failed its load; Keeper A writes the set record (02 R48, R49). -/
def returnEpoch (r : Relens) (s : State) : State :=
  let back := if r.subs.isEmpty then r.changed.filter fun i => !(s.env.fences.any (·.unit == i)) else []
  let live := if r.failed.isEmpty then s.lens.live else r.previous
  let s := { s with lens := { s.lens with live := live, fenced := s.lens.fenced.filter fun i => !back.contains i } }
  let s := if back.contains iMIR then
      let s := s.sendAll ((s.wr.ring.filter fun e => !e.mirrored && ownRecord s e).map fun e => Output.mirrorRec e.rec_)
      s.send (.mirState false)
    else s
  let s := if r.failed.isEmpty && r.subs.isEmpty then { s with lens := { s.lens with recordNext := some live } } else s
  let s := settleAck s
  match r.failed with
  | [] => endRelens r cOK 0 [BitVec.ofNat 64 s.lens.liveGen] s
  | i :: _ => endRelens r cHW_FAULT i [] s

/-- RELENS_DRAIN_COMPLETE: the last work has left the draining units, and the Lens epoch is committed; the check is repeated, for the live generation has moved (02 R42). -/
def execRelensDrainComplete : State → Host.Outcome State Fault Refusal :=
  act fun s => match s.lens.relens with
  | some r =>
    if r.phase == .draining && !r.epoch then
      match checkSet r.set s with
      | none => relensEpoch r .lens s
      | some (c, d) => endRelens r c d [] s
    else s
  | none => s

/-- ISLAND_LOAD_COMPLETE (02 R48): a changed island has loaded and passed its self-test, or failed: it loads the previous blob, and failing again is fenced. A spare that fails is fenced, and the next takes its place (20 Table 20.5). -/
def execIslandLoadComplete (island : Fin 272) (ok : Bool) : State → Host.Outcome State Fault Refusal :=
  act fun s => match s.lens.relens with
  | some r =>
    let i := island.val
    if r.phase != .loading || !r.waiting.contains i then s
    else if ok || r.failed.contains i || !r.subs.isEmpty then
      let left := r.waiting.filter (· != i)
      let s := if ok then { s with lens := { s.lens with running := insertNat i s.lens.running } } else s
      let r' := { r with waiting := left, failed := if ok || r.subs.isEmpty then r.failed else r.failed ++ [i], subs := if ok then r.subs else r.subs.filter (·.1 != i) }
      let go := fun (s : State) => if left.isEmpty then relensEpoch { r' with phase := .returning } .giveBack s else putRelens (some r') s
      if ok then go s
      else go (fenceUnit i 4 true { s with lens := { s.lens with fenced := s.lens.fenced.filter (· != i) } })
    else putRelens (some { r with failed := r.failed ++ [i] }) s
  | none => s

/-- A live Lens set names an image. -/
def inLens (l : LiveLens) (i : LensImage) : Bool := if i.kind == 0 then l.baseId == i.lensId else l.sectorIds.contains (i.sector, i.lensId)

/-- LENS_SET_RECORD_DURABLE (02 R49): the previous record is kept until confirmation; outside an update the new one is on trial (19 R467). -/
def execLensSetRecordDurable : State → Host.Outcome State Fault Refusal :=
  act fun s => match s.lens.recordNext with
  | some l =>
    let s := { s with boot := { s.boot with lensDue := s.boot.lensDue.filter fun i => !inLens l i } }
    if s.boot.reload.isSome then
      { s with lens := { s.lens with recordNext := none, recordLens := l }, boot := { s.boot with lensPrev := s.boot.lensPrev.orElse fun _ => some s.lens.recordLens } }
    else
      let ptr := { s.boot.ptr with lensTrial := true, lensAttempts := 0, trialNs := if s.boot.ptr.trial then s.boot.ptr.trialNs else 0 }
      { s with lens := { s.lens with recordNext := none, recordLens := l },
               boot := { s.boot with lensPrev := s.boot.lensPrev.orElse fun _ => some s.lens.recordLens, ptr := ptr } }
  | none => s

/-! ## Epochs (02 R38 to R42) -/

/-- A commit misses its epoch: the shadows go, nothing changes, DETAIL names the island (02, "Epoch missed"). A return epoch is prepared again. -/
def missEpoch (n island : Nat) (s : State) : State :=
  let x := s.set n
  let mine := s.lens.relens.filter fun r => r.set == n && x.kind != .plain
  match mine with
  | some r => if x.kind == .giveBack then relensEpoch r .giveBack s else endRelens r cEPOCH_MISSED island [] s
  | none =>
    let s := s.putSet n (x.freed cEPOCH_MISSED island)
    let s := match x.job with
      | some j => endJob j cEPOCH_MISSED island [] s
      | none => s
    let s := match x.window with
      | some w => finishWindow w cEPOCH_MISSED island s
      | none => s
    let s := match s.peer.commit with
      | some c => if c.issuer && c.set == n then ({ s with peer := { s.peer with commit := none } }).send (.ownAbort c.pairT) else s
      | none => s
    settleSubs s

/-- EPOCH_ACK_DEADLINE: at T − 2 µs a PREPARING set is COMMITTING when every island, and the partner of a paired commit, has acknowledged; else it misses its epoch. `late` are islands whose stamp is not in time. -/
def execEpochAckDeadline (n : Fin 8) (late : List Nat) : State → Host.Outcome State Fault Refusal :=
  act fun s =>
    let n := n.val
    let x := s.set n
    if x.st != .preparing then s
    else
      let s := s.reach (x.switchT - 2000)
      let loading := match s.lens.relens with
        | some r => if r.set == n then r.changed else []
        | none => []
      let dead := x.items.filterMap fun i => match i with
        | .subst _ u => some u
        | .restore u => some u
        | _ => none
      let deaf := x.claims.filter fun i => !acks late s i && (late.contains i || !(loading.contains i || dead.contains i))
      let partner := match s.peer.commit with
        | some c => !(c.issuer && c.set == n) || c.agreed
        | none => x.owners.isEmpty
      match deaf with
      | i :: _ => missEpoch n i s
      | [] => if partner then s.putSet n { x with st := .committing } else missEpoch n iHQ s

/-- EPOCH_SWITCH: the timebase reaches T (02 R41, R42; 11 R289). -/
def execEpochSwitch (w : SwitchOf) : State → Host.Outcome State Fault Refusal :=
  act fun s => match w with
  | .partner => match s.peer.commit with
    | some c => if c.issuer then s
        else
          let s := s.reach (((c.pairT : Int) - s.peer.pairOffset).toNat)
          let s := partnerSwitch s
          if c.agreed then bumpGen s else s
    | none => s
  | .set n =>
    let n := n.val
    let x := s.set n
    if x.st != .committing then s
    else
      let relens := s.lens.relens.filter fun r => r.set == n && x.kind != .plain
      match relens with
      | some r =>
        if !r.epoch then s
        else
          let s := s.reach x.switchT
          let r := { r with epoch := false }
          match x.kind with
          | .drain => putRelens (some { r with drainT := x.switchT }) (r.changed.foldl (fun s i => drainIsland i s) (bumpGen s))
          | .lens =>
            let s := swapSet n s
            lensEpoch r s
          | _ => returnEpoch r (bumpGen s)
      | none =>
        let s := s.reach x.switchT
        let s := swapSet n s
        let gen := s.lens.liveGen
        let s := s.putSet n (x.freed cOK 0)
        let s := match x.job with
          | some j =>
            let commit := ((s.job j).map (·.opcode)).getD 0 == 0x0104
            endJob j cOK 0 (if commit then [BitVec.ofNat 64 x.switchT, BitVec.ofNat 64 gen] else []) s
          | none => s
        let s := match x.window with
          | some w => finishWindow w cOK 0 s
          | none => s
        settleSubs s

/-- ISLAND_TIME_FAULT (01 R16): the island withholds every acknowledgement until it has realigned. -/
def execIslandTimeFault (island : Fin 272) : State → Host.Outcome State Fault Refusal :=
  act fun s =>
    let i := island.val
    if s.lens.timeFault.contains i then s
    else fire 48 (({ s with lens := { s.lens with timeFault := insertNat i s.lens.timeFault } }).bump Reg.fTMB_STATUS_TIME_FAULTS) 0 i

/-- TIMEBASE_ALIGNMENT_PULSE (01 R16): the island's copy is realigned. An island whose relock awaits its turn waits (20 R476). -/
def execTimebaseAlignmentPulse (island : Fin 272) : State → Host.Outcome State Fault Refusal :=
  act fun s => { s with lens := { s.lens with timeFault := s.lens.timeFault.filter (· != island.val) } }

/-! ## SECTOR_RELENS (02 R44 to R46, Table 2.8) -/

/-- A host identity has every association of this head on the ports of a quad. -/
def onlyPath (s : State) (q : Nat) : Bool :=
  s.host.directory.any fun h =>
    let mine := s.host.assocs.filter (·.host == h.index)
    !mine.isEmpty && mine.all fun a => a.port / 4 == q

/-- Why a Sector cannot be re-lensed now. -/
def relensFault (s : State) (sector : Nat) (changed : List Nat) (force : Bool) : Option Nat :=
  let hit := fun (lo n : Nat) => changed.any fun i => lo ≤ i && i < lo + n
  if s.lens.relens.isSome then some cSECTOR_BUSY
  else if sector < 8 then (if !force && changed.any (fun i => 108 ≤ i && i < 116 && onlyPath s (i - 108)) then some cSECTOR_BUSY else none)
  else if sector < 12 then (if hit 116 36 && s.peer.st != .paired then some cPEER_ABSENT else none)
  else if sector == 12 then (if changed.any fun i => s.lens.sparesUsed.any (·.1 == i) then some cSECTOR_BUSY else none)
  else if sector == 13 then
    (if hit 245 1 && hit 246 1 then some cLENS_INCOMPATIBLE else if s.peer.st == .lightship then some cPEER_ABSENT else none)
  else if sector == 14 then (if hit 152 84 then some cSECTOR_BUSY else none)
  else some cNOT_PERMITTED

/-- SECTOR_RELENS: the drain epoch is committed; islands whose blob stays are carried. A parked island that the work moves to is woken first (21 R495). -/
def execSectorRelens (r : TaskReq) : State → Host.Outcome State Fault Refusal :=
  taskCmd { opcode := 0x0106, windows := [0] } [(1, mask 2 0 ||| mask 8 8)] r fun s =>
    let n := r.argBits 1 2 0
    match (s.set n).st == .checked, (s.set n).lens with
    | true, some img =>
      if img.kind != 1 then .fail cSTATE_CONFLICT
      else
        let changed := changedIslands img s.lens.live
        match relensFault s img.sector changed (r.argBits 1 8 8 == 1) with
        | some c => .fail c
        | none => startJob 0x0106 r {} s fun k s =>
          let x : Relens := { subs := [], sector := img.sector, phase := .draining, set := n, jobs := [k], changed := changed, waiting := [], failed := [],
                              epoch := true, previous := s.lens.live, drainT := s.now }
          let s := commitSet n defaultLead .drain (wakeParked s)
          if (s.set n).st == .preparing then putRelens (some x) s else endJob k (s.set n).code (s.set n).detail [] s
    | _, _ => .fail cSTATE_CONFLICT

end Sys2Proof.Machine
end

