-- ==== Sys2Proof/Machine/Repair.lean ====
section
/-!
DEFINITION. Faults at the pins, fences and their retest, Fog Signal, repair and diagnostic task commands (20_environment_faults_and_repair.md; 18 R530).
-/
namespace Sys2Proof.Machine

/-! ## Fog Signal (20 R483 to R485) -/

/-- A unit that raised cause 3 is back in service or replaced. -/
def fogUnitSettled (s : State) (u : Nat) : Bool := !s.unitOut u || s.lens.sparesUsed.any (·.2 == u)

/-- The condition of Table 20.3 for releasing a cause holds now. -/
def fogReleasable (s : State) (c : Nat) : Bool :=
  match c with
  | 0 => !(freeSpares s 0).isEmpty
  | 1 => !(freeSpares s 66).isEmpty
  | 2 => (List.range 8).all fun k => !(freeSpares s (coreUnit k 0)).isEmpty
  | 3 => s.env.fogUnits.all (fogUnitSettled s)
  | 4 => false
  | 5 => !s.flag Reg.fKPR_LOG_STATUS_FLASH_A_FAULT && !s.flag Reg.fKPR_LOG_STATUS_FLASH_B_FAULT && s.kpr.flashGood
  | 6 => s.hup.released
  | 7 => !s.flag Reg.fMTL_META_STATUS_META_RO && !(s.media.domains.any (·.readOnly))
  | 8 => !s.flag Reg.fMTL_REBUILD_STATUS_LOSS_OVERFLOW
  | 9 => s.fld Reg.fMTL_META_STATUS_CONFLICT_PAGES == 0
  | 10 => true
  | 11 => true
  | 12 => (List.range 256).all fun p => !s.flag Reg.fSML_PORT_STATUS_WWID_CONFLICT p
  | 13 => (List.range 2).all fun g => !s.flag Reg.fUBL_GROUP_STATUS_HEAD_CONFLICT g && !s.flag Reg.fUBL_GROUP_STATUS_MISWIRED g
  | 14 => s.peer.st == .paired
  | 15 => true
  | 16 => s.media.ioAdmitted
  | 17 => s.eng.erased.isEmpty && (List.range 16).all fun ch => s.fld Reg.fMEM_CH_STATUS_STATE ch == 2
  | 19 => true
  | 20 => !s.flag Reg.fGLB_BOARD_STATUS_REFCLK_LOST && !s.flag Reg.fGLB_BOARD_STATUS_PFAIL_STUCK
  | 21 => (s.kpr.sensors.find? (·.index == 361)).any (·.value < 9500)
  | _ => false

/-- Causes as a mask, and back. -/
def causeMask (l : List Nat) : Nat := (l.map (2 ^ ·)).sum

/-- FOG_CLEAR (20 R484): every masked cause whose condition holds is released; the pin with the last. -/
def execFogClear (r : TaskReq) : State → Host.Outcome State Fault Refusal :=
  taskCmd { opcode := 0x0A06, windows := [0, 2] } [(1, mask 21 0)] r fun s =>
    let left := (List.range 22).filter fun c => s.fog c && !((r.arg 1).testBit c && fogReleasable s c)
    let s := s.setFld Reg.fGLB_FOG_CAUSE_CAUSE (causeMask left)
    let s := s.setFlag Reg.fGLB_FOG_STATUS_DRIVEN (!left.isEmpty)
    let s := if left.contains 3 then s else { s with env := { s.env with fogUnits := [] } }
    .done s cOK 0 [BitVec.ofNat 64 (causeMask left)]

/-- FOG_N_READBACK (20 R485): the pad, read at a level that it has held for 10 µs. -/
def execFogNReadback (high : Bool) : State → Host.Outcome State Fault Refusal :=
  act fun s =>
    if s.flag Reg.fGLB_FOG_STATUS_DRIVEN then
      let s := s.setFlag Reg.fGLB_FOG_STATUS_EXT_LOW false
      if high then fire 688 (s.setFlag Reg.fGLB_FOG_STATUS_PIN_FAULT true) 0 0xFF else s
    else s.setFlag Reg.fGLB_FOG_STATUS_EXT_LOW (!high)

/-! ## Faults at the pins (20 R473 to R476, R488) -/

/-- AVS is held while segment 5 is isolated (21 R496, R503). -/
def setHeld (held : Bool) (s : State) : State :=
  if held == s.flag Reg.fPWR_AVS_STATUS_HELD then s
  else
    let s := s.setFlag Reg.fPWR_AVS_STATUS_HELD held
    if held then fire 746 s else s

/-- A segment's drivers are turned off, and it is tried again in 10 s. -/
def isolate (seg : Nat) (s : State) : State :=
  let s := s.setFld Reg.fGLB_BOARD_STATUS_ISOLATED (s.fld Reg.fGLB_BOARD_STATUS_ISOLATED ||| 2 ^ seg)
  let s := { s with env := { s.env with segRetry := setKey seg (s.now + 10 * sec) s.env.segRetry } }
  if seg == 5 then setHeld true s else s

/-- BUS_STUCK_TIMEOUT (20 R474): nine clocks and a STOP; the bus is then free, or the segment is isolated. -/
def execBusStuckTimeout (seg : Fin 6) (free : Bool) : State → Host.Outcome State Fault Refusal :=
  act fun s =>
    if (s.fld Reg.fGLB_BOARD_STATUS_ISOLATED).testBit seg then s
    else if free then s.setFld Reg.fGLB_BOARD_STATUS_RECOVERED (s.fld Reg.fGLB_BOARD_STATUS_RECOVERED ||| 2 ^ seg.val)
    else isolate seg s

/-- BUS_RETRY_TIMER (20 R474): every 10 s an isolated segment is tried again. -/
def execBusRetryTimer (seg : Fin 6) (free : Bool) : State → Host.Outcome State Fault Refusal :=
  act fun s =>
    if !(s.fld Reg.fGLB_BOARD_STATUS_ISOLATED).testBit seg then s
    else
      let s := s.reach (lookupD s.now seg.val s.env.segRetry)
      if free then
        let s := s.setFld Reg.fGLB_BOARD_STATUS_ISOLATED (s.fld Reg.fGLB_BOARD_STATUS_ISOLATED &&& (63 - 2 ^ seg.val))
        let s := { s with env := { s.env with segRetry := s.env.segRetry.filter (·.1 != seg.val) } }
        if seg.val == 5 then setHeld false s else s
      else isolate seg s

/-- PFAIL_STUCK_DETECT (20 R475): 2 s after a release of PORST_N with the pin low since, and the store voltage not fallen. -/
def execPfailStuckDetect : State → Host.Outcome State Fault Refusal :=
  act fun s => match s.env.stuckFrom with
  | some (t, v) =>
    let s := s.reach (t + 2 * sec)
    let s := { s with env := { s.env with stuckFrom := none } }
    if v ≤ s.hup.vMv then rejudge (raiseFog 20 (s.setFlag Reg.fGLB_BOARD_STATUS_PFAIL_STUCK true) (arg := 1)) else s
  | none => s

/-- PFAIL_N_HIGH (20 R475): high for 10 ms, the pin governs again. -/
def execPfailNHigh : State → Host.Outcome State Fault Refusal :=
  act fun s =>
    let s := { s with env := { s.env with pfailHigh := true, stuckFrom := none } }
    if s.flag Reg.fGLB_BOARD_STATUS_PFAIL_STUCK then rejudge (s.setFlag Reg.fGLB_BOARD_STATUS_PFAIL_STUCK false) else s

/-- REFCLK_LOSS (20 R476): islands hold their oscillators' last settings. -/
def execRefclkLoss : State → Host.Outcome State Fault Refusal :=
  act fun s => if s.env.refLostAt.isSome then s else { s with env := { s.env with refLostAt := some s.now } }

/-- REFCLK_LOST_ALARM (20 R476): 1 s after the loss. -/
def execRefclkLostAlarm : State → Host.Outcome State Fault Refusal :=
  act fun s => match s.env.refLostAt with
  | some t =>
    if s.flag Reg.fGLB_BOARD_STATUS_REFCLK_LOST then s
    else raiseFog 20 ((s.reach (t + sec)).setFlag Reg.fGLB_BOARD_STATUS_REFCLK_LOST true) (arg := 0)
  | none => s

/-- REFCLK_RETURN (20 R476): the islands relock one at a time, and each withholds epoch acknowledgements until it is aligned again. -/
def execRefclkReturn : State → Host.Outcome State Fault Refusal :=
  act fun s => match s.env.refLostAt with
  | some _ =>
    let s := { s with env := { s.env with refLostAt := none }, lens := { s.lens with timeFault := allIslands } }
    s.setFlag Reg.fGLB_BOARD_STATUS_REFCLK_LOST false
  | none => s

/-- UPSTREAM_LINK_DOWN (20 Table 20.1): the data link layer goes down; everything else goes on. -/
def execUpstreamLinkDown : State → Host.Outcome State Fault Refusal :=
  act fun s => { s with ctl := { s.ctl with upstreamUp := false } }

/-- MANAGEMENT_LINK_CHANGE (20 Table 20.1): fetch and telemetry use the port that is up (`mgmtPort`). A fenced port stays down. -/
def execManagementLinkChange (port : Fin 2) (up : Bool) : State → Host.Outcome State Fault Refusal :=
  act fun s => s.setFlag Reg.fKPR_MGMT_STATUS_UP (up && !s.isFenced (iMG + port.val)) port.val

/-- TRANSMITTER_EQUALISATION_RETUNE (20 R488): at most once an hour; undone when it would raise the error rate. -/
def execTransmitterEqualisationRetune (lane : Nat) (worse : Bool) : State → Host.Outcome State Fault Refusal :=
  act fun s =>
    let recent := s.env.retunes.any fun x => x.1 == lane && s.now < x.2 + hour
    if recent then s
    else
      let s := { s with env := { s.env with retunes := setKey lane s.now s.env.retunes } }
      if worse then s else { s with env := { s.env with tunes := setKey lane (lookupD 0 lane s.env.tunes + 1) s.env.tunes } }

/-! ## Fences (20 R478 to R480) -/

/-- A number names a unit: an island, or a service core; a cluster is fenced core by core. -/
def isUnit (u : Nat) : Bool := (u < 272 && !(100 ≤ u && u < 108)) || (512 ≤ u && u < 768 && (u - 512) % 32 < 17)

/-- ISLAND_HANG (20 R478): work is queued and nothing completes for HANG_US, 20 times as long for MT and MP islands. -/
def execIslandHang (u : Nat) : State → Host.Outcome State Fault Refusal :=
  act fun s => if isUnit u then fenceUnit u 1 true s else s

/-- UNIT_ERROR_FENCE (20 R478): an error of a unit, counted over the sliding operating hour; the third of its kind fences the unit. -/
def execUnitErrorFence (u : Nat) (f : UnitFailure) : State → Host.Outcome State Fault Refusal :=
  act fun s =>
    if !isUnit u then s
    else match f with
    | .crossing => unitError u 3 s
    | .sram c w =>
      let s := fire (624 + c.val) (logUe (16 + c.val) w false s) 0 w
      if c.val == 2 || c.val == 3 || c.val == 5 then unitError u 2 s else s

/-- The head exits because MIR00 stays out of service (20 Table 20.2); in Lightship mode it stays in service. -/
def exitForMirror (s : State) : State := if s.peer.st == .lightship then s else headExit 0 s

/-- FENCE_RETEST (20 R480): 10 s after the fence, or at once for MIR00. A unit of a kind with spares that passes is REPAIRED; another that passes returns by a stage set of its own; one that fails is fenced for good. A Keeper pair returns only at a cold start (17 R412). -/
def execFenceRetest (u : Nat) (pass : Bool) : State → Host.Outcome State Fault Refusal :=
  act fun s => match s.env.fences.find? (·.unit == u) with
  | some f =>
    if f.permanent || f.repaired || u == iKPA || u == iKPB then s
    else
      let s := if u == iMIR then s else s.reach (f.at_ + 10 * sec)
      if pass then
        settleSubs { s with env := { s.env with fences := s.env.fences.map fun (g : Fence) => if g.unit == u then { g with repaired := true } else g } }
      else
        let s := noteFence u 6 (fenceForGood u s)
        let s := if isCore u then s else domainFenced u true s
        if u == iMIR then exitForMirror s else s
  | none => s

/-- DDR_CHANNEL_FAIL (20 R482): the channel is down and the head exits; in Lightship mode the associations whose contexts lay in it end (04 R103). -/
def execDdrChannelFail (ch : Fin 16) (lost : List Nat) : State → Host.Outcome State Fault Refusal :=
  act fun s =>
    let s := if s.fld Reg.fMEM_CH_STATUS_STATE ch.val == 3 then s else s.setFld Reg.fMEM_CH_STATUS_STATE 0 ch.val
    let light := s.peer.st == .lightship
    let s := raiseFog 17 (headExit ch.val s) (arg := ch.val)
    if light then lost.foldl (fun s c => endAssoc c s) s else s

/-! ## Task commands (20 Table 20.5) -/

/-- The unit that ARG1 names: an island, or a core of a SC island; none where it is no legal name. -/
def argUnit (r : TaskReq) : Option Nat :=
  let i := r.argBits 1 8 0
  let k := r.argBits 1 20 16
  if 272 ≤ i then none
  else if 100 ≤ i && i < 108 then (if k ≤ 16 then some (coreUnit (i - 100) k) else none)
  else if k == 0 then some i else none

/-- The units of a unit's kind. -/
def kindUnits (u : Nat) : List Nat :=
  if isCore u then (List.range 17).map (coreUnit (coreOf u).1)
  else ([(0, 66), (66, 34), (108, 8), (116, 32), (148, 4), (152, 16), (168, 64), (232, 4), (236, 1), (237, 8), (245, 2),
         (247, 1), (248, 16), (270, 2)].find? fun k => k.1 ≤ u && u < k.1 + k.2).elim [u] fun k => List.range' k.1 k.2

/-- A unit does its kind's work: not out of service, and in the plan or standing in for one that is. -/
def works (s : State) (u : Nat) : Bool :=
  !s.unitOut u && (s.lens.sparesUsed.any (·.1 == u) ||
    (if isCore u then (activeCores (coreOf u).1 s).contains (coreOf u).2
     else if spareKind u < 2 then roleOf s.lens.live u == 1 else true))

/-- The kind has work. -/
def kindWork (s : State) (u : Nat) : Bool :=
  if u == iCRY then s.eng.ctxs.any (·.busy) else if u == iMIR then s.peer.st == .paired else true

/-- The fence would leave no unit of a kind with work. -/
def lastOfKind (s : State) (u : Nat) : Bool := kindWork s u && !((kindUnits u).any fun v => v != u && works s v)

/-- The spare that a unit has been given, by island; 0x1FF for none. -/
def spareGiven (s : State) (u : Nat) : Nat :=
  let subs := s.env.toSub.map (fun (t : Nat × Nat × Option Nat) => (t.2.1, t.1)) ++ (match s.lens.relens with
    | some r => r.subs
    | none => [])
  ((subs.find? (·.2 == u)).map fun p => unitIsland p.1).getD 0x1FF

/-- UNIT_FENCE without CLEAR: the fence takes effect at once and the job ends with the spare. -/
def fenceCmd (r : TaskReq) (s : State) : TaskOut :=
  match argUnit r with
  | none => .fail cBAD_FIELD 1
  | some u =>
    if 264 ≤ u && u ≤ 269 then .fail cNOT_PERMITTED
    else if s.unitOut u then .fail cSTATE_CONFLICT
    else if 152 ≤ u && u < 168 && s.peer.st != .paired then .fail cPEER_ABSENT
    else if lastOfKind s u then .fail cSECTOR_BUSY
    else startJob 0x0C01 r {} s fun n s =>
      let role := ((s.lens.sparesUsed.find? (·.1 == u)).map (·.2)).getD u
      let s := fenceUnit u 5 (r.argBits 1 24 24 == 0) s
      endJob n cOK 0 [BitVec.ofNat 64 (spareGiven s role)] s

/-- UNIT_FENCE with CLEAR: the unit leaves the fence list by two-copy commit. -/
def clearCmd (r : TaskReq) (s : State) : TaskOut :=
  match argUnit r with
  | none => .fail cBAD_FIELD 1
  | some u =>
    if r.window != 3 then .fail cNOT_PERMITTED
    else if !(lastFenceList s).contains u then .fail cSTATE_CONFLICT
    else startJob 0x0C01 r {} s fun n s =>
      let s := queueFlash (.fenceList ((lastFenceList s).filter (· != u))) s
      endJob n cOK 0 [0x1FF#64] s

/-- Reserved bits of UNIT_FENCE. -/
def fenceMasks : List (Nat × Nat) := [(1, mask 8 0 ||| mask 20 16 ||| mask 25 24)]

/-- UNIT_FENCE (20 R478, Table 20.5): opcode 0x0C01 with CLEAR 0; the same opcode with CLEAR is UNIT_FENCE_CLEAR. -/
def execUnitFence (r : TaskReq) : State → Host.Outcome State Fault Refusal :=
  taskCmd { opcode := 0x0C01, windows := [0, 3] } fenceMasks r fun s => if r.argBits 1 25 25 == 0 then fenceCmd r s else clearCmd r s

/-- UNIT_FENCE_CLEAR (20 R480, Table 20.5): opcode 0x0C01 with CLEAR 1. -/
def execUnitFenceClear (r : TaskReq) : State → Host.Outcome State Fault Refusal :=
  taskCmd { opcode := 0x0C01, windows := [0, 3] } fenceMasks r fun s => if r.argBits 1 25 25 == 1 then clearCmd r s else fenceCmd r s

/-- UNIT_SUBSTITUTE without RESTORE: a job that ends with the return epoch. -/
def substituteCmd (r : TaskReq) (s : State) : TaskOut :=
  match argUnit r with
  | none => .fail cBAD_FIELD 1
  | some u =>
    let given := s.lens.sparesUsed.any (·.2 == u) || spareGiven s u != 0x1FF
    if !s.unitOut u || given then .fail cSTATE_CONFLICT
    else match freeSpares s u with
    | [] => .fail cNO_RESOURCE
    | sp :: _ =>
      if s.lens.relens.isSome then .fail cSECTOR_BUSY
      else startJob 0x0C02 r {} s fun n s => settleSubs { s with env := { s.env with toSub := s.env.toSub ++ [(u, sp, some n)] } }

/-- UNIT_SUBSTITUTE with RESTORE: a REPAIRED unit returns at the T of a stage set of its own. -/
def restoreCmd (r : TaskReq) (s : State) : TaskOut :=
  match argUnit r with
  | none => .fail cBAD_FIELD 1
  | some u =>
    if !(s.env.fences.any fun f => f.unit == u && f.repaired) then .fail cSTATE_CONFLICT
    else if s.lens.relens.isSome then .fail cSECTOR_BUSY
    else match freeSet s with
    | none => .fail cNO_RESOURCE
    | some m =>
      if claimedElsewhere m s (itemClaims (.restore u)) then .fail cSTATE_CONFLICT
      else startJob 0x0C02 r {} s fun n s => commitReturn u (some n) s

/-- Reserved bits of UNIT_SUBSTITUTE. -/
def substituteMasks : List (Nat × Nat) := [(1, mask 8 0 ||| mask 20 16 ||| mask 24 24)]

/-- UNIT_SUBSTITUTE (20 R481, Table 20.5): opcode 0x0C02 with RESTORE 0. -/
def execUnitSubstitute (r : TaskReq) : State → Host.Outcome State Fault Refusal :=
  taskCmd { opcode := 0x0C02, windows := [0, 3] } substituteMasks r fun s => if r.argBits 1 24 24 == 0 then substituteCmd r s else restoreCmd r s

/-- UNIT_SUBSTITUTE_RESTORE (20 R480, Table 20.5): opcode 0x0C02 with RESTORE 1. -/
def execUnitSubstituteRestore (r : TaskReq) : State → Host.Outcome State Fault Refusal :=
  taskCmd { opcode := 0x0C02, windows := [0, 3] } substituteMasks r fun s => if r.argBits 1 24 24 == 1 then restoreCmd r s else substituteCmd r s

/-- An injected SRAM error: one bit is corrected in a SECDED class and detected in a parity class; two bits are uncorrectable. -/
def injectSram (c : Nat) (double : Bool) (w : InjectAt) (s : State) : State :=
  if (!double && c < 6) || refetched s c w.find then countBucket (16 + c) s
  else sramOutcome w.find (fire (624 + c) (logUe (16 + c) w.word false s) 0 w.word)

/-- DIAG_INJECT (20 Table 20.5): an injected error counts, and acts, as a real one. -/
def execDiagInject (r : TaskReq) (w : InjectAt) : State → Host.Outcome State Fault Refusal :=
  taskCmd { opcode := 0x0D01, windows := [3] } [(1, mask 3 0), (2, mask64)] r fun s =>
    let a := r.arg 2
    match r.arg 1 with
    | 0 | 1 =>
      if a % 64 != 0 then .fail cBAD_ALIGN 2
      else if installedGib s * gib ≤ a then .fail cBAD_FIELD 2
      else if r.arg 1 == 0 then .done (countBurst a (.device w.dimm w.dev) s)
      else .done (consume w.who (countBurst a .bad s))
    | 2 | 3 => if 8 ≤ a then .fail cBAD_FIELD 2 else .done (injectSram a (r.arg 1 == 3) w s)
    | 4 =>
      if 256 ≤ a then .fail cBAD_FIELD 2
      else if s.portUp a then .done (sendControl a .nak (s.bump Reg.fSML_PORT_ERR_CRC_ERRORS 1 a))
      else .done s
    | 5 =>
      if 272 ≤ a then .fail cBAD_FIELD 2
      else if 100 ≤ a && a < 108 then
        .done ((activeCores (a - 100) s).foldl (fun (s : State) k => fenceUnit (coreUnit (a - 100) k) 1 true s) s)
      else .done (fenceUnit a 1 true s)
    | _ => .fail cBAD_FIELD 1

/-- DIAG_TRACE (20 Table 20.5): a job that returns the island's trace by bulk transfer; what the trace holds is not stated. -/
def execDiagTrace (r : TaskReq) : State → Host.Outcome State Fault Refusal :=
  let len := bits r.bulkCtrl 31 0
  taskCmd { opcode := 0x0D02, windows := [3], bulk := .give none } [(1, mask 8 0), (2, mask64)] r fun s =>
    if 272 ≤ r.arg 1 then .fail cBAD_FIELD 1
    else if len < 1048576 || 16777216 < len then .fail cBAD_LENGTH 32
    else moved r (startJob 0x0D02 r { bulk := true, results := [BitVec.ofNat 64 len] } s
      fun _ s => s.send (.bulkTrace (r.arg 1) (r.arg 2) len))

/-- DIAG_PEEK (20 Table 20.5): an island's internal register; its value is a free value, and which offsets exist is not stated. -/
def execDiagPeek (r : TaskReq) : State → Host.Outcome State Fault Refusal :=
  taskCmd { opcode := 0x0D03, windows := [3] } [(1, mask 8 0), (2, mask64)] r fun s =>
    if 272 ≤ r.arg 1 then .fail cBAD_FIELD 1
    else if !Config.internalReg (r.arg 1) (r.arg 2) then .fail cBAD_FIELD 2
    else if s.isFenced (r.arg 1) then .fail cHW_FAULT
    else
      let p := s.draw
      .done p.2 cOK 0 [p.1]

/-- SIG_ROUTE_STAGE (18 R530): one route for a run of sources into a stage set. -/
def execSigRouteStage (r : TaskReq) : State → Host.Outcome State Fault Refusal :=
  taskCmd { opcode := 0x0B01, windows := [0] } [(1, mask 11 0 ||| mask 28 16), (2, mask64), (3, mask 2 0)] r fun s =>
    let first := r.argBits 1 11 0
    let count := r.argBits 1 28 16
    let route := r.arg 2
    let kind := r.argBits 2 17 16
    let target := r.argBits 2 10 0
    let n := r.argBits 3 2 0
    if count == 0 || 4096 < first + count then .fail cBAD_FIELD 1
    else if route != route &&& (mask 31 31 ||| mask 27 24 ||| mask 17 16 ||| mask 10 0) then .fail cBAD_FIELD 2
    else if (kind == 3 && 7 < target) || ((kind == 1 || kind == 2) && target != 0) then .fail cBAD_FIELD 2
    else if !canStage n s [iSIG] then .fail cSTATE_CONFLICT
    else .done ((List.range' first count).foldl (fun s k => stageReg n (Reg.SIG_ROUTE.base + 8 * k) (BitVec.ofNat 64 route) s) s)

end Sys2Proof.Machine
end

