-- ==== Sys2Proof/Machine/Vault.lean ====
section
/-!
DEFINITION. Resets of the chip and always-on domains, the power-fail sequence, the vault dump and shutdown
(00 Table 0.3; 12 R305 to R310; 22 R514, R516).
-/
namespace Sys2Proof.Machine

/-! ## Resets (00 R8, Table 0.3) -/

/-- A boot flash item that reached flash A before the cut is the newest valid copy at the next start (17 R415): what it holds, without its source. -/
def flashKept (i : FlashItem) (s : State) : State :=
  match i with
  | .mgmt m => { s with kpr := { s.kpr with mgmt := some m } }
  | i => flashDone i s

/-- The queued boot flash writes at a cut: the one already on flash A counts (17 R415; log 3). -/
def cutFlash (s : State) : State :=
  match s.kpr.flashQ with
  | [] => s
  | w :: _ => if w.doneA && !s.flag Reg.fKPR_LOG_STATUS_FLASH_A_FAULT then flashKept w.item s else s

/-- A module's record as a start finds it: the retention clock as the last durable checkpoint holds it, nothing of the session. -/
def moduleKept (c : CkptClock) (now : Nat) (m : Module) : Module :=
  let m := { m with sampledAt := now, triedAt := now, chargedTo := now, reachedAt := now, dieFaults := [], dieQueue := [], fencedHere := false }
  match c.ages.find? (·.1 == m.index) with
  | some a => { m with e := a.2.1, history := a.2.2 }
  | none => m

/-- Placement and flash management as a start finds them: modules, domain codes, what the checkpoint holds. -/
def mediaKept (now : Nat) (m : MediaState) : MediaState :=
  { MediaState.reset with
    modules := m.modules.map (moduleKept m.ckptClock now), domains := m.domains.map fun d => { PDomain.reset with code := d.code },
    pairs := m.pairs, lossesEver := m.lossesEver, hour := m.ckptClock.hour, hourAt := now, startAt := now, ckptBase := m.ckptBase, ckptClock := m.ckptClock,
    ckptWall := m.ckptWall, ckptFrom := now, ckptAt := now, traffic := m.traffic, partnerTraffic := m.partnerTraffic, unsafeShutdowns := m.unsafeShutdowns }

/-- A stream whose connections are gone (13 R328). -/
def streamKept (x : Stream) : Stream :=
  if x.st == .diffing || x.st == .resyncing then { x with st := .disconnected, prev := x.st, job := none } else { x with job := none }

/-- The chip domain is reset, and with `aon` the always-on domain around it: what modules, boot flash and fuses hold stays, and the always-on domain's own state without `aon`. -/
def chipReset (aon : Bool) (s : State) : State :=
  let s := cutFlash s
  let now := if aon then 0 else s.now
  { State.reset with
    pending := s.pending, outputs := s.outputs, free := s.free, now := now,
    regs := if aon then [] else s.regs.filter fun x => (regAt x.1).any (·.dom == .alwaysOn),
    lens := { LensState.reset with recordLens := s.lens.recordLens },
    host := { HostState.reset with directory := s.host.directory },
    media := mediaKept now s.media,
    md := { MetaState.reset with saved := s.md.saved, savedShadow := s.md.savedShadow, log := s.md.log.filter (·.durable), txn := s.md.txn, shadowTxn := s.md.shadowTxn },
    peer := { PeerState.reset with head := s.peer.head, owners := s.peer.owners, ownGen := s.peer.ownGen, leaseSeq := s.peer.leaseSeq, lset := s.peer.lset, lsetGen := s.peer.lsetGen },
    hup := { HupState.reset with vMv := if aon then 0 else s.hup.vMv, cMeas := if aon then none else s.hup.cMeas, testedAt := if aon then 0 else s.hup.testedAt,
                                 set1 := s.hup.set1, set2 := s.hup.set2, partnerSets := s.hup.partnerSets, dumpSeq := s.hup.dumpSeq, dumpDone := s.hup.dumpDone,
                                 image := s.hup.image, stream := s.hup.stream, settings := s.hup.settings },
    repl := { ReplState.reset with partners := s.repl.partners, streams := s.repl.streams.map streamKept, streamNext := s.repl.streamNext },
    kpr := { KeeperState.reset with hourRec := s.kpr.hourRec, records := s.kpr.records, mgmt := s.kpr.mgmt, pushed := s.kpr.pushed },
    boot := { BootState.reset with fuses := s.boot.fuses, ptr := { s.boot.ptr with trialNs := s.boot.trialSaved }, trialSaved := s.boot.trialSaved, slot0 := s.boot.slot0.kept, slot1 := s.boot.slot1.kept, bootCount := s.boot.bootCount,
                                   ledger := s.boot.ledger, aliases := s.boot.aliases, lensPrev := s.boot.lensPrev, lensDue := s.boot.lensDue, bothFormats := s.boot.bothFormats },
    env := { EnvState.reset with fenceList := s.env.fenceList, refLostAt := if aon then none else s.env.refLostAt, pfailHigh := s.env.pfailHigh,
                                 porstHigh := s.env.porstHigh, perstHigh := s.env.perstHigh, headSel := s.env.headSel, gpioIn := s.env.gpioIn, aonLost := s.env.aonLost } }

/-- The chip domain is held in reset. -/
def holdReset (s : State) : State := { s with boot := { s.boot with inReset := true } }

/-! ## Power domains (21 R503) -/

/-- Every switched power domain but PD_AON is off. -/
def domainsOff (s : State) : State := (List.range 47).foldl (fun s d => s.setFld Reg.fPWR_DOMAIN_STATUS_STATE 3 d) s

/-! ## The power-fail sequence (12 R308) -/

/-- A stage set not in COMMITTING is discarded with EPOCH_MISSED, and what waits for it ends so. -/
def discardSet (s : State) (n : Nat) : State :=
  let x := s.set n
  if x.st == .free || x.st == .committing then s
  else
    let s := s.putSet n (x.freed cEPOCH_MISSED 0)
    let own := fun (j : Job) => !j.ended && (x.job == some j.slot || match j.work with
      | .takeLens m _ => m == n
      | .check m => m == n
      | _ => false)
    let jobs := (s.ctl.jobs.filter own).map Job.slot
    let more := match s.lens.relens with
      | some r => if r.set == n then r.jobs else []
      | none => []
    let s := (jobs ++ more).foldl (fun s j => endJob j cEPOCH_MISSED 0 [] s) s
    let s := match s.lens.relens with
      | some r => if r.set == n then putRelens none s else s
      | none => s
    match x.window with
    | some w => finishWindow w cEPOCH_MISSED 0 s
    | none => s

/-- A module of this head's vault sets. -/
def vaultMember (s : State) (m : Nat) : Bool := (s.hup.set1 ++ s.hup.set2).any (·.module == m)

/-- Host SerDes, PTs, PAT, CRY and the media ports of modules outside the vault sets are powered down. -/
def powerDownUnits (s : State) : State :=
  let s := (List.range 32).foldl (fun s p => hostPortDown p s) s
  let s := ((List.range 256).filter fun p => s.flag Reg.fSML_PORT_STATUS_UP p && !(s.flag Reg.fSML_PORT_BIND_BOUND p && vaultMember s (s.fld Reg.fSML_PORT_BIND_MODULE p))).foldl
    (fun s p => firePort p (portDown p s)) s
  ((List.range 17) ++ [44, 45]).foldl (fun s d => setDomain d 3 s) s

/-- PFAIL_N is recognised, or a trip stands for it (12 R308, 21 R500): DUMPING, arrived writes appended, background work and stage sets dropped, units powered down, the Keeper's Log flushed. A dump that runs continues. -/
def powerFail (cause : Nat) (s : State) : State :=
  if !s.up then s
  else if s.hup.dumping then
    (if cause == 2 then { s with hup := { s.hup with dumpInfo := s.hup.dumpInfo.map fun d => { d with trip := true } } } else s)
  else
    let kb := s.background
    let info : DumpInfo := { cause := cause, stamp := s.now, mode := s.wr.ackMode, trip := cause == 2 }
    let s := setHup .dumping { s with hup := { s.hup with chg := false, test := false, dumping := true, dumpInfo := some info } }
    let s := if s.hup.armed then fire 528 { s with hup := { s.hup with armed := false } } else s
    let s := (s.host.cmds.filter (·.phase == .ready)).foldl (fun s x => appendCmd x [] false s) s
    let s := (List.range 8).foldl discardSet s
    let s := { s with sml := { s.sml with ports := s.sml.ports.map fun (x : MediaPort) => { x with queue := [] } } }
    let s := if kb then queueFlash (.opHour s.kpr.opNs (s.fld Reg.fKPR_POWER_CYCLES_COUNT) s.boot.ptr.trialNs) (flushLog 3 s) else s
    powerDownUnits s

/-- PFAIL_N_ASSERTED: PFAIL_N has been low for 2 µs (12 R295). A stuck pin is ignored until it has been high (20 R475). -/
def execPfailNAsserted : State → Host.Outcome State Fault Refusal :=
  act fun s =>
    let s := { s with env := { s.env with pfailHigh := false } }
    if s.flag Reg.fGLB_BOARD_STATUS_PFAIL_STUCK then s else powerFail 1 s

/-- STORE_SENSE_SAMPLE (12 R295): the 1 ms sample. While PFAIL_N is stuck, a fall of 10 % below V_FULL while HU_CHG_EN is high is the power failure (20 R475). -/
def execStoreSenseSample (v : Int) : State → Host.Outcome State Fault Refusal :=
  act fun s =>
    let chg := s.hup.chg
    let s := senseStore v s
    if s.flag Reg.fGLB_BOARD_STATUS_PFAIL_STUCK && chg && v * 10 ≤ (s.fld Reg.fHUP_STORE_CFG_V_FULL_MV : Int) * 9 then powerFail 1 s else s

/-! ## The dump (12 R306, R307) -/

/-- The items of a section that fit into `n` bytes, and the bytes left; nothing follows an item that does not fit. -/
def takeFit {α : Type} (size : α → Nat) : Nat → List α → List α × Nat
  | n, [] => ([], n)
  | n, x :: t => if n < size x then ([], 0) else
    let r := takeFit size (n - size x) t
    (x :: r.1, r.2)

/-- Block records changed since the last durable checkpoint. -/
def changedBlocks (s : State) : List Block := s.md.store.blocks.filter fun b => !(s.md.saved.blocks.contains b)

/-- The partner's unretired records that this head holds: the mirror ring, and after a takeover the journal's. -/
def partnerRecords (s : State) : List JRecord :=
  s.wr.mirror ++ (s.wr.ring.filter fun e => !ownRecord s e && !e.retired).map fun e => { e.rec_ with jseq := e.rec_.jseq % 2 ^ 64 }

/-- The payload bytes of a dump: sections 1, 2, 3, 5 and 4. -/
def dumpBytes (s : State) : Nat :=
  let log := (s.md.log.filter fun p => !p.durable).length
  (((s.wr.ring.filter fun e => ownRecord s e).map fun e => recordLen e.rec_).sum) + ((partnerRecords s).map recordLen).sum +
    2 * 16384 * log + 4 * 2 ^ 20 * s.lens.live.scratchWays + 16 * (changedBlocks s).length

/-- The image of which `room` payload bytes reached the modules; `whole` with its commit pages. -/
def dumpImage (room : Nat) (whole : Bool) (s : State) : VaultImage :=
  let info := s.hup.dumpInfo.getD { cause := 1, stamp := s.now, mode := s.wr.ackMode, trip := false }
  let r1 := takeFit recordLen room ((s.wr.ring.filter fun e => ownRecord s e).map RingEntry.rec_)
  let r2 := takeFit recordLen r1.2 (partnerRecords s)
  let r3 := takeFit (fun _ => 2 * 16384) r2.2 (s.md.log.filter fun p => !p.durable)
  let ways := 4 * 2 ^ 20 * s.lens.live.scratchWays
  let r4 := takeFit (fun _ => 16) (r3.2 - ways) (changedBlocks s)
  { seq := s.hup.dumpSeq, cause := info.cause, stamp := info.stamp, mode := info.mode, ring := r1.1, mirror := r2.1, log := r3.1,
    blocks := r4.1, partial_ := r4.1.length < (changedBlocks s).length, ways := s.lens.live.scratchWays, scratch := s.scratch.filter fun c => c.1 < r3.2, next := s.wr.jseqNext,
    retired := s.wr.jseqRetired, pages := (room + 16319) / 16320 + 1 + (if whole then 1 else 0), whole := whole }

/-- Pages of a dump that ended: whole, or the pages already programmed when it was cut (12 R310, R312; 22, "PORST_N asserted during a dump"). A dump that finds no erased dump areas writes nothing, and one cut before its page 0 leaves none. -/
def endDump (cut : Option Nat) (s : State) : State :=
  let all := s.hup.set1 ++ s.hup.set2
  if all.isEmpty || !(all.all (·.erased)) then s
  else match cut with
  | some 0 => s
  | _ =>
    let used := fun (l : List VaultMember) => l.map fun m => { m with erased := false }
    let image := match cut with
      | none => dumpImage (dumpBytes s) true s
      | some n => dumpImage (min (dumpBytes s) ((n - 1) * 16320)) false s
    { s with hup := { s.hup with image := some image, set1 := used s.hup.set1, set2 := used s.hup.set2,
                                 dumpDone := if cut.isNone then some s.hup.dumpSeq else s.hup.dumpDone } }

/-- The Bardar shuts down (12 R310, 21 R500): every switched domain off, the chip domain in reset. -/
def shutDown (s : State) : State :=
  let info := s.hup.dumpInfo
  let s := holdReset (domainsOff (chipReset false s))
  { s with hup := { s.hup with shutdown := true, dumpInfo := info } }

/-- VAULT_DUMP_COMMIT: the commit pages and DUMP_DONE are written, and the Bardar shuts down; `cut` is the number of pages programmed when the energy ran out first, or the second of R500. -/
def execVaultDumpCommit (cut : Option Nat) : State → Host.Outcome State Fault Refusal :=
  act fun s => if s.hup.dumping then shutDown (endDump cut s) else s

/-! ## The end of a shutdown (12 R310) -/

/-- The chip domain leaves reset: the cold boot can run. -/
def leaveReset (s : State) : State :=
  let s := { s with boot := { s.boot with inReset := false }, hup := { s.hup with shutdown := false, dumpInfo := none } }
  (List.range 47).foldl (fun s d => s.setFld Reg.fPWR_DOMAIN_STATUS_STATE 0 d) s

/-- SHUTDOWN_EXIT: PFAIL_N high for 10 ms after a power failure, or VDD_AON back; PORST_N has its own command. After a trip PFAIL_N starts nothing (21 R501), and PORST_N low holds the reset. -/
def execShutdownExit (e : ShutdownEnd) (s : State) : Host.Outcome State Fault Refusal :=
  .next (match e with
  | .pfailHigh =>
    let s := { s with env := { s.env with pfailHigh := true } }
    if s.hup.shutdown && s.env.porstHigh && !s.env.aonLost && !(s.hup.dumpInfo.any (·.trip)) then leaveReset s else s
  | .aonReturn =>
    if s.env.aonLost then
      let s := { s with env := { s.env with aonLost := false } }
      if s.env.porstHigh then leaveReset s else s
    else s)

/-! ## Pins and supplies (22 R509, R514, R516) -/

/-- PORST_N_ASSERT: a cold reset of the whole Bardar; a dump that runs stops at once, the `pages` programmed so far stay. -/
def execPorstNAssert (pages : Nat) (s : State) : Host.Outcome State Fault Refusal :=
  .next (let s := if s.up && s.hup.dumping then endDump (some pages) s else s
    let s := holdReset (chipReset true s)
    { s with env := { s.env with porstHigh := false } })

/-- PORST_N_RELEASE: HEAD_SEL is sampled, the chip domain leaves reset, and a PFAIL_N that is low now is watched (20 R475). `v` is the store voltage sensed then. -/
def execPorstNRelease (headSel pfailHigh : Bool) (v : Int) (s : State) : Host.Outcome State Fault Refusal :=
  .next (if s.env.porstHigh then s
    else
      let s := { s with env := { s.env with porstHigh := true, headSel := headSel, pfailHigh := pfailHigh,
                                            stuckFrom := if pfailHigh then none else some (s.now, v) },
                        peer := { s.peer with head := if headSel then 1 else 0 }, hup := { s.hup with vMv := v } }
      if s.env.aonLost then s else leaveReset s)

/-- SUPPLY_BROWN_OUT (22 Table 22.6): without VDD_CORE or VDD_SRAM the chip domain is held in reset at once, with no dump, until PORST_N; another supply counts as PFAIL_N. Of a dump that runs, the `pages` programmed so far stay. -/
def execSupplyBrownOut (x : Supply) (pages : Nat) : State → Host.Outcome State Fault Refusal :=
  act fun s =>
    if x == .core || x == .sram then holdReset (chipReset false (if s.hup.dumping then endDump (some pages) s else s))
    else powerFail 1 s

/-- VDD_AON_LOSS (22 Table 22.6): the always-on domain resets, and the chip domain inside it. Of a dump that runs, the `pages` programmed so far stay. -/
def execVddAonLoss (pages : Nat) (s : State) : Host.Outcome State Fault Refusal :=
  .next (let s := if s.up && s.hup.dumping then endDump (some pages) s else s
    let s := holdReset (chipReset true s)
    { s with env := { s.env with aonLost := true } })

end Sys2Proof.Machine
end

