-- ==== Sys2Proof/Machine/Restart.lean ====
section
/-!
DEFINITION. The metadata restart of a head: vault, checkpoint, log, open segments, journal (08 R208 to R210; 07 R175, R176; 10 R251, R257; 11 R291, R529; 12 R312).
-/
namespace Sys2Proof.Machine

/-! ## Step 3: the log (10 R251) -/

/-- Insert a log page by LPSEQ; the copy that stands wins. -/
def insertPage (p : LogPage) : List LogPage → List LogPage
  | [] => [p]
  | x :: t => if p.lpseq < x.lpseq then p :: x :: t else if p.lpseq == x.lpseq then x :: t else x :: insertPage p t

/-- The pages from LPSEQ `n` on, up to the first that is missing. -/
def pageRun (n : Nat) : List LogPage → List LogPage
  | [] => []
  | x :: t => if x.lpseq < n then pageRun n t else if x.lpseq == n then x :: pageRun (n + 1) t else []

/-- The image of the last dump, as far as it reads (12 R312). -/
def vaultImage (f : RestartFacts) (s : State) : Option VaultImage := if f.vault then s.hup.image else none

/-- The log pages that replay takes: those on media and those in the vault, from P on. Pages from the vault are programmed anew. -/
def restartLog (f : RestartFacts) (s : State) : List LogPage :=
  let kept := (((vaultImage f s).map VaultImage.log).getD []).map fun p => { p with sent := true }
  let run := pageRun s.media.ckptBase (kept.foldl (fun l p => insertPage p l) s.md.log)
  match f.lostLog with
  | some n => run.filter (·.lpseq < n)
  | none => run

/-- Apply a transaction of this head's log: to its own store, and to the partner's where a survivor wrote it. -/
def replayTxn (s : State) (t : Txn) : State :=
  let shadow := t.deltas.foldl (fun st (d : Bool × Delta) => if d.1 then applyDelta (1 - s.peer.head) d.2 st else st) s.md.shadow
  { s with md := { s.md with store := applyOwn s.peer.head t s.md.store, shadow := if s.peer.survivor then shadow else s.md.shadow, txn := max s.md.txn (t.num + 1) } }

/-- The counters of a store rise above everything that it holds (10 R247, Table 10.7): grain IDs from the next block of 65,536. -/
def Store.raised (head : Nat) (st : Store) : Store :=
  let own := fun (top : Nat) (l : List Nat) => ((l.filter fun i => i / top % 2 == head).map (· % top)).foldl max 0
  let g := max st.grainNext (own (2 ^ 47) (st.dir.map DirEntry.grain) + 1)
  { st with gen := ((st.pages.filter fun p => p.gen % 2 == head).map fun p => p.gen / 2).foldl max st.gen,
            grainNext := (g + 65535) / 65536 * 65536, snapNext := max st.snapNext (own (2 ^ 31) (st.snaps.map Snapshot.id) + 1),
            segNext := max st.segNext (((st.segments.filter fun x => x.id / 2 ^ 31 % 2 == head).map fun x => x.id % 2 ^ 30 + 1).foldl max 0),
            dictNext := max st.dictNext ((st.dicts.map Dict.id).foldl max 0 + 1) }

/-- A segment as a restart finds it: no work has claimed it, its rows up to the first that is erased are used. -/
def segmentKept (rows : List (Nat × Nat)) (x : Segment) : Segment :=
  { x with claim := .none, lastMove := 0, gone := x.st == .retired, rows := max x.rows (lookupD 0 x.id rows) }

/-- A namespace as a power failure leaves it: reservations without PTPL go. -/
def spaceKept (n : Namespace) : Namespace :=
  if n.rsv.ptpl then n else { n with rsv := { n.rsv with typ := .none, holder := none, regs := [] } }

/-- A loaded store: no session state in its segments and reservations. -/
def Store.loaded (rows : List (Nat × Nat)) (st : Store) : Store :=
  { st with segments := st.segments.map (segmentKept rows), nss := st.nss.map spaceKept, walks := st.walks.map fun w => { w with job := none } }

/-! ## Step 1 and the counts (12 R312, 08 R200) -/

/-- Half of its limit on the read count of every block in a segment; what passes the refresh mark is queued. -/
def halfReads (s : State) : State :=
  let up := fun (b : Block) => match b.st, s.module b.module with
    | .inSegment, some m => { b with reads := min 0xFFFFFFFF (b.reads + readLimit m b.oneBit / 2) }
    | _, _ => b
  let s := { s with md := { s.md with store := { s.md.store with blocks := s.md.store.blocks.map up } } }
  let due := fun (a : MediaAddr) => match blockAt s a, s.module a.module with
    | some b, some m => readLimit m b.oneBit * s.fld Reg.fMTL_FM_CFG_READ_PCT ≤ b.reads * 100
    | _, _ => false
  ((mySegments s).filter fun x => x.st == .sealed && x.members.any due).foldl (fun s x => queueRefresh x.id 0 s) s

/-- Read and soft counts: those of the vault's section 4, or the rule of R200 where it is partial or absent. -/
def restoreCounts (v : Option VaultImage) (s : State) : State :=
  let s := match v with
    | some i => { s with md := { s.md with store := i.blocks.foldl (fun st b => applyDelta s.peer.head (.blockSet b) st) s.md.store } }
    | none => s
  if s.media.modules.isEmpty || v.any fun i => !i.partial_ then s else halfReads (s.setFlag Reg.fHUP_STATUS_COUNTERS_PARTIAL true)

/-- The scratch ways that the live partition still has; more ways in the vault are lost, and the scratch source fires (16 R404). -/
def restoreScratch (v : Option VaultImage) (s : State) : State :=
  match v with
  | none => s
  | some i =>
    let s := { s with scratch := i.scratch.filter fun c => c.1 < 4 * 2 ^ 20 * s.lens.live.scratchWays }
    if s.lens.live.scratchWays < i.ways then fire 674 s (detail := i.ways - s.lens.live.scratchWays) else s

/-- HUP_VAULT_STATUS: what the start found of a dump (12 R312). -/
def noteVault (f : RestartFacts) (v : Option VaultImage) (s : State) : State :=
  match v with
  | none => s.setWord Reg.HUP_VAULT_STATUS.base 0
  | some i => s.setWord Reg.HUP_VAULT_STATUS.base (setBits (setBits (setBits 0 63 32 i.pages) 3 2 (if i.whole then 1 else 2)) 1 0 f.copies)

/-! ## Step 5: the journal (07 R175, R176; 08 R210; 11 R291) -/

/-- This head's unretired records from every copy; its own copies win over the partner's. -/
def ownJournal (f : RestartFacts) (v : Option VaultImage) (retired : Nat) (s : State) : List JRecord :=
  let mine := fun (l : List JRecord) => l.filter fun r => r.head == s.peer.head && retired ≤ r.jseq
  mergeRecords [mine ((v.map VaultImage.ring).getD []), mine (if f.stream then s.hup.stream else []), mine (f.mirror.getD [])]

/-- The partner's unretired records in this head's vault. -/
def foreignJournal (v : Option VaultImage) : List JRecord := mergeRecords [(v.map VaultImage.mirror).getD []]

/-- No copy of the journal survives. -/
def journalLost (f : RestartFacts) (v : Option VaultImage) : Bool := f.mirror.isNone && v.isNone && !f.stream

/-- The journal is read back and replayed: a survivor replays the partner's records too, another head keeps them for it. -/
def restoreJournal (f : RestartFacts) (v : Option VaultImage) (s : State) : State :=
  let retired := max s.media.ckptClock.retired ((v.map VaultImage.retired).getD 0)
  let own := ownJournal f v retired s
  let other := foreignJournal v
  let next := (own.map fun r => r.jseq + 1).foldl max (max retired ((v.map VaultImage.next).getD 0))
  let all := if s.peer.survivor then own ++ other else own
  let ring := all.foldl (fun l r => insertByOwner (replayEntry s r) l) []
  let vaulted := (v.map fun i => i.ring ++ i.mirror).getD []
  let s := { s with
    wr := { s.wr with ring := ring, mirror := if s.peer.survivor then [] else other, jseqNext := next, jseqRetired := retired },
    md := { s.md with replay := ring.map fun e => e.rec_.jseq },
    hup := { s.hup with uncovered := (vaulted.filter fun r => (own ++ other).any fun x => x.head == r.head && x.jseq == r.jseq).map fun r => (r.head, r.jseq) } }
  if journalLost f v && !s.media.modules.isEmpty then
    raiseFog 10 { s with rd := { s.rd with rewrites := f.rewrites } } (arg := retired - 1)
  else s

/-! ## The restart -/

/-- Steps 2 to 4 on the partner's store, for a head that carries it (11 R529). -/
def restartShadow (f : RestartFacts) (s : State) : State :=
  if s.peer.survivor then
    let s := promoteShadow f.peer s
    s.putStore true (s.md.shadow.raised (1 - s.peer.head))
  else s

/-- Step 6: what waits for erase is queued, and without anything to replay host I/O is admitted. -/
def finishRestart (s : State) : State :=
  let s := (s.md.store.blocks.filter (·.st == .eraseQueued)).foldl (fun s b => issueAt .erase (blockAddr b) (.eraseBlock b.module b.die b.plane b.block) s) s
  if s.md.replay.isEmpty then
    let s := freeRecovered false s
    let s := if s.peer.survivor then freeRecovered true s else s
    { s with media := { s.media with ioAdmitted := true } }
  else s

/-- Steps 1 to 6 of Table 8.4. -/
def restart (f : RestartFacts) (s : State) : State :=
  let v := vaultImage f s
  let log := restartLog f s
  let unsafeStop := v.isSome || !f.hits.isEmpty
  let s := { s with
    media := { s.media with hourAt := s.now, startAt := s.now, ckptFrom := s.now, ckptAt := s.now, logBytes := (log.map LogPage.bytes).sum,
                            unsafeShutdowns := if unsafeStop then s.media.unsafeShutdowns + 1 else s.media.unsafeShutdowns },
    md := { s.md with store := s.md.saved, shadow := if s.peer.survivor then s.md.savedShadow else .empty, log := log,
                      lpseq := ((log.getLast?).map fun p => p.lpseq + 1).getD s.media.ckptBase } }
  let s := (log.flatMap LogPage.txns).foldl replayTxn s
  let s := { s with md := { s.md with store := s.md.store.loaded f.rows, shadow := s.md.shadow.loaded f.rows } }
  let s := noteVault f v (restoreScratch v (restoreCounts v s))
  let s := restartShadow f (openScan false f.hits s)
  let s := s.putStore false (s.md.store.raised s.peer.head)
  let s := f.erased.foldl (fun s a => blockFoundErased a s) (freePending false s)
  settleHwm (settleRo (settleRebuild (finishRestart (restoreJournal f v s))))

/-- The restart may run: the cold boot is done, the lease is known and does not stop it, and it has not run yet (08 R208, 11 R529). -/
def mayRestart (s : State) : Bool :=
  s.boot.booted && !s.boot.outOfService && s.peer.leaseKnown && !s.peer.waitsAdmission && s.peer.st != .fenced && !s.media.ioAdmitted && s.md.replay.isEmpty

/-- METADATA_RESTART. A head with modules and no checkpoint record stays out of service with FENCED and Fog cause 16 (10 R257). -/
def execMetadataRestart (f : RestartFacts) : State → Host.Outcome State Fault Refusal :=
  actPipe fun s =>
    if !mayRestart s then s
    else if !f.record && !s.media.modules.isEmpty then raiseFog 16 (setPeer .fenced s)
    else restart f s

end Sys2Proof.Machine
end

