-- ==== Sys2Proof/Machine/Power.lean ====
section
/-!
DEFINITION. Sensors, park and deep park, the chip power state, adaptive voltage, thermal control, the wall-clock
(17 R417, R420, Table 17.5; 15 R379; 21 R491 to R503).
-/
namespace Sys2Proof.Machine

/-! ## Thermal steps (15 R379; 21 R499) -/

/-- Thresholds of the PT steps 1 and 2, in 0.01 °C (21 Table 21.4). -/
def ptThreshold (k : Nat) : Int := if k = 1 then 10000 else 10500

/-- Thresholds of the pattern rate steps 1 to 3, in 0.01 °C (15 R379). -/
def patThreshold (k : Nat) : Int := if k = 1 then 8500 else if k = 2 then 9500 else 10000

/-- Since when the junction has stayed 2 °C below the threshold of each of `n` steps. -/
def coolTimes (thr : Nat → Int) (n : Nat) (v : Int) (now : Nat) (old : List (Nat × Nat)) : List (Nat × Nat) :=
  ((List.range' 1 n).filter fun k => v ≤ thr k - 200).map fun k => (k, lookupD now k old)

/-- The highest of `n` steps whose threshold the junction is above. -/
def stepAbove (thr : Nat → Int) (n : Nat) (v : Int) : Nat := ((List.range' 1 n).filter fun k => thr k < v).length

/-- The pattern rate follows the junction: up at once, down one step after 1 s at 2 °C below its threshold. -/
def settleRate (v : Int) (s : State) : State :=
  let times := coolTimes patThreshold 3 v s.now s.eng.coolSince
  let s := { s with eng := { s.eng with coolSince := times } }
  let cur := s.fld Reg.fPAT_STATUS_RATE_STEP
  let due : Bool := match times.find? (·.1 == cur) with
    | some t => t.2 + sec ≤ s.now
    | none => false
  let next := if cur < stepAbove patThreshold 3 v then stepAbove patThreshold 3 v else if due == true then cur - 1 else cur
  if next == cur then s else fire 604 (s.setFld Reg.fPAT_STATUS_RATE_STEP next)

/-! ## Samples (17 R417, R420; 21 R498) -/

/-- Nominal voltage of supply `k` in 0.1 mV, the adaptive target for VDD_CORE (17 Table 17.3, 22 Table 22.4). -/
def nominalMv10 (k : Nat) (s : State) : Nat :=
  let t := s.fld Reg.fPWR_AVS_STATUS_TARGET_MV10
  match k with
  | 0 => if t = 0 then 7800 else t
  | 1 => 8000
  | 2 => 8000
  | 3 => 9000
  | 4 => 12000
  | 5 => 11000
  | 6 => 18000
  | _ => 33000

/-- The bin of a temperature in 0.01 °C (17 Table 17.4 TEMP). -/
def tempBin (v : Int) : Nat := min 23 (v / 500).toNat

/-- The bin of a deviation in 0.01 % (17 Table 17.4 SUPPLY). -/
def supplyBin (dev : Int) : Nat := min 15 ((dev + 400) / 50).toNat

/-- The hottest sample of the sensors in a range, of those that `p` takes. -/
def hottest (lo n : Nat) (p : Nat → Bool) (s : State) : Option Int :=
  let vs := (s.kpr.sensors.filter fun x => lo ≤ x.index && x.index < lo + n && p x.index).map Sensor.value
  match vs with
  | [] => none
  | v :: t => some (t.foldl max v)

/-- One count of each source of TEMP that has a sample. -/
def countTemps (s : State) : State :=
  let active := fun i => (s.module (i - 104)).any (·.st == .active)
  let srcs := [hottest 361 1 (fun _ => true) s, hottest 104 256 active s, hottest 72 32 (fun i => !sensorCut i s) s]
  srcs.zipIdx.foldl (fun (s : State) (x : Option Int × Nat) => match x.1 with
    | some v => logCount 0x040 (24 * x.2 + tempBin v) s
    | none => s) s

/-- Marks a period in which a sample interval had no sample; the junction's gaps give GAP_S. -/
def noteGap (i due before : Nat) (s : State) : State :=
  if before < due + sensorPeriod i then s
  else
    let p := s.kpr.period
    { s with kpr := { s.kpr with period := { p with missed := true, gapS := if i = 361 then p.gapS + (before - due) / sec else p.gapS } } }

/-- What a sample drives, `tick n` saying that it crosses a whole number of `n` ns: the junction its steps, register, histogram and extremes; a supply its histogram and extreme; a DIMM its extreme. -/
def sampled (i : Nat) (v : Int) (tick : Nat → Bool) (s : State) : State :=
  if i = 361 then
    let s := s.setFld Reg.fPWR_THERM_STATUS_JUNCTION (unsigned 16 v)
    let s := { s with env := { s.env with coolSince := coolTimes ptThreshold 2 v s.now s.env.coolSince } }
    let s := logExtreme 1 v 361 (fun a b => a < b) (logExtreme 0 v 361 (fun a b => b < a) (settleRate v s))
    if tick (10 * sec) then countTemps s else s
  else if 64 ≤ i && i < 72 then
    let nom : Int := nominalMv10 (i - 64) s
    let dev := (v - nom) * 10000 / nom
    let s := logExtreme (4 + (i - 64)) dev.natAbs i (fun a b => b < a) s
    if tick sec then logCount 0x160 (16 * (i - 64) + supplyBin dev) s else s
  else if 72 ≤ i && i < 104 then logExtreme 3 v i (fun a b => b < a) s
  else s

/-- SENSOR_SAMPLE: Keeper B reads a sensor a period after its last sample. Sensor 361 is the highest reading of sensors 0 to 63. Module temperatures and the store voltage have commands of their own. -/
def execSensorSample (i : Fin 410) (v : Int) : State → Host.Outcome State Fault Refusal :=
  act fun s =>
    let i := i.val
    if !s.background || (104 ≤ i && i ≤ 360) || sensorCut i s then s
    else
      let value := if i = 361 then hottest 0 64 (fun _ => true) s else some v
      match value with
      | none => s
      | some v =>
        let before := s.now
        let due := match s.kpr.sensors.find? (·.index == i) with
          | some x => x.at_ + sensorPeriod i
          | none => before
        let s := noteGap i due before (s.reach due)
        let s := { s with kpr := { s.kpr with sensors := putBy Sensor.index { index := i, value := v, at_ := s.now } s.kpr.sensors } }
        sampled i v (fun n => (due - sensorPeriod i) / n < s.now / n) s

/-- THERMAL_STEP (21 R499): up as soon as the junction is above a threshold, down one step after 1 s at 2 °C below it. -/
def execThermalStep : State → Host.Outcome State Fault Refusal :=
  act fun s =>
    let cur := s.fld Reg.fPWR_THERM_STATUS_PT_STEP
    let above := stepAbove ptThreshold 2 (signed 16 (s.fld Reg.fPWR_THERM_STATUS_JUNCTION))
    if cur < above then fire 744 (s.setFld Reg.fPWR_THERM_STATUS_PT_STEP above)
    else match s.env.coolSince.find? (·.1 == cur) with
    | some t => if cur = 0 then s else
        let s := s.reach (t.2 + sec)
        fire 744 (s.setFld Reg.fPWR_THERM_STATUS_PT_STEP (cur - 1))
    | none => s

/-- THERMAL_TRIP (21 R500): a sensor has read 115 °C for 100 µs: Fog cause 21, and the dump. -/
def execThermalTrip (sensor : Fin 64) : State → Host.Outcome State Fault Refusal :=
  act fun s =>
    let s := if s.flag Reg.fPWR_THERM_STATUS_TRIPPED then s
      else (s.setFlag Reg.fPWR_THERM_STATUS_TRIPPED true).setFld Reg.fPWR_THERM_STATUS_TRIP_SENSOR sensor
    powerFail 2 (fire 745 (raiseFog 21 s (arg := sensor)))

/-- THERMAL_AUTO_START (21 R501): sensor 361 has read below 95 °C for 60 s after a trip. -/
def execThermalAutoStart (s : State) : Host.Outcome State Fault Refusal :=
  .next (if s.hup.shutdown && s.hup.dumpInfo.any (·.trip) && s.flag Reg.fPWR_THERM_CFG_AUTO_START && s.env.porstHigh && !s.env.aonLost
    then leaveReset s else s)

/-! ## Park and deep park (21 R493 to R495) -/

/-- Power plan mode in force; a domain without an entry is always on. -/
def planMode (d : Nat) (s : State) : Nat := ((planOf d s).map PowerEntry.mode).getD 1

/-- The islands of a domain park. -/
def parkDomain (d : Nat) (s : State) : State :=
  if s.domainState d == 0 && 2 ≤ planMode d s then
    let is := (domainIslands d).filter fun i => !s.isFenced i
    setDomain d 1 { s with env := { s.env with parked := is.foldl (fun l i => insertNat i l) s.env.parked } }
  else s

/-- PARK_TIMER: all islands of the domain have been idle for its park timer. -/
def execParkTimer (d : Fin 48) : State → Host.Outcome State Fault Refusal :=
  act fun s => if ((planOf d.val s).map PowerEntry.parkUs).getD 0 == 0 then s else parkDomain d.val s

/-- A PT domain belongs to the active set of a chip power state (21 Table 21.3). -/
def activeDomain (ps d : Nat) : Bool := ps = 0 || (ps = 1 && d % 2 == 0) || (ps = 2 && d % 8 == 0)

/-- A PT domain never deep-parks in a chip power state (21 Table 21.3). -/
def neverDeep (ps d : Nat) : Bool := d < 16 && (ps = 0 || (ps = 1 && d % 2 == 1))

/-- DEEP_PARK_TIMER: all islands of the domain have been parked for its deep-park timer; its supply goes off, and a Sieve bank forgets its entries (16 R405). -/
def execDeepParkTimer (d : Fin 48) : State → Host.Outcome State Fault Refusal :=
  act fun s =>
    let d := d.val
    if s.domainState d != 1 || planMode d s != 3 || ((planOf d s).map PowerEntry.deepMs).getD 0 == 0 || neverDeep s.host.chipPs d then s
    else
      let s := if 38 ≤ d && d < 42 then
          { s with wr := { s.wr with sieve := s.wr.sieve.filter fun (e : SieveEntry) => Config.sieveBank e.part e.bucket % 4 != d - 38 } }
        else s
      setDomain d 2 (s.bump Reg.fPWR_DOMAIN_STATUS_DEEP_PARKS 1 d)

/-- PARKED_ISLAND_WAKE. -/
def execParkedIslandWake (i : Fin 272) : State → Host.Outcome State Fault Refusal := act (wakeIsland i.val)

/-- SUPPLY_RAMP_COMPLETE: a waking domain has its supply, lock and configuration again. The next ramp begins, and what waited for a spare goes on. -/
def execSupplyRampComplete (d : Fin 48) : State → Host.Outcome State Fault Refusal :=
  act fun s =>
    if s.domainState d.val != 5 then s
    else settleSubs (pumpRamps (setDomain d.val 0 (unpark (domainIslands d.val) s)))

/-- The power state that associations demand: the lowest, or 2 without any (04 R99). -/
def demandedPs (s : State) : Nat := (s.host.assocs.map Assoc.psNow).foldl min 2

/-- Domains that a chip power state takes out of deep park. -/
def psNeeds (ps : Nat) : List Nat := (List.range 16).filter fun d => activeDomain ps d || neverDeep ps d

/-- Units outside the active set park; in PS1 and PS2 a media port with nothing queued enters low-power idle (09 R218). -/
def settleActive (ps : Nat) (s : State) : State :=
  let s := ((List.range 16).filter fun d => !activeDomain ps d).foldl (fun s d => parkDomain d s) s
  let rest := fun (x : MediaPort) => if s.portUp x.port && x.queue.isEmpty && x.pending.isEmpty then { x with idle := true } else x
  if ps = 0 then s else { s with sml := { s.sml with ports := s.sml.ports.map rest } }

/-- CHIP_POWER_STATE_CHANGE: the state that associations demand is taken at the T of an epoch of the Bardar's own, once the units it needs are awake, and not during a re-lens (21 R494, R495). -/
def execChipPowerStateChange : State → Host.Outcome State Fault Refusal :=
  act fun s =>
    let ps := demandedPs s
    if ps == s.host.chipPs || s.lens.relens.isSome then s
    else
      let s := (psNeeds ps).foldl (fun s d => if s.domainState d == 2 then wakeDomain d s else s) s
      if (psNeeds ps).any (fun d => s.domainState d == 2 || s.domainState d == 5) then s
      else settleActive ps (fire 128 (bumpGen { s with host := { s.host with chipPs := ps } }))

/-! ## Adaptive core voltage (21 R496, R497) -/

/-- The next target: towards the wanted voltage in 0.1 mV, in 2.5 mV steps within 0.70 to 0.80 V, by at most 10 mV. -/
def avsTarget (old wanted : Nat) : Nat :=
  let w := max 7000 (min 8000 ((wanted + 24) / 25 * 25))
  if old < w then min w (old + 100) else max w (old - 100)

/-- The next code of an island that is short of margin. -/
def slowerCode (slow : List (Nat × Nat)) (i : Nat) : Nat := if slow.any (·.1 == i) then 64 else 72

/-- AVS_TICK: every 100 µs the target is set and sent; `wanted` is the lowest voltage that serves every running island, `short` are the islands still short of margin. Held while segment 5 is isolated. Waiting ramps take their turn. -/
def execAvsTick (wanted : Nat) (short : List Nat) : State → Host.Outcome State Fault Refusal :=
  act fun s =>
    let s := s.reach ((s.now / (100 * us) + 1) * (100 * us))
    if s.flag Reg.fPWR_AVS_STATUS_HELD then s
    else
      let old := nominalMv10 0 s
      let t := avsTarget old wanted
      let s := pumpRamps ((s.setFld Reg.fPWR_AVS_STATUS_TARGET_MV10 t).send (.voutCommand t))
      if t != 8000 || short.isEmpty then { s with env := { s.env with shortSince := none } }
      else match s.env.shortSince with
      | none => { s with env := { s.env with shortSince := some s.now } }
      | some since =>
        if s.now < since + 10 * ms then s
        else
          let slow := short.foldl (fun (l : List (Nat × Nat)) i => setKey i (slowerCode s.env.slow i) l) s.env.slow
          let s := { s with env := { s.env with slow := slow, shortSince := some s.now } }
          if s.flag Reg.fPWR_AVS_STATUS_CEILING then s else fire 746 (s.setFlag Reg.fPWR_AVS_STATUS_CEILING true)

/-- SUPPLY_DROOP (21 R497). -/
def execSupplyDroop (i : Fin 272) : State → Host.Outcome State Fault Refusal :=
  act fun s => s.bump Reg.fPWR_ISLAND_FREQ_STRETCHES 1 i

/-! ## Wall-clock (21 R502) -/

/-- TMB_WALL_OFFSET_WRITE: discarded while PTP is enabled; else the wall-clock moves at once, and is known. -/
def execTmbWallOffsetWrite (v : BitVec 64) : State → Host.Outcome State Fault Refusal :=
  act fun s =>
    if s.flag Reg.fHFE_PTP_CFG_EN then captureErr cSTATE_CONFLICT Reg.TMB_WALL_OFFSET.base s
    else
      let known := s.flag Reg.fTMB_STATUS_WALL_KNOWN
      let s := (s.setWord Reg.TMB_WALL_OFFSET.base v).setFlag Reg.fTMB_STATUS_WALL_KNOWN true
      if known then s else fire 747 s

end Sys2Proof.Machine
end

