-- ==== Sys2Proof/Machine/Boot.lean ====
section
/-!
DEFINITION. Cold boot, Daymark identity, the Boot Ledger, trial and revert, in-service reload, JTAG unlock, SPDM
(19 R442 to R455, R461 to R470; 17 R419, R423; 16 R382; 20 R480, R481).
-/
namespace Sys2Proof

/-- The image of a class. -/
def Manifest.image (m : Manifest) (cls : Nat) : Option ImageEntry := m.images.find? (·.cls == cls)

/-- The Lens images of a package. -/
def Manifest.lenses (m : Manifest) : List LensImage := m.images.filterMap ImageEntry.lens

namespace Machine

/-! ## Slots and sets (19 R449, R456, R462) -/

/-- A boot slot. -/
def State.bootSlot (s : State) (k : Nat) : BootSlot := if k = 0 then s.boot.slot0 else s.boot.slot1

/-- Store a boot slot. -/
def State.putBootSlot (s : State) (k : Nat) (x : BootSlot) : State :=
  if k = 0 then { s with boot := { s.boot with slot0 := x } } else { s with boot := { s.boot with slot1 := x } }

/-- The boot ROM accepts the Keeper image of a slot; `ok` says that piece 0 and the image read back (19 R449). -/
def keeperSet (k : Nat) (ok : Bool) (s : State) : Option Manifest :=
  let x := s.bootSlot k
  match x.manifest with
  | some m =>
    let image := match m.image 0 with
      | some e => x.matched.contains e.firstPiece && s.rollback 0 ≤ e.secVersion
      | none => false
    if ok && image && m.stepping == 0x3142 && signatureOk s m.keyIndex m.sigOk m.ownerPresent m.ownerSigOk then some m else none
  | none => none

/-- The slot that starts, with its manifest: the pointer's, or else that of the previous confirmed set; the failed set keeps the attempt it has been charged. -/
def bootSet (f : BootFacts) (s : State) : Option (Nat × Manifest) :=
  let ok := fun (k : Nat) => if k = 0 then f.read0 else f.read1
  let set := fun (k : Nat) => (keeperSet k (ok k) s).map fun m => (k, m)
  (set s.boot.ptr.active).orElse fun _ => s.boot.ptr.old.bind set

/-- What the Keeper runs once it has loaded a set (19 R448, Table 19.4). -/
def runSet (k : Nat) (m : Manifest) (s : State) : RunningSet :=
  let sec := fun (c : Nat) => ((m.image c).map ImageEntry.secVersion).getD 0
  let sha := fun (c : Nat) => ((m.image c).map ImageEntry.sha).getD 0
  { slot := k, package := m.packageId, level := m.level, peerMin := m.peerMin, secVersion := [sec 0, sec 1, sec 2, s.lens.live.secVersion],
    sha := [sha 0, sha 1, sha 2] }

/-- The pointer is committed anew (19 Table 19.6). -/
def setPtr (p : SlotPointer) (s : State) : State := { s with boot := { s.boot with ptr := { p with gen := s.boot.ptr.gen + 1 } } }

/-! ## Identity (19 R444, R446, R447, R455) -/

/-- The owner key: that of the highest enrolled slot (19 R444). -/
def ownerBits (s : State) : Option (BitVec 768) :=
  if s.boot.fuses.enrolled.2 then s.boot.fuses.owner1 else if s.boot.fuses.enrolled.1 then s.boot.fuses.owner0 else none

/-- The alias key of the Keeper image that will run, and its record; a new one that finds no slot raises Fog cause 15. The UDS is locked. -/
def deriveAlias (m : Manifest) (s : State) : State :=
  let sha := ((m.image 0).map ImageEntry.sha).getD 0
  let a := Config.aliasId sha (((m.image 0).map ImageEntry.secVersion).getD 0) (ownerBits s)
  let s := { s with boot := { s.boot with alias_ := some a, udsLocked := true } }
  if s.boot.aliases.contains a then s
  else if 4096 ≤ s.boot.aliases.length then raiseFog 15 s
  else { s with boot := { s.boot with aliases := s.boot.aliases ++ [a] } }

/-! ## The Boot Ledger (19 R453, R454) -/

/-- Measurements 1 to 6. -/
def measurements (s : State) : List (BitVec 384) :=
  s.boot.running.sha ++ [Config.baseLensSha s.lens.live.baseId, Config.sectorSetSha s.lens.live.sectorIds,
    Config.settingsSha s.lens.recordLens s.repl.partners (s.repl.streams.map Stream.id) s.kpr.mgmt]

/-- The running set is on trial. -/
def onTrial (s : State) : Bool := s.boot.ptr.trial && s.boot.running.slot == s.boot.ptr.active

/-- FLAGS of a record. -/
def ledgerFlags (s : State) : Nat :=
  (if s.ownerKey then 1 else 0) + (if s.jtagOpen then 2 else 0) + (if onTrial s then 4 else 0) +
  (if s.boot.recovery then 8 else 0) + (if s.boot.ptr.lensTrial then 16 else 0)

/-- Neither flash takes a write. -/
def noFlash (s : State) : Bool := s.flag Reg.fKPR_LOG_STATUS_FLASH_A_FAULT && s.flag Reg.fKPR_LOG_STATUS_FLASH_B_FAULT

/-- Make a Boot Ledger record: BOOT_COUNT first, then the record, stored where there is room. -/
def makeRecord (kind : Nat) (s : State) : State :=
  let r : LedgerRecord :=
    { bootCount := s.boot.bootCount + 1, kind := kind, head := s.peer.head, slot := s.boot.running.slot,
      attempt := if onTrial s then s.boot.ptr.attempts else 0, ticks := s.opTicks, cycles := s.fld Reg.fKPR_POWER_CYCLES_COUNT,
      flags := ledgerFlags s, wall := s.wall.getD 0, aliasId := s.boot.alias_.getD 0, packageId := s.boot.running.package, measure := measurements s,
      secVersion := s.boot.running.secVersion, fuseCount := (List.range 4).map s.rollback,
      prev := (s.boot.ledger.getLast?.map Config.recordSha).getD 0 }
  let s := { s with boot := { s.boot with bootCount := s.boot.bootCount + 1, current := some r } }
  if 65536 ≤ s.boot.ledger.length || noFlash s then raiseFog 15 s
  else { s with boot := { s.boot with ledger := s.boot.ledger ++ [r] } }

/-! ## Trial, revert, confirmation (19 R462, R466 to R469) -/

/-- The previous set is restored as ACTIVE and CONFIRMED, with its Lens set record; the trial set's slot is OLD. Lenses that the trial set replaced are due again. -/
def revertSet (s : State) : State :=
  let p := s.boot.ptr
  let back := p.old.getD p.active
  let lenses := fun (k : Nat) => (((s.bootSlot k).manifest).map Manifest.lenses).getD []
  let due := (lenses back).filter fun i => (lenses p.active).any fun j => j.kind == i.kind && j.sector == i.sector
  let s := (s.putBootSlot p.active { s.bootSlot p.active with st := .old })
  let s := s.putBootSlot back { s.bootSlot back with st := .active }
  let s := setPtr { p with active := back, trial := false, attempts := 0, old := none, activePkg := p.oldPkg, oldPkg := 0, trialNs := 0, lensTrial := false, lensAttempts := 0 } s
  raiseFog 19 { s with
    lens := { s.lens with recordLens := s.boot.lensPrev.getD s.lens.recordLens, recordNext := none },
    boot := { s.boot with lensPrev := none, lensDue := due, attemptDue := false, bothFormats := false, trialSaved := 0 } } (code := cIMAGE_INCOMPLETE)

/-- Before a trial set starts its attempt is committed, or with three behind it the previous set is restored; settings are written in both formats from the first (19 R466, R469). -/
def trialAttempt (s : State) : State :=
  let p := s.boot.ptr
  if !p.trial then s
  else if p.attempts == 3 then revertSet s
  else setPtr { p with attempts := p.attempts + 1 } { s with boot := { s.boot with attemptDue := false, bothFormats := true } }

/-- A start with a Lens set record on trial: an attempt, or on the fourth the previous record (19 R467). -/
def lensAttempt (s : State) : State :=
  let p := s.boot.ptr
  if !p.lensTrial then s
  else if p.lensAttempts == 3 then
    setPtr { p with lensTrial := false, lensAttempts := 0 } { s with lens := { s.lens with recordLens := s.boot.lensPrev.getD s.lens.recordLens }, boot := { s.boot with lensPrev := none } }
  else setPtr { p with lensAttempts := p.lensAttempts + 1 } s

/-- The confirmed images' SEC_VERSIONs, class 3 from the confirmed Lens set. -/
def confirmedVersions (s : State) : List Nat :=
  let m := (s.bootSlot s.boot.ptr.active).manifest
  let sec := fun (c : Nat) => match m with
    | some m => ((m.image c).map ImageEntry.secVersion).getD 0
    | none => 0
  [sec 0, sec 1, sec 2, s.lens.recordLens.secVersion]

/-- The anti-rollback counters rise to the confirmed versions, never fall; a counter has 64 fuses (19 R443, R468). -/
def raiseCounters (s : State) : State :=
  let up := (List.range 4).map fun c => max (s.rollback c) (min 64 (((confirmedVersions s)[c]?).getD 0))
  { s with boot := { s.boot with fuses := { s.boot.fuses with rollback := up } } }

/-- Whatever is on trial is confirmed; the other slot becomes free for the next package (19 R468, R469). -/
def confirm (s : State) : State :=
  let p := s.boot.ptr
  let s := setPtr { p with trial := false, attempts := 0, lensTrial := false, lensAttempts := 0 } s
  raiseCounters { s with boot := { s.boot with lensPrev := none, bothFormats := false, attemptDue := false } }

/-- TRIAL_AUTO_CONFIRM: TRIAL_H reaches HEALTHY_H. A pointer that no activation has given a HEALTHY_H confirms nothing by itself. -/
def execTrialAutoConfirm : State → Host.Outcome State Fault Refusal :=
  act fun s =>
    let p := s.boot.ptr
    if !(p.trial || p.lensTrial) || p.healthyH == 0 || s.keeperA != some true then s
    else confirm (s.reach (s.now + (p.healthyH * hour - p.trialNs)))

/-! ## In-service reload (19 R465, R466) -/

/-- A reload begins. -/
def startReload (revert : Bool) (s : State) : State :=
  { s with boot := { s.boot with reload := some { revert := revert, step := 1, lens := s.boot.lensDue } } }

/-- TRIAL_START_ATTEMPT: before pair A starts on a trial set at a restart in service. A revert reloads the previous images. -/
def execTrialStartAttempt : State → Host.Outcome State Fault Refusal :=
  act fun s =>
    if !s.boot.attemptDue then s
    else
      let last := s.boot.ptr.attempts == 3
      let s := trialAttempt s
      if last then startReload true s else s

/-- The next Lens of a reload: a Sector Lens by a re-lens of its own; what cannot be re-lensed in service waits for a start. -/
def reloadLens (r : Reload) (img : LensImage) (rest : List LensImage) (s : State) : State :=
  let next := { s with boot := { s.boot with reload := some { r with lens := rest } } }
  let changed := changedIslands img s.lens.live
  if img.kind != 1 || (relensFault s img.sector changed false).isSome || (lensChecks img s).isSome then next
  else match freeSet s with
  | none => s
  | some n =>
    if claimedElsewhere n s (itemClaims (.lens img)) then s
    else
      let s := runCheck n (stageItem n (.lens img) (next.putSet n { StageSet.free with st := .staging }))
      if (s.set n).st != .checked then s.putSet n ((s.set n).freed (s.set n).code (s.set n).detail)
      else
        let x : Relens := { subs := [], sector := img.sector, phase := .draining, set := n, jobs := [], changed := changed, waiting := [], failed := [],
                            epoch := true, previous := s.lens.live, drainT := s.now }
        putRelens (some x) (commitSet n defaultLead .drain (wakeParked s))

/-- IN_SERVICE_RELOAD, not while a FUSE_PROGRAM or UPD_ACTIVATE job runs (03 R69): the event to the hosts and the restarts of pair B and pair A; then the record and the microcode, unit by unit; then each Lens. -/
def execInServiceReload : State → Host.Outcome State Fault Refusal :=
  act fun s => match s.boot.reload with
  | none => s
  | some r =>
    if r.step == 1 && s.ctl.jobs.any (fun j => !j.ended && (j.opcode == 0x0604 || j.opcode == 0x0608)) then s
    else if r.step == 1 then
      let s := postAll evFirmware { s with boot := { s.boot with reload := some { r with step := 2 } } }
      restartPair 1 { s with kpr := { s.kpr with toRestart := [0] } }
    else if s.pair 0 == 1 || s.pair 1 == 1 then s
    else if !s.kpr.toRestart.isEmpty then nextRestart s
    else if r.step == 2 then
      match (s.bootSlot s.boot.ptr.active).manifest with
      | none => { s with boot := { s.boot with reload := none } }
      | some m =>
        let s := deriveAlias m { s with boot := { s.boot with running := runSet s.boot.ptr.active m s } }
        makeRecord (if r.revert then 2 else 1) { s with boot := { s.boot with reload := some { r with step := 3 } } }
    else if s.lens.relens.isSome || s.lens.recordNext.isSome then s
    else match r.lens with
    | img :: rest => reloadLens r img rest s
    | [] => { s with boot := { s.boot with reload := none, running := { s.boot.running with
        secVersion := s.boot.running.secVersion.set 3 s.lens.live.secVersion } } }

/-! ## Cold boot (19 R449 to R451) -/

/-- Fog causes 4 and 18 are cleared at a cold start (20 Table 20.3). -/
def clearStartCauses (s : State) : State :=
  let left := (List.range 22).filter fun c => s.fog c && c != 4 && c != 18
  (s.setFld Reg.fGLB_FOG_CAUSE_CAUSE (causeMask left)).setFlag Reg.fGLB_FOG_STATUS_DRIVEN (!left.isEmpty)

/-- Both pairs run; the operating-hour record is restored, the power cycles rise, a log period begins, marked when the last was never flushed (17 R419, R423). -/
def startKeeper (s : State) : State :=
  let s := (s.setFld Reg.fKPR_STATE_A_STATE 0).setFld Reg.fKPR_STATE_B_STATE 0
  let hours := s.kpr.hourRec.getD (0, 0)
  let s := (s.setFld Reg.fKPR_POWER_CYCLES_COUNT (min (2 ^ 32 - 1) (hours.2 + 1))).setFld Reg.fKPR_LOG_STATUS_PERIOD_H s.kpr.periodNext
  let s := { s with kpr := { s.kpr with opNs := max s.kpr.opNs hours.1 } }
  let p := newPeriod s
  let p := match s.kpr.records.getLast? with
    | some r => if r.trigger == 3 then p else { p with startLost := true, start := r.stop }
    | none => if s.kpr.hourRec.isSome then { p with startLost := true, start := 0 } else p
  { s with kpr := { s.kpr with period := p } }

/-- Settings blocks take effect: the hold-up store and sense settings, the management ports (12 R299, 17 R427). -/
def restoreSettings (s : State) : State :=
  let s := match s.hup.settings with
    | some (a, b) => (s.setWord Reg.HUP_STORE_CFG.base a).setWord Reg.HUP_SENSE_CFG.base b
    | none => s
  match s.kpr.mgmt with
  | some m => (s.setFlag Reg.fKPR_MGMT_STATUS_ADDR_OK (m.port0.flags.testBit 0) 0).setFlag Reg.fKPR_MGMT_STATUS_ADDR_OK (m.port1.flags.testBit 0) 1
  | none => s

/-- Fence a unit of the fence list: for good, without a new entry (20 R480, R481). -/
def fenceListed (u : Nat) (s : State) : State :=
  let s := fenceUnit u 7 true s
  { s with env := { s.env with fences := s.env.fences.map fun (f : Fence) => if f.unit == u then { f with permanent := true } else f } }

/-- The Lens set of boot flash, with the active set's Lenses that its record does not name yet, base Lens first (02 R49, 19 R465, R467). -/
def startLens (s : State) : State :=
  let due := (s.boot.lensDue.filter (·.kind == 0)) ++ s.boot.lensDue.filter (·.kind != 0)
  let l := due.foldl (fun l i => applyLens i l) s.lens.recordLens
  if due.isEmpty then { s with lens := { s.lens with live := s.lens.recordLens } }
  else { s with lens := { s.lens with live := l, recordLens := l },
                boot := { s.boot with lensDue := [], lensPrev := s.boot.lensPrev.orElse fun _ => some s.lens.recordLens } }

/-- Fences of the fence list, then load and self-test of every clocked island, then domains that are off or outside the active set (19 Table 19.8 step 4; 21 R492, R494). -/
def startUnits (failed : List (Fin 272)) (s : State) : State :=
  let s := s.env.fenceList.foldl (fun s u => fenceListed u s) s
  let s := failed.foldl (fun (s : State) (i : Fin 272) => fenceUnit i.val 4 true s) s
  let run := allIslands.filter fun i => !s.isFenced i && lookupD (nominalCode i) i s.lens.live.freq != 0
  let s := { s with lens := { s.lens with running := run } }
  let s := (List.range 47).foldl (fun s d => if planMode d s == 0 then setDomain d 3 s else s) s
  settleActive s.host.chipPs s

/-- The DIMMs keep the limits of R382. -/
def populationOk (ds : List Dimm) : Bool :=
  (List.range 16).all (fun c => let n := (ds.filter (·.channel.val == c)).length; 1 ≤ n && n ≤ 2) &&
  ds.all (fun d => [32, 64, 96, 128].contains d.gib && 1 ≤ d.ranks && d.ranks ≤ 2) &&
  (ds.map fun d => (d.part, d.gib, d.ranks)).eraseDups.length == 1

/-- DRAM comes up; a wrong population or a channel that fails training leaves the head out of service (16 R382; 20 Table 20.1). -/
def startDram (f : BootFacts) (s : State) : State :=
  let out := fun (arg : Nat) (s : State) => raiseFog 17 { s with boot := { s.boot with outOfService := true } } (arg := arg) (code := cHW_FAULT)
  if !populationOk f.dimms then out 0 s
  else
    let d := (f.dimms.map fun d => (d.gib, d.ranks)).headD (0, 0)
    let dpc := if f.dimms.length ≤ 16 then 1 else 2
    let s := (s.setFld Reg.fMEM_CONFIG_DIMM_GIB d.1).setFld Reg.fMEM_CONFIG_RATE_MTS 8000
    let s := (s.setFld Reg.fMEM_CONFIG_RANKS d.2).setFld Reg.fMEM_CONFIG_DPC dpc
    let s := (List.range 16).foldl (fun (s : State) c => if f.untrained.any (·.val == c) || s.fld Reg.fMEM_CH_STATUS_STATE c == 3 then s
      else s.setFld Reg.fMEM_CH_STATUS_STATE 2 c) s
    match f.untrained with
    | c :: _ => out c.val s
    | [] => s

/-- Boot recovery: no set starts, GLB and TSK only, Fog cause 18 (19 R450). -/
def enterRecovery (s : State) : State :=
  raiseFog 18 { s with boot := { s.boot with booted := true, recovery := true }, ctl := { s.ctl with upstreamUp := s.env.perstHigh } }

/-- The start of a set that the boot ROM has chosen. -/
def startSet (f : BootFacts) (reverted : Bool) (k : Nat) (m : Manifest) (s : State) : State :=
  let s := restoreSettings (startKeeper (deriveAlias m s))
  let s := startLens (lensAttempt s)
  let s := if f.lensOk && s.lens.live.loaded then startUnits f.failed s else { s with boot := { s.boot with outOfService := true } }
  let s := startDram f { s with boot := { s.boot with booted := true, running := runSet k m s } }
  let s := if reverted then makeRecord 2 s else s
  let s := makeRecord 0 s
  { s with ctl := { s.ctl with upstreamUp := s.env.perstHigh } }

/-- COLD_BOOT, once after each reset of the chip domain. -/
def execColdBoot (f : BootFacts) : State → Host.Outcome State Fault Refusal :=
  act fun s =>
    if s.boot.booted then s
    else
      let last := s.boot.ptr.trial && s.boot.ptr.attempts == 3
      let s := trialAttempt (clearStartCauses s)
      match bootSet f s with
      | none => enterRecovery s
      | some (k, m) => startSet f last k m s

/-! ## JTAG (19 R452) -/

/-- JTAG_UNLOCK_TOKEN. -/
def execJtagUnlockToken (t : JtagToken) : State → Host.Outcome State Fault Refusal :=
  act fun s =>
    if !s.boot.booted || s.boot.recovery || s.keeperA != some true || s.boot.fuses.jtagOff then s
    else if !t.challengeOk || t.device != Config.deviceId || t.hours == 0 || 168 < t.hours then s
    else if !signatureOk s t.keyIndex t.sigOk t.ownerPresent t.ownerSigOk then s
    else makeRecord 3 { s with boot := { s.boot with jtagUntil := some (s.now + t.hours * hour) } }

/-- JTAG_UNLOCK_EXPIRY. -/
def execJtagUnlockExpiry : State → Host.Outcome State Fault Refusal :=
  act fun s => match s.boot.jtagUntil with
  | some t =>
    let s := s.reach t
    { s with boot := { s.boot with jtagUntil := none } }
  | none => s

/-! ## SPDM (19 R448) -/

/-- A measurement by its index; none for an index the table does not have. -/
def measurement (i : Nat) (s : State) : Option Measurement :=
  if 1 ≤ i && i ≤ 6 then some (.digest (((measurements s)[i - 1]?).getD 0))
  else if i == 0x10 then some (.record s.boot.current)
  else if 0x20 ≤ i && i ≤ 0x2F then some (.record (s.boot.ledger.reverse[i - 0x20]?))
  else none

/-- A requester may open a session that serves W1: its chain ends at the owner key, or without one at an unrevoked Hedavy key. -/
def chainOk (c : SpdmChain) (s : State) : Bool :=
  c.sigs && (if s.ownerKey then c.owner else c.hedavy.any fun k => !(s.boot.fuses.revoked.contains k.val))

/-- SPDM_REQUEST over PCIe VDM or the I3C bus, which an isolated segment 0 closes (20 R474). -/
def execSpdmRequest (vdm : Bool) (q : SpdmReq) : State → Host.Outcome State Fault Refusal :=
  act fun s =>
    let reachable := if vdm then s.ctl.upstreamUp else !(s.fld Reg.fGLB_BOARD_STATUS_ISOLATED).testBit 0
    match s.boot.alias_ with
    | none => s
    | some a =>
      if !reachable || s.keeperA != some true then s
      else match q with
      | .certificates => s.send (.spdm a .certificates)
      | .challenge => s.send (.spdm a .challenge)
      | .measurement i => s.send (.spdm a (match measurement i s with
        | some m => .measurement m
        | none => .error))
      | .keyExchange none => s.send (.spdm a (.session false))
      | .keyExchange (some c) =>
        if chainOk c s then ({ s with ctl := { s.ctl with session := true } }).send (.spdm a (.session true)) else s.send (.spdm a .error)
      | .endSession => ({ s with ctl := { s.ctl with session := false } }).send (.spdm a .ended)

end Machine
end Sys2Proof
end

