-- ==== Sys2Proof/Machine/Update.lean ====
section
/-!
DEFINITION. Update packages, activation, confirmation, fuses, ledger export: task commands, NVMe and PLDM (19 R443, R444, R456 to R468, R471, R472; 04 R104).
-/
namespace Sys2Proof.Machine

/-! ## Pieces (19 R458, R459) -/

/-- The slot that takes pieces. -/
def inactive (s : State) : Nat := 1 - s.boot.ptr.active

/-- A slot that holds or receives a package that is not in use. -/
def BootSlot.staging (x : BootSlot) : Bool := x.st == .receiving || x.st == .complete || x.st == .verified || x.st == .armed

/-- The piece table of a manifest and a piece's length agree with what is stored or arrives. -/
def pieceFits (m : Manifest) (index length : Nat) (sha : BitVec 256) : Bool :=
  index < m.pieces && length == (if index + 1 = m.pieces then m.lastLen else 262144) && (index == 0 || m.pieceSha[index - 1]? == some sha)

/-- Why a piece cannot be taken before its data is looked at: code and DETAIL. -/
def pieceFault (restart : Bool) (i len : Nat) (pkg : BitVec 64) (s : State) : Option (Nat × Nat) :=
  let x := s.bootSlot (inactive s)
  let same := x.staging && x.package == pkg
  if 1016 ≤ i then some (cBAD_FIELD, 1)
  else if len == 0 || 262144 < len then some (cBAD_LENGTH, 6)
  else if x.st == .active || (x.st == .old && s.boot.ptr.trial) then some (cSTATE_CONFLICT, 0)
  else if x.staging && !same && !restart then some (cSTATE_CONFLICT, 0)
  else match same, x.manifest with
  | true, some m =>
    if m.pieces ≤ i then some (cBAD_FIELD, 1)
    else if len != (if i + 1 = m.pieces then m.lastLen else 262144) then some (cBAD_LENGTH, 6) else none
  | _, _ => if i == 0 && len != 262144 then some (cBAD_LENGTH, 6) else none

/-- Pieces of an image. -/
def imagePieces (e : ImageEntry) : List Nat := List.range' e.firstPiece ((e.length + 262143) / 262144)

/-- Images all of whose pieces are stored are compared with the manifest: `bad` are those that differ, whose bits are cleared. With every bit set and every image matched the slot is COMPLETE. -/
def settleImages (bad : List Nat) (x : BootSlot) : BootSlot :=
  match x.manifest with
  | none => { x with st := .receiving, matched := [] }
  | some m =>
    let have_ := fun (i : Nat) => x.pieces.any (·.index == i)
    let whole := m.images.filter fun e => (imagePieces e).all have_
    let wrong := whole.filter fun e => !x.matched.contains e.firstPiece && bad.contains e.firstPiece
    let pieces := x.pieces.filter fun p => !(wrong.any fun e => (imagePieces e).contains p.index)
    let matched := (whole.map ImageEntry.firstPiece).filter fun f => !(wrong.any (·.firstPiece == f))
    let complete := (List.range m.pieces).all (fun i => pieces.any (·.index == i)) && m.images.all fun e => matched.contains e.firstPiece
    { x with pieces := pieces, matched := matched, st := if complete then .complete else .receiving }

/-- Store a piece: its code, and the state with its bit committed. A piece that disagrees with the piece table is not stored; piece 0 clears every stored piece that disagrees with its table. -/
def storePiece (pkg : BitVec 64) (p : PieceIn) (s : State) : Nat × State :=
  let k := inactive s
  let x := s.bootSlot k
  let same := x.staging && x.package == pkg
  let x := if same then x else { st := .receiving, package := pkg, pieces := [], matched := [] }
  let fits := match x.manifest with
    | some m => p.index == 0 || pieceFits m p.index p.length p.sha
    | none => true
  if !fits then (cPIECE_BAD_DIGEST, s)
  else
    let new : Piece := { index := p.index, sha := p.sha, length := p.length, manifest := if p.index = 0 then p.manifest else none }
    let fresh := x.manifest != new.manifest && p.index == 0
    let pieces := putBy Piece.index new x.pieces
    let pieces := match p.index, p.manifest with
      | 0, some m => pieces.filter fun (q : Piece) => q.index == 0 || pieceFits m q.index q.length q.sha
      | _, _ => pieces
    let x := settleImages p.badImages { x with pieces := pieces, matched := if fresh then [] else x.matched }
    let s := if !same && s.boot.ptr.old == some k then setPtr { s.boot.ptr with old := none } s else s
    (cOK, s.putBootSlot k x)

/-- SHA-256 given in ARG2 to ARG5, ARG2 the first bytes. -/
def argSha (r : TaskReq) : BitVec 256 := BitVec.ofNat 256 (r.arg 2 + r.arg 3 * 2 ^ 64 + r.arg 4 * 2 ^ 128 + r.arg 5 * 2 ^ 192)

/-- Bad bytes of a manifest's piece count in the bulk data of piece 0 (19 Table 19.5, Table 19.11). -/
def countFault (p : PieceIn) : Bool :=
  match p.index, p.manifest with
  | 0, some m => m.pieces < 2 || 1016 < m.pieces
  | _, _ => false

/-- UPD_PIECE: `p` is the data that the bulk transfer brings; the piece is stored and its job ends later. -/
def execUpdPiece (r : TaskReq) (p : PieceIn) : State → Host.Outcome State Fault Refusal :=
  taskCmd { opcode := 0x0601, windows := [0, 1], bulk := .take (some (r.argBits 6 31 0)) }
    [(1, mask 16 0), (2, mask64), (3, mask64), (4, mask64), (5, mask64), (6, mask 31 0), (7, mask64)] r fun s =>
    let i := r.argBits 1 15 0
    let pkg := BitVec.ofNat 64 (r.arg 7)
    let p := { p with index := i, length := r.argBits 6 31 0 }
    match pieceFault (r.argBits 1 16 16 == 1) i p.length pkg s with
    | some (c, d) => .fail c d
    | none =>
      if countFault p then moved r (.fail cBAD_FIELD (bulkDetail false 0x10))
      else
        let res := if argSha r == p.sha then storePiece pkg p s else (cPIECE_BAD_DIGEST, s)
        moved r (startJob 0x0601 r { carrier := .keeper, bulk := true, code := res.1 } s fun _ s' =>
          if res.1 == cOK then { res.2 with ctl := s'.ctl } else s')

/-- Number of a slot state, in the order of Table 19.7 (log 41). -/
def SlotTag.num : SlotTag → Nat
  | .empty => 0
  | .receiving => 1
  | .complete => 2
  | .verified => 3
  | .armed => 4
  | .active => 5
  | .old => 6

/-- UPD_STATUS (19 Table 19.10). -/
def execUpdStatus (r : TaskReq) : State → Host.Outcome State Fault Refusal :=
  taskCmd { opcode := 0x0602, windows := [0, 1, 2, 3] } [] r fun s =>
    let p := s.boot.ptr
    let x := s.bootSlot (inactive s)
    let bit := fun (b : Bool) (n : Nat) => if b then 2 ^ n else 0
    .done s cOK 0 [BitVec.ofNat 64 (SlotTag.num s.boot.slot0.st + 16 * SlotTag.num s.boot.slot1.st + 256 * p.active + bit p.trial 9 + 1024 * p.attempts + bit p.lensTrial 12),
      BitVec.ofNat 64 x.pieces.length, BitVec.ofNat 64 ((x.manifest.map Manifest.pieces).getD 0), x.package, p.activePkg, BitVec.ofNat 64 (p.trialNs / hour)]

/-! ## Verification (19 R457, R460) -/

/-- The images of a manifest stand as R457 wants them: one of each class 0 to 2, Lenses at most one a place, runs in order without gaps, the last ending at LAST_LEN. -/
def layoutOk (m : Manifest) : Bool :=
  let ends := m.images.map fun e => e.firstPiece + (e.length + 262143) / 262144
  let places := (m.images.filter (·.cls == 3)).map ImageEntry.sector
  m.imageCount == m.images.length && 3 ≤ m.imageCount && m.imageCount ≤ 19 && 2 ≤ m.pieces && m.pieces ≤ 1016 &&
  1 ≤ m.lastLen && m.lastLen ≤ 262144 && m.rsvdZero &&
  m.images.all (fun e => e.cls ≤ 3 && 1 ≤ e.length && e.secVersion ≤ 64 && (e.sector == 0xFF || (e.cls == 3 && e.sector ≤ 14))) &&
  [0, 1, 2].all (fun c => (m.images.filter (·.cls == c)).length == 1) && places.eraseDups.length == places.length &&
  (m.images.map ImageEntry.firstPiece) == 1 :: ends.dropLast && ends.getLast? == some m.pieces &&
  (m.images.getLast?).any (fun e => (e.length + 262143) % 262144 + 1 == m.lastLen)

/-- Checks 1 to 5 of a Lens image in a package, against the base Lens that the package brings or that is live. -/
def packageLens (m : Manifest) (s : State) (e : ImageEntry) : Option Nat :=
  match e.lens with
  | none => some cCORRUPT_INPUT
  | some i =>
    let base := (m.lenses.filter (·.kind == 0)).foldl (fun l b => applyLens b l) s.lens.live
    if i.lensId != e.imageId || i.secVersion != e.secVersion then some cBAD_FIELD
    else lensChecks i { s with lens := { s.lens with live := if i.kind == 0 then s.lens.live else base } }

/-- What fails first when a slot is read back; `bad` is a piece that does not read back as it was stored. -/
def verifyFault (k : Nat) (bad : Option Nat) (s : State) : Option Nat :=
  let x := s.bootSlot k
  match x.manifest with
  | none => some cIMAGE_INCOMPLETE
  | some m =>
    if bad.isSome then some cPIECE_BAD_DIGEST
    else if !m.magicOk || m.format != 1 || m.hdrLen != 0x80 || !m.crcOk then some cCORRUPT_INPUT
    else if !layoutOk m then some cBAD_FIELD
    else if !signatureOk s m.keyIndex m.sigOk m.ownerPresent m.ownerSigOk then some cIMAGE_BAD_SIGNATURE
    else if m.stepping != 0x3142 then some cLENS_INCOMPATIBLE
    else if m.images.any fun e => e.secVersion < s.rollback e.cls then some cIMAGE_ROLLBACK
    else (m.images.filter (·.cls == 3)).findSome? (packageLens m s)

/-- A package verified in boot recovery becomes the active set, CONFIRMED, and the chip starts from it (19 R450). -/
def startRecovered (k : Nat) (s : State) : State :=
  let x := s.bootSlot k
  let s := s.putBootSlot k { x with st := .active }
  let s := setPtr { s.boot.ptr with active := k, trial := false, attempts := 0, old := none, activePkg := x.package, oldPkg := 0 } s
  chipReset false { s with boot := { s.boot with lensDue := (x.manifest.map Manifest.lenses).getD [] } }

/-- The end of a verification. -/
def verifyEnd (k : Nat) (bad : Option Nat) (s : State) : Nat × State :=
  let x := s.bootSlot k
  if x.st != .complete then (cSTATE_CONFLICT, s)
  else match verifyFault k bad s with
  | some c => (c, s)
  | none => (cOK, s.putBootSlot k { x with st := .verified })

/-- UPD_VERIFY: a job that reads the slot back; `bad` is the first piece that differs then. -/
def execUpdVerify (r : TaskReq) (bad : Option Nat) : State → Host.Outcome State Fault Refusal :=
  taskCmd { opcode := 0x0603, windows := [0, 1] } [] r fun s =>
    let k := inactive s
    if (s.bootSlot k).st != .complete then .fail cSTATE_CONFLICT
    else startJob 0x0603 r { carrier := .keeper, cancellable := true, work := .verifySet k bad } s fun _ s => s

/-! ## Activation (19 R462 to R466) -/

/-- Activation is refused (19 R464): `partner` is the partner's running LEVEL and PEER_MIN, as the heads exchange them at an activation. -/
def activationBarred (k : Nat) (partner : Option (Nat × Nat)) (s : State) : Bool :=
  let levels := match partner, (s.bootSlot k).manifest with
    | some (level, least), some m => s.peer.st == .paired && (level < m.peerMin || m.level < least)
    | _, _ => false
  levels || s.lens.relens.isSome || s.boot.ptr.trial

/-- The pointer is committed for a trial of the new set: it is ACTIVE, the other slot OLD, and the reload follows. -/
def activate (k hours : Nat) (s : State) : State :=
  let p := s.boot.ptr
  let x := s.bootSlot k
  let had := (s.bootSlot p.active).st == .active
  let s := s.putBootSlot k { x with st := .active }
  let s := if had then s.putBootSlot p.active { s.bootSlot p.active with st := .old } else s
  let s := setPtr { p with active := k, trial := true, attempts := 0, old := if had then some p.active else none, healthyH := hours,
                           trialNs := 0, activePkg := x.package, oldPkg := p.activePkg } s
  startReload false { s with boot := { s.boot with trialSaved := 0, lensDue := (x.manifest.map Manifest.lenses).getD [] } }

/-- Why UPD_ACTIVATE with an action cannot be taken. -/
def pointerFault (action hours : Nat) (partner : Option (Nat × Nat)) (s : State) : Option (Nat × Nat) :=
  let k := inactive s
  let st := (s.bootSlot k).st
  if 3 ≤ action then some (cBAD_FIELD, 1)
  else if (if action == 2 then hours != 0 else hours == 0 || 8760 < hours) then some (cBAD_FIELD, 2)
  else if action == 0 && (!(st == .verified || st == .armed) || activationBarred k partner s) then some (cSTATE_CONFLICT, 0)
  else if action == 1 && st != .verified then some (cSTATE_CONFLICT, 0)
  else if action == 2 && !s.boot.ptr.trial then some (cSTATE_CONFLICT, 0)
  else none

/-- UPD_ACTIVATE by its action: a job whose end commits the pointer. -/
def pointerCmd (r : TaskReq) (partner : Option (Nat × Nat)) : State → Host.Outcome State Fault Refusal :=
  taskCmd { opcode := 0x0604, windows := [1] } [(1, mask 1 0), (2, mask 15 0)] r fun s =>
    match pointerFault (r.arg 1) (r.arg 2) partner s with
    | some (c, d) => .fail c d
    | none => startJob 0x0604 r { carrier := .keeper, work := .pointer (r.arg 1) (r.arg 2) } s fun _ s => s

/-- UPD_ACTIVATE, action 0. -/
def execUpdActivate (r : TaskReq) (partner : Option (Nat × Nat)) : State → Host.Outcome State Fault Refusal := pointerCmd r partner

/-- UPD_ARM: UPD_ACTIVATE, action 1. -/
def execUpdArm (r : TaskReq) : State → Host.Outcome State Fault Refusal := pointerCmd r none

/-- UPD_REVERT: UPD_ACTIVATE, action 2. -/
def execUpdRevert (r : TaskReq) : State → Host.Outcome State Fault Refusal := pointerCmd r none

/-- The end of an UPD_ACTIVATE job: what it would change must still be as it was at GO. -/
def pointerEnd (action hours : Nat) (s : State) : Nat × State :=
  let k := inactive s
  match pointerFault action hours none s with
  | some (c, _) => (c, s)
  | none =>
    if action == 0 then (cOK, activate k hours s)
    else if action == 1 then
      let s := s.putBootSlot k { s.bootSlot k with st := .armed }
      (cOK, { s with boot := { s.boot with armedHours := hours } })
    else (cOK, startReload true (revertSet s))

/-- UPD_CONFIRM (19 R468). -/
def execUpdConfirm (r : TaskReq) : State → Host.Outcome State Fault Refusal :=
  taskCmd { opcode := 0x0605, windows := [1] } [] r fun s =>
    let p := s.boot.ptr
    if !(p.trial || p.lensTrial) then .fail cSTATE_CONFLICT
    else .done (confirm s) cOK 0 [BitVec.ofNat 64 ((if p.trial then 1 else 0) + if p.lensTrial then 2 else 0)]

/-! ## UPD_FETCH (19 Table 19.10; 17 R426) -/

/-- Pieces as they are fetched, each under R458: how many are stored, and what stops the fetch. -/
def fetchPieces : List PieceIn → Nat → State → Nat × Nat × State
  | [], n, s => (cOK, n, s)
  | p :: t, n, s =>
    let pkg := match p.index, p.manifest with
      | 0, some m => m.packageId
      | _, _ => (s.bootSlot (inactive s)).package
    match pieceFault false p.index p.length pkg s with
    | some (c, _) => (c, n, s)
    | none =>
      if countFault p then (cBAD_FIELD, n, s)
      else
        let x := storePiece pkg p s
        if x.1 == cOK then fetchPieces t (n + 1) x.2 else (x.1, n, s)

/-- UPD_FETCH: piece 0 first, then what is missing; the server's certificate facts, the pieces that arrive and the code the transfer ends with come from outside. -/
def execUpdFetch (r : TaskReq) (anchor sigs dates : Bool) (pieces : List PieceIn) (code : Fin 65536) : State → Host.Outcome State Fault Refusal :=
  taskCmd { opcode := 0x0606, windows := [0, 1], bulk := .take (some (r.argBits 1 15 0)) }
    [(1, mask 15 0), (2, mask64), (3, mask64), (4, mask64), (5, mask64)] r fun s =>
    match mgmtPort s with
    | none => moved r (startJob 0x0606 r { carrier := .keeper, bulk := true, cancellable := true, code := cHW_FAULT, results := [0] } s fun _ s => s)
    | some p =>
      let s1 := s.setFlag Reg.fKPR_MGMT_STATUS_NO_DATES s.wall.isNone p
      let served := serverOk anchor sigs dates s
      let first : Bool := match pieces with
        | q :: _ => (q.index == 0 && q.sha == argSha r) || (q.index != 0 && (s.bootSlot (inactive s)).pieces.any fun x => x.index == 0 && x.sha == argSha r)
        | [] => true
      let got := if !served then (cAUTH_FAIL, 0, s1) else if !first then (cPIECE_BAD_DIGEST, 0, s1) else fetchPieces pieces 0 s1
      let final := if got.1 == cOK then code.val else got.1
      moved r (startJob 0x0606 r { carrier := .keeper, bulk := true, cancellable := true, code := final, results := [BitVec.ofNat 64 got.2.1] } got.2.2
        fun _ s => s.setFld Reg.fKPR_MGMT_STATUS_LAST_CODE final p)

/-! ## LEDGER_EXPORT (19 Table 19.10) -/

/-- LEDGER_EXPORT: Boot Ledger records, or ALIAS_IDs, or the current one. -/
def execLedgerExport (r : TaskReq) : State → Host.Outcome State Fault Refusal :=
  let n := r.arg 2
  taskCmd { opcode := 0x0607, windows := [1], bulk := .give (if 1 ≤ n && n ≤ 256 then some (512 * n) else none) }
    [(1, mask64), (2, mask64), (3, mask 0 0)] r fun s =>
    let first := r.arg 1
    let named := r.arg 3 == 1
    let stored := if named then s.boot.aliases.length else s.boot.ledger.length
    let out := fun (k : Nat) (o : Output) => moved r (startJob 0x0607 r
      { carrier := .keeper, bulk := true, results := [BitVec.ofNat 64 k, BitVec.ofNat 64 stored, BitVec.ofNat 64 s.boot.bootCount] } s fun _ s => s.send o)
    if n == 0 || 256 < n then .fail cBAD_FIELD 2
    else if first == 0xFFFFFFFF then
      if named then out (if s.boot.alias_.isSome then 1 else 0) (.bulkAliases s.boot.alias_.toList)
      else out (if s.boot.current.isSome then 1 else 0) (.bulkLedger s.boot.current.toList)
    else if stored ≤ first then .fail cBAD_FIELD 1
    else if named then
      let xs := (s.boot.aliases.drop first).take n
      out xs.length (.bulkAliases xs)
    else
      let rs := (s.boot.ledger.drop first).take n
      out rs.length (.bulkLedger rs)

/-! ## FUSE_PROGRAM (19 R443, R444, R470, Table 19.10) -/

/-- The arguments that an operation takes. -/
def fuseMasks (op : Nat) : List (Nat × Nat) :=
  if op == 2 then [(1, mask 3 0), (2, mask64), (3, mask64)] else if op == 3 then [(1, mask 3 0), (2, mask64)] else [(1, mask 3 0)]

/-- The lowest owner slot whose key bits are all unblown (19 R444). -/
def freeOwnerSlot (s : State) : Option Nat :=
  if s.boot.fuses.owner0.isNone then some 0 else if s.boot.fuses.owner1.isNone then some 1 else none

/-- Blow the key bits of an owner slot. -/
def blowOwner (j : Nat) (key : BitVec 768) (s : State) : State :=
  let f := s.boot.fuses
  { s with boot := { s.boot with fuses := if j = 0 then { f with owner0 := some key } else { f with owner1 := some key } } }

/-- FUSE_PROGRAM by its operation: `key` is the key that op 1 brings, `sigOk` says that the signature of op 3 verifies under another unrevoked Hedavy key. Key bits are blown first; the job's end blows the rest. -/
def fuseCmd (r : TaskReq) (key : BitVec 768) (sigOk : Bool) : State → Host.Outcome State Fault Refusal :=
  let op := r.argBits 1 3 0
  taskCmd { opcode := 0x0608, windows := [1], bulk := if op == 1 || op == 3 then .take (some 96) else .none } (fuseMasks op) r fun s =>
    let job := fun (index value : Nat) (k : State → State) => startJob 0x0608 r { carrier := .keeper, work := .fuse op index value } s fun _ s => k s
    if op == 1 then moved r (match freeOwnerSlot s with
      | none => .fail cNO_RESOURCE
      | some j => job j 0 (blowOwner j key))
    else if op == 2 then
      if 4 ≤ r.arg 2 then .fail cBAD_FIELD 2
      else if r.arg 3 == 0 || 64 < r.arg 3 || r.arg 3 < s.rollback (r.arg 2) then .fail cBAD_FIELD 3
      else job (r.arg 2) (r.arg 3) id
    else if op == 3 then
      if 4 ≤ r.arg 2 then .fail cBAD_FIELD 2
      else moved r (if sigOk then job (r.arg 2) 0 id else .fail cAUTH_FAIL)
    else if op == 4 then job 0 0 id
    else .fail cBAD_FIELD 1

/-- FUSE_ENROL_OWNER_KEY: FUSE_PROGRAM, op 1. -/
def execFuseEnrolOwnerKey (r : TaskReq) (key : BitVec 768) : State → Host.Outcome State Fault Refusal := fuseCmd r key false

/-- FUSE_RAISE_COUNTER: FUSE_PROGRAM, op 2. -/
def execFuseRaiseCounter (r : TaskReq) : State → Host.Outcome State Fault Refusal := fuseCmd r 0 false

/-- FUSE_REVOKE_HEDAVY_KEY: FUSE_PROGRAM, op 3. -/
def execFuseRevokeHedavyKey (r : TaskReq) (sigOk : Bool) : State → Host.Outcome State Fault Refusal := fuseCmd r 0 sigOk

/-- FUSE_BLOW_JTAG_DISABLED: FUSE_PROGRAM, op 4. -/
def execFuseBlowJtagDisabled (r : TaskReq) : State → Host.Outcome State Fault Refusal := fuseCmd r 0 false

/-- The end of a FUSE_PROGRAM job. With JTAG_DISABLED blown the unlock that stands goes on until its end. -/
def fuseEnd (op index value : Nat) (s : State) : State :=
  let f := s.boot.fuses
  let f := match op with
    | 1 => { f with enrolled := if index = 0 then (true, f.enrolled.2) else (f.enrolled.1, true) }
    | 2 => { f with rollback := f.rollback.set index (max ((f.rollback[index]?).getD 0) value) }
    | 3 => { f with revoked := insertNat index f.revoked }
    | _ => { f with jtagOff := true }
  { s with boot := { s.boot with fuses := f } }

/-- The end of an update job, or its stop at a cancel. -/
def endUpdateJob (j : Job) (s : State) : State :=
  match j.work with
  | .verifySet k bad =>
    if j.stopping then endJob j.slot cCANCELLED 0 [] s
    else
      let x := verifyEnd k bad s
      let s := endJob j.slot x.1 0 [] x.2
      if x.1 == cOK && s.boot.recovery then startRecovered k s else s
  | .pointer a h =>
    let x := pointerEnd a h s
    endJob j.slot x.1 0 [] x.2
  | .fuse op i v => endJob j.slot cOK 0 [] (fuseEnd op i v s)
  | _ => s

/-! ## NVMe firmware commands (04 R104; 19 R458, R463) -/

/-- An admin command of an identity with FWUPD; any other is denied. -/
def fwAdmin (cntlid cid : Nat) (k : State → State) : State → State :=
  admin cntlid cid fun a s => if (s.ident a.host).any (·.fwUpd) then k s else answer cntlid 0 cid .operationDenied s

/-- FIRMWARE_IMAGE_DOWNLOAD: one whole piece at its offset, or the tail as the last. A piece 0 of another package begins it anew. -/
def execFirmwareImageDownload (cntlid cid offset : Nat) (p : PieceIn) : State → Host.Outcome State Fault Refusal :=
  act <| fwAdmin cntlid cid fun s =>
    let p := { p with index := offset / 262144 }
    let pkg := match p.index, p.manifest with
      | 0, some m => m.packageId
      | _, _ => (s.bootSlot (inactive s)).package
    if offset % 262144 != 0 || countFault p then answer cntlid 0 cid .invalidField s
    else match pieceFault (p.index == 0) p.index p.length pkg s with
    | some _ => answer cntlid 0 cid .invalidField s
    | none =>
      let x := storePiece pkg p s
      answer cntlid 0 cid (if x.1 == cOK then .success else .invalidFirmwareImage) x.2

/-- FIRMWARE_COMMIT_VERIFY: action 000b verifies the package. -/
def execFirmwareCommitVerify (cntlid cid : Nat) (bad : Option Nat) : State → Host.Outcome State Fault Refusal :=
  act <| fwAdmin cntlid cid fun s =>
    let x := verifyEnd (inactive s) bad s
    answer cntlid 0 cid (if x.1 == cOK then .success else .invalidFirmwareImage) x.2

/-- FIRMWARE_COMMIT_ACTIVATE: actions 001b, 010b and 011b activate an ARMED set; `fwSlot` is the NVMe firmware slot, boot slot + 1, 0 for none named. -/
def execFirmwareCommitActivate (cntlid cid : Nat) (action : Fin 8) (fwSlot : Fin 8) (partner : Option (Nat × Nat)) : State → Host.Outcome State Fault Refusal :=
  act <| fwAdmin cntlid cid fun s =>
    let k := inactive s
    if action.val == 0 || 3 < action.val then answer cntlid 0 cid .invalidField s
    else if (s.bootSlot k).st != .armed then answer cntlid 0 cid .activationProhibited s
    else if action.val == 2 && fwSlot.val != k + 1 then answer cntlid 0 cid .invalidFirmwareSlot s
    else if activationBarred k partner s then answer cntlid 0 cid .activationProhibited s
    else answer cntlid 0 cid .success (activate k s.boot.armedHours s)

/-! ## PLDM (19 R458) -/

/-- PLDM_FIRMWARE_COMPONENT: a component's data maps to a piece by its offset. -/
def execPldmFirmwareComponent (offset : Nat) (p : PieceIn) : State → Host.Outcome State Fault Refusal :=
  act fun s =>
    if s.keeperA != some true || s.boot.recovery then s
    else
      let p := { p with index := offset / 262144 }
      let pkg := match p.index, p.manifest with
        | 0, some m => m.packageId
        | _, _ => (s.bootSlot (inactive s)).package
      if offset % 262144 != 0 then s.send (.pldm cBAD_FIELD)
      else if countFault p then s.send (.pldm cBAD_FIELD)
      else match pieceFault (p.index == 0) p.index p.length pkg s with
      | some (c, _) => s.send (.pldm c)
      | none =>
        let x := storePiece pkg p s
        x.2.send (.pldm x.1)

end Sys2Proof.Machine
end

