-- ==== Sys2Proof/Machine/Ctl.lean ====
section
/-!
DEFINITION. The common task commands, the end of jobs, upstream resets (03 R54 to R59, R68, R69, R526; 22 R515).
-/
namespace Sys2Proof.Machine

/-! ## Task commands (03 Table 3.10) -/

/-- NOP. -/
def execNop (r : TaskReq) : State → Host.Outcome State Fault Refusal :=
  taskCmd { opcode := 0x0001, windows := [0, 1, 2, 3] } [] r fun s => .done s

/-- Results of IDENTIFY after RES1: the running set, the live generation and the live LENS_IDs; zero in boot recovery. -/
def identity (s : State) : List Word :=
  let run := s.boot.running
  let sec := (run.secVersion.zipIdx.map fun p => p.1 % 256 * 2 ^ (8 * p.2)).sum
  if s.boot.recovery then List.replicate 19 0
  else [run.package, BitVec.ofNat 64 (run.level + sec * 2 ^ 32), BitVec.ofNat 64 s.lens.liveGen, s.lens.live.baseId] ++
    (List.range 15).map fun k => lookupD 0 k s.lens.live.sectorIds

/-- IDENTIFY. -/
def execIdentify (r : TaskReq) : State → Host.Outcome State Fault Refusal :=
  taskCmd { opcode := 0x0002, windows := [0, 1, 2, 3] } [] r fun s =>
    let id := 0x1F6D + 0x9256 * 2 ^ 16 + 0x3142 * 2 ^ 32 + (if s.peer.head = 0 then 0 else 2 ^ 48) + if s.boot.recovery then 2 ^ 49 else 0
    .done s cOK 0 (BitVec.ofNat 64 id :: identity s)

/-- JOB_STATUS, from any window. The progress of a job that runs is its own count of work, which no rule states. -/
def execJobStatus (r : TaskReq) : State → Host.Outcome State Fault Refusal :=
  taskCmd { opcode := 0x0003, windows := [0, 1, 2, 3] } [(1, mask64)] r fun s =>
    match handleJob (r.arg 1) s with
    | none => .fail cBAD_FIELD 1
    | some j =>
      if j.ended then .done s cOK 0 [BitVec.ofNat 64 (2 + j.opcode * 2 ^ 16), BitVec.ofNat 64 j.code, BitVec.ofNat 64 j.detail, 1000]
      else
        let d := s.draw
        .done d.2 cOK 0 [BitVec.ofNat 64 ((if j.stopping then 1 else 0) + j.opcode * 2 ^ 16), BitVec.ofNat 64 cACCEPTED, 0, BitVec.ofNat 64 (d.1.toNat % 1000)]

/-- JOB_RESULT: the job's own code, DETAIL and results; the record is freed. -/
def execJobResult (r : TaskReq) : State → Host.Outcome State Fault Refusal :=
  taskCmd { opcode := 0x0004, windows := [0, 1, 2, 3] } [(1, mask64)] r fun s =>
    match handleJob (r.arg 1) s with
    | none => .fail cBAD_FIELD 1
    | some j =>
      if j.window != r.window.val then .fail cNOT_PERMITTED
      else if !j.ended then .fail cRESULT_NOT_READY
      else
        let res := (j.results ++ List.replicate 29 0).take 29 ++ [1]
        .done { s with ctl := { s.ctl with jobs := s.ctl.jobs.filter (·.slot != j.slot) } } j.code j.detail res

/-- JOB_CANCEL. -/
def execJobCancel (r : TaskReq) : State → Host.Outcome State Fault Refusal :=
  taskCmd { opcode := 0x0005, windows := [0, 1, 3] } [(1, mask64)] r fun s =>
    match handleJob (r.arg 1) s with
    | none => .fail cBAD_FIELD 1
    | some j =>
      if j.window != r.window.val then .fail cNOT_PERMITTED
      else if j.ended then .done s cOK 0 [1]
      else if !j.cancellable then .fail cSTATE_CONFLICT
      else .done (s.setJob { j with stopping := true }) cOK 0 [0]

/-! ## The end of a job (03 R59) -/

/-- A cancelled retire leaves the module ACTIVE (07 R169). -/
def stopRetire (m : Nat) (j : Job) (s : State) : State :=
  let s := match s.module m with
    | some x => if x.st == .retiring then settleRebuild (settleRo (rejudge (assignVault (s.putModule { x with st := .active })))) else s
    | none => s
  endJob j.slot cCANCELLED 0 [] s

/-- JOB_END of record `n`: a job whose end is no part of another command ends as planned, or with CANCELLED at the safe point after a cancel. -/
def execJobEnd (n : Nat) : State → Host.Outcome State Fault Refusal :=
  act fun s => match s.job n with
  | none => s
  | some j =>
    if j.ended then s
    else match j.work with
    | .takeLens _ _ => endStageJob j s
    | .check _ => endStageJob j s
    | .verifySet _ _ => endUpdateJob j s
    | .pointer _ _ => endUpdateJob j s
    | .fuse _ _ _ => endUpdateJob j s
    | .retire m => if j.stopping then stopRetire m j s else s
    | _ => if !j.bulk then s else if j.stopping then endJob n cCANCELLED 0 j.results s else endJobPlanned n s

/-! ## Keeper restarts and upstream resets (03 R68, R69, R74; 22 R515) -/

/-- KEEPER_RESTART_GO_HELD: a GO that arrives while Keeper A's duties are interrupted is held with BUSY set; its command runs as its own row with `resume`. -/
def execKeeperRestartGoHeld (opcode : Nat) (r : TaskReq) : State → Host.Outcome State Fault Refusal :=
  act fun s => if s.keeperA == some false && !r.resume then runTask { opcode := opcode, windows := [] } r (fun _ => .fail cBAD_OPCODE) s else s

/-- The state of the MSI-X table, the pending bits, function mask and enable after a reset of UP00; a W0 command that moves bulk data fails at the byte `reached`. -/
def upstreamReset (reached : Nat) (s : State) : State :=
  let vs := s.sig.vectors.map fun (v : Vector_) => { v with addr := 0, data := 0, masked := true, pba := false }
  let s := { s with sig := { s.sig with vectors := vs }, ctl := { s.ctl with msixEnable := false, msixMask := false } }
  (s.ctl.jobs.filter fun j => j.window == 0 && j.bulk && !j.ended).foldl (fun s j => endJob j.slot cHW_FAULT (bulkDetail false reached) [] s) s

/-- UPSTREAM_RESET: a function-level or hot reset. -/
def execUpstreamReset (reached : Nat) : State → Host.Outcome State Fault Refusal := act (upstreamReset reached)

/-- PERST_N: low resets UP00 and the configuration space; the link trains after it rises, once the cold boot has come that far. -/
def execPerstN (high : Bool) (reached : Nat) (s : State) : Host.Outcome State Fault Refusal :=
  .next (let s := { s with env := { s.env with perstHigh := high } }
    if !s.up then s
    else if high then { s with ctl := { s.ctl with upstreamUp := s.ctl.upstreamUp || s.boot.booted } }
    else { upstreamReset reached s with ctl := { (upstreamReset reached s).ctl with upstreamUp := false } })

end Sys2Proof.Machine
end

