-- ==== Sys2Proof/Machine/Views.lean ====
section
/-!
DEFINITION. What a BAR0 read returns: the stored word, with the fields that show other state (03 R66 and the register tables).
-/
namespace Sys2Proof.Machine

/-- A field that a register shows: bits and value. -/
structure Shown where
  hi  : Nat
  lo  : Nat
  val : Nat
deriving DecidableEq, Repr

/-- A Bool as a bit. -/
def bit (b : Bool) : Nat := if b then 1 else 0

/-- Index of a register within its array. -/
def RegDef.index (d : RegDef) (off : Nat) : Nat := if d.stride = 0 then 0 else (off - d.base) / d.stride

/-- Second index. -/
def RegDef.index2 (d : RegDef) (off : Nat) : Nat := if d.stride2 = 0 then 0 else (off - d.base - d.index off * d.stride) / d.stride2

/-- STATE of a stage set (02 LNS_SET_STATUS). -/
def setCode : SetState → Nat
  | .free => 0 | .staging => 1 | .checking => 2 | .checked => 3 | .preparing => 4 | .committing => 5

/-- The 2 bits of a Sector in LNS_SECTOR_STATE. -/
def sectorCode (s : State) (k : Nat) : Nat :=
  match s.lens.relens with
  | none => 0
  | some r => if !(r.changed.any fun i => sectorOf i == k) then 0 else match r.phase with
    | .draining => 1 | .loading => 2 | .returning => 3

/-- STATE of a processing tile (05 PTL_TILE_STATUS). -/
def tileCode (s : State) (t : Nat) : Nat :=
  let moving := fun (p : RelensPhase) => s.lens.relens.any fun r => r.changed.contains t && r.phase == p
  if moving .loading || moving .returning then 6
  else if s.isFenced t then 5
  else if moving .draining then 4
  else if s.lens.sparesUsed.any (·.1 == t) then 3
  else match roleOf s.lens.live t with
    | 0 => 0 | 2 => 2 | _ => 1

/-- STATE of the hold-up block (12 HUP_STATUS). -/
def hupCode : HupStateTag → Nat
  | .probing => 0 | .fault => 1 | .unarmed => 2 | .armed => 3 | .testing => 4 | .dumping => 5

/-- STATE of a digest context (14 DIG_CTX_STATUS). -/
def ctxCode : CtxState → Nat
  | .free => 0 | .open_ => 1 | .finalising => 2 | .done => 3

/-- Code in force in an island's clock: none while it is fenced or its domain has no clock; else the planned code, held down by AVS and by the PT step (21 R496 to R499, PWR_ISLAND_FREQ). -/
def freqNow (s : State) (i : Nat) : Nat :=
  let planned := lookupD 0 i s.lens.live.freq
  let off := s.isFenced i || (powerDomain i).any fun d => [2, 3, 5].contains (s.domainState d)
  let step := s.fld Reg.fPWR_THERM_STATUS_PT_STEP
  let hot := if i < 66 then (if step = 0 then 80 else if step = 1 then 72 else 64) else planned
  if off then 0 else min planned (min (lookupD planned i s.env.slow) hot)

/-- Words of the LNS and TSK blocks that show other state. -/
def shownLens (s : State) (off : Nat) : List Shown :=
  if Reg.LNS_LIVE_GEN.holds off then [⟨63, 0, s.lens.liveGen⟩]
  else if Reg.LNS_SECTOR_STATE.holds off then (List.range 16).map fun k => ⟨2 * k + 1, 2 * k, sectorCode s k⟩
  else if Reg.LNS_SECTOR_LENS.holds off then
    [⟨63, 0, (lookupD s.lens.live.baseId (Reg.LNS_SECTOR_LENS.index off) s.lens.live.sectorIds).toNat⟩]
  else if Reg.LNS_SET_STATUS.holds off then
    let x := s.set (Reg.LNS_SET_STATUS.index off)
    [⟨63, 60, setCode x.st⟩, ⟨47, 32, x.code⟩, ⟨31, 0, x.detail⟩]
  else if Reg.LNS_SET_T.holds off then [⟨63, 0, (s.set (Reg.LNS_SET_T.index off)).switchT⟩]
  else if Reg.LNS_SET_GEN.holds off then [⟨63, 0, (s.set (Reg.LNS_SET_GEN.index off)).checkedGen⟩]
  else if Reg.TSK_WIN_STATE.holds off then
    [⟨3, 3, bit s.jtagOpen⟩, ⟨2, 2, bit s.ctl.bound⟩, ⟨1, 1, bit s.ctl.session⟩, ⟨0, 0, bit s.ownerKey⟩]
  else if Reg.GLB_ERR_SUMMARY.holds off then
    (List.range 18).map fun b => ⟨b, b, bits (s.word (blockBase b + 0x18)) 63 63⟩
  else if Reg.GLB_GPIO.holds off then [⟨47, 32, s.env.gpioIn.toNat⟩]
  else if Reg.TMB_NOW.holds off then [⟨63, 0, s.now⟩]
  else []

/-- Words of the host front end, the tiles and the metadata blocks. -/
def shownData (s : State) (off : Nat) : List Shown :=
  let demand := fun (p : Nat) => (s.host.assocs.filter (·.psNow == p)).length
  if Reg.HFE_PWR_STATE.holds off then [⟨49, 48, s.host.chipPs⟩, ⟨47, 32, demand 0⟩, ⟨31, 16, demand 1⟩, ⟨15, 0, demand 2⟩]
  else if Reg.HFE_OCCUPANCY.holds off then
    [⟨58, 40, (s.host.assocs.map fun a => a.queues.length).sum⟩, ⟨39, 22, s.host.assocs.length⟩, ⟨21, 0, s.host.cmds.length⟩]
  else if Reg.HFE_PORT_STATUS.holds off then [⟨63, 32, Config.observed off s.now⟩]
  else if Reg.PTL_JRING_STATUS.holds off then
    [⟨25, 24, s.wr.ackMode⟩, ⟨15, 8, pct ((s.wr.mirror.map recordLen).sum) (ringCapacity s)⟩, ⟨7, 0, ringFill s⟩]
  else if Reg.PTL_JSEQ_NEXT.holds off then [⟨63, 0, s.wr.jseqNext⟩]
  else if Reg.PTL_JSEQ_RETIRED.holds off then [⟨63, 0, s.wr.jseqRetired⟩]
  else if Reg.PTL_TILE_STATUS.holds off then
    [⟨39, 32, Config.observed (off + 4) s.now % 101⟩, ⟨31, 16, Config.observed off s.now⟩, ⟨3, 0, tileCode s (Reg.PTL_TILE_STATUS.index off)⟩]
  else if Reg.PTL_RECON_STATUS.holds off then [⟨63, 32, s.rd.repairs.length⟩, ⟨6, 0, s.rd.tablePeak⟩]
  else if Reg.MTL_FM_STATUS.holds off then
    let ds := (List.range 8).filter fun d => !(activeModules s d).isEmpty
    [⟨63, 56, (ds.map (oneBitFill s)).foldl max 0⟩, ⟨55, 48, (leastBy id (ds.map (freeNative s))).getD 0⟩, ⟨47, 40, roMask s⟩,
     ⟨39, 32, wornCount s⟩, ⟨31, 0, ((List.range 8).map (queuedOf s)).sum⟩]
  else if Reg.MTL_RET_STATUS.holds off then [⟨62, 62, bit s.media.wallKnown⟩, ⟨31, 0, s.media.hour⟩]
  else if Reg.MTL_CKPT_STATUS.holds off then
    [⟨63, 48, min 65535 ((s.now - s.media.ckptAt) / sec)⟩, ⟨47, 32, s.media.logBytes / 2 ^ 20⟩, ⟨31, 0, s.media.ckptCount⟩]
  else if Reg.MTL_META_STATUS.holds off then
    [⟨47, 16, min (2 ^ 32 - 1) (s.md.store.walks.length + s.md.shadow.walks.length)⟩,
     ⟨15, 8, min 64 (2 * (s.md.log.filter fun p => p.sent && !p.durable).length)⟩]
  else []

/-- Words of the peer link and the hold-up block. -/
def shownPair (s : State) (off : Nat) : List Shown :=
  let whole := fun (w : Word) => [(⟨63, 0, w.toNat⟩ : Shown)]
  if Reg.UBL_PEER_STATE.holds off then whole (peerStateWord s)
  else if Reg.UBL_PAIR_OFFSET.holds off then whole (BitVec.ofInt 64 s.peer.pairOffset)
  else if Reg.UBL_LEASE_STATUS.holds off then whole (leaseStatusWord s)
  else if Reg.UBL_GROUP_STATUS.holds off then
    whole (setBits (groupStatusWord s (Reg.UBL_GROUP_STATUS.index off)) 15 8 (Config.observed off s.now))
  else if Reg.HUP_STATUS.holds off then
    [⟨16, 16, bit (unconfigured s)⟩, ⟨13, 13, bit (s.fld Reg.fHUP_CFG_TEST_INTERVAL_H == 0)⟩, ⟨9, 9, bit (vaultReady s)⟩,
     ⟨8, 8, bit s.hup.armed⟩, ⟨2, 0, hupCode s.hup.st⟩]
  else if Reg.HUP_MEAS.holds off then [⟨63, 48, energyJ s⟩, ⟨47, 32, s.hup.cMeas.getD 0⟩, ⟨15, 0, unsigned 16 s.hup.vMv⟩]
  else []

/-- Words of the engines, the map cache, the Keeper, the Signal controller and the power block. -/
def shownChip (s : State) (off : Nat) : List Shown :=
  let used := fun (lo n : Nat) => (s.eng.ctxs.filter fun c => c.busy && lo ≤ c.index && c.index < lo + n).length
  if Reg.CRY_STATUS.holds off then
    [⟨39, 28, 2048 - used 1024 2048⟩, ⟨11, 0, 1024 - used 0 1024⟩]
  else if Reg.DIG_CTX_STATUS.holds off then
    match s.ctx (Reg.DIG_CTX_STATUS.index off) with
    | none => []
    | some c => [⟨63, 60, ctxCode c.st⟩, ⟨59, 56, c.owner⟩, ⟨55, 52, c.serial⟩, ⟨47, 32, if c.early then cRESULT_NOT_READY else c.code⟩, ⟨7, 0, c.mode⟩]
  else if Reg.MCC_STATS.holds off then [⟨63, 56, Config.observed off s.now % 101⟩]
  else if Reg.MCC_SIEVE_STATUS.holds off then [⟨39, 8, s.wr.sieve.length⟩, ⟨4, 0, s.lens.live.sieveUnits.length⟩]
  else if Reg.MCC_CTRL.holds off then [⟨11, 8, s.lens.live.scratchWays⟩]
  else if Reg.KPR_HOURS.holds off then [⟨47, 16, s.opHours⟩, ⟨15, 0, s.opTicks % 65536⟩]
  else if Reg.KPR_LOG_STATUS.holds off then [⟨14, 0, s.kpr.records.length⟩]
  else if Reg.KPR_SENSOR.holds off then [⟨63, 0, (sensorImage (Reg.KPR_SENSOR.index off) s).toNat⟩]
  else if Reg.SIG_STATUS.holds off then [⟨63, 63, bit s.suspended⟩]
  else if Reg.SIG_PEND_SET.holds off then (List.range 64).map fun k => ⟨k, k, bit (s.sig.pend.contains (64 * Reg.SIG_PEND_SET.index off + k))⟩
  else if Reg.SIG_PEND_CLR.holds off then (List.range 64).map fun k => ⟨k, k, bit (s.sig.pend.contains (64 * Reg.SIG_PEND_CLR.index off + k))⟩
  else if Reg.PWR_DOMAIN_STATUS.holds off then [⟨9, 8, planMode (Reg.PWR_DOMAIN_STATUS.index off) s⟩]
  else if Reg.PWR_ISLAND_FREQ.holds off then
    let i := Reg.PWR_ISLAND_FREQ.index off
    [⟨15, 8, lookupD 0 i s.lens.live.freq⟩, ⟨7, 0, freqNow s i⟩]
  else []

/-- The block of an offset chooses which of the lists holds its register. -/
def shown (s : State) (off : Nat) : List Shown :=
  match blockOf off with
  | 0 | 1 | 2 | 3 => shownLens s off
  | 6 | 7 | 8 => shownData s off
  | 10 | 16 => shownPair s off
  | _ => shownChip s off

/-- Fields that read as zero: those that are written only (00 Table 0.2). -/
def hideWo (d : RegDef) (w : Word) : Word := d.fields.foldl (fun w f => if f.acc == .wo then setBits w f.hi f.lo 0 else w) w

/-- An 8-byte read of a BAR0 register without an effect of its own; a reserved offset or a misaligned read gives zero (03 R66, 00 R9). In boot recovery only GLB and TSK answer (19 R450). -/
def readReg (off : Nat) (s : State) : Word :=
  match regAt off with
  | none => 0
  | some d =>
    if s.boot.recovery && 1 < blockOf off then 0
    else hideWo d ((shown s off).foldl (fun w f => setBits w f.hi f.lo f.val) (s.word off))

/-- A 4-byte read of either half (03 R66). -/
def readHalf (off : Nat) (s : State) : BitVec 32 :=
  if off % 4 != 0 then 0
  else BitVec.ofNat 32 ((readReg (off / 8 * 8) s).toNat >>> (8 * (off % 8)))

/-- A byte of the BAR2 scratch window; zero beyond it (03 R73). -/
def readScratch (a : Nat) (s : State) : BitVec 8 := if a < 4 * 2 ^ 20 * s.lens.live.scratchWays then memRead a s.scratch else 0

end Sys2Proof.Machine
end

