-- ==== Sys2Proof/Machine/RegWrite.lean ====
section
/-!
DEFINITION. BAR0 register writes, staged register writes, BAR2 scratch writes (02 R50, R524; 03 R52, R55, R64 to R67, R73).
-/
namespace Sys2Proof.Machine

/-! ## Who may write, and when -/

/-- The task window whose page holds an offset. -/
def windowAt (off : Nat) : Option Nat := if 0x11000 ≤ off && off < 0x15000 then some ((off - 0x11000) / 0x1000) else none

/-- A register of a job channel, by its four writable registers. -/
def channelReg (off : Nat) : Option (Nat × Nat) :=
  let at_ := fun (b n : Nat) => if b ≤ off && off < b + 0x100 * n then some ((off - b) / 0x100) else none
  match at_ 0xA01000 15, at_ 0xC01000 14, at_ 0xD01000 12 with
  | some k, _, _ => some (0, k)
  | _, some k, _ => some (1, k)
  | _, _, some k => some (2, k)
  | _, _, _ => none

/-- A channel is enabled. -/
def channelOn (s : State) (b k : Nat) : Bool :=
  if b = 0 then s.flag Reg.fCRY_CH_CTRL_EN k else if b = 1 then s.flag Reg.fCMP_CH_CTRL_EN k else s.flag Reg.fPAT_CH_CTRL_EN k

/-- SIZE_LOG2 of a channel. -/
def channelSize (s : State) (b k : Nat) : Nat :=
  if b = 0 then s.fld Reg.fCRY_CH_CTRL_SIZE_LOG2 k else if b = 1 then s.fld Reg.fCMP_CH_CTRL_SIZE_LOG2 k else s.fld Reg.fPAT_CH_CTRL_SIZE_LOG2 k

/-- The digest context whose page holds an offset (14 R364). -/
def digestAt (off : Nat) : Option Nat := if 0xA40000 ≤ off && off < 0xA80000 then some ((off - 0xA40000) / 0x100) else none

/-- A write refused for who writes it (03 R52, 14 R364, 19 R450). -/
def writeBarred (off : Nat) (s : State) : Bool :=
  (s.boot.recovery && (1 < blockOf off || (windowAt off).any (· != 0))) ||
  windowAt off == some 2 || (windowAt off == some 3 && !s.jtagOpen) ||
  (channelReg off).any (fun c => c.1 == 0 && 8 ≤ c.2) || (0xA00A00 ≤ off && off < 0xA00BC0)

/-! ## Legal values (03 R64) -/

/-- Every bit of the word lies in a field, and every field that a write can set is within its range. -/
def fieldsLegal (d : RegDef) (w : Word) : Bool :=
  let m := (d.fields.map fun f => mask f.hi f.lo).foldl (· ||| ·) 0
  w.toNat &&& m == w.toNat && d.fields.all fun f => f.acc != .rw || (f.min ≤ bits w f.hi f.lo && bits w f.hi f.lo ≤ f.max)

/-- A counter register that takes only zero (06 R161, 09, 16 R407, R408). -/
def zeroOnly (off : Nat) : Bool :=
  Reg.PTL_VERIFY_STATS.holds off || Reg.SML_PORT_ERR.holds off || Reg.MTL_LDPC_STATS.holds off || Reg.MEM_CH_STATUS.holds off || Reg.MCC_STATS.holds off

/-- The fields of the register that a write can set are zero. -/
def settableZero (d : RegDef) (w : Word) : Bool := d.fields.all fun f => f.acc != .rw || bits w f.hi f.lo == 0

/-- Word 0 and word 3 of a port interface table entry: reserved bits, prefix length, VLAN (04 Table 4.1). -/
def ifWordLegal (off : Nat) (w : Word) : Bool :=
  match (off - Reg.HFE_IF.base) / 8 % 4 with
  | 0 =>
    bits w 7 5 == 0 && bits w 31 31 == 0 && bits w 63 48 == 0 && bits w 27 16 != 0xFFF &&
    bits w 15 8 ≤ (if bits w 1 1 == 1 then 128 else 32) && (bits w 0 0 == 0 || bits w 15 8 != 0)
  | 3 => w == 0
  | _ => true

/-- What a register's own rule asks of its value. -/
def ownRule (off : Nat) (w : Word) (s : State) : Bool :=
  let f := fun (x : Fld) => bits w x.hi x.lo
  if Reg.HFE_QOS_CFG.holds off then popcount (f Reg.fHFE_QOS_CFG_PFC_MASK) 8 ≤ 2
  else if Reg.HFE_IF.holds off then ifWordLegal off w
  else if Reg.MTL_REBUILD_CFG.holds off then f Reg.fMTL_REBUILD_CFG_MAX_PCT ≤ f Reg.fMTL_REBUILD_CFG_CRIT_PCT
  else if Reg.MTL_FM_CFG.holds off then
    f Reg.fMTL_FM_CFG_FOLD_START_PCT < f Reg.fMTL_FM_CFG_FOLD_URGENT_PCT && f Reg.fMTL_FM_CFG_GC_URGENT_PCT < f Reg.fMTL_FM_CFG_GC_START_PCT
  else if Reg.MTL_BG_CFG.holds off then f Reg.fMTL_BG_CFG_REPL_PCT ≤ f Reg.fMTL_BG_CFG_BG_PCT
  else if Reg.SIG_ROUTE.holds off then
    let k := f Reg.fSIG_ROUTE_KIND
    k == 0 || (k == 3 && f Reg.fSIG_ROUTE_TARGET < 8) || (k != 3 && f Reg.fSIG_ROUTE_TARGET == 0)
  else if Reg.LNS_SET_CTRL.holds off then
    f Reg.fLNS_SET_CTRL_OP ≤ 4 && 5000 ≤ f Reg.fLNS_SET_CTRL_LEAD_NS && f Reg.fLNS_SET_CTRL_LEAD_NS ≤ 10000000
  else if Reg.TMB_RATE.holds off then (signed 32 (f Reg.fTMB_RATE_PPB)).natAbs ≤ 100000
  else match channelReg off with
  | some (b, k) => off % 0x100 != 0x18 || f Reg.fCRY_CH_TAIL_TAIL < 2 ^ channelSize s b k
  | none => true

/-- The value is legal. TSK_BULK_CTRL is checked at GO, not here (03 R60). -/
def valueLegal (d : RegDef) (off : Nat) (w : Word) (s : State) : Bool :=
  Reg.TSK_BULK_CTRL.holds off || (fieldsLegal d w && (!zeroOnly off || settableZero d w) && ownRule off w s)

/-! ## Conflicts with the state -/

/-- A write that the state of its unit refuses (03 R55; 14 R345, R364; 17 R427; 18 SIG_EVQ; 21 R502). -/
def writeConflict (off : Nat) (w : Word) (s : State) : Bool :=
  (windowAt off).any s.busy ||
  (Reg.KPR_MBOX_DATA.holds off && s.flag Reg.fKPR_MBOX_STATUS_BUSY) ||
  (Reg.TMB_RATE.holds off && s.flag Reg.fHFE_PTP_CFG_EN) ||
  (Reg.SIG_EVQ_BASE.holds off && s.flag Reg.fSIG_EVQ_CTRL_EN) ||
  (Reg.SIG_EVQ_CTRL.holds off && s.flag Reg.fSIG_EVQ_CTRL_EN && bits w 4 0 != s.fld Reg.fSIG_EVQ_CTRL_SIZE_LOG2) ||
  (channelReg off).any (fun c => channelOn s c.1 c.2 &&
    (off % 0x100 < 0x10 || (off % 0x100 == 0x10 && bits w 4 0 != channelSize s c.1 c.2))) ||
  (digestAt off).any (fun c => match s.ctx c with
    | none => true
    | some x => 8 ≤ x.owner || (x.st == .finalising && (off % 0x100 == 0x08 || off % 0x100 == 0x10 || 0x80 ≤ off % 0x100)))

/-! ## What a legal write does -/

/-- The state a command answers. -/
def settled (s : State) : Host.Outcome State Fault Refusal → State
  | .next t => t
  | _ => s

/-- Bits written 1 to clear flags. -/
def clearedBits (d : RegDef) (w : Word) : Word :=
  d.fields.foldl (fun c f => if f.acc == .w1c then setBits c f.hi f.lo (bits w f.hi f.lo) else c) 0

/-- The stored word after a plain write: writable fields take their bits, flags written 1 are cleared, the rest stays (00 Table 0.2). -/
def storedWord (d : RegDef) (old w : Word) : Word :=
  d.fields.foldl (fun o f => if f.acc == .wo then setBits o f.hi f.lo (bits w f.hi f.lo) else o) (mergeWord d old w) &&& ~~~ clearedBits d w

/-- A capture: an ERR_CAPTURE register, GLB_BAR2_ERR or MEM_UE_LOG, which VALID clears whole (03 R65, 16 R393). -/
def isCapture (off : Nat) : Bool := off == 0x28 || off == Reg.MEM_UE_LOG.base || blocks.any fun b => off == b.1 + 0x18

/-- Sources that the clearing of a flag fires: those of a port, of a peer-link group and of the pins, whose rule is each change (09 R226, 11 R294). -/
def clearFires (off : Nat) (gone : Word) (s : State) : State :=
  if gone == 0 then s
  else if Reg.SML_PORT_STATUS.holds off then firePort ((off - Reg.SML_PORT_STATUS.base) / 8) s
  else if Reg.UBL_GROUP_STATUS.holds off then fireGroup ((off - Reg.UBL_GROUP_STATUS.base) / 8) s
  else if Reg.UBL_PEER_STATE.holds off then
    let s := if gone.getLsbD 6 then fire 514 s else s
    if gone.getLsbD 7 then fire 515 s else s
  else s

/-- A write of a register without behaviour of its own. -/
def plainWrite (d : RegDef) (off : Nat) (w : Word) (s : State) : State :=
  let old := s.word off
  if isCapture off then (if bits w 63 63 == 1 then s.setWord off 0 else s)
  else if Reg.TSK_BULK_CTRL.holds off then s.setWord off w
  else
    let s := clearFires off (old &&& clearedBits d w) (s.setWord off (storedWord d old w))
    if d.staged then regCommitted off old s else s

/-- The opcodes of 03 Table 3.4. -/
def taskOpcodes : List Nat :=
  List.range' 0x0001 5 ++ List.range' 0x0101 6 ++ List.range' 0x0201 7 ++ List.range' 0x0301 5 ++ List.range' 0x0401 4 ++
  List.range' 0x0501 3 ++ List.range' 0x0601 8 ++ List.range' 0x0701 5 ++ List.range' 0x0801 5 ++ List.range' 0x0901 2 ++
  List.range' 0x0A01 6 ++ [0x0B01] ++ List.range' 0x0C01 2 ++ List.range' 0x0D01 3

/-- GO with an opcode that the table does not give: BAD_OPCODE (03 R62); a GO in W1 replaces TSK_NONCE all the same (R61). -/
def badGo (n : Nat) (s : State) : State :=
  let p := s.draw
  let s := if n == 1 then p.2.setWord 0x12400 p.1 else s
  let s := clearRegs (winBase n + 0x200) (winBase n + 0x2E8) s
  finishWindow n cBAD_OPCODE 0 s

/-- A write of LNS_SET_CTRL by its OP (02 LNS_SET_CTRL). -/
def setCtrlWrite (n : Fin 8) (w : Word) : State → Host.Outcome State Fault Refusal :=
  let lead := w.extractLsb' 32 32
  let force := w.getLsbD 8
  match bits w 7 0 with
  | 1 => execLnsSetOpen n lead force
  | 2 => execLnsSetCheck n lead force
  | 3 => execLnsSetCommit n lead force
  | 4 => execLnsSetDiscard n lead force
  | _ => execLnsSetNoOperation n lead force

/-- A legal write of a register with behaviour of its own; none for another. -/
def ownWrite (off : Nat) (w : Word) (s : State) : Option State :=
  let k := fun (b : Nat) => Fin.ofNat 64 ((off - b) / 8)
  let one := w.getLsbD 0
  if Reg.SIG_PEND_SET.holds off then some (settled s (execSigPendSet (k Reg.SIG_PEND_SET.base) w s))
  else if Reg.SIG_PEND_CLR.holds off then some (settled s (execSigPendClr (k Reg.SIG_PEND_CLR.base) w s))
  else if Reg.SIG_HOST_SLEEP.holds off then some (settled s (execSigHostSleep one s))
  else if Reg.SIG_EVQ_CTRL.holds off && w.getLsbD 8 then some (settled s (execEventQueueEnable (Fin.ofNat 32 (bits w 4 0)) s))
  else if Reg.MCC_CTRL.holds off then
    some (settled s (if one then execMccEnable (k Reg.MCC_CTRL.base) s else execMccDisable (k Reg.MCC_CTRL.base) s))
  else if Reg.LNS_SET_CTRL.holds off then some (settled s (setCtrlWrite (Fin.ofNat 8 ((off - Reg.LNS_SET_CTRL.base) / 64)) w s))
  else if Reg.KPR_MBOX_CTRL.holds off then some (if one then settled s (execManagementSettingsSubmit s) else s)
  else if Reg.TMB_WALL_OFFSET.holds off then some (settled s (execTmbWallOffsetWrite w s))
  else if Reg.DIG_CTX_CTRL.holds off then some (if one then settled s (execDigCtxRelease (Fin.ofNat 1024 ((off - Reg.DIG_CTX_CTRL.base) / 256)) s) else s)
  else if Reg.PAT_LOAD_CTRL.holds off && w.getLsbD 63 then some (settled s (execPatternLoad (Fin.ofNat 16777216 (bits w 23 0)) none s))
  else if Reg.TSK_GO.holds off then some (if one then badGo ((off - Reg.TSK_GO.base) / 4096) s else s)
  else none

/-- A live write that has passed every check. -/
def liveWrite (d : RegDef) (off : Nat) (w : Word) (s : State) : State := (ownWrite off w s).getD (plainWrite d off w s)

/-- Why a BAR0 write is discarded, if it is: alignment, a reserved offset, who writes, the value, the state (03 R52, R55, R64, R66, R67; order: log 22). -/
def writeFault (off : Nat) (whole : Bool) (w : Word) (s : State) : Option Nat :=
  if !whole || off % 8 != 0 then some cBAD_ALIGN
  else match regAt off with
  | none => some cBAD_FIELD
  | some d =>
    if writeBarred off s then some cNOT_PERMITTED
    else if !valueLegal d off w s then some cBAD_FIELD
    else if writeConflict off w s then some cSTATE_CONFLICT
    else none

/-- A legal write to a staged register while LNS_STAGE_SELECT.EN is set goes to the selected set's shadow, or is recorded in LNS_ERR_CAPTURE where the set does not take it (02 R524). -/
def stageWrite (off : Nat) (w : Word) (s : State) : State :=
  let n := s.fld Reg.fLNS_STAGE_SELECT_SET
  if canStage n s (regClaims off) then stageReg n off w s
  else fillCapture Reg.LNS_ERR_CAPTURE.base cSTATE_CONFLICT off (some 2) s

/-- A BAR0 write. -/
def writeReg (off : Nat) (whole : Bool) (w : Word) (s : State) : State :=
  match writeFault off whole w s, regAt off with
  | none, some d => if d.staged && s.flag Reg.fLNS_STAGE_SELECT_EN then stageWrite off w s else liveWrite d off w s
  | some c, _ => captureErr c off s
  | none, none => s

/-- A GO that starts a task command of its own row. -/
def startsTask (off : Nat) (w : Word) (s : State) : Bool :=
  Reg.TSK_GO.holds off && w.getLsbD 0 && taskOpcodes.contains (s.fld Reg.fTSK_OPCODE_OPCODE ((off - Reg.TSK_GO.base) / 4096))

/-- What window `n` holds at a GO written through BAR0 (03 R54): opcode word, arguments, bulk registers; the fresh nonce is a free value. -/
def windowReq (n : Fin 4) (s : State) : TaskReq :=
  let b := winBase n
  { window := n, path := .bar0, notify := s.flag Reg.fTSK_OPCODE_NOTIFY n,
    args := (List.range' 1 31).map fun a => s.word (b + 8 * a),
    bulkAddr := s.word (b + 0x300), bulkCtrl := s.word (b + 0x308), frags := [], bulkFault := none,
    token := { nonce := 0, opcode := 0, digestOk := false, sigOk := false }, nonce := s.draw.1, resume := false }

/-- The task commands whose row carries nothing but the window: by opcode. -/
def windowTask (op : Nat) (r : TaskReq) : Option (State → Host.Outcome State Fault Refusal) :=
  match op with
  | 0x0001 => some (execNop r)
  | 0x0002 => some (execIdentify r)
  | 0x0003 => some (execJobStatus r)
  | 0x0004 => some (execJobResult r)
  | 0x0005 => some (execJobCancel r)
  | 0x0101 => some (execStageOpen r)
  | 0x0103 => some (execStageCheck r)
  | 0x0104 => some (execStageCommit r)
  | 0x0105 => some (execStageDiscard r)
  | 0x0106 => some (execSectorRelens r)
  | 0x0201 => some (execNsCreate r)
  | 0x0202 => some (execNsDelete r)
  | 0x0203 => some (execNsModify r)
  | 0x0205 => some (execHostRemove r)
  | 0x0206 => some (if r.argBits 2 32 32 == 1 then execNsAccessGrant r else execNsAccessRevoke r)
  | 0x0301 => some (execSnapCreate r)
  | 0x0302 => some (execSnapDelete r)
  | 0x0303 => some (execCloneCreate r)
  | 0x0304 => some (execSnapLock r)
  | 0x0305 => some (execSnapList r)
  | 0x0401 => some (execAnaStage r)
  | 0x0402 => some (execPeerStatus r)
  | 0x0403 => some (execBeaconConfig r)
  | 0x0502 => some (execKeyErase r)
  | 0x0503 => some (execKeyStatus r)
  | 0x0602 => some (execUpdStatus r)
  | 0x0605 => some (execUpdConfirm r)
  | 0x0607 => some (execLedgerExport r)
  | 0x0702 => some (execReplPartnerRemove r)
  | 0x0704 => some (if r.argBits 2 0 0 == 0 then execReplStop r else execReplPromote r)
  | 0x0705 => some (execReplStatus r)
  | 0x0801 => some (execModuleList r)
  | 0x0803 => some (execModuleRetire r)
  | 0x0804 => some (execPortRebind r)
  | 0x0805 => some (execLayoutSet r)
  | 0x0901 => some (execScrubRange r)
  | 0x0902 => some (execBucketConfig r)
  | 0x0A01 => some (execHealthRead r)
  | 0x0A02 => some (execLogRead r)
  | 0x0A03 => some (execLogConfig r)
  | 0x0A04 => some (execSensorRead r)
  | 0x0A06 => some (execFogClear r)
  | 0x0B01 => some (execSigRouteStage r)
  | 0x0C01 => some (execUnitFence r)
  | 0x0C02 => some (execUnitSubstitute r)
  | 0x0D02 => some (execDiagTrace r)
  | 0x0D03 => some (execDiagPeek r)
  | _ => none

/-- A GO by register write of a task command that needs nothing of host memory: no fragment list, no token to verify. None where the command's data, its fragments or its token's signature stand outside the window: those are the operands of its own row. -/
def windowGo (n : Fin 4) (s : State) : Option (Host.Outcome State Fault Refusal) :=
  let r := windowReq n s
  if bits r.bulkCtrl 33 33 == 1 || (n.val == 1 && s.ownerKey) then none
  else (windowTask (s.fld Reg.fTSK_OPCODE_OPCODE n) r).map fun f => f s.draw.2

/-- A BAR0 write, a GO among them. -/
def busWrite (off : Nat) (whole : Bool) (w : Word) (s : State) : Host.Outcome State Fault Refusal :=
  if s.up && (writeFault off whole w s).isNone && startsTask off w s then
    (windowGo (Fin.ofNat 4 ((off - Reg.TSK_GO.base) / 4096)) s).getD (.fault .illFormed)
  else act (writeReg off whole w) s

/-- REGISTER_WRITE of 8 bytes, or of 4 when not `whole`. A GO that starts a task command runs it on what its window holds; where the command takes data from host memory or a token, it is spelt as that command's own row, and as this row is ill-formed (log 24). -/
def execRegisterWrite (off : Fin 67108864) (whole : Bool) (w : Word) (s : State) : Host.Outcome State Fault Refusal :=
  busWrite off whole w s

/-- STAGED_REGISTER_WRITE (02 R524): an 8-byte write. -/
def execStagedRegisterWrite (off : Fin 67108864) (w : Word) (s : State) : Host.Outcome State Fault Refusal :=
  busWrite off true w s

/-- BAR2_SCRATCH_WRITE (03 R73): bytes from a BAR2 offset; beyond the live window discarded with NOT_PERMITTED in GLB_BAR2_ERR. -/
def execBar2ScratchWrite (off : Fin 67108864) (bytes : List Byte) : State → Host.Outcome State Fault Refusal :=
  act fun s =>
    if off.val + bytes.length ≤ 4 * 2 ^ 20 * s.lens.live.scratchWays then
      { s with scratch := memWriteAll off bytes s.scratch }
    else fillCapture Reg.GLB_BAR2_ERR.base cNOT_PERMITTED off none s

end Sys2Proof.Machine
end

