-- ==== Sys2Proof/Machine/Dispatch.lean ====
section
/-!
DEFINITION. The meaning of each command, one arm each.
-/
namespace Sys2Proof.Machine

def exec (i : Instr) (s : State) : Host.Outcome State Fault Refusal :=
  match i with
  | .registerWrite off whole w => Sys2Proof.Machine.execRegisterWrite off whole w s
  | .bar2ScratchWrite off bytes => Sys2Proof.Machine.execBar2ScratchWrite off bytes s
  | .stagedRegisterWrite off w => Sys2Proof.Machine.execStagedRegisterWrite off w s
  | .lnsSetOpen n lead force => Sys2Proof.Machine.execLnsSetOpen n lead force s
  | .lnsSetCheck n lead force => Sys2Proof.Machine.execLnsSetCheck n lead force s
  | .lnsSetCommit n lead force => Sys2Proof.Machine.execLnsSetCommit n lead force s
  | .lnsSetDiscard n lead force => Sys2Proof.Machine.execLnsSetDiscard n lead force s
  | .lnsSetNoOperation n lead force => Sys2Proof.Machine.execLnsSetNoOperation n lead force s
  | .epochAckDeadline n late => Sys2Proof.Machine.execEpochAckDeadline n late s
  | .epochSwitch w => Sys2Proof.Machine.execEpochSwitch w s
  | .islandTimeFault island => Sys2Proof.Machine.execIslandTimeFault island s
  | .relensDrainComplete => Sys2Proof.Machine.execRelensDrainComplete s
  | .islandLoadComplete island ok => Sys2Proof.Machine.execIslandLoadComplete island ok s
  | .lensSetRecordDurable => Sys2Proof.Machine.execLensSetRecordDurable s
  | .nop r => Sys2Proof.Machine.execNop r s
  | .identify r => Sys2Proof.Machine.execIdentify r s
  | .jobStatus r => Sys2Proof.Machine.execJobStatus r s
  | .jobResult r => Sys2Proof.Machine.execJobResult r s
  | .jobCancel r => Sys2Proof.Machine.execJobCancel r s
  | .jobEnd n => Sys2Proof.Machine.execJobEnd n s
  | .stageOpen r => Sys2Proof.Machine.execStageOpen r s
  | .stageLens r img => Sys2Proof.Machine.execStageLens r img s
  | .stageCheck r => Sys2Proof.Machine.execStageCheck r s
  | .stageCommit r => Sys2Proof.Machine.execStageCommit r s
  | .stageDiscard r => Sys2Proof.Machine.execStageDiscard r s
  | .sectorRelens r => Sys2Proof.Machine.execSectorRelens r s
  | .upstreamReset reached => Sys2Proof.Machine.execUpstreamReset reached s
  | .keeperRestartGoHeld opcode r => Sys2Proof.Machine.execKeeperRestartGoHeld opcode r s
  | .nsCreate r => Sys2Proof.Machine.execNsCreate r s
  | .nsDelete r => Sys2Proof.Machine.execNsDelete r s
  | .nsModify r => Sys2Proof.Machine.execNsModify r s
  | .hostAdd r nqn secret psk opens => Sys2Proof.Machine.execHostAdd r nqn secret psk opens s
  | .hostRemove r => Sys2Proof.Machine.execHostRemove r s
  | .nsAccessGrant r => Sys2Proof.Machine.execNsAccessGrant r s
  | .nsAccessRevoke r => Sys2Proof.Machine.execNsAccessRevoke r s
  | .dictLoad r bytes valid unnamed => Sys2Proof.Machine.execDictLoad r bytes valid unnamed s
  | .snapCreate r => Sys2Proof.Machine.execSnapCreate r s
  | .snapDelete r => Sys2Proof.Machine.execSnapDelete r s
  | .cloneCreate r => Sys2Proof.Machine.execCloneCreate r s
  | .snapLock r => Sys2Proof.Machine.execSnapLock r s
  | .snapList r => Sys2Proof.Machine.execSnapList r s
  | .anaStage r => Sys2Proof.Machine.execAnaStage r s
  | .peerStatus r => Sys2Proof.Machine.execPeerStatus r s
  | .beaconConfig r => Sys2Proof.Machine.execBeaconConfig r s
  | .peerAdmit r ifaceEqual fwEqual => Sys2Proof.Machine.execPeerAdmit r ifaceEqual fwEqual s
  | .keyLoad r b => Sys2Proof.Machine.execKeyLoad r b s
  | .keyErase r => Sys2Proof.Machine.execKeyErase r s
  | .keyStatus r => Sys2Proof.Machine.execKeyStatus r s
  | .updPiece r p => Sys2Proof.Machine.execUpdPiece r p s
  | .updStatus r => Sys2Proof.Machine.execUpdStatus r s
  | .updVerify r bad => Sys2Proof.Machine.execUpdVerify r bad s
  | .updActivate r partner => Sys2Proof.Machine.execUpdActivate r partner s
  | .updArm r => Sys2Proof.Machine.execUpdArm r s
  | .updRevert r => Sys2Proof.Machine.execUpdRevert r s
  | .updConfirm r => Sys2Proof.Machine.execUpdConfirm r s
  | .updFetch r anchor sigs dates pieces code => Sys2Proof.Machine.execUpdFetch r anchor sigs dates pieces code s
  | .ledgerExport r => Sys2Proof.Machine.execLedgerExport r s
  | .fuseEnrolOwnerKey r key => Sys2Proof.Machine.execFuseEnrolOwnerKey r key s
  | .fuseRaiseCounter r => Sys2Proof.Machine.execFuseRaiseCounter r s
  | .fuseRevokeHedavyKey r sigOk => Sys2Proof.Machine.execFuseRevokeHedavyKey r sigOk s
  | .fuseBlowJtagDisabled r => Sys2Proof.Machine.execFuseBlowJtagDisabled r s
  | .replPartnerAdd r pairId addrs psk => Sys2Proof.Machine.execReplPartnerAdd r pairId addrs psk s
  | .replPartnerRemove r => Sys2Proof.Machine.execReplPartnerRemove r s
  | .replStart r conn rand => Sys2Proof.Machine.execReplStart r conn rand s
  | .replStop r => Sys2Proof.Machine.execReplStop r s
  | .replPromote r => Sys2Proof.Machine.execReplPromote r s
  | .replStatus r => Sys2Proof.Machine.execReplStatus r s
  | .moduleList r => Sys2Proof.Machine.execModuleList r s
  | .moduleAdmit r bad => Sys2Proof.Machine.execModuleAdmit r bad s
  | .moduleRetire r => Sys2Proof.Machine.execModuleRetire r s
  | .portRebind r => Sys2Proof.Machine.execPortRebind r s
  | .layoutSet r => Sys2Proof.Machine.execLayoutSet r s
  | .scrubRange r => Sys2Proof.Machine.execScrubRange r s
  | .bucketConfig r => Sys2Proof.Machine.execBucketConfig r s
  | .healthRead r => Sys2Proof.Machine.execHealthRead r s
  | .logRead r => Sys2Proof.Machine.execLogRead r s
  | .logConfig r => Sys2Proof.Machine.execLogConfig r s
  | .sensorRead r => Sys2Proof.Machine.execSensorRead r s
  | .holdupTest r v rise => Sys2Proof.Machine.execHoldupTest r v rise s
  | .fogClear r => Sys2Proof.Machine.execFogClear r s
  | .sigRouteStage r => Sys2Proof.Machine.execSigRouteStage r s
  | .unitFence r => Sys2Proof.Machine.execUnitFence r s
  | .unitFenceClear r => Sys2Proof.Machine.execUnitFenceClear r s
  | .unitSubstitute r => Sys2Proof.Machine.execUnitSubstitute r s
  | .unitSubstituteRestore r => Sys2Proof.Machine.execUnitSubstituteRestore r s
  | .diagInject r w => Sys2Proof.Machine.execDiagInject r w s
  | .diagTrace r => Sys2Proof.Machine.execDiagTrace r s
  | .diagPeek r => Sys2Proof.Machine.execDiagPeek r s
  | .hostLaneOpen lane => Sys2Proof.Machine.execHostLaneOpen lane s
  | .hostLaneShort lane => Sys2Proof.Machine.execHostLaneShort lane s
  | .hostLaneRetest lane good => Sys2Proof.Machine.execHostLaneRetest lane good s
  | .hostPortTraining port found => Sys2Proof.Machine.execHostPortTraining port found s
  | .hostFrameReceive port addr vlan => Sys2Proof.Machine.execHostFrameReceive port addr vlan s
  | .congestionNotification cntlid qid => Sys2Proof.Machine.execCongestionNotification cntlid qid s
  | .rateRecoveryTimer cntlid qid => Sys2Proof.Machine.execRateRecoveryTimer cntlid qid s
  | .ptpEventMessage port domain offset ppb => Sys2Proof.Machine.execPtpEventMessage port domain offset ppb s
  | .tlsHandshake conn port host suiteOk groupOk earlyData certificate => Sys2Proof.Machine.execTlsHandshake conn port host suiteOk groupOk earlyData certificate s
  | .tlsRecord conn tagOk => Sys2Proof.Machine.execTlsRecord conn tagOk s
  | .tlsKeyUpdate conn receive => Sys2Proof.Machine.execTlsKeyUpdate conn receive s
  | .connect port kind nqn hostId cntlid qid entries cid kato conn => Sys2Proof.Machine.execConnect port kind nqn hostId cntlid qid entries cid kato conn s
  | .authenticationSend cntlid cid m => Sys2Proof.Machine.execAuthenticationSend cntlid cid m s
  | .authenticationReceive cntlid cid => Sys2Proof.Machine.execAuthenticationReceive cntlid cid s
  | .propertySet cntlid cid en => Sys2Proof.Machine.execPropertySet cntlid cid en s
  | .propertyGet cntlid cid off => Sys2Proof.Machine.execPropertyGet cntlid cid off s
  | .nvmeWrite c sgl data => Sys2Proof.Machine.execNvmeWrite c sgl data s
  | .nvmeRead c sgl pt badCrc => Sys2Proof.Machine.execNvmeRead c sgl pt badCrc s
  | .writeZeroes c => Sys2Proof.Machine.execWriteZeroes c s
  | .datasetManagement c dealloc ranges => Sys2Proof.Machine.execDatasetManagement c dealloc ranges s
  | .compare c sgl data pt badCrc => Sys2Proof.Machine.execCompare c sgl data pt badCrc s
  | .copy c ranges => Sys2Proof.Machine.execCopy c ranges s
  | .flush c => Sys2Proof.Machine.execFlush c s
  | .abort cntlid cid sqid named => Sys2Proof.Machine.execAbort cntlid cid sqid named s
  | .reservationRegister c action cur new iekey cptpl => Sys2Proof.Machine.execReservationRegister c action cur new iekey cptpl s
  | .reservationAcquire c action cur prev rtype => Sys2Proof.Machine.execReservationAcquire c action cur prev rtype s
  | .reservationRelease c action cur rtype => Sys2Proof.Machine.execReservationRelease c action cur rtype s
  | .reservationReport c => Sys2Proof.Machine.execReservationReport c s
  | .nvmeIdentify cntlid cid cns nsid => Sys2Proof.Machine.execNvmeIdentify cntlid cid cns nsid s
  | .getLogPage cntlid cid lid => Sys2Proof.Machine.execGetLogPage cntlid cid lid s
  | .setFeatures cntlid cid fid value nsid apst => Sys2Proof.Machine.execSetFeatures cntlid cid fid value nsid apst s
  | .getFeatures cntlid cid fid nsid => Sys2Proof.Machine.execGetFeatures cntlid cid fid nsid s
  | .keepAlive cntlid cid => Sys2Proof.Machine.execKeepAlive cntlid cid s
  | .asynchronousEventRequest cntlid cid => Sys2Proof.Machine.execAsynchronousEventRequest cntlid cid s
  | .namespaceManagement cntlid cid create nsid size group small => Sys2Proof.Machine.execNamespaceManagement cntlid cid create nsid size group small s
  | .namespaceAttachment cntlid cid attach nsid controllers => Sys2Proof.Machine.execNamespaceAttachment cntlid cid attach nsid controllers s
  | .firmwareImageDownload cntlid cid offset p => Sys2Proof.Machine.execFirmwareImageDownload cntlid cid offset p s
  | .firmwareCommitVerify cntlid cid bad => Sys2Proof.Machine.execFirmwareCommitVerify cntlid cid bad s
  | .firmwareCommitActivate cntlid cid action fwSlot partner => Sys2Proof.Machine.execFirmwareCommitActivate cntlid cid action fwSlot partner s
  | .unsupportedOpcode cntlid qid cid => Sys2Proof.Machine.execUnsupportedOpcode cntlid qid cid s
  | .keepAliveExpiry cntlid => Sys2Proof.Machine.execKeepAliveExpiry cntlid s
  | .transportConnectionLoss cntlid => Sys2Proof.Machine.execTransportConnectionLoss cntlid s
  | .capsuleContextAdmit => Sys2Proof.Machine.execCapsuleContextAdmit s
  | .h2cDataPdu cntlid qid cid data digestOk badCrc => Sys2Proof.Machine.execH2cDataPdu cntlid qid cid data digestOk badCrc s
  | .rdmaReadCompletion cntlid qid cid ok data badCrc => Sys2Proof.Machine.execRdmaReadCompletion cntlid qid cid ok data badCrc s
  | .apstIdleTimer cntlid => Sys2Proof.Machine.execApstIdleTimer cntlid s
  | .chipPowerStateChange => Sys2Proof.Machine.execChipPowerStateChange s
  | .fwdCmd tag x badCrc => Sys2Proof.Machine.execFwdCmd tag x badCrc s
  | .fwdCpl tag st dw0 data => Sys2Proof.Machine.execFwdCpl tag st dw0 data s
  | .fwdAbort tag => Sys2Proof.Machine.execFwdAbort tag s
  | .abortRsp tag aborted => Sys2Proof.Machine.execAbortRsp tag aborted s
  | .journalAppend cntlid qid cid fwd facts => Sys2Proof.Machine.execJournalAppend cntlid qid cid fwd facts s
  | .mirrorRec r crcOk => Sys2Proof.Machine.execMirrorRec r crcOk s
  | .recAck head jseq => Sys2Proof.Machine.execRecAck head jseq s
  | .vaultPageTimer => Sys2Proof.Machine.execVaultPageTimer s
  | .vaultPageProgrammed => Sys2Proof.Machine.execVaultPageProgrammed s
  | .retire jseq => Sys2Proof.Machine.execRetire jseq s
  | .journalRecordRetire jseq => Sys2Proof.Machine.execJournalRecordRetire jseq s
  | .grainFingerprint jseq index pt f => Sys2Proof.Machine.execGrainFingerprint jseq index pt f s
  | .rowSealTimer pt domain => Sys2Proof.Machine.execRowSealTimer pt domain s
  | .rowProgramSuccess segment row => Sys2Proof.Machine.execRowProgramSuccess segment row s
  | .rowProgramFail segment row member => Sys2Proof.Machine.execRowProgramFail segment row member s
  | .anomalyScoreTick => Sys2Proof.Machine.execAnomalyScoreTick s
  | .codewordReadEscalation a hard soft => Sys2Proof.Machine.execCodewordReadEscalation a hard soft s
  | .grainVerify cntlid qid cid fwd no out => Sys2Proof.Machine.execGrainVerify cntlid qid cid fwd no out s
  | .grainReconstruction pt grain out => Sys2Proof.Machine.execGrainReconstruction pt grain out s
  | .journalFetch cntlid qid cid fwd no ok ss => Sys2Proof.Machine.execJournalFetch cntlid qid cid fwd no ok ss s
  | .repairInPlace grain read => Sys2Proof.Machine.execRepairInPlace grain read s
  | .moduleReachCheck => Sys2Proof.Machine.execModuleReachCheck s
  | .dieFault module die => Sys2Proof.Machine.execDieFault module die s
  | .segmentOpen domain use_ => Sys2Proof.Machine.execSegmentOpen domain use_ s
  | .rebuildSegment reads => Sys2Proof.Machine.execRebuildSegment reads s
  | .rebuildTransactionDurable segment => Sys2Proof.Machine.execRebuildTransactionDurable segment s
  | .freeSpaceChange => Sys2Proof.Machine.execFreeSpaceChange s
  | .fold domain reads => Sys2Proof.Machine.execFold domain reads s
  | .garbageCollection domain reads => Sys2Proof.Machine.execGarbageCollection domain reads s
  | .relocationErase segment => Sys2Proof.Machine.execRelocationErase segment s
  | .blockEraseComplete a ok => Sys2Proof.Machine.execBlockEraseComplete a ok s
  | .staticWearLevelling module reads => Sys2Proof.Machine.execStaticWearLevelling module reads s
  | .readDisturbRefresh reads => Sys2Proof.Machine.execReadDisturbRefresh reads s
  | .nandTemperatureSample module temp => Sys2Proof.Machine.execNandTemperatureSample module temp s
  | .retentionCheck => Sys2Proof.Machine.execRetentionCheck s
  | .wallWaitExpiry => Sys2Proof.Machine.execWallWaitExpiry s
  | .checkpoint => Sys2Proof.Machine.execCheckpoint s
  | .checkpointDurable => Sys2Proof.Machine.execCheckpointDurable s
  | .checkpointOverdue => Sys2Proof.Machine.execCheckpointOverdue s
  | .metadataRestart f => Sys2Proof.Machine.execMetadataRestart f s
  | .mediaLaneFault port lane short => Sys2Proof.Machine.execMediaLaneFault port lane short s
  | .mediaLaneRetest port good => Sys2Proof.Machine.execMediaLaneRetest port good s
  | .mediaPortTraining port inv0 inv1 swapped eqOk => Sys2Proof.Machine.execMediaPortTraining port inv0 inv1 swapped eqOk s
  | .lowPowerIdleTimer port => Sys2Proof.Machine.execLowPowerIdleTimer port s
  | .smlFrameReceive port crcOk control lseq ackseq cmdCredit dataCredit => Sys2Proof.Machine.execSmlFrameReceive port crcOk control lseq ackseq cmdCredit dataCredit s
  | .smlNak port ackseq => Sys2Proof.Machine.execSmlNak port ackseq s
  | .smlReplayTimer port => Sys2Proof.Machine.execSmlReplayTimer port s
  | .smlCreditAdvertisement port cmd data => Sys2Proof.Machine.execSmlCreditAdvertisement port cmd data s
  | .smlKeepAliveTimer port => Sys2Proof.Machine.execSmlKeepAliveTimer port s
  | .smlResponse via r facts => Sys2Proof.Machine.execSmlResponse via r facts s
  | .mediaPortUp port desc modPort gen otherGen fenced otherFenced => Sys2Proof.Machine.execMediaPortUp port desc modPort gen otherGen fenced otherFenced s
  | .mediaForward port => Sys2Proof.Machine.execMediaForward port s
  | .smlCmd tag module b => Sys2Proof.Machine.execSmlCmd tag module b s
  | .logPageTimer => Sys2Proof.Machine.execLogPageTimer s
  | .logPageDurable lpseq => Sys2Proof.Machine.execLogPageDurable lpseq s
  | .logPage txns => Sys2Proof.Machine.execLogPage txns s
  | .remoteDelta txn index d => Sys2Proof.Machine.execRemoteDelta txn index d s
  | .remoteAck txn index => Sys2Proof.Machine.execRemoteAck txn index s
  | .pagePull gen => Sys2Proof.Machine.execPagePull gen s
  | .counters t => Sys2Proof.Machine.execCounters t s
  | .releaseWalk => Sys2Proof.Machine.execReleaseWalk s
  | .snapshotReady id fps => Sys2Proof.Machine.execSnapshotReady id fps s
  | .metadataPageRead gen page out => Sys2Proof.Machine.execMetadataPageRead gen page out s
  | .wallClockKnown => Sys2Proof.Machine.execWallClockKnown s
  | .trainId group head letter identity split => Sys2Proof.Machine.execTrainId group head letter identity split s
  | .uberufFrameReceive group crcOk cls lseq ackseq nak credits => Sys2Proof.Machine.execUberufFrameReceive group crcOk cls lseq ackseq nak credits s
  | .uberufReplayTimer group => Sys2Proof.Machine.execUberufReplayTimer group s
  | .beaconSendTimer => Sys2Proof.Machine.execBeaconSendTimer s
  | .beacon group m => Sys2Proof.Machine.execBeacon group m s
  | .phbInEdge => Sys2Proof.Machine.execPhbInEdge s
  | .heartbeatLoss which => Sys2Proof.Machine.execHeartbeatLoss which s
  | .phbOutReadbackFault => Sys2Proof.Machine.execPhbOutReadbackFault s
  | .startWaitExpiry => Sys2Proof.Machine.execStartWaitExpiry s
  | .severMaxExpiry => Sys2Proof.Machine.execSeverMaxExpiry s
  | .raceDelayExpiry => Sys2Proof.Machine.execRaceDelayExpiry s
  | .leaseRaceTimer => Sys2Proof.Machine.execLeaseRaceTimer s
  | .prepare pairT changes => Sys2Proof.Machine.execPrepare pairT changes s
  | .ownAck pairT => Sys2Proof.Machine.execOwnAck pairT s
  | .ownGo pairT => Sys2Proof.Machine.execOwnGo pairT s
  | .ownAbort pairT => Sys2Proof.Machine.execOwnAbort pairT s
  | .drained group jseq => Sys2Proof.Machine.execDrained group jseq s
  | .rsvUpdate msg nsid r => Sys2Proof.Machine.execRsvUpdate msg nsid r s
  | .rsvAck msg => Sys2Proof.Machine.execRsvAck msg s
  | .ckptPage shadow x => Sys2Proof.Machine.execCkptPage shadow x s
  | .ringCopy r => Sys2Proof.Machine.execRingCopy r s
  | .admitDone m => Sys2Proof.Machine.execAdmitDone m s
  | .coldJoin ifaceEqual fwEqual => Sys2Proof.Machine.execColdJoin ifaceEqual fwEqual s
  | .startLeaseRead reads => Sys2Proof.Machine.execStartLeaseRead reads s
  | .pfailNAsserted => Sys2Proof.Machine.execPfailNAsserted s
  | .vaultDumpCommit cut => Sys2Proof.Machine.execVaultDumpCommit cut s
  | .shutdownExit e => Sys2Proof.Machine.execShutdownExit e s
  | .storeSenseSample v => Sys2Proof.Machine.execStoreSenseSample v s
  | .storeProbe v rise => Sys2Proof.Machine.execStoreProbe v rise s
  | .storeProbeRepeat v rise => Sys2Proof.Machine.execStoreProbeRepeat v rise s
  | .capacitanceTestDue => Sys2Proof.Machine.execCapacitanceTestDue s
  | .capacitanceTestEnd v t => Sys2Proof.Machine.execCapacitanceTestEnd v t s
  | .vaultMemberReplace => Sys2Proof.Machine.execVaultMemberReplace s
  | .dumpAreaErase => Sys2Proof.Machine.execDumpAreaErase s
  | .holdupSettingsWrite => Sys2Proof.Machine.execHoldupSettingsWrite s
  | .replicationInterval stream => Sys2Proof.Machine.execReplicationInterval stream s
  | .hello conn h id rand mine => Sys2Proof.Machine.execHello conn h id rand mine s
  | .helloAck h id rand mac => Sys2Proof.Machine.execHelloAck h id rand mac s
  | .proof h mac => Sys2Proof.Machine.execProof h mac s
  | .rekey h gen => Sys2Proof.Machine.execRekey h gen s
  | .rekeyLimit conn => Sys2Proof.Machine.execRekeyLimit conn s
  | .keepalive h => Sys2Proof.Machine.execKeepalive h s
  | .keepaliveIdleTimer conn => Sys2Proof.Machine.execKeepaliveIdleTimer conn s
  | .connectionSilenceTimer conn => Sys2Proof.Machine.execConnectionSilenceTimer conn s
  | .streamOpen h m fps => Sys2Proof.Machine.execStreamOpen h m fps s
  | .fpBatch h last entries resident held => Sys2Proof.Machine.execFpBatch h last entries resident held s
  | .fpWant h fseq keys reads => Sys2Proof.Machine.execFpWant h fseq keys reads s
  | .data h entries => Sys2Proof.Machine.execData h entries s
  | .mapRun h last runs => Sys2Proof.Machine.execMapRun h last runs s
  | .cursor h key fps => Sys2Proof.Machine.execCursor h key fps s
  | .diffEnd h m => Sys2Proof.Machine.execDiffEnd h m s
  | .syncRec h jseq r => Sys2Proof.Machine.execSyncRec h jseq r s
  | .syncAck h jseq code => Sys2Proof.Machine.execSyncAck h jseq code s
  | .close h code => Sys2Proof.Machine.execClose h code s
  | .syncHoldExpiry stream => Sys2Proof.Machine.execSyncHoldExpiry stream s
  | .reconnectRetry partner conn rand => Sys2Proof.Machine.execReconnectRetry partner conn rand s
  | .cryOpen ch d => Sys2Proof.Machine.execCryOpen ch d s
  | .cryUpdate ch d => Sys2Proof.Machine.execCryUpdate ch d s
  | .cryFinal ch d => Sys2Proof.Machine.execCryFinal ch d s
  | .crySingle ch d => Sys2Proof.Machine.execCrySingle ch d s
  | .cryClose ch d => Sys2Proof.Machine.execCryClose ch d s
  | .crySave ch d => Sys2Proof.Machine.execCrySave ch d s
  | .ecdsaVerify ch d => Sys2Proof.Machine.execEcdsaVerify ch d s
  | .ecdsaSign ch d => Sys2Proof.Machine.execEcdsaSign ch d s
  | .cryChannelDisable ch => Sys2Proof.Machine.execCryChannelDisable ch s
  | .cryContextIdleExpiry ctx => Sys2Proof.Machine.execCryContextIdleExpiry ctx s
  | .keyEraseTimeout slot => Sys2Proof.Machine.execKeyEraseTimeout slot s
  | .digResultRead ctx w => Sys2Proof.Machine.execDigResultRead ctx w s
  | .digCtxRelease ctx => Sys2Proof.Machine.execDigCtxRelease ctx s
  | .compress ch d st => Sys2Proof.Machine.execCompress ch d st s
  | .decompress ch d st => Sys2Proof.Machine.execDecompress ch d st s
  | .compressionJobNoPt ch => Sys2Proof.Machine.execCompressionJobNoPt ch s
  | .scanBuffer ch d done => Sys2Proof.Machine.execScanBuffer ch d done s
  | .scanSnapshot ch d done => Sys2Proof.Machine.execScanSnapshot ch d done s
  | .patternLoad len done => Sys2Proof.Machine.execPatternLoad len done s
  | .dramReadDecode addr by_ rewritten o => Sys2Proof.Machine.execDramReadDecode addr by_ rewritten o s
  | .correctionWriteBack addr cancelled => Sys2Proof.Machine.execCorrectionWriteBack addr cancelled s
  | .leakyBucketLeak b => Sys2Proof.Machine.execLeakyBucketLeak b s
  | .backgroundScrubPass found => Sys2Proof.Machine.execBackgroundScrubPass found s
  | .sramPatrol cls word f => Sys2Proof.Machine.execSramPatrol cls word f s
  | .dramZeroFill step => Sys2Proof.Machine.execDramZeroFill step s
  | .mccDisable k => Sys2Proof.Machine.execMccDisable k s
  | .mccEnable k => Sys2Proof.Machine.execMccEnable k s
  | .mccDrainComplete k => Sys2Proof.Machine.execMccDrainComplete k s
  | .mapCacheMissFill k evs => Sys2Proof.Machine.execMapCacheMissFill k evs s
  | .keeperLockstepMismatch pair logLost => Sys2Proof.Machine.execKeeperLockstepMismatch pair logLost s
  | .keeperWatchdogLapse a b => Sys2Proof.Machine.execKeeperWatchdogLapse a b s
  | .keeperRestartComplete pair selfTest => Sys2Proof.Machine.execKeeperRestartComplete pair selfTest s
  | .sensorSample idx v => Sys2Proof.Machine.execSensorSample idx v s
  | .operatingHourRecord => Sys2Proof.Machine.execOperatingHourRecord s
  | .logPeriodEnd => Sys2Proof.Machine.execLogPeriodEnd s
  | .logFaultFlush => Sys2Proof.Machine.execLogFaultFlush s
  | .bootFlashWrite ok => Sys2Proof.Machine.execBootFlashWrite ok s
  | .telemetryPush anchor sigs dates code => Sys2Proof.Machine.execTelemetryPush anchor sigs dates code s
  | .managementSettingsSubmit => Sys2Proof.Machine.execManagementSettingsSubmit s
  | .mctpMessage vdm src msg => Sys2Proof.Machine.execMctpMessage vdm src msg s
  | .spdmRequest vdm q => Sys2Proof.Machine.execSpdmRequest vdm q s
  | .pldmFirmwareComponent offset p => Sys2Proof.Machine.execPldmFirmwareComponent offset p s
  | .sourceEvent source code detail => Sys2Proof.Machine.execSourceEvent source code detail s
  | .sigPendSet word w => Sys2Proof.Machine.execSigPendSet word w s
  | .sigPendClr word w => Sys2Proof.Machine.execSigPendClr word w s
  | .sigVecClaim v => Sys2Proof.Machine.execSigVecClaim v s
  | .sourceClaim who => Sys2Proof.Machine.execSourceClaim who s
  | .coalescerTimeTrigger v => Sys2Proof.Machine.execCoalescerTimeTrigger v s
  | .msiXUnmask u => Sys2Proof.Machine.execMsiXUnmask u s
  | .sigHostSleep sleep => Sys2Proof.Machine.execSigHostSleep sleep s
  | .l1EntryRequest => Sys2Proof.Machine.execL1EntryRequest s
  | .eventQueueEnable size => Sys2Proof.Machine.execEventQueueEnable size s
  | .coldBoot f => Sys2Proof.Machine.execColdBoot f s
  | .jtagUnlockToken t => Sys2Proof.Machine.execJtagUnlockToken t s
  | .jtagUnlockExpiry => Sys2Proof.Machine.execJtagUnlockExpiry s
  | .inServiceReload => Sys2Proof.Machine.execInServiceReload s
  | .trialAutoConfirm => Sys2Proof.Machine.execTrialAutoConfirm s
  | .trialStartAttempt => Sys2Proof.Machine.execTrialStartAttempt s
  | .busStuckTimeout seg free => Sys2Proof.Machine.execBusStuckTimeout seg free s
  | .busRetryTimer seg free => Sys2Proof.Machine.execBusRetryTimer seg free s
  | .pfailStuckDetect => Sys2Proof.Machine.execPfailStuckDetect s
  | .refclkLoss => Sys2Proof.Machine.execRefclkLoss s
  | .refclkLostAlarm => Sys2Proof.Machine.execRefclkLostAlarm s
  | .refclkReturn => Sys2Proof.Machine.execRefclkReturn s
  | .islandHang u => Sys2Proof.Machine.execIslandHang u s
  | .unitErrorFence u f => Sys2Proof.Machine.execUnitErrorFence u f s
  | .fenceRetest u pass => Sys2Proof.Machine.execFenceRetest u pass s
  | .ddrChannelFail ch lost => Sys2Proof.Machine.execDdrChannelFail ch lost s
  | .fogNReadback high => Sys2Proof.Machine.execFogNReadback high s
  | .parkTimer d => Sys2Proof.Machine.execParkTimer d s
  | .deepParkTimer d => Sys2Proof.Machine.execDeepParkTimer d s
  | .parkedIslandWake idx => Sys2Proof.Machine.execParkedIslandWake idx s
  | .supplyRampComplete d => Sys2Proof.Machine.execSupplyRampComplete d s
  | .avsTick wanted short => Sys2Proof.Machine.execAvsTick wanted short s
  | .supplyDroop idx => Sys2Proof.Machine.execSupplyDroop idx s
  | .thermalStep => Sys2Proof.Machine.execThermalStep s
  | .thermalTrip sensor => Sys2Proof.Machine.execThermalTrip sensor s
  | .thermalAutoStart => Sys2Proof.Machine.execThermalAutoStart s
  | .tmbWallOffsetWrite v => Sys2Proof.Machine.execTmbWallOffsetWrite v s
  | .porstNAssert pages => Sys2Proof.Machine.execPorstNAssert pages s
  | .porstNRelease headSel pfailHigh v => Sys2Proof.Machine.execPorstNRelease headSel pfailHigh v s
  | .perstN high reached => Sys2Proof.Machine.execPerstN high reached s
  | .supplyBrownOut x pages => Sys2Proof.Machine.execSupplyBrownOut x pages s
  | .vddAonLoss pages => Sys2Proof.Machine.execVddAonLoss pages s
  | .peerLaneFault lane => Sys2Proof.Machine.execPeerLaneFault lane s
  | .timebaseAlignmentPulse island => Sys2Proof.Machine.execTimebaseAlignmentPulse island s
  | .hostPortLinkDown port => Sys2Proof.Machine.execHostPortLinkDown port s
  | .upstreamLinkDown => Sys2Proof.Machine.execUpstreamLinkDown s
  | .managementLinkChange port up => Sys2Proof.Machine.execManagementLinkChange port up s
  | .replicationConnectionLoss conn => Sys2Proof.Machine.execReplicationConnectionLoss conn s
  | .pfailNHigh => Sys2Proof.Machine.execPfailNHigh s
  | .transmitterEqualisationRetune lane worse => Sys2Proof.Machine.execTransmitterEqualisationRetune lane worse s

end Sys2Proof.Machine
end

