-- ==== Sys2Proof/Safety.lean ====
section
/-!
DEFINITION. What a safe state is, and when a command has its own effect, in the terms the statements use.
-/
namespace Sys2Proof.Machine

/-- The command can act while the chip domain is held in reset or the Bardar has shut down: pins, supplies, the thermal start (12 R310; 21 R501; 22 R514 to R516). -/
def pinEvent : Instr → Bool
  | .porstNRelease .. | .porstNAssert .. | .vddAonLoss .. | .shutdownExit .. | .thermalAutoStart | .perstN .. => true
  | _ => false

/-- No unit waits to come back or to be substituted. -/
def calm (s : State) : Bool := s.env.fences.isEmpty && s.env.toSub.isEmpty

/-- The memory image of a dump is in the canonical form. -/
def imageWf (s : State) : Bool := s.hup.image.all fun i => Memory.wf i.scratch

/-! ## GO (03 R51, R55) -/

/-- The request of a task command's row: the GO of its window. -/
def goOf : Instr → Option TaskReq
  | .nop r .. | .identify r .. | .jobStatus r .. | .jobResult r .. | .jobCancel r .. | .stageOpen r .. | .stageLens r .. | .stageCheck r ..
  | .stageCommit r .. | .stageDiscard r .. | .sectorRelens r .. | .nsCreate r .. | .nsDelete r .. | .nsModify r .. | .hostAdd r .. | .hostRemove r ..
  | .nsAccessGrant r .. | .nsAccessRevoke r .. | .dictLoad r .. | .snapCreate r .. | .snapDelete r .. | .cloneCreate r .. | .snapLock r ..
  | .snapList r .. | .anaStage r .. | .peerStatus r .. | .beaconConfig r .. | .peerAdmit r .. | .keyLoad r .. | .keyErase r .. | .keyStatus r ..
  | .updPiece r .. | .updStatus r .. | .updVerify r .. | .updActivate r .. | .updArm r .. | .updRevert r .. | .updConfirm r .. | .updFetch r ..
  | .ledgerExport r .. | .fuseEnrolOwnerKey r .. | .fuseRaiseCounter r .. | .fuseRevokeHedavyKey r .. | .fuseBlowJtagDisabled r ..
  | .replPartnerAdd r .. | .replPartnerRemove r .. | .replStart r .. | .replStop r .. | .replPromote r .. | .replStatus r .. | .moduleList r ..
  | .moduleAdmit r .. | .moduleRetire r .. | .portRebind r .. | .layoutSet r .. | .scrubRange r .. | .bucketConfig r .. | .healthRead r ..
  | .logRead r .. | .logConfig r .. | .sensorRead r .. | .holdupTest r .. | .fogClear r .. | .sigRouteStage r .. | .unitFence r ..
  | .unitFenceClear r .. | .unitSubstitute r .. | .unitSubstituteRestore r .. | .diagInject r .. | .diagTrace r .. | .diagPeek r .. => some r
  | _ => none

/-! ## Task commands: GO is taken and the command's own part runs (03 R52, R54, R55, R60 to R63, R69; 19 R450) -/

/-- The state a task command's own part acts on: its window loaded, and in W1 a fresh nonce. -/
def taken (t : TaskSpec) (r : TaskReq) (s : State) : State :=
  let s := loadWindow t.opcode r s
  if r.window == 1 then s.setWord 0x12400 r.nonce else s

/-- The conditions under which a GO reaches the command's own part: a chip that serves outside boot recovery, a path that may write the window, an idle window, a running Keeper, a window that takes the opcode, a good token, legal bulk registers, no reserved argument bit. -/
def goes (t : TaskSpec) (masks : List (Nat × Nat)) (r : TaskReq) (s : State) : Bool :=
  s.up && !r.resume && pathOpen r s && !s.boot.recovery && !s.busy r.window && s.keeperA == some true &&
  t.windows.contains r.window.val && (tokenFault t.opcode r s).isNone && (bulkCheck t.bulk r).isNone && (r.badArg masks).isNone

/-- What the window shows of a command that has ended (03 R54): DONE without BUSY, CODE and DETAIL in TSK_STATUS, its results from TSK_RES1 on and zero in the rest. -/
def answered (r : TaskReq) (code detail : Nat) (res : List Word) (t : State) : Prop :=
  t.word (winBase r.window + 0x108) = BitVec.ofNat 64 (2 ^ 62 + code * 2 ^ 32 + detail % 2 ^ 32) ∧
  ∀ k < 30, t.word (winBase r.window + 0x200 + 8 * k) = (res[k]?).getD 0

/-- `t` is `u` but for the registers of the task windows, SIG_STATUS, the Signal controller and what has left the part: what the window and its NOTIFY event may change. -/
def windowOnly (u t : State) : Prop :=
  t = { u with regs := t.regs, sig := t.sig, outputs := t.outputs } ∧
  ∀ p, p < 0x11000 ∨ 0x15000 ≤ p → p ≠ Reg.SIG_STATUS.base → t.word p = u.word p

/-! ## Host commands: a capsule is taken in (04 R89 to R91) -/

/-- A capsule finds a datapath that runs, its queue open on an enabled controller, its namespace granted to its host and in being, no other command under its names, and a context free. -/
def ioReady (c : IoCapsule) (s : State) : Bool :=
  s.serves && (s.hostCmd c.cntlid c.qid c.cid).isNone && match s.assoc c.cntlid with
  | none => false
  | some a => a.queues.any (·.1 == c.qid) && a.enabled && match s.ns c.nsid, s.ident a.host with
    | some (_, n), some h => h.grants.contains c.nsid && !n.deleting && !replTarget s c.nsid && contextFree s c.cntlid
    | _, _ => false

/-- This head serves a namespace now: it keeps `n` in store `sh`, owns its group and reports it Optimised, no reservation stands and no page of it is fenced (04 R95; 10 R255; 11 R276). -/
def servesHere (s : State) (nsid : Nat) (sh : Bool) (n : Namespace) : Prop :=
  s.ns nsid = some (sh, n) ∧ anaState s n.group = .optimised ∧ s.owns n.group = true ∧ n.rsv.typ = .none ∧ n.conflict = false

/-- The media rest: no module leaves, no segment is claimed by a mover, no grain waits for a block. -/
def mediaCalm (s : State) : Bool :=
  s.media.modules.all (·.st != .retiring) && (allSegments s).all (·.claim == .none) && s.wr.unpacked.isEmpty

/-! ## Replication: a frame is taken (13 R318, R320) -/

/-- The frame with head `h` is good on connection `c`: whole, next in FSEQ, and of the key generation in use or, for the two frames that carry none, 0xFFFF. It leaves the connection as `d`, in state `u`. -/
def frameIn (h : RrHead) (clear : Bool) (c d : ReplConn) (s u : State) : Prop :=
  s.up = true ∧ s.conn h.conn = some c ∧ h.intact = true ∧ h.fseq = c.rxSeq ∧ h.gen = (if clear then 0xFFFF else c.rxGen) ∧
  d = { c with rxSeq := c.rxSeq + 1, rxAt := s.now } ∧ u = s.putConn d

/-- A good frame of a proved connection reaches source stream `x`, whose start no job can cancel. -/
def sourceFrame (h : RrHead) (x : Stream) (s u : State) : Prop :=
  ∃ c d, frameIn h false c d s u ∧ c.proved = true ∧ sourceOf u d h = some x ∧ x.job = none

/-- A good frame of a proved connection reaches target stream `x` of namespace `n` while the datapath runs and the journal has room. -/
def targetFrame (h : RrHead) (x : Stream) (sh : Bool) (n : Namespace) (s u : State) : Prop :=
  ∃ c d, frameIn h false c d s u ∧ c.proved = true ∧ s.serves = true ∧ ringBytes s + 2 ^ 20 + 4096 ≤ ringCapacity s ∧ targetOf u d h = some x ∧
    targetNs u x = some (sh, n)

end Sys2Proof.Machine
end

