-- ==== Sys2Proof/Certificates/Slice0/Obligations.lean ====
section
/-!
DEFINITION. The statements for the provers.
-/
open Sys2Proof Sys2Proof.Machine

/-- A step runs the command at the front of the queue, on the state with the queue's rest. For every command c and state s, a step of s with c at the front of its queue is exec of c on s with the queue's rest. (On an empty queue the block idles: log 1, the model's choice.) -/
def Obligations.StepRunsTheFrontCommand : Prop :=
  -- a command waits
  (∀ c (s : State), step { s with pending := c :: s.pending } = exec c s) ∧
  -- nothing waits
  (∀ s : State, s.pending = [] → step s = .next s)

/-- What reset leaves: every register at the value of its table, nothing placed, held, staged, running or connected. After reset every register reads its table's reset value (LOSS_MS 2, START_WAIT_S 30, SEVER_MS 200 among them), the chip is up, the 8 stage sets are FREE, no job, association, host, stream, connection or command context stands, Beacon is ALONE with neither group up, both stores are empty, the scratch memory lists nothing, and nothing waits or has been sent. -/
def Obligations.ResetState : Prop :=
  -- registers
  ((∀ off, State.reset.word off = resetWord off) ∧ State.reset.fld Reg.fUBL_BEACON_CFG_LOSS_MS = 2 ∧ State.reset.fld Reg.fUBL_BEACON_CFG_START_WAIT_S = 30 ∧ State.reset.fld Reg.fUBL_BEACON_CFG_SEVER_MS = 200) ∧
  -- the rest
  (State.reset.up = true ∧ (∀ n < 8, (State.reset.set n).st = .free) ∧ State.reset.ctl.jobs = [] ∧ State.reset.host.assocs = [] ∧ State.reset.host.cmds = [] ∧ State.reset.host.directory = [] ∧ State.reset.repl.streams = [] ∧
   State.reset.repl.conns = [] ∧ State.reset.peer.st = .alone ∧ (∀ g < 2, (State.reset.group g).up = false) ∧ State.reset.md.store = .empty ∧ State.reset.md.shadow = .empty ∧ State.reset.scratch = [] ∧
   regsWf State.reset.regs = true ∧ Memory.wf State.reset.scratch = true ∧ imageWf State.reset = true ∧ State.reset.pending = [] ∧ State.reset.outputs = [])

/-- While the chip is held in reset or has shut down, a step changes nothing but the queue, until a pin, supply or thermal start acts. While the chip domain is held in reset or the Bardar has shut down, and no pin, supply or thermal-start command waits in the queue, every step answers next; it takes the front command off the queue and changes nothing else, and the next state again meets this condition. -/
def Obligations.HeldInResetOnlyPinsAct : Prop :=
  ∀ s : State, s.up = false → (∀ c ∈ s.pending, pinEvent c = false) →
    ∃ t, step s = .next t ∧ t = { s with pending := s.pending.tail } ∧ t.up = false ∧ ∀ c ∈ t.pending, pinEvent c = false

/-- A task window takes one command at a time: every GO on a busy window, or by a path that may not write it, is discarded. For every task command, with the chip up outside boot recovery: a GO that reaches its window while it is busy changes nothing but TSK_ERR_CAPTURE, where a write through BAR0 is recorded with STATE_CONFLICT; a GO by a path that may not write the window changes nothing, or is recorded there with NOT_PERMITTED when it came through BAR0. -/
def Obligations.BusyWindowTakesNoCommand : Prop :=
  -- busy
  (∀ c r s, goOf c = some r → s.up = true → s.boot.recovery = false → r.resume = false → pathOpen r s = true → s.busy r.window = true →
     exec c s = .next (if r.path == .bar0 then captureErr cSTATE_CONFLICT (winBase r.window + 0x100) s else s)) ∧
  -- a path that may not write the window
  (∀ c r s, goOf c = some r → s.up = true → s.boot.recovery = false → r.resume = false → pathOpen r s = false →
     exec c s = .next (if r.path == .bar0 then captureErr cNOT_PERMITTED (winBase r.window + 0x100) s else s))

/-- No command stops the machine: every command answers a next state from every state, but for a register write that is another row's GO. From every state, every command but REGISTER_WRITE and STAGED_REGISTER_WRITE answers a next state; those two do unless the write passes its checks and is the GO of a task command that takes data from outside its window. -/
def Obligations.EveryCommandAnswersNext : Prop :=
  -- every other command
  (∀ c s, (∀ o b w, c ≠ .registerWrite o b w) → (∀ o w, c ≠ .stagedRegisterWrite o w) → ∃ t, exec c s = .next t) ∧
  -- a register write that starts no task command
  (∀ (o : Fin 67108864) b w s, (startsTask o w s = false ∨ writeFault o b w s ≠ none) → (∃ t, exec (.registerWrite o b w) s = .next t) ∧ (b = true → ∃ t, exec (.stagedRegisterWrite o w) s = .next t))

/-- A write to a reserved BAR0 offset is discarded and recorded with BAD_FIELD in the ERR_CAPTURE of its block, or in GLB_ERR_CAPTURE. An aligned 8-byte write to an offset that no register holds changes no register but the ERR_CAPTURE of the block whose range holds the offset (GLB_ERR_CAPTURE where no block does), GLB_ERR_SUMMARY and SIG_STATUS, and nothing else of the state but the Signal controller and what has left the part. That capture, when VALID was clear, then holds VALID, code BAD_FIELD and the offset. -/
def Obligations.ReservedOffsetWriteIsDiscarded : Prop :=
  ∀ (off : Fin 67108864) w s cap, s.up = true → off.val % 8 = 0 → regAt off = none →
    ((∃ b ∈ blocks, b.1 ≤ off.val ∧ off.val < b.1 + b.2 ∧ cap = b.1 + 0x18) ∨ ((∀ b ∈ blocks, ¬ (b.1 ≤ off.val ∧ off.val < b.1 + b.2)) ∧ cap = Reg.GLB_ERR_CAPTURE.base)) →
    ∃ t, exec (.registerWrite off true w) s = .next t ∧ t = { s with regs := t.regs, sig := t.sig, outputs := t.outputs } ∧
      (∀ p, p ≠ cap → p ≠ Reg.GLB_ERR_SUMMARY.base → p ≠ Reg.SIG_STATUS.base → t.word p = s.word p) ∧
      (bits (s.word cap) 63 63 = 0 → t.word cap = setBits (setBits (setBits 0 63 63 1) 47 32 0x0102) 25 0 off)

/-- While an ERR_CAPTURE is VALID a further discarded write leaves it unchanged and counts as LOST; writing 1 to VALID clears it. With VALID set in a block's ERR_CAPTURE, a discarded write in that block leaves that register unchanged and raises GLB_ERR_SUMMARY.LOST by one, up to the field's largest value; a write of a word with VALID set to that ERR_CAPTURE makes it read zero. -/
def Obligations.CapturedErrorStandsUntilCleared : Prop :=
  -- every discard of the model
  (∀ code off s cap, cap = blockBase (blockOf off) + 0x18 → bits (s.word cap) 63 63 = 1 →
     (captureErr code off s).word cap = s.word cap ∧ (captureErr code off s).fld Reg.fGLB_ERR_SUMMARY_LOST = min (2 ^ (Reg.fGLB_ERR_SUMMARY_LOST.hi + 1 - Reg.fGLB_ERR_SUMMARY_LOST.lo) - 1) (s.fld Reg.fGLB_ERR_SUMMARY_LOST + 1)) ∧
  -- a discarded write is one of those
  (∀ (off : Fin 67108864) b w s c, s.up = true → writeFault off b w s = some c → exec (.registerWrite off b w) s = .next (captureErr c off s)) ∧
  -- writing 1 to VALID
  (∀ (b : Nat × Nat) (off : Fin 67108864) (w : Word) s, b ∈ blocks → off.val = b.1 + 0x18 → s.up = true → writeFault off true w s = none → bits w 63 63 = 1 → exec (.registerWrite off true w) s = .next (s.setWord off 0))

/-- A second Sector re-lens fails with SECTOR_BUSY until the first ends. While a Sector re-lens runs, a SECTOR_RELENS of a CHECKED set that holds a Sector Lens, otherwise accepted, ends with SECTOR_BUSY and changes nothing but its window; the re-lens under way stays as it was. -/
def Obligations.OneSectorRelensAtATime : Prop :=
  ∀ (r : TaskReq) (s : State) img x, goes { opcode := 0x0106, windows := [0] } [(1, mask 2 0 ||| mask 8 8)] r s = true → (s.set (r.argBits 1 2 0)).st = .checked → (s.set (r.argBits 1 2 0)).lens = some img → img.kind = 1 →
    s.lens.relens = some x → ∃ t, exec (.sectorRelens r) s = .next t ∧ answered r cSECTOR_BUSY 0 [] t ∧ windowOnly s t ∧ t.lens.relens = some x

/-- NS_MODIFY that enables a guard group of no patterns fails with BAD_FIELD. An NS_MODIFY of a namespace that this head owns which selects only the guard group and enables it ends with BAD_FIELD when the live pattern image holds no pattern in that group (or no image is live); nothing changes but its window. -/
def Obligations.EmptyGuardGroupIsRefused : Prop :=
  ∀ (r : TaskReq) (s : State) sh n, goes { opcode := 0x0203, windows := [0] }
      [(1, mask 31 0), (2, mask 6 0), (3, mask 2 0 ||| mask 12 8 ||| mask 19 16 ||| mask 29 20 ||| mask 36 32), (4, mask64)] r s = true →
    s.ns (r.arg 1) = some (sh, n) → s.owns n.group = true → r.arg 2 = 32 → r.argBits 3 36 36 = 1 → (∀ img, s.bank (s.fld Reg.fPAT_CFG_BANK) = some img → groupCount img (r.argBits 3 35 32) = 0) →
    ∃ t, exec (.nsModify r) s = .next t ∧ answered r cBAD_FIELD 3 [] t ∧ windowOnly s t

/-- The DRAM channel of a byte address, in 4 KiB units. The channel of byte address a is a[15:12] xor a[19:16] xor a[23:20] xor a[27:24], and every byte of one 4 KiB unit lies on one channel of the 16. -/
def Obligations.DramChannelInterleave : Prop :=
  ∀ a : Nat, dramChannel a = (a >>> 12 % 16) ^^^ (a >>> 16 % 16) ^^^ (a >>> 20 % 16) ^^^ (a >>> 24 % 16) ∧ dramChannel a < 16 ∧ ∀ b, a / 4096 = b / 4096 → dramChannel a = dramChannel b

/-- LNS_SET_CTRL moves its stage set from FREE to STAGING, to CHECKED, to PREPARING and back, and no other set. With a lead that R39 allows: OPEN of a FREE set makes it STAGING with OK; OPEN of another set changes no set but for the code STATE_CONFLICT; CHECK of a STAGING set that holds a shadow leaves it CHECKED with the live generation recorded, or STAGING with what it held; COMMIT of a CHECKED set whose generation is live and that stages no ownership makes it PREPARING with T = now plus the lead; DISCARD of a STAGING or CHECKED set, while no unit waits to be substituted or to come back, makes it FREE with OK; no operation stores LEAD_NS and FORCE. Every other set stays as it was. -/
def Obligations.StageSetsMoveAsTheirTableSays : Prop :=
  -- OPEN of a FREE set
  (∀ (n : Fin 8) lead force s, s.up = true → 5000 ≤ lead.toNat → lead.toNat ≤ 10000000 → (s.set n).st = .free →
     ∃ t, exec (.lnsSetOpen n lead force) s = .next t ∧ (t.set n).st = .staging ∧ (t.set n).code = cOK ∧
       (∀ m, m ≠ n.val → t.set m = s.set m) ∧ t.host = s.host ∧ t.md = s.md) ∧
  -- OPEN of a set in use
  (∀ (n : Fin 8) lead force s, s.up = true → 5000 ≤ lead.toNat → lead.toNat ≤ 10000000 → (s.set n).st ≠ .free →
     ∃ t, exec (.lnsSetOpen n lead force) s = .next t ∧ t.set n = { s.set n with code := cSTATE_CONFLICT, detail := 0 } ∧
       ∀ m, m ≠ n.val → t.set m = s.set m) ∧
  -- CHECK
  (∀ (n : Fin 8) lead force s, s.up = true → 5000 ≤ lead.toNat → lead.toNat ≤ 10000000 → (s.set n).st = .staging → (s.set n).empty = false →
     ∃ t, exec (.lnsSetCheck n lead force) s = .next t ∧
       (((t.set n).st = .checked ∧ (t.set n).code = cOK ∧ (t.set n).checkedGen = s.lens.liveGen) ∨ ((t.set n).st = .staging ∧ (t.set n).checkedGen = (s.set n).checkedGen)) ∧
       (t.set n).writes = (s.set n).writes ∧ (t.set n).items = (s.set n).items ∧ ∀ m, m ≠ n.val → t.set m = s.set m) ∧
  -- COMMIT
  (∀ (n : Fin 8) lead force s, s.up = true → 5000 ≤ lead.toNat → lead.toNat ≤ 10000000 → (s.set n).st = .checked →
     (s.set n).checkedGen = s.lens.liveGen → (s.set n).owners = [] →
     ∃ t, exec (.lnsSetCommit n lead force) s = .next t ∧ (t.set n).st = .preparing ∧ (t.set n).switchT = s.now + lead.toNat ∧
       (t.set n).writes = (s.set n).writes ∧ (t.set n).items = (s.set n).items ∧ ∀ m, m ≠ n.val → t.set m = s.set m) ∧
  -- DISCARD
  (∀ (n : Fin 8) lead force s, s.up = true → 5000 ≤ lead.toNat → lead.toNat ≤ 10000000 → ((s.set n).st = .staging ∨ (s.set n).st = .checked) →
     calm s = true →
     ∃ t, exec (.lnsSetDiscard n lead force) s = .next t ∧ (t.set n).st = .free ∧ (t.set n).code = cOK ∧ (t.set n).empty = true ∧
       ∀ m, m ≠ n.val → t.set m = s.set m) ∧
  -- no operation
  (∀ (n : Fin 8) lead force s, s.up = true → 5000 ≤ lead.toNat → lead.toNat ≤ 10000000 →
     ∃ t, exec (.lnsSetNoOperation n lead force) s = .next t ∧ t.lens = s.lens ∧
       t.fld Reg.fLNS_SET_CTRL_LEAD_NS n = lead.toNat ∧ t.flag Reg.fLNS_SET_CTRL_FORCE n = force)

/-- STAGE_OPEN, STAGE_LENS, STAGE_CHECK, STAGE_COMMIT, STAGE_DISCARD and SECTOR_RELENS on a set that takes them. STAGE_OPEN opens the lowest-numbered FREE set and answers its number; STAGE_LENS and STAGE_CHECK answer ACCEPTED with a job's handle (the set is CHECKING while a check job runs); STAGE_COMMIT of a CHECKED set at the live generation without ownership changes makes it PREPARING with T = now plus ARG2; STAGE_DISCARD frees it; SECTOR_RELENS without a CHECKED set that holds a Lens fails with STATE_CONFLICT and, with one that holds a Sector Lens which nothing bars, starts a job and a re-lens in its drain phase. -/
def Obligations.StageTaskCommandsMoveTheirSet : Prop :=
  -- STAGE_OPEN
  (∀ r s n, goes { opcode := 0x0101, windows := [0, 1] } [] r s = true → n < 8 → (s.set n).st = .free → (∀ m < n, (s.set m).st ≠ .free) →
     ∃ t, exec (.stageOpen r) s = .next t ∧ answered r cOK 0 [BitVec.ofNat 64 n] t ∧ (t.set n).st = .staging ∧
       ∀ m, m ≠ n → t.set m = s.set m) ∧
  -- STAGE_LENS
  (∀ r img s k, goes { opcode := 0x0102, windows := [0, 1], bulk := .take (some (r.argBits 2 31 0)) } [(1, mask 2 0), (2, mask 31 0)] r s = true →
     ((s.set (r.arg 1)).st = .staging ∨ (s.set (r.arg 1)).st = .checked) → r.arg 2 ≤ 8 * 1048576 → r.bulkFault = none → freeRecord r.window s = some k →
     ∃ t, exec (.stageLens r img) s = .next t ∧
       answered r cACCEPTED 0 [handleOf (plannedJob 0x0102 r { cancellable := true, work := .takeLens (r.arg 1) img } s k)] t ∧
       windowOnly (withJob 0x0102 r { cancellable := true, work := .takeLens (r.arg 1) img } s k) t) ∧
  -- STAGE_CHECK
  (∀ r s k, goes { opcode := 0x0103, windows := [0, 1] } [(1, mask 2 0)] r s = true → (s.set (r.arg 1)).st = .staging →
     (s.set (r.arg 1)).empty = false → freeRecord r.window s = some k →
     ∃ t, exec (.stageCheck r) s = .next t ∧
       answered r cACCEPTED 0 [handleOf (plannedJob 0x0103 r { cancellable := true, work := .check (r.arg 1) } s k)] t ∧
       (t.set (r.arg 1)).st = .checking ∧ t.job k = some (plannedJob 0x0103 r { cancellable := true, work := .check (r.arg 1) } s k) ∧
       ∀ m, m ≠ r.arg 1 → t.set m = s.set m) ∧
  -- STAGE_COMMIT
  (∀ r s k, goes { opcode := 0x0104, windows := [0, 1] } [(1, mask 2 0), (2, mask 31 0)] r s = true → (s.set (r.arg 1)).st = .checked →
     (s.set (r.arg 1)).checkedGen = s.lens.liveGen → (s.set (r.arg 1)).owners = [] → 5000 ≤ r.arg 2 → r.arg 2 ≤ 10000000 → freeRecord r.window s = some k →
     ∃ t, exec (.stageCommit r) s = .next t ∧ answered r cACCEPTED 0 [handleOf (plannedJob 0x0104 r {} s k)] t ∧
       (t.set (r.arg 1)).st = .preparing ∧ (t.set (r.arg 1)).switchT = s.now + r.arg 2 ∧ (t.set (r.arg 1)).job = some k ∧
       ∀ m, m ≠ r.arg 1 → t.set m = s.set m) ∧
  -- STAGE_DISCARD
  (∀ r s, goes { opcode := 0x0105, windows := [0, 1] } [(1, mask 2 0)] r s = true → ((s.set (r.arg 1)).st = .staging ∨ (s.set (r.arg 1)).st = .checked) →
     calm s = true →
     ∃ t, exec (.stageDiscard r) s = .next t ∧ answered r cOK 0 [] t ∧ (t.set (r.arg 1)).st = .free ∧ ∀ m, m ≠ r.arg 1 → t.set m = s.set m) ∧
  -- SECTOR_RELENS without a checked Sector Lens
  (∀ r s, goes { opcode := 0x0106, windows := [0] } [(1, mask 2 0 ||| mask 8 8)] r s = true → (s.set (r.argBits 1 2 0)).st ≠ .checked →
     ∃ t, exec (.sectorRelens r) s = .next t ∧ answered r cSTATE_CONFLICT 0 [] t ∧ windowOnly s t) ∧
  -- SECTOR_RELENS of a checked Sector Lens that nothing bars, with every island awake
  (∀ r s img k, goes { opcode := 0x0106, windows := [0] } [(1, mask 2 0 ||| mask 8 8)] r s = true → (s.set (r.argBits 1 2 0)).st = .checked →
     (s.set (r.argBits 1 2 0)).lens = some img → img.kind = 1 → (s.set (r.argBits 1 2 0)).checkedGen = s.lens.liveGen →
     relensFault s img.sector (changedIslands img s.lens.live) (r.argBits 1 8 8 == 1) = none →
     (∀ d, s.domainState d ≠ 1) → freeRecord r.window s = some k →
     ∃ t, exec (.sectorRelens r) s = .next t ∧ answered r cACCEPTED 0 [handleOf (plannedJob 0x0106 r {} s k)] t ∧
       (t.set (r.argBits 1 2 0)).st = .preparing ∧ (t.set (r.argBits 1 2 0)).kind = .drain ∧ (t.set (r.argBits 1 2 0)).switchT = s.now + 20000 ∧
       ∃ x, t.lens.relens = some x ∧ x.phase = .draining ∧ x.sector = img.sector ∧ x.jobs = [k] ∧ x.changed = changedIslands img s.lens.live)

/-- A prepared set commits when every island acknowledges, and its shadows go live at T. At T − 2 µs a PREPARING set whose claimed islands all acknowledge, outside a re-lens and a paired commit, is COMMITTING. At T a COMMITTING set frees, the live generation rises by 1, the timebase has reached T, and a shadow of a register whose commit moves nothing else becomes the register's writable fields. An island's time fault stands until an alignment pulse. A re-lens whose units have drained prepares its Lens epoch; an island that loads and passes leaves the islands waited for and runs; the Lens set that has been written becomes the record, on trial outside an update. -/
def Obligations.EpochsCommitAtTheirSwitchTime : Prop :=
  -- EPOCH_ACK_DEADLINE
  (∀ (n : Fin 8) late s, s.up = true → (s.set n).st = .preparing → (s.set n).owners = [] → s.peer.commit = none → s.lens.relens = none →
     (∀ i ∈ (s.set n).claims, acks late s i = true) →
     ∃ t, exec (.epochAckDeadline n late) s = .next t ∧ t.set n = { s.set n with st := .committing } ∧ ∀ m, m ≠ n.val → t.set m = s.set m) ∧
  -- EPOCH_SWITCH of a set that holds one register's shadow
  (∀ (n : Fin 8) w s, s.up = true → (s.set n).st = .committing → s.lens.relens = none → (s.set n).writes = [(Reg.CRY_CFG.base, w)] →
     (s.set n).items = [] → (s.set n).job = none → (s.set n).window = none → calm s = true →
     ∃ t, exec (.epochSwitch (.set n)) s = .next t ∧ (t.set n).st = .free ∧ (t.set n).code = cOK ∧ t.lens.liveGen = s.lens.liveGen + 1 ∧
       t.now = max s.now (s.set n).switchT ∧ bits (t.word Reg.CRY_CFG.base) 47 32 = bits w 47 32 ∧ bits (t.word Reg.CRY_CFG.base) 15 0 = bits w 15 0 ∧
       t.lens.live = s.lens.live ∧ t.eng = s.eng) ∧
  -- ISLAND_TIME_FAULT
  (∀ (i : Fin 272) s, s.up = true → s.lens.timeFault.contains i.val = false →
     ∃ t, exec (.islandTimeFault i) s = .next t ∧ t.lens = { s.lens with timeFault := insertNat i s.lens.timeFault } ∧ t.host = s.host ∧ t.eng = s.eng) ∧
  -- TIMEBASE_ALIGNMENT_PULSE
  (∀ (i : Fin 272) s, s.up = true →
     ∃ t, exec (.timebaseAlignmentPulse i) s = .next t ∧ t.lens.timeFault.contains i.val = false ∧
       t = { s with lens := { s.lens with timeFault := t.lens.timeFault } }) ∧
  -- RELENS_DRAIN_COMPLETE
  (∀ s r, s.up = true → s.lens.relens = some r → r.phase = .draining → r.epoch = false → checkSet r.set s = none →
     ∃ t, exec .relensDrainComplete s = .next t ∧ t.lens.relens = some { r with epoch := true } ∧ (t.set r.set).st = .preparing ∧
       (t.set r.set).kind = .lens ∧ (t.set r.set).switchT = s.now + 20000) ∧
  -- ISLAND_LOAD_COMPLETE, other islands still loading
  (∀ (i : Fin 272) s r, s.up = true → s.lens.relens = some r → r.phase = .loading → r.waiting.contains i.val = true →
     (r.waiting.filter (· != i.val)).isEmpty = false →
     ∃ t, exec (.islandLoadComplete i true) s = .next t ∧ t.lens.running = insertNat i s.lens.running ∧
       t.lens.relens = some { r with waiting := r.waiting.filter (· != i.val) } ∧ t.lens.live = s.lens.live) ∧
  -- LENS_SET_RECORD_DURABLE outside an update
  (∀ s l, s.up = true → s.lens.recordNext = some l → s.boot.reload = none →
     ∃ t, exec .lensSetRecordDurable s = .next t ∧ t.lens.recordLens = l ∧ t.lens.recordNext = none ∧ t.boot.ptr.lensTrial = true ∧
       t.boot.ptr.lensAttempts = 0 ∧ t.lens.live = s.lens.live)

/-- NOP, IDENTIFY, JOB_STATUS, JOB_RESULT and JOB_CANCEL answer in their window and change nothing else. When its GO is taken, each common task command ends DONE with the code and results of Table 3.10 (JOB_RESULT with the job's own code and DETAIL, and frees the record; JOB_CANCEL records the cancel of a job that runs) and leaves everything but its window, the Signal controller and what has left the part as it was. -/
def Obligations.CommonTaskCommandsAnswer : Prop :=
  -- NOP
  (∀ r s, goes { opcode := 0x0001, windows := [0, 1, 2, 3] } [] r s = true →
     ∃ t, exec (.nop r) s = .next t ∧ answered r cOK 0 [] t ∧ windowOnly s t) ∧
  -- IDENTIFY: RES1, RES2, RES4, RES5
  (∀ r s, goes { opcode := 0x0002, windows := [0, 1, 2, 3] } [] r s = true →
     ∃ t, exec (.identify r) s = .next t ∧ windowOnly s t ∧
       t.word (winBase r.window + 0x108) = BitVec.ofNat 64 (2 ^ 62) ∧
       t.word (winBase r.window + 0x200) = BitVec.ofNat 64 (0x1F6D + 0x9256 * 2 ^ 16 + 0x3142 * 2 ^ 32 + if s.peer.head = 0 then 0 else 2 ^ 48) ∧
       t.word (winBase r.window + 0x208) = s.boot.running.package ∧
       t.word (winBase r.window + 0x218) = BitVec.ofNat 64 s.lens.liveGen ∧
       t.word (winBase r.window + 0x220) = s.lens.live.baseId) ∧
  -- JOB_STATUS of a job that has ended
  (∀ r s j, goes { opcode := 0x0003, windows := [0, 1, 2, 3] } [(1, mask64)] r s = true →
     handleJob (r.arg 1) s = some j → j.ended = true →
     ∃ t, exec (.jobStatus r) s = .next t ∧
       answered r cOK 0 [BitVec.ofNat 64 (2 + j.opcode * 2 ^ 16), BitVec.ofNat 64 j.code, BitVec.ofNat 64 j.detail, 1000] t ∧ windowOnly s t) ∧
  -- JOB_RESULT in the window that started the job
  (∀ r s j, goes { opcode := 0x0004, windows := [0, 1, 2, 3] } [(1, mask64)] r s = true →
     handleJob (r.arg 1) s = some j → j.window = r.window.val → j.ended = true →
     ∃ t, exec (.jobResult r) s = .next t ∧
       answered r j.code j.detail ((j.results ++ List.replicate 29 0).take 29 ++ [1]) t ∧
       windowOnly { s with ctl := { s.ctl with jobs := s.ctl.jobs.filter (·.slot != j.slot) } } t) ∧
  -- JOB_CANCEL of a job that runs and has a safe point
  (∀ r s j, goes { opcode := 0x0005, windows := [0, 1, 3] } [(1, mask64)] r s = true →
     handleJob (r.arg 1) s = some j → j.window = r.window.val → j.ended = false → j.cancellable = true →
     ∃ t, exec (.jobCancel r) s = .next t ∧ answered r cOK 0 [0] t ∧ windowOnly (s.setJob { j with stopping := true }) t)

/-- The end of a job, resets of UP00 and a GO held for the Keeper. JOB_END of a job that moves bulk data and was not asked to stop ends its record with the code it was started for and 1,000 per mille; a reset of UP00 clears MSI-X enable and function mask and leaves the rest of the control interface's link state; PERST_N low takes the upstream link down; a GO that arrives while Keeper A's duties are interrupted is held, in order, with BUSY set. -/
def Obligations.JobsEndAndWindowsSurviveResets : Prop :=
  -- JOB_END
  (∀ n s j, s.up = true → s.job n = some j → j.ended = false → j.work = .nothing → j.bulk = true → j.stopping = false →
     ∃ t, exec (.jobEnd n) s = .next t ∧
       t.ctl = (s.setJob { j with ended := true, progress := 1000 }).ctl ∧ t.lens = s.lens ∧ t.boot = s.boot) ∧
  -- UPSTREAM_RESET
  (∀ n s, s.up = true → ∃ t, exec (.upstreamReset n) s = .next t ∧
     t.ctl.msixEnable = false ∧ t.ctl.msixMask = false ∧ t.ctl.upstreamUp = s.ctl.upstreamUp ∧ t.lens = s.lens ∧ t.host = s.host) ∧
  -- PERST_N
  (∀ n s, ∃ t, exec (.perstN false n) s = .next t ∧ t.env.perstHigh = false ∧ (s.up = true → t.ctl.upstreamUp = false)) ∧
  -- KEEPER_RESTART_GO_HELD
  (∀ op r s, s.up = true → s.keeperA = some false → r.resume = false → pathOpen r s = true → s.boot.recovery = false →
     s.busy r.window = false →
     ∃ t, exec (.keeperRestartGoHeld op r) s = .next t ∧ t.ctl.held = s.ctl.held ++ [{ window := r.window, opcode := op }] ∧
       t.busy r.window = true)

/-- A BAR0 write that is misaligned or meets a reserved offset is discarded whole and captured. While its block's ERR_CAPTURE is not VALID, such a write records its code (BAD_ALIGN, or BAD_FIELD at a reserved offset) and its offset there; no other register but SIG_STATUS moves, and nothing else of the state but the Signal controller and what has left the part. -/
def Obligations.DiscardedRegisterWriteIsCaptured : Prop :=
  -- a reserved offset
  (∀ (off : Fin 67108864) w s, s.up = true → off.val % 8 = 0 → regAt off = none →
     bits (s.word (blockBase (blockOf off) + 0x18)) 63 63 = 0 →
     ∃ t, exec (.registerWrite off true w) s = .next t ∧
       bits (t.word (blockBase (blockOf off) + 0x18)) 63 63 = 1 ∧
       bits (t.word (blockBase (blockOf off) + 0x18)) 47 32 = 0x0102 ∧
       bits (t.word (blockBase (blockOf off) + 0x18)) 25 0 = off ∧
       (∀ p, p ≠ blockBase (blockOf off) + 0x18 → p ≠ Reg.SIG_STATUS.base → t.word p = s.word p) ∧
       t = { s with regs := t.regs, sig := t.sig, outputs := t.outputs }) ∧
  -- half a register, or an offset that is not aligned
  (∀ (off : Fin 67108864) (whole : Bool) w s, s.up = true → (whole = false ∨ off.val % 8 ≠ 0) →
     bits (s.word (blockBase (blockOf off) + 0x18)) 63 63 = 0 →
     ∃ t, exec (.registerWrite off whole w) s = .next t ∧
       bits (t.word (blockBase (blockOf off) + 0x18)) 63 63 = 1 ∧
       bits (t.word (blockBase (blockOf off) + 0x18)) 47 32 = 0x0103 ∧
       bits (t.word (blockBase (blockOf off) + 0x18)) 25 0 = off ∧
       (∀ p, p ≠ blockBase (blockOf off) + 0x18 → p ≠ Reg.SIG_STATUS.base → t.word p = s.word p) ∧
       t = { s with regs := t.regs, sig := t.sig, outputs := t.outputs })

/-- A legal write sets the writable fields of its register, the shadow of a stage set, or bytes of scratch. A legal write to a register that is not staged and has no behaviour of its own gives every read-write field the written bits and leaves every read-only field alone. A staged write while LNS_STAGE_SELECT.EN is set goes to the selected set's shadow and leaves the register alone. A BAR2 write inside the live scratch window stores its bytes at its offset and leaves every other byte; one beyond it changes no byte and is captured in GLB_BAR2_ERR. -/
def Obligations.LegalWritesReachRegisterShadowOrScratch : Prop :=
  -- REGISTER_WRITE of a plain register
  (∀ (off : Fin 67108864) w s d f, s.up = true → writeFault off true w s = none → startsTask off w s = false → regAt off = some d →
     d.staged = false → ownWrite off w s = none → isCapture off = false → Reg.TSK_BULK_CTRL.holds off = false → f ∈ d.fields →
     ∃ t, exec (.registerWrite off true w) s = .next t ∧
       (f.acc = .rw → bits (t.word off) f.hi f.lo = bits w f.hi f.lo) ∧
       (f.acc = .ro → bits (t.word off) f.hi f.lo = bits (s.word off) f.hi f.lo)) ∧
  -- STAGED_REGISTER_WRITE
  (∀ (off : Fin 67108864) w s d n, s.up = true → writeFault off true w s = none → startsTask off w s = false → regAt off = some d →
     d.staged = true → s.flag Reg.fLNS_STAGE_SELECT_EN = true → s.fld Reg.fLNS_STAGE_SELECT_SET = n → n < 8 → s.lens.sets.length = 8 →
     canStage n s (regClaims off) = true →
     ∃ t, exec (.stagedRegisterWrite off w) s = .next t ∧
       lookupD 0 off (t.set n).writes = w ∧ (t.set n).st = .staging ∧
       (∀ p, p ≠ Reg.SIG_STATUS.base → t.word p = s.word p)) ∧
  -- BAR2_SCRATCH_WRITE inside the window
  (∀ (off : Fin 67108864) bytes s, s.up = true → off.val + bytes.length ≤ 4 * 2 ^ 20 * s.lens.live.scratchWays →
     ∃ t, exec (.bar2ScratchWrite off bytes) s = .next t ∧ t = { s with scratch := t.scratch } ∧
       ∀ a, memRead a t.scratch = if off.val ≤ a ∧ a < off.val + bytes.length then (bytes[a - off.val]?).getD 0 else memRead a s.scratch) ∧
  -- BAR2_SCRATCH_WRITE beyond the window
  (∀ (off : Fin 67108864) bytes s, s.up = true → 4 * 2 ^ 20 * s.lens.live.scratchWays < off.val + bytes.length →
     bits (s.word Reg.GLB_BAR2_ERR.base) 63 63 = 0 →
     ∃ t, exec (.bar2ScratchWrite off bytes) s = .next t ∧ t = { s with regs := t.regs } ∧
       bits (t.word Reg.GLB_BAR2_ERR.base) 63 63 = 1 ∧ bits (t.word Reg.GLB_BAR2_ERR.base) 47 32 = 0x0109 ∧
       bits (t.word Reg.GLB_BAR2_ERR.base) 25 0 = off)

/-- Host lanes, ports, frames, flows and PTP. An open or short on a lane sets its flag and starts its re-test clock; a port that goes down clears UP and LANES; a good re-test ends the lane's fault; training raises UP of a port whose lanes are healthy and whose quad is not fenced; a frame for no interface of an UP port is dropped and counted; a congestion notification cuts a flow's rate by CC_CUT/256 and starts the recovery timer; the recovery rate lies between the rate and the target; a PTP event message on the selected port and domain sets the wall-clock offset. -/
def Obligations.HostLanesPortsAndFlows : Prop :=
  -- HOST_LANE_OPEN
  (∀ (l : Fin 32) s, s.up = true → portOfLane s l = none →
     ∃ t, exec (.hostLaneOpen l) s = .next t ∧ t.flag Reg.fHFE_LANE_STATUS_OPEN l = true ∧
       (∃ f ∈ t.host.laneFaults, f.lane = l.val ∧ f.at_ = s.now) ∧ t.host.assocs = s.host.assocs ∧ t.md = s.md) ∧
  -- HOST_LANE_SHORT
  (∀ (l : Fin 32) s, s.up = true → portOfLane s l = none →
     ∃ t, exec (.hostLaneShort l) s = .next t ∧ t.flag Reg.fHFE_LANE_STATUS_SHORT l = true ∧
       (∃ f ∈ t.host.laneFaults, f.lane = l.val ∧ f.at_ = s.now) ∧ t.host.assocs = s.host.assocs ∧ t.md = s.md) ∧
  -- HOST_PORT_LINK_DOWN of a port that is up
  (∀ (p : Fin 32) s, s.up = true → s.flag Reg.fHFE_PORT_STATUS_UP p = true →
     ∃ t, exec (.hostPortLinkDown p) s = .next t ∧ t.flag Reg.fHFE_PORT_STATUS_UP p = false ∧ t.fld Reg.fHFE_PORT_STATUS_LANES p = 0 ∧ t.host = s.host) ∧
  -- HOST_LANE_RETEST that finds the lane good
  (∀ (l : Fin 32) s f, s.up = true → s.host.laneFaults.find? (·.lane == l.val) = some f →
     ∃ t, exec (.hostLaneRetest l true) s = .next t ∧ t.now = max s.now (f.at_ + 10000000000) ∧
       t.host = { s.host with laneFaults := s.host.laneFaults.filter (·.lane != l.val) }) ∧
  -- HOST_PORT_TRAINING of a healthy port, with nothing to correct
  (∀ (p : Fin 32) s, s.up = true → portLanes s p ≠ [] → (∀ l ∈ portLanes s p, s.host.laneFaults.any (·.lane == l) = false) →
     s.isFenced (iHQ + p / 4) = false →
     ∃ t, exec (.hostPortTraining p []) s = .next t ∧ t.flag Reg.fHFE_PORT_STATUS_UP p = true ∧ t.host = s.host ∧ t.lens = s.lens) ∧
  -- HOST_FRAME_RECEIVE for no interface of the port
  (∀ (p : Fin 32) addr vlan s, s.up = true → s.flag Reg.fHFE_PORT_STATUS_UP p = true →
     (∀ i < 16, ¬ ((ifEntry s p i).1 = true ∧ (ifEntry s p i).2.1 = vlan ∧ (ifEntry s p i).2.2 = addr)) →
     ∃ t, exec (.hostFrameReceive p addr vlan) s = .next t ∧ lookupD 0 p t.host.dropped = lookupD 0 p s.host.dropped + 1 ∧
       (∀ q, q ≠ p.val → lookupD 0 q t.host.dropped = lookupD 0 q s.host.dropped) ∧ t = { s with host := { s.host with dropped := t.host.dropped } }) ∧
  -- CONGESTION_NOTIFICATION with ECN on
  (∀ c q s f, s.up = true → s.host.flows.find? (·.flow == 256 * c + q) = some f → s.flag Reg.fHFE_QOS_CFG_ECN_EN f.port = true →
     ∃ t g, exec (.congestionNotification c q) s = .next t ∧ t.host.flows.find? (·.flow == 256 * c + q) = some g ∧
       g.rate = f.rate - f.rate * s.fld Reg.fHFE_QOS_CFG_CC_CUT f.port / 256 ∧
       g.timer = some (s.now + s.fld Reg.fHFE_QOS_CFG_CC_RECOVER_US f.port * 1000) ∧ t.host.cmds = s.host.cmds) ∧
  -- RATE_RECOVERY_TIMER
  (∀ c q s f T, s.up = true → s.host.flows.find? (·.flow == 256 * c + q) = some f → f.timer = some T → f.rate ≤ f.target →
     ∃ t g, exec (.rateRecoveryTimer c q) s = .next t ∧ t.host.flows.find? (·.flow == 256 * c + q) = some g ∧
       f.rate ≤ g.rate ∧ g.rate ≤ f.target ∧ g.target = f.target ∧ t.now = max s.now T) ∧
  -- PTP_EVENT_MESSAGE on the selected port and domain
  (∀ (p : Fin 32) d off ppb s, s.up = true → s.flag Reg.fHFE_PORT_STATUS_UP p = true → s.flag Reg.fHFE_PTP_CFG_EN = true →
     s.fld Reg.fHFE_PTP_CFG_PORT = p.val → s.fld Reg.fHFE_PTP_CFG_DOMAIN = d →
     ∃ t, exec (.ptpEventMessage p d off ppb) s = .next t ∧ t.fld Reg.fTMB_WALL_OFFSET_OFFSET = unsigned 64 off ∧
       t.flag Reg.fTMB_STATUS_WALL_KNOWN = true ∧ t.flag Reg.fTMB_STATUS_PTP_LOCKED = true ∧ t.host = s.host)

/-- HOST_ADD, HOST_REMOVE and NS_ACCESS change the access directory as Table 4.2 says. HOST_ADD with legal bulk data takes a directory index that no identity holds, stores the identity with its NQN, wrapped secrets and rights and no grant, and returns the index; HOST_REMOVE takes the identity away; NS_ACCESS with bit 32 set adds the namespace to the host's grants and, for a host with no association, with bit 32 clear takes it away, in each case changing nothing else. -/
def Obligations.AccessDirectoryCommands : Prop :=
  -- HOST_ADD
  (∀ r nqn secret psk s, goes { opcode := 0x0204, windows := [0], bulk := .take none } [(1, mask 2 0 ||| mask 10 8), (2, mask64), (3, mask64)] r s = true →
     r.bulkFault = none → 0 < nqn.utf8ByteSize → nqn.utf8ByteSize ≤ 223 → (∀ h ∈ s.host.directory, h.nqn ≠ nqn) → s.host.directory.length < 262144 →
     ∃ t h, exec (.hostAdd r nqn secret psk true) s = .next t ∧ s.ident h.index = none ∧ answered r cOK 0 [BitVec.ofNat 64 h.index] t ∧
       windowOnly (s.putIdent h) t ∧ h.nqn = nqn ∧ h.secret = secret ∧ h.psk = psk ∧ h.grants = [] ∧
       h.authReq = (r.argBits 1 0 0 == 1) ∧ h.nsMgmt = (r.argBits 1 1 1 == 1) ∧ h.fwUpd = (r.argBits 1 2 2 == 1)) ∧
  -- HOST_REMOVE
  (∀ r s h, goes { opcode := 0x0205, windows := [0] } [(1, mask64)] r s = true → s.ident (r.arg 1) = some h →
     ∃ t, exec (.hostRemove r) s = .next t ∧ answered r cOK 0 [] t ∧ t.host.directory = s.host.directory.filter (·.index != h.index)) ∧
  -- NS_ACCESS with bit 32 set
  (∀ r s h, goes { opcode := 0x0206, windows := [0] } [(1, mask64), (2, mask 32 0)] r s = true → s.ident (r.arg 1) = some h →
     (s.ns (r.argBits 2 31 0)).isSome = true →
     ∃ t, exec (.nsAccessGrant r) s = .next t ∧ answered r cOK 0 [] t ∧ windowOnly (s.putIdent { h with grants := insertNat (r.argBits 2 31 0) h.grants }) t) ∧
  -- NS_ACCESS with bit 32 clear, of a host with no association
  (∀ r s h, goes { opcode := 0x0206, windows := [0] } [(1, mask64), (2, mask 32 0)] r s = true → s.ident (r.arg 1) = some h →
     (s.ns (r.argBits 2 31 0)).isSome = true → assocsOf s h.index = [] →
     ∃ t, exec (.nsAccessRevoke r) s = .next t ∧ answered r cOK 0 [] t ∧ windowOnly (s.putIdent { h with grants := h.grants.filter (· != r.argBits 2 31 0) }) t)

/-- TLS, Connect and authentication move a connection and an association as R83 to R90 say. A good TLS handshake leaves an open connection with first traffic keys, a bad one alerts and leaves none; a bad record ends its connection with bad_record_mac; a key update moves one direction to its next key. Connect on the admin queue of an UP port for a listed host creates one association with queue 0, on an I/O queue within the grant it opens the queue. A DH-HMAC-CHAP negotiation that the directory entry allows is challenged, a good reply is accepted, and Success1 makes the association authenticated. -/
def Obligations.TransportAndAuthentication : Prop :=
  -- TLS_HANDSHAKE that PSK, suite and group allow
  (∀ c (p : Fin 32) h s, s.up = true → (s.ident h).any (·.psk.isSome) = true →
     ∃ t, exec (.tlsHandshake c p h true true false false) s = .next t ∧
       t.host.tls.find? (·.conn == c) = some { conn := c, port := p, host := h, up := true, rxKey := 0, txKey := 0, assoc := none } ∧
       t = { s with host := { s.host with tls := t.host.tls } }) ∧
  -- TLS_HANDSHAKE refused on a connection that does not stand
  (∀ c (p : Fin 32) h so g e ce s, s.up = true → (so && g && !e && !ce && (s.ident h).any (·.psk.isSome)) = false →
     s.host.tls.find? (·.conn == c) = none →
     exec (.tlsHandshake c p h so g e ce) s = .next (s.emit (.tlsAlert c false))) ∧
  -- TLS_RECORD whose tag fails, on a connection without association
  (∀ c s x, s.up = true → s.host.tls.find? (·.conn == c) = some x → x.assoc = none →
     exec (.tlsRecord c false) s = .next { s.emit (.tlsAlert c true) with host := { s.host with tls := s.host.tls.filter (·.conn != c) } }) ∧
  -- TLS_KEY_UPDATE
  (∀ c rx s, s.up = true →
     exec (.tlsKeyUpdate c rx) s = .next { s with host := { s.host with tls := updateIf (fun t => t.conn == c && t.up) (fun t => if rx then { t with rxKey := t.rxKey + 1 } else { t with txKey := t.txKey + 1 }) s.host.tls } }) ∧
  -- CONNECT on the admin queue
  (∀ (p : Fin 32) k nqn hid ct (n : Nat) cid kato s h, s.up = true → s.hup.dumping = false → s.flag Reg.fHFE_PORT_STATUS_UP p = true → 0 < n → n ≤ 32 →
     s.host.directory.find? (·.nqn == nqn) = some h → (h.hostId = 0 ∨ h.hostId = hid) → (h.authReq = true → h.secret.isSome = true) →
     s.host.assocs.length < 16384 → kato ≤ 600 →
     ∃ t a, exec (.connect p k nqn hid ct 0 n cid kato none) s = .next t ∧ t.host.assocs = s.host.assocs ++ [a] ∧ a.host = h.index ∧ a.port = p.val ∧
       a.kind = k ∧ a.queues = [] ∧ (a.auth = .done ↔ h.authReq = false) ∧ a.granted ≤ 128 ∧
       t.outputs = .completion a.cntlid 0 cid .success a.cntlid :: s.outputs) ∧
  -- CONNECT on an I/O queue of an authenticated association
  (∀ (p : Fin 32) k nqn hid c (q : Fin 65536) (n : Nat) cid kato s a, s.up = true → s.hup.dumping = false → s.flag Reg.fHFE_PORT_STATUS_UP p = true →
     0 < q.val → s.assoc c = some a → a.auth = .done → q.val ≤ a.granted → 0 < n → n ≤ 1024 → (∀ e ∈ a.queues, e.1 ≠ q.val) →
     (s.ident a.host).any (·.nqn == nqn) = true →
     ∃ t, exec (.connect p k nqn hid c q n cid kato none) s = .next t ∧ t.assoc c = some { a with queues := a.queues ++ [(q.val, n)] } ∧
       t.outputs = .completion c q cid .success c :: s.outputs) ∧
  -- AUTHENTICATION_SEND of a negotiation that the directory entry allows
  (∀ c i hs gs s a h, s.up = true → s.hup.dumping = false → s.assoc c = some a → s.ident a.host = some h → a.auth = .none → h.secret.isSome = true →
     authOffer h hs gs = true →
     ∃ t, exec (.authenticationSend c i (.negotiate hs gs)) s = .next t ∧ t.assoc c = some { a with auth := .challenged } ∧
       t.outputs = .completion c 0 i .success 0 :: s.outputs) ∧
  -- AUTHENTICATION_SEND of a reply that checks
  (∀ c i b s a h, s.up = true → s.hup.dumping = false → s.assoc c = some a → s.ident a.host = some h → a.auth = .challenged →
     ∃ t, exec (.authenticationSend c i (.reply true b)) s = .next t ∧ t.assoc c = some { a with auth := .replied } ∧
       t.outputs = .completion c 0 i .success 0 :: s.outputs) ∧
  -- AUTHENTICATION_RECEIVE of Success1
  (∀ c i s a h, s.up = true → s.hup.dumping = false → s.assoc c = some a → s.ident a.host = some h → a.auth = .replied →
     ∃ t, exec (.authenticationReceive c i) s = .next t ∧ t.assoc c = some { a with auth := .done } ∧
       t.outputs = [.completion c 0 i .success 0, .adminData c i (.message .success1)] ++ s.outputs)

/-- Properties, keep alive, events, features, logs, namespace management and the end of an association. On an authenticated association: Property Set and Get, Keep Alive, Asynchronous Event Request, Set and Get Features, Identify, Get Log Page, Namespace Management and Attachment complete and change what R93 says; an unsupported opcode is answered Invalid Opcode; a keep-alive that expires or a connection that is lost ends the association and no other; an idle association's APST entry moves its power state. The version and MQES that Property Get returns, and the serving without queue state, are choices of the model (logs 16, 17). -/
def Obligations.AssociationAndAdminCommands : Prop :=
  -- PROPERTY_SET of CC.EN
  (∀ c i s a, s.up = true → s.hup.dumping = false → s.assoc c = some a → a.auth = .done →
     ∃ t, exec (.propertySet c i true) s = .next t ∧ t.assoc c = some { a with enabled := true } ∧ t.outputs = .completion c 0 i .success 0 :: s.outputs) ∧
  -- PROPERTY_SET that clears CC.EN ends the association and no other
  (∀ c i s a, s.up = true → s.assoc c = some a → a.auth = .done → a.enabled = true →
     ∃ t, exec (.propertySet c i false) s = .next t ∧ t.host.assocs = s.host.assocs.filter (·.cntlid != c) ∧ t.host.directory = s.host.directory) ∧
  -- PROPERTY_GET of VS and CC
  (∀ c i s a, s.up = true → s.hup.dumping = false → s.assoc c = some a → a.auth = .done →
     exec (.propertyGet c i 8) s = .next ((s.emit (.adminData c i (.value 0x20000))).emit (.completion c 0 i .success 0)) ∧
     exec (.propertyGet c i 20) s = .next ((s.emit (.adminData c i (.value (if a.enabled then 1 else 0)))).emit (.completion c 0 i .success 0))) ∧
  -- KEEP_ALIVE
  (∀ c i s a, s.up = true → s.hup.dumping = false → s.assoc c = some a → a.auth = .done →
     exec (.keepAlive c i) s = .next ((s.putAssoc { a with katoAt := s.now + a.kato * 1000000000 }).emit (.completion c 0 i .success 0))) ∧
  -- KEEP_ALIVE_EXPIRY
  (∀ c s a, s.up = true → s.assoc c = some a → a.kato ≠ 0 →
     ∃ t, exec (.keepAliveExpiry c) s = .next t ∧ t.host.assocs = s.host.assocs.filter (·.cntlid != c) ∧ t.assoc c = none ∧ t.host.directory = s.host.directory) ∧
  -- TRANSPORT_CONNECTION_LOSS
  (∀ c s, s.up = true →
     ∃ t, exec (.transportConnectionLoss c) s = .next t ∧ t.host.assocs = s.host.assocs.filter (·.cntlid != c) ∧ t.assoc c = none ∧ t.host.directory = s.host.directory) ∧
  -- ASYNCHRONOUS_EVENT_REQUEST with no event waiting is held
  (∀ c i s a, s.up = true → s.assoc c = some a → a.auth = .done → a.events = [] → a.aers.length < 8 →
     exec (.asynchronousEventRequest c i) s = .next (s.putAssoc { a with aers := a.aers ++ [i] })) ∧
  -- ASYNCHRONOUS_EVENT_REQUEST takes the oldest event that waits
  (∀ c i s a e l, s.up = true → s.hup.dumping = false → s.assoc c = some a → a.auth = .done → a.events = e :: l →
     exec (.asynchronousEventRequest c i) s = .next ((s.putAssoc { a with events := l }).emit (.completion c 0 i .success e))) ∧
  -- UNSUPPORTED_OPCODE
  (∀ c q i s a, s.up = true → s.hup.dumping = false → s.assoc c = some a →
     exec (.unsupportedOpcode c q i) s = .next (s.emit (.completion c q i .invalidOpcode 0))) ∧
  -- SET_FEATURES Power Management, Number of Queues, Asynchronous Event Configuration
  (∀ c i v n s a, s.up = true → s.hup.dumping = false → s.assoc c = some a → a.auth = .done →
     (v % 32 ≤ 2 → exec (.setFeatures c i 0x02 v n []) s = .next ((s.putAssoc { a with psSet := v % 32, psNow := v % 32 }).emit (.completion c 0 i .success 0))) ∧
     (∃ t g, exec (.setFeatures c i 0x07 v n []) s = .next t ∧ t.assoc c = some { a with granted := g } ∧ g ≤ 128 ∧ g ≤ min (v % 65536) (v / 65536) + 1) ∧
     exec (.setFeatures c i 0x0B v n []) s = .next ((s.putAssoc { a with aenMask := BitVec.ofNat 32 v }).emit (.completion c 0 i .success 0))) ∧
  -- GET_FEATURES Power Management and Number of Queues
  (∀ c i n s a, s.up = true → s.hup.dumping = false → s.assoc c = some a → a.auth = .done →
     exec (.getFeatures c i 0x02 n) s = .next (s.emit (.completion c 0 i .success a.psSet)) ∧
     exec (.getFeatures c i 0x07 n) s = .next (s.emit (.completion c 0 i .success ((a.granted - 1) * 65537)))) ∧
  -- APST_IDLE_TIMER of an idle association
  (∀ c s a e, s.up = true → s.assoc c = some a → contextsOf s c = 0 → a.apst.find? (·.fromPs == a.psNow) = some e → e.idleMs ≠ 0 →
     ∃ t, exec (.apstIdleTimer c) s = .next t ∧ t.assoc c = some { a with psNow := e.toPs } ∧ t.now = s.now + e.idleMs * 1000000 ∧ t.outputs = s.outputs) ∧
  -- NVME_IDENTIFY of the controller and of a namespace the host sees
  (∀ c i nsid s a sh n, s.up = true → s.hup.dumping = false → s.assoc c = some a → a.auth = .done → s.ns nsid = some (sh, n) → (visible s a).contains nsid = true →
     exec (.nvmeIdentify c i 0 nsid) s = .next ((s.emit (.adminData c i
       (.space nsid n.size (if n.small then 512 else 4096) (if n.small then 2047 else 255) n.group))).emit (.completion c 0 i .success 0))) ∧
  -- GET_LOG_PAGE: SMART, and the Changed Namespace List, which reading clears
  (∀ c i s a, s.up = true → s.hup.dumping = false → s.assoc c = some a → a.auth = .done →
     exec (.getLogPage c i 0x02) s = .next ((s.emit (.adminData c i (.smart (smartLog s)))).emit (.completion c 0 i .success 0)) ∧
     exec (.getLogPage c i 0x04) s = .next (((s.putAssoc { a with changedNs := [] }).emit (.adminData c i (.spaces a.changedNs))).emit (.completion c 0 i .success 0))) ∧
  -- NAMESPACE_MANAGEMENT create by a host with NSMGMT, in a group this head owns
  (∀ c i nsid size g sm s a, s.up = true → s.hup.dumping = false → s.assoc c = some a → a.auth = .done → (s.ident a.host).any (·.nsMgmt) = true →
     0 < g → g ≤ 512 → s.owns g = true →
     ∀ id, ((List.range' 1 65536).find? fun i => (s.ns i).isNone) = some id → createFault s (freshNamespace id sm g size 0 0) = none →
     ∃ t, exec (.namespaceManagement c i true nsid size g sm) s = .next t ∧ t.md.store.ns id = some (freshNamespace id sm g size 0 0) ∧
       t.outputs.head? = some (.completion c 0 i .success id) ∧ t.host = s.host ∧ t.md.shadow = s.md.shadow) ∧
  -- NAMESPACE_ATTACHMENT of no controller, and one refused to a host without NSMGMT
  (∀ c i at_ nsid l s a, s.up = true → s.hup.dumping = false → s.assoc c = some a → a.auth = .done →
     ((s.ident a.host).any (·.nsMgmt) = false → exec (.namespaceAttachment c i at_ nsid l) s = .next (s.emit (.completion c 0 i .operationDenied 0))) ∧
     ((s.ident a.host).any (·.nsMgmt) = true → (s.ns nsid).isSome = true → ∀ b h, s.assoc b.cntlid = some b → s.ident b.host = some h → 
       ∃ t, exec (.namespaceAttachment c i true nsid [b.cntlid]) s = .next t ∧ t.outputs.head? = some (.completion c 0 i .success 0) ∧
         t.host.directory = putBy HostIdent.index { h with grants := insertNat nsid h.grants } s.host.directory))

/-- Host I/O commands take a context and are served, solicited or answered at the owner. With a ready capsule inside its namespace: a Write or Compare without in-capsule data takes a context and solicits the bytes; solicited data and RDMA READ data join it in order; a Write Zeroes, deallocate or Copy at the owner becomes ready for the journal; a Read of an unmapped 4 KiB block sends zeros and completes; Flush of all completes; Reservation Register, Acquire and Release store the new reservation and complete, and Report returns it; a waiting capsule is admitted; an Abort of a command that is not journaled ends it with Abort Requested. -/
def Obligations.HostReadsAndWritesAreServed : Prop :=
  -- NVME_WRITE with its data to be solicited
  (∀ c sgl s sh n, ioReady c s = true → s.ns c.nsid = some (sh, n) → 0 < c.nblk → c.slba + c.nblk ≤ n.size → c.nblk * sectorsPerBlock n ≤ 4096 →
     512 * (c.nblk * sectorsPerBlock n) ≤ sgl →
     ∃ t x, exec (.nvmeWrite c sgl []) s = .next t ∧ t.host.cmds = s.host.cmds ++ [x] ∧ x.is c.cntlid c.qid c.cid = true ∧ x.kind = .write ∧
       x.phase = .receiving ∧ x.data = [] ∧ x.missing = c.nblk * sectorsPerBlock n ∧ t.md = s.md ∧ t.wr = s.wr ∧
       t.outputs = .solicit c.cntlid c.qid c.cid (512 * (c.nblk * sectorsPerBlock n)) :: s.outputs) ∧
  -- COMPARE with its data to be solicited
  (∀ c sgl pt b s sh n, ioReady c s = true → s.ns c.nsid = some (sh, n) → 0 < c.nblk → c.slba + c.nblk ≤ n.size → c.nblk * sectorsPerBlock n ≤ 4096 →
     512 * (c.nblk * sectorsPerBlock n) ≤ sgl →
     ∃ t x, exec (.compare c sgl [] pt b) s = .next t ∧ t.host.cmds = s.host.cmds ++ [x] ∧ x.is c.cntlid c.qid c.cid = true ∧ x.kind = .compare ∧
       x.phase = .receiving ∧ x.missing = c.nblk * sectorsPerBlock n ∧ t.md = s.md ∧ t.wr = s.wr ∧
       t.outputs = .solicit c.cntlid c.qid c.cid (512 * (c.nblk * sectorsPerBlock n)) :: s.outputs) ∧
  -- H2C_DATA_PDU with part of the data solicited
  (∀ c q i data b s x, s.serves = true → s.hostCmd c q i = some x → x.phase = .receiving → data.length < x.missing →
     exec (.h2cDataPdu c q i data true b) s = .next (s.putCmd { x with data := x.data ++ data, missing := x.missing - data.length })) ∧
  -- RDMA_READ_COMPLETION with part of the data solicited
  (∀ c q i data b s x, s.serves = true → s.hostCmd c q i = some x → x.phase = .receiving → data.length < x.missing →
     exec (.rdmaReadCompletion c q i true data b) s = .next (s.putCmd { x with data := x.data ++ data, missing := x.missing - data.length })) ∧
  -- RDMA_READ_COMPLETION that failed
  (∀ c q i data b s x, s.serves = true → s.peer.changes = [] → s.hostCmd c q i = some x → x.phase = .receiving →
     ∃ t, exec (.rdmaReadCompletion c q i false data b) s = .next t ∧ t.host.cmds = (s.dropCmd x).host.cmds ∧
       t.outputs = .completion c q i .dataTransferError 0 :: s.outputs ∧ t.wr = s.wr ∧ t.md = s.md) ∧
  -- WRITE_ZEROES at the owner
  (∀ c s sh n, ioReady c s = true → servesHere s c.nsid sh n → c.slba + c.nblk ≤ n.size →
     ∃ t x, exec (.writeZeroes c) s = .next t ∧ t.host.cmds = s.host.cmds ++ [x] ∧ x.is c.cntlid c.qid c.cid = true ∧ x.kind = .writeZeroes ∧
       x.slba = c.slba ∧ x.nblk = c.nblk ∧ x.phase = .ready ∧ t.md = s.md ∧ t.wr = s.wr ∧ t.outputs = s.outputs) ∧
  -- DATASET_MANAGEMENT deallocating at the owner
  (∀ c rs s sh n, ioReady c s = true → servesHere s c.nsid sh n → rs.length ≤ 256 → (∀ r ∈ rs, r.1 + r.2 ≤ n.size) →
     ∃ t x, exec (.datasetManagement c true rs) s = .next t ∧ t.host.cmds = s.host.cmds ++ [x] ∧ x.is c.cntlid c.qid c.cid = true ∧ x.kind = .deallocate ∧
       x.ranges = rs.map (fun r => (r.1, r.2, 0)) ∧ x.phase = .ready ∧ t.md = s.md ∧ t.wr = s.wr ∧ t.outputs = s.outputs) ∧
  -- COPY at the owner
  (∀ c rs s sh n, ioReady c s = true → servesHere s c.nsid sh n → rs.length ≤ 128 → (∀ r ∈ rs, r.2 ≤ 65536 ∧ r.1 + r.2 ≤ n.size) →
     (rs.map Prod.snd).sum ≤ 1048576 → c.slba + (rs.map Prod.snd).sum ≤ n.size → (∀ r ∈ copyRanges c.slba rs, r.1 + r.2.1 ≤ n.size) →
     ∃ t x, exec (.copy c rs) s = .next t ∧ t.host.cmds = s.host.cmds ++ [x] ∧ x.is c.cntlid c.qid c.cid = true ∧ x.kind = .copy ∧
       x.ranges = copyRanges c.slba rs ∧ x.phase = .ready ∧ t.md = s.md ∧ t.wr = s.wr ∧ t.outputs = s.outputs) ∧
  -- NVME_READ of one unmapped 4 KiB block at the owner
  (∀ c sgl pt b s sh n, ioReady c s = true → servesHere s c.nsid sh n → n.small = false → c.nblk = 1 → c.slba < n.size → 4096 ≤ sgl →
     (s.store sh).mapGet n.root n.height c.slba = .unmapped → pageLost s sh n c.slba = false → (∀ e ∈ s.wr.ring, e.rec_.nsid ≠ c.nsid) →
     s.peer.changes = [] →
     ∃ t, exec (.nvmeRead c sgl pt b) s = .next t ∧ t.host.cmds = s.host.cmds ∧ t.md = s.md ∧
       t.outputs = [.completion c.cntlid c.qid c.cid .success 0,
         .hostData c.cntlid c.qid c.cid c.slba [(0, 0), (1, 0), (2, 0), (3, 0), (4, 0), (5, 0), (6, 0), (7, 0)]] ++ s.outputs) ∧
  -- FLUSH of every namespace
  (∀ c s a, s.serves = true → c.nsid = 0xFFFFFFFF → s.assoc c.cntlid = some a → s.peer.st ≠ .fenced →
     exec (.flush c) s = .next (s.emit (.completion c.cntlid c.qid c.cid .success 0))) ∧
  -- RESERVATION_REGISTER at the owner, with no partner and nobody else registered
  (∀ c (act : Fin 8) cur new ie (cp : Fin 4) s sh n a i r, ioReady c s = true → s.ns c.nsid = some (sh, n) → anaState s n.group = .optimised → s.owns n.group = true →
     (sh = false ∨ s.peer.survivor = true) → s.peer.st ≠ .paired → s.peer.changes = [] → s.assoc c.cntlid = some a → s.ident a.host = some i →
     applyRsv (.register act cur new ie cp) (hostKey i) n.rsv = some r → (∀ e ∈ n.rsv.regs, e.1 = hostKey i) →
     ∃ t, exec (.reservationRegister c act cur new ie cp) s = .next t ∧ (t.store sh).ns c.nsid = some { n with rsv := r } ∧ t.host.cmds = s.host.cmds ∧
       t.host.assocs = s.host.assocs ∧ t.outputs.head? = some (.completion c.cntlid c.qid c.cid .success 0)) ∧
  -- RESERVATION_ACQUIRE at the owner, with no partner and nobody else registered
  (∀ c (act : Fin 8) cur prev (ty : Fin 256) s sh n a i r, ioReady c s = true → s.ns c.nsid = some (sh, n) → anaState s n.group = .optimised → s.owns n.group = true →
     (sh = false ∨ s.peer.survivor = true) → s.peer.st ≠ .paired → s.peer.changes = [] → s.assoc c.cntlid = some a → s.ident a.host = some i →
     applyRsv (.acquire act cur prev ty) (hostKey i) n.rsv = some r → (∀ e ∈ n.rsv.regs, e.1 = hostKey i) →
     ∃ t, exec (.reservationAcquire c act cur prev ty) s = .next t ∧ (t.store sh).ns c.nsid = some { n with rsv := r } ∧ t.host.cmds = s.host.cmds ∧
       t.host.assocs = s.host.assocs ∧ t.outputs.head? = some (.completion c.cntlid c.qid c.cid .success 0)) ∧
  -- RESERVATION_RELEASE at the owner, with no partner and nobody else registered
  (∀ c (act : Fin 8) cur (ty : Fin 256) s sh n a i r, ioReady c s = true → s.ns c.nsid = some (sh, n) → anaState s n.group = .optimised → s.owns n.group = true →
     (sh = false ∨ s.peer.survivor = true) → s.peer.st ≠ .paired → s.peer.changes = [] → s.assoc c.cntlid = some a → s.ident a.host = some i →
     applyRsv (.release act cur ty) (hostKey i) n.rsv = some r → (∀ e ∈ n.rsv.regs, e.1 = hostKey i) →
     ∃ t, exec (.reservationRelease c act cur ty) s = .next t ∧ (t.store sh).ns c.nsid = some { n with rsv := r } ∧ t.host.cmds = s.host.cmds ∧
       t.host.assocs = s.host.assocs ∧ t.outputs.head? = some (.completion c.cntlid c.qid c.cid .success 0)) ∧
  -- RESERVATION_REPORT of a namespace the host sees
  (∀ c s a sh n, s.serves = true → s.assoc c.cntlid = some a → s.ns c.nsid = some (sh, n) → (visible s a).contains c.nsid = true →
     exec (.reservationReport c) s = .next ((s.emit (.adminData c.cntlid c.cid (.reservations n.rsv))).emit (.completion c.cntlid c.qid c.cid .success 0))) ∧
  -- CAPSULE_CONTEXT_ADMIT of a lone capsule whose data is awaited
  (∀ w s sh n, s.serves = true → s.host.waiting = [w] → contextFree s w.cntlid = true → s.ns w.cmd.nsid = some (sh, n) → w.cmd.missing ≠ 0 →
     ∃ t, exec .capsuleContextAdmit s = .next t ∧ t.host.waiting = [] ∧ t.host.cmds = s.host.cmds ++ [w.cmd] ∧ t.host.lastServed = w.cntlid ∧
       t.outputs = .solicit w.cmd.cntlid w.cmd.qid w.cmd.cid (512 * w.cmd.missing) :: s.outputs) ∧
  -- ABORT of a command that is ready and not journaled
  (∀ c i q k s a x, s.up = true → s.hup.dumping = false → s.peer.changes = [] → s.assoc c = some a → a.auth = .done → a.aborts < 4 →
     s.hostCmd c q k = some x → x.phase = .ready → x.fetches = [] →
     ∃ t, exec (.abort c i q k) s = .next t ∧ t.host.cmds = (s.dropCmd x).host.cmds ∧ t.md = s.md ∧
       t.outputs = [.completion c 0 i .success 0, .completion c q k .abortRequested 0] ++ s.outputs)

/-- Records are appended, vaulted, mapped and retired as chapter 5 says. A Write Zeroes of at most 1 MiB with ring room becomes one record that carries the next JSEQ; the 4 µs timer hands the open vault page on; the first programmed copy counts on the oldest page sent; a zero grain of a record that passes in order becomes one map delta and counts as mapped; the 5 ms timer seals an open row; a lone record that has passed every step retires, its room is free and JSEQ_RETIRED is the next JSEQ; each second the window of the served namespaces moves on. -/
def Obligations.JournalAndVaultPages : Prop :=
  -- JOURNAL_APPEND of a Write Zeroes within 1 MiB while the head does not acknowledge
  (∀ c q i f fa s x sh n, s.serves = true → s.host.cmds.find? (fun x => x.is c q i && x.fwdTag == f) = some x → x.phase = .ready → x.kind = .writeZeroes →
     s.ns x.nsid = some (sh, n) → 0 < x.nblk → x.nblk ≤ blocksPerMiB n → syncStream s n.nsid = none → syncStream s x.nsid = none →
     ringBytes s + 128 ≤ ringCapacity s → s.wr.ackMode = 3 → s.mirrors = false →
     ∃ t e, exec (.journalAppend c q i f fa) s = .next t ∧ t.wr.ring = s.wr.ring ++ [e] ∧ e.rec_.jseq = s.wr.jseqNext ∧ e.rec_.kind = .writeZeroes ∧
       e.rec_.nsid = n.nsid ∧ e.rec_.slba = x.slba ∧ e.rec_.nblk = x.nblk ∧ e.rec_.head = s.peer.head ∧ e.mapped = [] ∧ e.retired = false ∧
       t.wr.jseqNext = s.wr.jseqNext + 1 ∧ t.host.cmds = (s.putCmd { x with phase := .journaled, jseqs := [s.wr.jseqNext], data := [] }).host.cmds ∧ t.md = s.md) ∧
  -- VAULT_PAGE_TIMER with an open page
  (∀ s p, s.up = true → s.wr.pages.find? (!·.sent) = some p →
     ∃ t, exec .vaultPageTimer s = .next t ∧ t.now = max s.now (p.since + 4000) ∧
       t.wr = { s.wr with pages := updateIf (!·.sent) (fun p => { p with sent := true }) s.wr.pages } ∧ t.hup = s.hup ∧ t.md = s.md) ∧
  -- VAULT_PAGE_PROGRAMMED on the first copy
  (∀ s p l, s.up = true → s.wr.pages = p :: l → p.sent = true → p.copies = 0 →
     exec .vaultPageProgrammed s = .next { s with wr := { s.wr with pages := { p with copies := 1 } :: l } }) ∧
  -- GRAIN_FINGERPRINT of a zero grain that is not the record's last, in a tree with no root
  (∀ j idx pt f s e g sh n, s.pipes = true → ringEntry s j = some e → e.rec_.jseq = j → s.ns e.rec_.nsid = some (sh, n) → inOrder s e = true → idx = e.mapped.length →
     e.rec_.kind = .data → e.rec_.grains[idx]? = some g → g.zero = true → e.mapped.length + 1 < e.rec_.grains.length → n.root = none →
     ∃ t e', exec (.grainFingerprint j idx pt f) s = .next t ∧ ringEntry t j = some e' ∧ e'.mapped = e.mapped ++ [idx] ∧
       t.store sh = applyDelta (s.writer sh) (.mapSet e.rec_.nsid (e.rec_.slba * sectorsPerBlock n / 8 + idx) .zero) (s.store sh) ∧ t.host = s.host) ∧
  -- ROW_SEAL_TIMER of an open row
  (∀ (pt : Fin 68) (d : Fin 8) s r, s.up = true → openRow s pt d = some r →
     ∃ t, exec (.rowSealTimer pt d) s = .next t ∧ t.now = max s.now (r.lastAt + 5000000) ∧
       t.wr.rows = updateIf (fun r => r.pt == pt.val && r.domain == d.val && !r.sealed) (fun r => { r with sealed := true }) s.wr.rows ∧ t.md = s.md) ∧
  -- JOURNAL_RECORD_RETIRE of the only record in the ring
  (∀ s e, s.up = true → s.wr.ring = [e] → mayRetire s e = true → e.rec_.head = s.peer.head → s.mirrors = false → s.wr.ringWait = [] →
     ∃ t, exec (.journalRecordRetire e.rec_.jseq) s = .next t ∧ t.wr.ring = [] ∧ t.wr.jseqRetired = s.wr.jseqNext ∧ t.wr.jseqNext = s.wr.jseqNext ∧
       t.hup.stream = s.hup.stream.filter (fun r => s.wr.jseqNext ≤ r.jseq) ∧ t.md = s.md ∧ t.host = s.host) ∧
  -- ANOMALY_SCORE_TICK with one namespace, served by this head
  (∀ s n sh m, s.up = true → s.namespaces = [n] → s.ns n.nsid = some (sh, m) → s.owns m.group = true →
     ∃ t, exec .anomalyScoreTick s = .next t ∧ (guardOf t m.nsid).window.head? = some (List.replicate 16 0) ∧ (guardOf t m.nsid).hits.head? = some 0 ∧
       (guardOf t m.nsid).window.length ≤ 10)

/-- The read path: verify, reconstruct, fetch, repair, and rows that program. A codeword that decodes at its first set counts one read and keeps its set for the die; a verified grain, a reconstructed one, or the partner's copy of a journaled one goes to the host and, being the last, completes the read; a repair whose grain reads lost leaves the repair queue; a row that programs, or fails on a member already erased, leaves the rows in flight and frees the records that waited for its grains. -/
def Obligations.ReadsAreVerifiedRebuiltAndRepaired : Prop :=
  -- CODEWORD_READ_ESCALATION that decodes at the first attempt
  (∀ a t l soft s m, s.pipes = true → s.module a.module = some m → 0 < m.desc.retrySets → readsErased t.raw = false → Sys2Proof.Machine.CwAttempt.ok t a = true →
     exec (.codewordReadEscalation a (t :: l) soft) s = .next (setSticky a (firstSet s a % max 1 m.desc.retrySets) (countReads a 1 0 s))) ∧
  -- GRAIN_VERIFY of the last grain of the one read in flight
  (∀ s x f ss, s.serves = true → s.host.cmds = [x] → x.kind = .read → x.fwdTag = none → x.fetches = [f] → f.wait = .media → x.failed = none → x.differs = false →
     s.peer.changes = [] →
     ∃ t, exec (.grainVerify x.cntlid x.qid x.cid none f.no (.verified ss)) s = .next t ∧ t.host.cmds = [] ∧ t.md = s.md ∧ t.wr = s.wr ∧
       t.outputs = [.completion x.cntlid x.qid x.cid .success 0,
         .hostData x.cntlid x.qid x.cid f.key (f.pick.map fun p => (p.1, (ss[p.2]?).getD 0))] ++ s.outputs) ∧
  -- JOURNAL_FETCH of a good copy for the last grain of the one read in flight
  (∀ s x f j ss, s.serves = true → s.host.cmds = [x] → x.kind = .read → x.fwdTag = none → x.fetches = [f] → f.wait = .journal j → x.failed = none → x.differs = false →
     s.peer.changes = [] → s.peer.st = .paired →
     ∃ t, exec (.journalFetch x.cntlid x.qid x.cid none f.no true ss) s = .next t ∧ t.host.cmds = [] ∧ t.md = s.md ∧ t.wr = s.wr ∧
       t.outputs = [.completion x.cntlid x.qid x.cid .success 0,
         .hostData x.cntlid x.qid x.cid f.key (f.pick.map fun p => (p.1, (ss[p.2]?).getD 0))] ++ s.outputs) ∧
  -- GRAIN_RECONSTRUCTION for the last grain of the one read in flight
  (∀ (pt : Fin 66) s x f r e ss b, s.serves = true → s.host.cmds = [x] → x.kind = .read → x.fwdTag = none → x.fetches = [f] → f.wait = .recon → x.failed = none →
     x.differs = false → s.peer.changes = [] → s.rd.recons = [r] → r.pt = pt.val → r.grain = f.grain → r.decoded = false → r.waiters = [(x.cntlid, x.qid, x.cid)] →
     s.dirOf f.grain = some e → memberGone s e.addr = true →
     ∃ t, exec (.grainReconstruction pt f.grain (.verified ss b false)) s = .next t ∧ t.host.cmds = [] ∧ t.rd.recons = [] ∧ t.rd.repairs = s.rd.repairs ∧ t.md = s.md ∧ t.wr = s.wr ∧
       t.outputs = [.completion x.cntlid x.qid x.cid .success 0,
         .hostData x.cntlid x.qid x.cid f.key (f.pick.map fun p => (p.1, (ss[p.2]?).getD 0))] ++ s.outputs) ∧
  -- REPAIR_IN_PLACE of a queued grain that reads lost
  (∀ g c s e, s.pipes = true → s.dirOf g = some e → s.rd.repairs.contains g = true →
     ((s.wr.rows.flatMap (·.grains) ++ s.wr.unpacked.map (·.2.2)).any fun p => p.hdr.grainId == g) = false → e.refs ≠ 0 →
     ∃ t, exec (.repairInPlace g (.lost c)) s = .next t ∧ t.rd = { s.rd with repairs := s.rd.repairs.erase g, rewrites := s.rd.rewrites.erase g } ∧
       t.wr = s.wr ∧ t.host = s.host) ∧
  -- ROW_PROGRAM_SUCCESS of a sealed row
  (∀ seg row s r sh x, s.pipes = true → sealedRow s seg row = some r → s.segment seg = some (sh, x) →
     ∃ t, exec (.rowProgramSuccess seg row) s = .next t ∧ t.wr.rows = s.wr.rows.erase r ∧
       t.wr.ring = s.wr.ring.map fun e => { e with pendingIds := e.pendingIds.filter fun g =>
         !(((r.grains.filter (·.jseq.isSome)).map fun p => p.hdr.grainId).contains g) }) ∧
  -- ROW_PROGRAM_FAIL on a member that is gone already
  (∀ seg row k s r sh x a, s.pipes = true → sealedRow s seg row = some r → s.segment seg = some (sh, x) → x.members[k]? = some a → (goneMembers s x).contains k = true →
     ∃ t, exec (.rowProgramFail seg row k) s = .next t ∧ t.wr.rows = s.wr.rows.erase r ∧
       t.wr.ring = s.wr.ring.map fun e => { e with pendingIds := e.pendingIds.filter fun g =>
         !(((r.grains.filter (·.jseq.isSome)).map fun p => p.hdr.grainId).contains g) })

/-- Modules and dies that fail, segments that open, rebuild and the movers of flash management. A module that the partner reaches counts as reached; the first fault of a die issues DIE_RESET; a packer opens its next segment; rebuild takes the first segment of its queue; a substitution whose transaction is durable puts the target in the member's place; a stall ends when space is back; folding, collection, levelling and refresh each move their next segment; a retired segment goes, an erased block is ERASED with one more erase; the retention clock charges its intervals. -/
def Obligations.FailuresRebuildAndFlashManagement : Prop :=
  -- MODULE_REACH_CHECK of a module that only the partner reaches
  (∀ s m, s.up = true → s.media.modules = [m] → m.st ≠ .absent → m.st ≠ .failed → partnerPresent s = true → s.sml.partnerReach.contains m.index = true → manyDead m = false →
     ∃ t, exec .moduleReachCheck s = .next t ∧ t.module m.index = some { m with reachedAt := t.now } ∧ t.regs = s.regs ∧ t.md = s.md ∧ s.now ≤ t.now) ∧
  -- DIE_FAULT, the first of a module
  (∀ md die s m, s.up = true → s.module md.val = some m → m.dieFaults = [] →
     exec (.dieFault md die) s = .next (issueAt .dieReset { oneBit := false, module := m.index, die := die.val, plane := 0, block := 0, page := 0, codeword := 0 } (.reset m.index die.val)
       (s.putModule { m with dieFaults := [(die.val, s.now)] }))) ∧
  -- SEGMENT_OPEN: the segment that the rules of 07 R171 choose
  (∀ d (u : Fin 4) s p, s.pipes = true → openSegment (if u.val == 3 then 0 else d.val) (u.val == 0) u.val (fun _ => false) s = some p → exec (.segmentOpen d u) s = .next p.2) ∧
  -- REBUILD_SEGMENT: the first segment of the queue is rebuilt
  (∀ reads s x, s.pipes = true → mediaCalm s = true → nextRebuild s = some x →
     exec (.rebuildSegment reads) s = .next (settleRetires (rebuildOne x reads (sealBroken s)))) ∧
  -- REBUILD_TRANSACTION_DURABLE of one substitution in a segment without live grains
  (∀ s sh x r a, s.pipes = true → s.peer.survivor = false → s.media.rebuilds = [r] → s.segment r.segment = some (sh, x) → x.members[r.member]? = some a → entriesOn s r.segment = [] →
     memberGone s a = true → (∀ m ∈ s.media.modules, m.st ≠ .retiring) →
     ∃ t, exec (.rebuildTransactionDurable r.segment) s = .next t ∧ t.media.rebuilds = [] ∧ (∀ m ∈ t.media.modules, m.st ≠ .retiring) ∧ t.rd = s.rd ∧ t.host = s.host) ∧
  -- FREE_SPACE_CHANGE: a stall whose condition has ended ends
  (∀ s, s.pipes = true → s.wr.unpacked = [] → (s.domain 0).stalled = true → spaceBack s 0 = true → (∀ d, 0 < d → d < 8 → (s.domain d).stalled = false ∧ (s.domain d).noRoom = false) →
     ∃ t, exec .freeSpaceChange s = .next t ∧ (t.domain 0).stalled = false ∧ (t.domain 0).noRoom = false ∧ (t.domain 0).code = (s.domain 0).code ∧ t.md = s.md ∧ t.host = s.host) ∧
  -- FOLD: the next segment of the domain's folding is moved
  (∀ d reads s x, s.pipes = true → mediaCalm s = true → nextFold (settleFolding d.val (retireEmpty d.val true .fold s)) d.val = some x →
     exec (.fold d reads) s = .next (moveSegment .fold true x.id reads (settleFolding d.val (retireEmpty d.val true .fold s)))) ∧
  -- GARBAGE_COLLECTION: the segment with the highest score is moved
  (∀ d reads s x, s.pipes = true → mediaCalm s = true → nextCollect (settleCollecting d.val (retireEmpty d.val false .gc s)) d.val = some x →
     exec (.garbageCollection d reads) s = .next (moveSegment .gc false x.id reads (settleCollecting d.val (retireEmpty d.val false .gc s)))) ∧
  -- RELOCATION_ERASE of a segment whose members are all gone
  (∀ s x, s.pipes = true → s.peer.survivor = false → s.segment x.id = some (false, x) → x.st = .retired → x.gone = true → s.rd.pins = [] → x.members = [] →
     (∀ m ∈ s.media.modules, m.st ≠ .retiring) →
     ∃ t, exec (.relocationErase x.id) s = .next t ∧ t.md.store = applyDelta s.peer.head (.segDel x.id) s.md.store ∧ t.media.modules = s.media.modules ∧ t.wr.rows = s.wr.rows) ∧
  -- BLOCK_ERASE_COMPLETE of a queued block
  (∀ a s b, s.pipes = true → blockAt s a = some b → b.st = .eraseQueued → b.suspect = false → s.wr.unpacked = [] → s.peer.survivor = false →
     ∃ t, exec (.blockEraseComplete a true) s = .next t ∧
       t.md.store = applyDelta s.peer.head (.blockSet { b with st := .erased, erases := min 0xFFFFFFFF (b.erases + 1), reads := 0, soft := 0, suspect := false }) s.md.store ∧
       t.host = s.host ∧ t.rd = s.rd) ∧
  -- STATIC_WEAR_LEVELLING: the segment on the least erased block is moved
  (∀ (md : Fin 256) reads s m x, s.pipes = true → mediaCalm s = true → s.module md.val = some m → nextLevel s m false = some x →
     exec (.staticWearLevelling md reads) s = .next (moveSegment .level false x.id reads s)) ∧
  -- READ_DISTURB_REFRESH: the queued segment with the highest fraction is moved
  (∀ reads s x, s.pipes = true → mediaCalm s = true →
     leastBy (fun x => 2 ^ 32 - x.refresh.getD 0) (((mySegments s).filter fun x => x.st == .sealed && !x.metadata).filter fun (x : Segment) => x.claim == SegClaim.none && x.refresh.isSome && (!x.oneBit || x.refresh == some 0)) = some x →
     exec (.readDisturbRefresh reads) s = .next (moveSegment .refresh false x.id reads s)) ∧
  -- NAND_TEMPERATURE_SAMPLE that brings no sample within the 20 s
  (∀ (md : Fin 256) s m, s.up = true → s.background = true → s.module md.val = some m → m.st = .active → max s.now (m.triedAt + 10 * sec) ≤ m.sampledAt + 20 * sec →
     ∃ t, exec (.nandTemperatureSample md none) s = .next t ∧ t = (s.reach (m.triedAt + 10 * sec)).putModule { m with triedAt := t.now }) ∧
  -- RETENTION_CHECK: H rises by an hour, and every segment is judged
  (∀ s, s.up = true → s.background = true →
     ∃ u t, u = s.reach (s.media.hourAt + hour) ∧ exec .retentionCheck s = .next t ∧ t = checkRetention (passHours 1 { u with media := { u.media with hourAt := u.now } }) ∧ (passHours 1 u).media.hour = s.media.hour + 1) ∧
  -- WALL_WAIT_EXPIRY: RET_GUESS is set, and the time off counts as charged
  (∀ s, s.up = true → s.media.wallKnown = false → s.media.offCharged = false →
     ∃ t, exec .wallWaitExpiry s = .next t ∧ t.flag Reg.fMTL_RET_STATUS_RET_GUESS = true ∧ t.media.offCharged = true ∧ t.md = s.md ∧ t.host = s.host) ∧
  -- WALL_CLOCK_KNOWN when no lock holds hours and no checkpoint bears a time
  (∀ s w, s.up = true → s.wall = some w → s.media.wallKnown = false → s.media.ckptWall = none → s.md.store.snaps = [] → s.peer.survivor = false → s.peer.changes = [] →
     ∃ t, exec .wallClockKnown s = .next t ∧ t.media = { s.media with wallKnown := true } ∧ t.md.store = s.md.store) ∧
  -- CHECKPOINT: P is the next log page, and what the record will name is the state as it stands
  (∀ s, s.pipes = true → s.media.ckptP = none → s.media.ioAdmitted = true → s.md.log = [] →
     ∃ t, exec .checkpoint s = .next t ∧ t.media.ckptP = some s.md.lpseq ∧ t.md.taking = s.md.store ∧ t.media.ckptFrom = t.now ∧ t.md.store = s.md.store ∧ t.md.saved = s.md.saved ∧
       t.outputs = s.outputs) ∧
  -- CHECKPOINT_DURABLE: restart uses the record from now on
  (∀ s p, s.pipes = true → s.media.ckptP = some p → s.md.taking.dir = [] → s.peer.survivor = false → mediaCalm s = true → s.peer.changes = [] →
     ∃ t, exec .checkpointDurable s = .next t ∧ t.md.saved = s.md.taking ∧ t.media.ckptP = none ∧ t.media.ckptBase = p ∧ t.md.store = s.md.store ∧
       t.media.ckptCount = s.media.ckptCount + 1) ∧
  -- CHECKPOINT_OVERDUE: event 150
  (∀ s, s.pipes = true → s.media.ioAdmitted = true → exec .checkpointOverdue s = .next (fire 150 (s.reach (s.media.ckptAt + 60 * sec)))) ∧
  -- MODULE_LIST of the admitted modules takes a slot and answers with its handle
  (∀ (r : TaskReq) (s : State) n, goes { opcode := 0x0801, windows := [0, 3], bulk := .give none } [(1, mask 3 0), (2, mask64)] r s = true → r.argBits 1 3 0 = 0 →
     bits r.bulkCtrl 31 0 % 576 = 0 → r.bulkFault = none → freeRecord r.window s = some n →
     ∃ p, p.bulk = true ∧ ∃ t, exec (.moduleList r) s = .next t ∧ answered r cACCEPTED 0 [handleOf (plannedJob 0x0801 r p s n)] t ∧
       t.ctl = (withJob 0x0801 r p s n).ctl ∧ t.md = s.md ∧ t.media = s.media ∧ t.wr = s.wr) ∧
  -- LAYOUT_SET: the code of the domain's segments from now on
  (∀ (r : TaskReq) (s : State), goes { opcode := 0x0805, windows := [0] } [(1, mask 2 0 ||| mask 12 8 ||| mask 17 16)] r s = true → 4 ≤ r.argBits 1 12 8 → r.argBits 1 12 8 ≤ 24 → 0 < r.argBits 1 17 16 →
     wideEnough s (r.argBits 1 2 0) (r.argBits 1 12 8 + r.argBits 1 17 16) (r.argBits 1 17 16) = true →
     ∃ t, exec (.layoutSet r) s = .next t ∧ answered r cOK 0 [] t ∧ (t.domain (r.argBits 1 2 0)).code = some (r.argBits 1 12 8, r.argBits 1 17 16) ∧ t.md = s.md ∧ t.wr = s.wr ∧ t.host = s.host)

/-- Media ports: frames, credits, replay, lanes, training, idle, forwarding. A frame in sequence is taken with its credits, one that fails its CRC is counted and answered with a NAK; a NAK or the replay timer sends the uncovered frames again; credits, keep-alive and idle act on an up port; a lost lane is marked and the port trains on the other, a lane that passes its test waits for the next retrain; a trained port is up at its width; what IDENTIFY answered attaches the module; the partner's command and a command for a module that only the partner reaches are issued. -/
def Obligations.MediaLinksCarryAndRecover : Prop :=
  -- SML_FRAME_RECEIVE in sequence, with nothing waiting on the port
  (∀ (p : Fin 256) (l a c d : Fin 65536) s, s.up = true → s.portUp p.val = true → l.val = (s.mport p.val).rxSeq → (s.mport p.val).queue = [] → (s.mport p.val).unacked = [] →
     (s.mport p.val).port = p.val →
     ∃ t, exec (.smlFrameReceive p true false l a c d) s = .next t ∧
       t.mport p.val = { s.mport p.val with rxSeq := ((s.mport p.val).rxSeq + 1) % 65536, idle := false, lastAt := s.now, cmdCredit := (s.mport p.val).cmdCredit + c.val, dataCredit := (s.mport p.val).dataCredit + d.val } ∧
       t.regs = s.regs ∧ t.md = s.md ∧ t.wr = s.wr ∧ t.host = s.host ∧ t.outputs = s.outputs) ∧
  -- SML_FRAME_RECEIVE that fails its CRC
  (∀ (p : Fin 256) k (l a c d : Fin 65536) s, s.up = true → s.portUp p.val = true →
     exec (.smlFrameReceive p false k l a c d) s = .next (sendControl p.val .nak (s.bump Reg.fSML_PORT_ERR_CRC_ERRORS 1 p.val))) ∧
  -- SML_NAK that covers nothing
  (∀ (p : Fin 256) (a : Fin 65536) s f, s.up = true → s.portUp p.val = true → (s.mport p.val).unacked = [f] → seqCovered f.lseqOf a.val = false → (s.mport p.val).replays < 7 → (s.mport p.val).port = p.val →
     ∃ t, exec (.smlNak p a) s = .next t ∧ t.outputs = .sml p.val f :: s.outputs ∧ (t.mport p.val).replays = (s.mport p.val).replays + 1 ∧ (t.mport p.val).unacked = [f] ∧
       t.md = s.md ∧ t.wr = s.wr ∧ t.host = s.host) ∧
  -- SML_REPLAY_TIMER with one frame uncovered
  (∀ (p : Fin 256) s f, s.up = true → s.portUp p.val = true → (s.mport p.val).unacked = [f] → (s.mport p.val).replays < 7 → (s.mport p.val).port = p.val →
     ∃ t, exec (.smlReplayTimer p) s = .next t ∧ t.outputs = .sml p.val f :: s.outputs ∧ (t.mport p.val).replays = (s.mport p.val).replays + 1 ∧ (t.mport p.val).unacked = [f] ∧
       t.md = s.md ∧ t.wr = s.wr ∧ t.host = s.host) ∧
  -- SML_CREDIT_ADVERTISEMENT with nothing waiting on the port
  (∀ (p : Fin 256) (c d : Fin 65536) s, s.up = true → s.portUp p.val = true → (s.mport p.val).queue = [] → (s.mport p.val).port = p.val →
     exec (.smlCreditAdvertisement p c d) s = .next (s.putMport { s.mport p.val with cmdCredit := c.val, dataCredit := d.val, lastAt := s.now })) ∧
  -- SML_KEEP_ALIVE_TIMER outside low-power idle
  (∀ (p : Fin 256) s, s.up = true → s.portUp p.val = true → (s.mport p.val).idle = false →
     ∃ t, exec (.smlKeepAliveTimer p) s = .next t ∧ t.outputs = .sml p.val (.control .keepAlive) :: s.outputs ∧ t.regs = s.regs ∧ t.md = s.md ∧ t.wr = s.wr) ∧
  -- LOW_POWER_IDLE_TIMER on a port that carries nothing
  (∀ (p : Fin 256) s, s.up = true → s.portUp p.val = true → (s.mport p.val).idle = false → (s.mport p.val).pending = [] → (s.mport p.val).queue = [] → (s.mport p.val).port = p.val →
     ∃ t, exec (.lowPowerIdleTimer p) s = .next t ∧ t.mport p.val = { s.mport p.val with idle := true } ∧ t.regs = s.regs ∧ t.md = s.md ∧ t.outputs = s.outputs) ∧
  -- SML_RESPONSE for a command issued for the partner over this head's port
  (∀ tag r f s q, s.up = true → s.sml.forwarded.find? (·.1 == tag) = some q →
     exec (.smlResponse (.partner tag) r f) s = .next (smlDone q.2 r f { s with sml := { s.sml with forwarded := s.sml.forwarded.filter (·.1 != tag) } })) ∧
  -- SML_RESPONSE to a plain command on a port, with nothing waiting behind it
  (∀ (p : Fin 256) tag r f s q, s.up = true → (s.mport p.val).pending = [q] → q.tag = tag → q.body.why = .plain → r.status ≠ .fenced → (s.mport p.val).queue = [] → (s.mport p.val).port = p.val →
     s.peer.sharing = [] →
     ∃ t, exec (.smlResponse (.port p tag) r f) s = .next t ∧ (t.mport p.val).pending = [] ∧ t.md = s.md ∧ t.wr = s.wr ∧ t.host = s.host) ∧
  -- MEDIA_PORT_UP of a module that this head does not know
  (∀ (p : Fin 256) ds mp g og fe ofe s, s.up = true → s.portUp p.val = true → s.sml.ports.all (fun x => !x.attached.any (·.wwid == ds.wwid)) = true →
     s.media.modules.all (fun m => m.st == .absent || m.desc.wwid != ds.wwid) = true → (s.mport p.val).port = p.val →
     ∃ t, exec (.mediaPortUp p ds mp g og fe ofe) s = .next t ∧
       t.mport p.val = { s.mport p.val with attached := some { wwid := ds.wwid, desc := ds, modPort := mp.val, otherGen := og, otherFenced := ofe }, held := false } ∧
       t.flag Reg.fSML_PORT_STATUS_FENCED p.val = fe ∧ t.media = s.media ∧ t.md = s.md ∧ t.outputs = s.outputs) ∧
  -- MEDIA_FORWARD of the one command queued for a module that the partner reaches
  (∀ (p : Fin 256) s b, s.up = true → s.portUp p.val = false → s.flag Reg.fSML_PORT_BIND_BOUND p.val = true → (s.module (s.fld Reg.fSML_PORT_BIND_MODULE p.val)).isSome = true → s.peer.st = .paired →
     s.sml.partnerReach.contains (s.fld Reg.fSML_PORT_BIND_MODULE p.val) = true → s.flag Reg.fSML_PORT_STATUS_FORWARDED p.val = true → (s.mport p.val).pending = [] → (s.mport p.val).queue = [b] →
     exec (.mediaForward p) s = .next (issue (s.fld Reg.fSML_PORT_BIND_MODULE p.val) b (s.putMport { s.mport p.val with pending := [], queue := [] }))) ∧
  -- SML_CMD from a paired partner
  (∀ tag (m : Fin 256) b s, s.up = true → s.peer.st = .paired → exec (.smlCmd tag m b) s = .next (issue m.val { b with why := .partner tag } s)) ∧
  -- MEDIA_LANE_FAULT, the first of a port that is down
  (∀ (p : Fin 256) (l : Fin 2) sh s, s.up = true → s.portUp p.val = false → (s.mport p.val).badLanes = [] → (s.mport p.val).port = p.val →
     ∃ t, exec (.mediaLaneFault p l sh) s = .next t ∧ t.flag (laneFlag l.val sh) p.val = true ∧
       t.mport p.val = { s.mport p.val with badLanes := [l.val], testedAt := s.now, passed := false } ∧ t.md = s.md ∧ t.host = s.host) ∧
  -- MEDIA_LANE_RETEST of the one lane lost, which passes
  (∀ (p : Fin 256) (l : Fin 2) s, s.up = true → (s.mport p.val).badLanes = [l.val] → (s.mport p.val).port = p.val →
     ∃ t, exec (.mediaLaneRetest p [l]) s = .next t ∧ (t.mport p.val).badLanes = [] ∧ (t.mport p.val).passed = true ∧ t.md = s.md ∧ t.host = s.host) ∧
  -- MEDIA_PORT_TRAINING of a port that was up: width, rate and lane order follow
  (∀ (p : Fin 256) i0 i1 sw eq s, s.up = true → s.portUp p.val = true → (s.mport p.val).badLanes.length ≠ 2 → s.isFenced (iMP + p.val / 8) = false →
     ∃ u, exec (.mediaPortTraining p i0 i1 sw eq) s = .next (rejudge u) ∧ u.portUp p.val = true ∧ u.flag Reg.fSML_PORT_STATUS_SWAPPED p.val = sw ∧
       u.flag Reg.fSML_PORT_STATUS_L0_INV p.val = i0 ∧ u.fld Reg.fSML_PORT_STATUS_WIDTH p.val = 2 - (s.mport p.val).badLanes.length ∧ u.md = s.md ∧ u.outputs = s.outputs) ∧
  -- PORT_REBIND: one binding is staged
  (∀ (r : TaskReq) (s : State) w, goes { opcode := 0x0804, windows := [0] } [(1, mask 16 0), (2, mask 2 0)] r s = true →
     w = (if r.argBits 1 16 16 == 1 then BitVec.ofNat 64 (r.argBits 1 15 8) else BitVec.ofNat 64 (256 + r.argBits 1 15 8)) →
     canStage (r.arg 2) s (regClaims (0x601000 + 8 * r.argBits 1 7 0)) = true →
     doubleBound { s.set (r.arg 2) with writes := setKey (0x601000 + 8 * r.argBits 1 7 0) w (s.set (r.arg 2)).writes } (taken { opcode := 0x0804, windows := [0] } r s) = false →
     ∃ t, exec (.portRebind r) s = .next t ∧ answered r cOK 0 [] t ∧ t.set (r.arg 2) = { (s.set (r.arg 2)).claim (regClaims (0x601000 + 8 * r.argBits 1 7 0)) with writes := setKey (0x601000 + 8 * r.argBits 1 7 0) w (s.set (r.arg 2)).writes } ∧ t.md = s.md ∧ t.sml = s.sml)

/-- Namespaces, dictionaries, snapshots, clones and locks: each command's delta to this head's store. NS_CREATE puts the namespace into its owner's store with the settings of a new one; NS_MODIFY changes the settings it selects; DICT_LOAD, SNAP_DELETE, NS_DELETE and SNAP_LIST take a slot and run as jobs; SNAP_CREATE takes a snapshot whose CUT is the next JSEQ and counts it; it becomes READY with the namespace's root; CLONE_CREATE adds a namespace on the snapshot's root; SNAP_LOCK on W1 removes a lock. Each succeeds when the field, owner, state and capacity checks pass. -/
def Obligations.NamespacesAndSnapshotsAreTransactions : Prop :=
  -- NS_CREATE in a group that this head owns
  (∀ (r : TaskReq) (s : State) n, goes { opcode := 0x0201, windows := [0] } [(1, mask 32 0 ||| mask 49 40), (2, mask64), (3, mask 2 0), (4, mask 11 0)] r s = true →
     n = freshNamespace (r.argBits 1 31 0) (r.argBits 1 32 32 == 1) (r.argBits 1 49 40) (r.arg 2) (r.arg 3) (r.arg 4) →
     0 < r.argBits 1 31 0 → r.argBits 1 31 0 ≤ 65536 → 0 < r.argBits 1 49 40 → r.argBits 1 49 40 ≤ 512 → s.owns (r.argBits 1 49 40) = true →
     createFault (taken { opcode := 0x0201, windows := [0] } r s) n = none →
     ∃ t, exec (.nsCreate r) s = .next t ∧ answered r cOK 0 [BitVec.ofNat 64 (r.argBits 1 31 0)] t ∧
       t.md.store = applyDelta s.peer.head (.nsSet n) s.md.store ∧ t.md.store.ns n.nsid = some n ∧ t.md.shadow = s.md.shadow ∧ t.host = s.host ∧ t.wr = s.wr) ∧
  -- NS_MODIFY of the compression level alone
  (∀ (r : TaskReq) (s : State) n, goes { opcode := 0x0203, windows := [0] }
       [(1, mask 31 0), (2, mask 6 0), (3, mask 2 0 ||| mask 12 8 ||| mask 19 16 ||| mask 29 20 ||| mask 36 32), (4, mask64)] r s = true →
     s.ns (r.arg 1) = some (false, n) → s.owns n.group = true → r.arg 2 = 2 → 1 ≤ r.argBits 3 11 8 → r.argBits 3 11 8 ≤ 12 →
     ∃ t, exec (.nsModify r) s = .next t ∧ answered r cOK 0 [] t ∧ t.md.store = applyDelta s.peer.head (.nsSet { n with level := r.argBits 3 11 8 }) s.md.store ∧
       t.md.shadow = s.md.shadow ∧ t.host = s.host ∧ t.wr = s.wr) ∧
  -- DICT_LOAD of a valid dictionary
  (∀ (r : TaskReq) b (s : State) n k, goes { opcode := 0x0207, windows := [0], bulk := .take (if 1 ≤ r.arg 2 && r.arg 2 ≤ 65536 then some (r.arg 2) else none) } [(1, mask64), (2, mask64)] r s = true →
     s.ns (r.arg 1) = some (false, n) → s.owns n.group = true → 1 ≤ r.arg 2 → r.arg 2 ≤ 65536 → s.md.store.dicts.length + s.md.shadow.dicts.length < 4096 → r.bulkFault = none →
     freeRecord r.window s = some k →
     ∃ p t, exec (.dictLoad r b true []) s = .next t ∧ p.bulk = true ∧ answered r cACCEPTED 0 [handleOf (plannedJob 0x0207 r p s k)] t ∧
       t.md.store = applyDelta s.peer.head (.nsSet { n with dict := s.peer.head * 2 ^ 30 + s.md.store.dictNext })
         (applyDelta s.peer.head (.dictSet { id := s.peer.head * 2 ^ 30 + s.md.store.dictNext, data := b }) { s.md.store with dictNext := s.md.store.dictNext + 1 })) ∧
  -- SNAP_CREATE of a namespace that this head keeps
  (∀ (r : TaskReq) (s : State) n, goes { opcode := 0x0301, windows := [0] } [(1, mask 31 0)] r s = true → s.ns (r.arg 1) = some (false, n) → s.owns n.group = true → n.deleting = false →
     snapsFull s n = false →
     ∃ t, exec (.snapCreate r) s = .next t ∧ answered r cOK 0 [BitVec.ofNat 64 (nextSnap s), BitVec.ofNat 64 s.wr.jseqNext] t ∧
       t.md.store = applyDelta s.peer.head (.nsSet { n with snaps := n.snaps + 1 }) (applyDelta s.peer.head (.snapSet
         { id := nextSnap s, nsid := n.nsid, cut := s.wr.jseqNext, wall := (taken { opcode := 0x0301, windows := [0] } r s).wall.getD 0, lock := .none, root := none, size := n.size, guard := false, st := .cutting, clones := 0 })
         { s.md.store with snapNext := nextSnap s % 2 ^ 31 + 1 }) ∧ t.wr = s.wr ∧ t.host = s.host) ∧
  -- SNAPSHOT_READY of a snapshot whose CUT the map updates have reached, with no clone and no stream
  (∀ id fps s x, s.up = true → s.snap id = some (false, x) → x.st = .cutting → reachedCut s x.nsid x.cut = true → (∀ n ∈ s.md.store.nss, n.clone = false) → s.repl.streams = [] →
     ∃ t, exec (.snapshotReady id fps) s = .next t ∧
       t.md.store = applyDelta s.peer.head (.snapSet { x with root := (s.md.store.ns x.nsid).bind (·.root), st := .ready }) s.md.store ∧ t.wr = s.wr ∧ t.host = s.host) ∧
  -- SNAP_DELETE: the deletion begins, and goes as far as pins and walks allow
  (∀ (r : TaskReq) (s : State) x k, goes { opcode := 0x0302, windows := [0] } [(1, mask64)] r s = true → s.snap (r.arg 1) = some (false, x) →
     locked (taken { opcode := 0x0302, windows := [0] } r s) x.lock = false → x.st ≠ .deleting → freeRecord r.window s = some k →
     ∃ u t, u = oneDelta false (.snapSet { x with st := .deleting }) (withJob 0x0302 r {} (taken { opcode := 0x0302, windows := [0] } r s) k) ∧
       exec (.snapDelete r) s = .next t ∧ answered r cACCEPTED 0 [handleOf (plannedJob 0x0302 r {} s k)] t ∧
       windowOnly (settleDeletes { u with md := { u.md with deletes := u.md.deletes ++ [(k, 0, x.id)] } }) t) ∧
  -- NS_DELETE: the namespace and its snapshots are on their way out
  (∀ (r : TaskReq) (s : State) n k, goes { opcode := 0x0202, windows := [0] } [(1, mask64)] r s = true → s.ns (r.arg 1) = some (false, n) → s.owns n.group = true → n.deleting = false →
     s.md.store.snaps = [] → freeRecord r.window s = some k →
     ∃ t, exec (.nsDelete r) s = .next t ∧ answered r cACCEPTED 0 [handleOf (plannedJob 0x0202 r {} s k)] t ∧
       windowOnly (deleteNamespace k false n (withJob 0x0202 r {} (taken { opcode := 0x0202, windows := [0] } r s) k)) t) ∧
  -- CLONE_CREATE of a snapshot of a namespace that this head keeps
  (∀ (r : TaskReq) (s : State) x o n, goes { opcode := 0x0303, windows := [0] } [(1, mask64), (2, mask 31 0 ||| mask 49 40), (3, mask 2 0)] r s = true →
     s.snap (r.arg 1) = some (false, x) → s.md.store.ns x.nsid = some o →
     n = { o with nsid := r.argBits 2 31 0, clone := true, deleting := false, conflict := false, size := x.size, group := r.argBits 2 49 40, profile := r.arg 3, root := x.root, origin := x.id, snaps := 0, rsv := (freshNamespace 0 false 0 0 0 0).rsv } →
     0 < n.nsid → n.nsid ≤ 65536 → 0 < n.group → n.group ≤ 512 → s.owns o.group = true → s.owns n.group = true → (s.ns n.nsid).isSome = false → x.st ≠ .deleting →
     scopeOf (taken { opcode := 0x0303, windows := [0] } r s) n = scopeOf (taken { opcode := 0x0303, windows := [0] } r s) o → noCode (taken { opcode := 0x0303, windows := [0] } r s) n.profile = false →
     s.namespaces.length < 65536 → snapCount s < 1048576 →
     ∃ t, exec (.cloneCreate r) s = .next t ∧ answered r cOK 0 [BitVec.ofNat 64 n.nsid] t ∧
       t.md.store = applyDelta s.peer.head (.snapSet { x with clones := x.clones + 1 }) (applyDelta s.peer.head (.nsSet n) s.md.store) ∧ t.wr = s.wr ∧ t.host = s.host) ∧
  -- SNAP_LOCK on W1 that removes a lock
  (∀ (r : TaskReq) (s : State) x, goes { opcode := 0x0304, windows := [0, 1] } [(1, mask64), (2, mask64)] r s = true → r.window = 1 → r.arg 2 = 0 → s.snap (r.arg 1) = some (false, x) → x.st ≠ .deleting →
     x.lock ≠ .none →
     ∃ t, exec (.snapLock r) s = .next t ∧ answered r cOK 0 [0] t ∧ t.md.store = applyDelta s.peer.head (.snapSet { x with lock := .none }) s.md.store ∧ t.wr = s.wr ∧ t.host = s.host) ∧
  -- SNAP_LIST takes a slot and answers with its handle
  (∀ (r : TaskReq) (s : State) k, goes { opcode := 0x0305, windows := [0, 3], bulk := .give none } [(1, mask 31 0), (2, mask64)] r s = true → bits r.bulkCtrl 31 0 % 128 = 0 → r.bulkFault = none →
     s.md.store.snaps = [] → s.md.shadow.snaps = [] → freeRecord r.window s = some k →
     ∃ t, exec (.snapList r) s = .next t ∧ answered r cACCEPTED 0 [handleOf (plannedJob 0x0305 r { bulk := true, results := [0] } s k)] t ∧
       t.ctl = (withJob 0x0305 r { bulk := true, results := [0] } s k).ctl ∧ t.md = s.md)

/-- The metadata log, remote deltas, the partner's shadow, restart, modules that come and go, health. The open log page is sent when its timer runs out; a page durable in both copies counts; whole transactions of the partner go into the shadow once; a remote delta goes into this head's store and is acknowledged; an acknowledged one is no longer owed; a pulled page is answered; a page with one bad copy is rewritten; a restart replays from the checkpoint; MODULE_ADMIT and MODULE_RETIRE take a slot and change pools, code and lease set; HEALTH_READ answers its values and changes only its window. -/
def Obligations.MetadataLogAndModulesComeAndGo : Prop :=
  -- LOG_PAGE_TIMER of the open page
  (∀ s p, s.up = true → s.md.log.find? (!·.sent) = some p → (s.md.log.filter fun p => p.sent && !p.durable).length < 32 →
     exec .logPageTimer s = .next (sendLogPage p (s.reach (p.since + 20 * us)))) ∧
  -- LOG_PAGE_DURABLE of the one page under way, without transactions, segments claimed or streams
  (∀ s p, s.up = true → s.md.log = [p] → p.sent = true → p.durable = false → p.txns = [] → mediaCalm s = true → s.repl.streams = [] →
     exec (.logPageDurable p.lpseq) s = .next { s with md := { s.md with log := [{ p with durable := true }] } }) ∧
  -- LOG_PAGE with one transaction that the shadow does not hold yet
  (∀ x s, s.up = true → s.logShared = true → s.peer.survivor = false → s.md.shadowTxn ≤ x.num → joiner s = false →
     exec (.logPage [x]) s = .next { s with md := { s.md with shadow := applyOwn (1 - s.peer.head) x s.md.shadow, shadowTxn := x.num + 1 } }) ∧
  -- REMOTE_DELTA: logged here and acknowledged
  (∀ a b d s, s.up = true → s.logShared = true →
     ∃ t, exec (.remoteDelta a b d) s = .next t ∧ t = (oneDelta false d s).send (.remoteAck a b) ∧ t.md.store = applyDelta s.peer.head d s.md.store ∧ t.wr = s.wr) ∧
  -- REMOTE_ACK: the delta it names is no longer owed
  (∀ a b s, s.up = true → mediaCalm s = true → exec (.remoteAck a b) s = .next { s with md := { s.md with remote := s.md.remote.filter fun d => !(d.txn == a && d.index == b) } }) ∧
  -- PAGE_PULL: the page is answered
  (∀ g s, s.up = true → ∃ t, exec (.pagePull g) s = .next t ∧ t = s.send (.pageRsp g (s.md.store.page g)) ∧ t.md = s.md ∧ t.regs = s.regs) ∧
  -- COUNTERS of the partner
  (∀ c s, s.up = true → s.logShared = true → ∃ t, exec (.counters c) s = .next t ∧ t.media = { s.media with partnerTraffic := c } ∧ t.md = s.md ∧ t.regs = s.regs) ∧
  -- RELEASE_WALK of a page that stands no more, with no deletion under way
  (∀ s w l, s.up = true → s.peer.survivor = false → s.md.store.walks = w :: l → s.md.store.page w.page = none → s.md.deletes = [] →
     ∃ t, exec .releaseWalk s = .next t ∧ t.md.store = applyDelta s.peer.head (.releaseMark w.object w.page) s.md.store ∧ t.wr = s.wr ∧ t.host = s.host) ∧
  -- METADATA_PAGE_READ with one bad copy: the page is written anew
  (∀ g p s, s.pipes = true → exec (.metadataPageRead g p .oneBad) s = .next { s with md := { s.md with dirty := insertNat g s.md.dirty } }) ∧
  -- METADATA_RESTART with a checkpoint record: the steps of Table 8.4
  (∀ f s, s.pipes = true → mayRestart s = true → f.record = true → exec (.metadataRestart f) s = .next (restart f s)) ∧
  -- METADATA_RESTART of a head with modules and no record: FENCED, Fog cause 16
  (∀ f s, s.pipes = true → mayRestart s = true → f.record = false → s.media.modules ≠ [] → exec (.metadataRestart f) s = .next (raiseFog 16 (setPeer .fenced s))) ∧
  -- MODULE_ADMIT of the module attached to the port bound to the index
  (∀ (r : TaskReq) bad (s u : State) p a k, goes { opcode := 0x0802, windows := [0] } [(1, mask 10 0 ||| mask 21 16)] r s = true → u = taken { opcode := 0x0802, windows := [0] } r s →
     portOf u (r.argBits 1 7 0) = some p → u.portUp p = true → (u.mport p).held = false → (u.mport p).attached = some a → indexFree u (r.argBits 1 7 0) = true →
     u.media.modules.any (fun x => x.index != r.argBits 1 7 0 && x.st != .absent && x.desc.wwid == a.wwid) = false → descriptorFault a.desc = none → fitsDomain u (r.argBits 1 10 8) a.desc = true →
     lsetFault u = none → freeRecord r.window s = some k →
     ∃ t, exec (.moduleAdmit r bad) s = .next t ∧ answered r cACCEPTED 0 [handleOf (plannedJob 0x0802 r { work := .admitModule (r.argBits 1 7 0) } s k)] t ∧
       windowOnly (admitModule (r.argBits 1 7 0) (r.argBits 1 10 8) (r.argBits 1 21 16) a.desc bad k (withJob 0x0802 r { work := .admitModule (r.argBits 1 7 0) } u k)) t) ∧
  -- MODULE_RETIRE of an ACTIVE module whose content fits the rest
  (∀ (r : TaskReq) (s u : State) m k, goes { opcode := 0x0803, windows := [0] } [(1, mask 7 0)] r s = true → u = taken { opcode := 0x0803, windows := [0] } r s →
     u.module (r.argBits 1 7 0) = some m → m.st = .active → stillWide u m = true → contentFits u m = true → lsetFault u = none → freeRecord r.window s = some k →
     ∃ v t, v = withJob 0x0803 r { cancellable := true, work := .retire m.index } u k ∧ exec (.moduleRetire r) s = .next t ∧
       answered r cACCEPTED 0 [handleOf (plannedJob 0x0803 r { cancellable := true, work := .retire m.index } s k)] t ∧
       windowOnly (settleRetires (settleRebuild (settleRo (rejudge (assignVault (v.putModule { m with st := .retiring })))))) t) ∧
  -- HEALTH_READ of the media values
  (∀ (r : TaskReq) (s : State), goes { opcode := 0x0A01, windows := [0, 1, 2, 3] } [(1, mask64)] r s = true → r.arg 1 = 0 →
     ∃ t, exec (.healthRead r) s = .next t ∧ answered r cOK 0 (mediaHealth (taken { opcode := 0x0A01, windows := [0, 1, 2, 3] } r s)) t ∧ windowOnly s t)

/-- Uberuf groups and heartbeats: training, frames, replay, lanes, BEACON, pins, losses and timers. TRAIN_ID brings a group up at the width of its good lanes with 64 credits a class; a frame in sequence is taken with its credits and a bad one is answered with a NAK; the replay timer sends an uncovered frame again; a lane fault narrows the group. BEACON_SEND sends on every group up; a BEACON marks its group heard and keeps what the partner told; silence of one heartbeat in PAIRED is DEGRADED, of both groups SEVERED, of all a race; the timers end SEVERED, waiting and races. -/
def Obligations.ThePairHearsEachOther : Prop :=
  -- TRAIN_ID from the other head, with no miswiring and nothing waiting
  (∀ (g : Fin 2) (h l : Fin 2) id s, s.up = true → s.isFenced (iUB + g.val) = false → h.val ≠ s.peer.head → (∀ x, (s.group (1 - g.val)).identity = some x → x = id) →
     groupWidth (s.group g.val).badLanes ≠ 0 → s.ubQueue = [] →
     ∃ t, exec (.trainId g h l id false) s = .next t ∧
       t.group g.val = { s.group g.val with identity := some id, up := true, width := groupWidth (s.group g.val).badLanes, replays := 0, progressAt := s.now, credits := (List.range' 2 6).map fun c => (c, 64) } ∧
       t.flag Reg.fUBL_GROUP_STATUS_SWAPPED g.val = (l.val != g.val) ∧ t.md = s.md ∧ t.wr = s.wr ∧ t.host = s.host) ∧
  -- TRAIN_ID with the partner's head index equal to this head's: both groups are held down, HEAD_CONFLICT and Fog
  (∀ (g h l : Fin 2) id sp s u, s.up = true → s.isFenced (iUB + g.val) = false → h.val = s.peer.head →
     u = (s.emit (.trainId g.val s.peer.head g.val (Config.deviceId.extractLsb' 320 64))).putGroup g.val { s.group g.val with identity := some id } →
     exec (.trainId g h l id sp) s = .next (raiseFog 13 ([0, 1].foldl (fun (s : State) i => fireGroup i (groupDown i (s.setFlag Reg.fUBL_GROUP_STATUS_HEAD_CONFLICT true i))) u) (arg := g.val))) ∧
  -- UBERUF_FRAME_RECEIVE of a message in sequence, with nothing uncovered and nothing waiting
  (∀ (g : Fin 2) (c : Fin 256) (l a : Fin 4294967296) cr s, s.up = true → (s.group g.val).up = true → 2 ≤ c.val → c.val ≤ 7 → l.val = (s.group g.val).rxSeq →
     (s.group g.val).unacked = [] → s.ubQueue = [] →
     exec (.uberufFrameReceive g true c l a false cr) s = .next (s.putGroup g.val { s.group g.val with
       rxSeq := ((s.group g.val).rxSeq + 1) % 2 ^ 32, credits := (s.group g.val).credits.map fun (x : Nat × Nat) => (x.1, x.2 + ((cr.filter (·.1 == x.1)).map (·.2)).sum) })) ∧
  -- UBERUF_FRAME_RECEIVE with a bad CRC, of an unknown class, or out of sequence
  (∀ (g : Fin 2) ok (c : Fin 256) (l a : Fin 4294967296) n cr s, s.up = true → (s.group g.val).up = true → (ok = false ∨ 7 < c.val ∨ (2 ≤ c.val ∧ l.val ≠ (s.group g.val).rxSeq)) →
     exec (.uberufFrameReceive g ok c l a n cr) s = .next (s.emit (.linkNak g.val (((s.group g.val).rxSeq + 2 ^ 32 - 1) % 2 ^ 32)))) ∧
  -- UBERUF_REPLAY_TIMER with one frame uncovered
  (∀ (g : Fin 2) s f, s.up = true → (s.group g.val).up = true → (s.group g.val).unacked = [f] → (s.group g.val).replays < 7 →
     ∃ t, exec (.uberufReplayTimer g) s = .next t ∧ t.outputs = .replayed g.val f.1 f.2.1 f.2.2 :: s.outputs ∧ (t.group g.val).unacked = [f] ∧
       (t.group g.val).replays = (s.group g.val).replays + 1 ∧ t.md = s.md ∧ t.wr = s.wr ∧ t.host = s.host) ∧
  -- PEER_LANE_FAULT: the group goes on with the half that has no fault
  (∀ (l : Fin 16) s b, s.up = true → b = insertNat (l.val % 8) (s.group (l.val / 8)).badLanes → groupWidth b ≠ 0 →
     ∃ t, exec (.peerLaneFault l) s = .next t ∧ t.group (l.val / 8) = { s.group (l.val / 8) with badLanes := b, width := if (s.group (l.val / 8)).up then groupWidth b else 0 } ∧
       (t.fld Reg.fUBL_GROUP_STATUS_LANE_FAULT (l.val / 8)).testBit (l.val % 8) = true ∧ t.md = s.md ∧ t.wr = s.wr ∧ t.host = s.host) ∧
  -- PEER_LANE_FAULT with a fault on both halves: the group is down
  (∀ (l : Fin 16) s b, s.up = true → b = insertNat (l.val % 8) (s.group (l.val / 8)).badLanes → groupWidth b = 0 → (s.group (l.val / 8)).up = true →
     exec (.peerLaneFault l) s = .next (fireGroup (l.val / 8) (groupDown (l.val / 8) ((s.setFld Reg.fUBL_GROUP_STATUS_LANE_FAULT
       (s.fld Reg.fUBL_GROUP_STATUS_LANE_FAULT (l.val / 8) ||| 2 ^ (l.val % 8)) (l.val / 8)).putGroup (l.val / 8) { s.group (l.val / 8) with badLanes := b, width := 0 })))) ∧
  -- BEACON_SEND_TIMER: a BEACON on each group that is up, then RETIRE
  (∀ s w l, s.up = true → w = s.reach ((s.now / (100 * us) + 1) * (100 * us)) → s.env.exited = false → l = [0, 1].filter (fun g => (s.group g).up) → l ≠ [] →
     exec .beaconSendTimer s = .next ((l.foldl (fun (t : State) g => t.emit (.beacon g (beaconMsg w (w.group g)))) { w with peer := { w.peer with bseq := (w.peer.bseq + 1) % 2 ^ 32 } }).send (.retire s.wr.jseqRetired))) ∧
  -- BEACON on a group heard before, in PAIRED on head 0, while the partner hears the pins, nothing is committed and no group is in Change
  (∀ (g : Fin 2) m s, s.up = true → (s.group g.val).up = true → (s.group g.val).heard = true → s.peer.st = .paired → s.peer.head = 0 → m.heardPins = true → s.peer.pinsHeard = true →
     s.peer.commit = none → s.peer.changes = [] →
     ∃ t, exec (.beacon g m) s = .next t ∧
       t.group g.val = { s.group g.val with heardAt := s.now, echo := (m.tSend, s.now), samples := (s.group g.val).samples.take 64 } ∧
       t.peer.partner = some { state := m.state, head := m.head, nqnTag := m.nqnTag, ownGen := m.ownGen, leaseSeq := m.leaseSeq, heardPins := true } ∧
       t.wr.mirrorRetired = max m.jseqRetired s.wr.mirrorRetired ∧ t.wr.mirror = s.wr.mirror.filter (fun r => decide (max m.jseqRetired s.wr.mirrorRetired ≤ r.jseq)) ∧
       t.peer.st = .paired ∧ t.regs = s.regs ∧ t.md = s.md ∧ t.host = s.host ∧ t.outputs = s.outputs) ∧
  -- PHB_IN_EDGE
  (∀ s, s.up = true → ∃ t, exec .phbInEdge s = .next t ∧ t.peer = { s.peer with pinsHeard := true, pinsAt := s.now, degraded := s.peer.st == .paired && !((s.group 0).heard && (s.group 1).heard) } ∧
     t.md = s.md ∧ t.wr = s.wr ∧ t.host = s.host) ∧
  -- HEARTBEAT_LOSS of the pins while both groups are heard, in PAIRED: DEGRADED, and PIN_FAULT
  (∀ s, s.up = true → s.peer.st = .paired → s.peer.pinsHeard = true → (s.group 0).heard = true → (s.group 1).heard = true →
     ∃ t, exec (.heartbeatLoss 2) s = .next t ∧ t.peer = { s.peer with pinsHeard := false, degraded := true } ∧ t.flag Reg.fUBL_PEER_STATE_PIN_FAULT = true ∧ t.now = max s.now (s.peer.pinsAt + lossTime s)) ∧
  -- HEARTBEAT_LOSS of one group while the other is heard, in PAIRED: DEGRADED
  (∀ (g : Fin 2) s, s.up = true → s.peer.st = .paired → (s.group g.val).heard = true → (s.group (1 - g.val)).heard = true →
     ∃ t, exec (.heartbeatLoss (g.castLE (by decide))) s = .next t ∧ t.group g.val = { s.group g.val with heard := false } ∧ t.peer.st = .paired ∧ t.peer.degraded = true ∧ t.md = s.md ∧ t.wr = s.wr ∧ t.host = s.host) ∧
  -- PHB_OUT_READBACK_FAULT
  (∀ s, s.up = true → s.peer.pinDrive = true →
     ∃ t, exec .phbOutReadbackFault s = .next t ∧ t.peer = { s.peer with pinDrive := false } ∧ t.flag Reg.fUBL_PEER_STATE_PIN_SHORT = true ∧ t.md = s.md ∧ t.wr = s.wr ∧ t.host = s.host) ∧
  -- START_WAIT_EXPIRY in ALONE with a lease set that this head does not hold: the race begins
  (∀ s u x, s.up = true → s.peer.startWait = some x → s.peer.st = .alone → groupHeard s = false → s.peer.leaseKnown = true → s.peer.lease ≠ .mine → s.peer.lset ≠ [] →
     u = s.reach x → exec .startWaitExpiry s = .next (enterRace u)) ∧
  -- SEVER_MAX_EXPIRY in SEVERED: head 1 stops PHB_OUT and fences itself, head 0 waits for the pins
  (∀ s u x, s.up = true → s.peer.severMax = some x → s.peer.st = .severed → u = s.reach x →
     (s.peer.head = 1 → exec .severMaxExpiry s = .next (selfFence { u with peer := { u.peer with severMax := none, pinDrive := false } })) ∧
     (s.peer.head = 0 → exec .severMaxExpiry s = .next { u with peer := { u.peer with severMax := none, severDone := true } })) ∧
  -- RACE_DELAY_EXPIRY: takes may be issued, each module already read is taken
  (∀ s u v r, s.up = true → s.peer.race = some r → r.takes = false → s.peer.st = .racing → u = s.reach (r.since + s.fld Reg.fUBL_BEACON_CFG_RACE_DELAY_US * us) →
     v = putRace { r with takes := true } u →
     exec .raceDelayExpiry s = .next ((r.modules.filter fun x => x.read && x.takes == 0 && !x.lost && !x.won).foldl (fun s x => takeModule x.module s) v)) ∧
  -- LEASE_RACE_TIMER without a majority: the race is lost
  (∀ s u r, s.up = true → s.peer.race = some r → r.wonIt = false → s.peer.st = .racing → u = s.reach (r.since + 100 * ms) → exec .leaseRaceTimer s = .next (loseRace u))

/-- Messages between the heads: forwarded commands, aborts, mirrored records, paired commits, drains, reservations. A forwarded command is served as the owner's own; its completion ends it here; FWD_ABORT of a command that is not known is answered as not done, ABORT_RSP completes the Abort and the command. A record is placed in the mirror ring and acknowledged; REC_ACK marks it mirrored; RETIRE drops the mirror below its JSEQ. PREPARE keeps the commit and is acknowledged in time; OWN_ACK brings OWN_GO; OWN_GO agrees; OWN_ABORT cancels; DRAINED ends the Change at the new owner; RSV_UPDATE is copied and acknowledged; RSV_ACK completes the command. -/
def Obligations.WhatTheHeadsTellEachOther : Prop :=
  -- FWD_CMD with a tag that is not known
  (∀ tag x l (s : State) y, s.serves = true → (∀ z ∈ s.host.cmds, z.fwdTag ≠ some tag) →
     y = { x with fwdTag := some tag, missing := 0, phase := .ready, jseqs := [], fetches := [], failed := none, differs := false } →
     exec (.fwdCmd tag x l) s = .next (route l y { s with host := { s.host with cmds := s.host.cmds ++ [y] } })) ∧
  -- FWD_CPL of a command that waits for it, with no data and no Abort under way
  (∀ tag st d (s : State) f x, s.up = true → fwdEntry s tag = some f → f.abortCid = none → fwdHost s f = some x → x.fwdTag = none → s.hup.dumping = false → s.peer.changes = [] →
     ∃ t, exec (.fwdCpl tag st d []) s = .next t ∧ t.peer.fwd = s.peer.fwd.filter (·.tag != tag) ∧ t.outputs = .completion x.cntlid x.qid x.cid st d :: s.outputs ∧
       t.host = (s.dropCmd x).host ∧ t.md = s.md ∧ t.wr = s.wr ∧ t.regs = s.regs) ∧
  -- FWD_ABORT of a command that is not here
  (∀ tag (s : State), s.up = true → (∀ z ∈ s.host.cmds, z.fwdTag ≠ some tag) → exec (.fwdAbort tag) s = .next (s.send (.abortRsp tag false))) ∧
  -- FWD_ABORT of a command that can still be aborted and fetches nothing
  (∀ tag (s : State) x, s.up = true → (s.host.cmds.find? fun z => z.fwdTag == some tag) = some x → abortable x = true → x.fetches = [] →
     exec (.fwdAbort tag) s = .next (settleDrain (({ s with wr := { s.wr with ringWait := s.wr.ringWait.filter (· != (x.cntlid, x.qid, x.cid)) } }.dropCmd x).send (.abortRsp tag true)))) ∧
  -- ABORT_RSP of a command that the owner aborted
  (∀ tag (s : State) f c a x, s.up = true → fwdEntry s tag = some f → f.abortCid = some c → s.assoc f.cntlid = some a → fwdHost s f = some x →
     exec (.abortRsp tag true) s = .next (complete x .abortRequested (answer f.cntlid 0 c .success (dropFwd tag (s.putAssoc { a with aborts := a.aborts - 1 })) 0))) ∧
  -- MIRROR_REC of a good record of the other head while records are mirrored; RING_COPY at a head that joins
  (∀ (r : JRecord) s u, s.up = true → r.head ≠ s.peer.head → u = { s with wr := { s.wr with mirror := insertRecord r s.wr.mirror } }.send (.recAck r.head r.jseq) →
     u.wr = { s.wr with mirror := insertRecord r s.wr.mirror } ∧ u.md = s.md ∧ u.regs = s.regs ∧ u.host = s.host ∧
     (s.mirrors = true → exec (.mirrorRec r true) s = .next u) ∧ (joins s = true → exec (.ringCopy r) s = .next u)) ∧
  -- REC_ACK of this head's record, outside an admission
  (∀ h j s u, s.up = true → h = s.peer.head → u = settleAck (postWrites { s with wr := { s.wr with ring := updateIf (fun e => e.rec_.jseq == j) (fun e => { e with mirrored := true }) s.wr.ring } }) →
     exec (.recAck h j) s = .next (if u.peer.st == .lightship && u.peer.phase == 3 && allMirrored u then enterShare u else settleCold u)) ∧
  -- RETIRE
  (∀ j s, s.up = true → exec (.retire j) s = .next { s with wr := { s.wr with mirrorRetired := max j s.wr.mirrorRetired, mirror := s.wr.mirror.filter fun r => decide (max j s.wr.mirrorRetired ≤ r.jseq) } }) ∧
  -- PREPARE in PAIRED, in time, while the Head Quarters islands can take it
  (∀ T l s, s.up = true → s.peer.st = .paired → s.peer.commit = none → pairNow s + 2000 ≤ T → claimedElsewhere 8 s (List.range' iHQ 8) = false → (∀ i ∈ List.range' iHQ 8, acks [] s i = true) →
     ∃ t, exec (.prepare T l) s = .next t ∧ t.peer.commit = some { pairT := T, changes := l, issuer := false, agreed := false, set := 8 } ∧ t.peer.owners = s.peer.owners ∧ t.regs = s.regs ∧ t.md = s.md ∧ t.wr = s.wr) ∧
  -- OWN_ACK in time of this head's own commit
  (∀ T s c, s.up = true → s.peer.commit = some c → c.issuer = true → c.pairT = T → c.agreed = false → pairNow s + 2000 ≤ T →
     ∃ t, exec (.ownAck T) s = .next t ∧ t.peer.commit = some { c with agreed := true } ∧ t.peer.owners = s.peer.owners ∧ t.regs = s.regs ∧ t.md = s.md ∧ t.wr = s.wr) ∧
  -- OWN_GO before the switch time
  (∀ T s c, s.up = true → s.peer.commit = some c → c.issuer = false → c.pairT = T → heldPast s c = false → exec (.ownGo T) s = .next { s with peer := { s.peer with commit := some { c with agreed := true } } }) ∧
  -- OWN_ABORT of a commit that this head has acknowledged: the groups stay where they were
  (∀ T s c, s.up = true → s.peer.commit = some c → c.issuer = false → c.pairT = T →
     exec (.ownAbort T) s = .next (releaseHeld (postAll evAna { s with peer := { s.peer with commit := none, changes := s.peer.changes.filter fun x => !(c.changes.any (·.1 == x.group)) } }))) ∧
  -- DRAINED of a group in Change that comes to this head
  (∀ g j s u c, s.up = true → (s.peer.changes.find? fun c => c.group == g && !c.away) = some c → s.owner g = s.peer.head → u = takeTrees g s →
     exec (.drained g j) s = .next (releaseHeld (postAll evAna { u with peer := { u.peer with changes := u.peer.changes.filter (·.group != g) } }))) ∧
  -- RSV_UPDATE of a namespace of the partner's
  (∀ m n r s x, s.up = true → (s.md.shadow.nss.find? (·.nsid == n)) = some x →
     exec (.rsvUpdate m n r) s = .next ((tellRsv x.rsv r none { s with md := { s.md with shadow := { s.md.shadow with nss := updateIf (·.nsid == n) (fun n => { n with rsv := r }) s.md.shadow.nss } } }).send (.rsvAck m))) ∧
  -- RSV_ACK of a reservation command that waits for it
  (∀ m s k n c q i x, s.up = true → (s.peer.rsvWait.find? (·.1 == m)) = some (k, n, c, q, i) → (s.host.cmds.find? fun x => x.is c q i && x.phase == .waiting) = some x →
     x.fwdTag = none → s.hup.dumping = false → s.peer.changes = [] →
     ∃ t, exec (.rsvAck m) s = .next t ∧ t.peer.rsvWait = s.peer.rsvWait.filter (·.1 != m) ∧ t.outputs = .completion x.cntlid x.qid x.cid .success 0 :: s.outputs ∧
       t.host = (s.dropCmd x).host ∧ t.md = s.md ∧ t.wr = s.wr ∧ t.regs = s.regs)

/-- Joining again: streamed pages, phases of an admission, the cold join, the lease at a start, and the pair's task commands. CKPT_PAGE places a part into the joiner's store; phases 1, 2, 3 and 5 of an admission do their part at the joiner; phase 2 lets the survivor copy its journal; COLD_JOIN checks first, then waits, then streams; START_LEASE_READ with no valid block and no lease set leaves the lease shared, with a majority of this head's own sole blocks brings LIGHTSHIP. ANA_STAGE stages an owner, PEER_STATUS reads the four registers and the offset, BEACON_CONFIG sets LOSS_MS and SEVER_MS, PEER_ADMIT starts its job. -/
def Obligations.AdmissionColdJoinAndLease : Prop :=
  -- CKPT_PAGE of a part that is no counter
  (∀ sh x s, s.up = true → joins s = true → (∀ a b c d e f, x ≠ .counters a b c d e f) → exec (.ckptPage sh x) s = .next (s.putStore sh ((s.store sh).take x))) ∧
  -- ADMIT_DONE at a joiner: phase 1, 2, the cold join's phase 3, and 5
  (∀ (m : AdmitMsg) s, s.up = true → s.peer.st ≠ .lightship → joins s = true →
     (m.phase = 1 → exec (.admitDone m) s = .next (joinDiscard m s)) ∧
     (m.phase = 2 → s.peer.phase = 2 → exec (.admitDone m) s = .next (joinRestored s)) ∧
     (m.phase = 3 → 2 ≤ s.peer.coldStep → exec (.admitDone m) s = .next (settleCold { s with peer := { s.peer with partnerCopied := true } })) ∧
     (m.phase = 4 → 3 ≤ s.peer.phase → exec (.admitDone m) s = .next (joinShare m.modules s)) ∧
     (m.phase = 5 → 3 ≤ s.peer.phase → exec (.admitDone m) s = .next (joinDone s))) ∧
  -- phase 1 at the joiner: its journal and metadata are discarded, ownership and lease set are the survivor's
  (∀ (m : AdmitMsg) s u, u = joinDiscard m s → u.wr.ring = [] ∧ u.wr.mirror = [] ∧ u.wr.jseqNext = max m.jseqNext (s.wr.jseqNext + 2 ^ 32) ∧ u.wr.jseqRetired = u.wr.jseqNext ∧
     u.md.store = .empty ∧ u.md.shadow = .empty ∧ u.peer.owners = m.owners ∧ u.peer.ownGen = m.ownGen ∧ u.peer.lset = m.lset ∧ u.peer.lsetGen = m.lsetGen ∧ u.peer.phase = 2 ∧ u.regs = s.regs ∧ u.host = s.host) ∧
  -- ADMIT_DONE of phase 2 at the survivor whose job goes on
  (∀ (m : AdmitMsg) s j, s.up = true → s.peer.st = .lightship → s.peer.admitJob = some j → m.phase = 2 → m.failed = [] → s.peer.phase = 2 → exec (.admitDone m) s = .next (admitCopy s)) ∧
  -- COLD_JOIN: the check, the wait for the metadata restart, the stream of the store
  (∀ a b s, s.up = true → coldReady s = true →
     (s.peer.coldStep ≤ 1 → ∀ c, phaseOneFault s a b = some c → exec (.coldJoin a b) s = .next (fire 512 s (code := c))) ∧
     (s.peer.coldStep ≤ 1 → phaseOneFault s a b = none → exec (.coldJoin a b) s = .next { s with peer := { s.peer with coldStep := 2 } }) ∧
     (s.peer.coldStep = 2 → s.media.ioAdmitted = false → exec (.coldJoin a b) s = .next s) ∧
     (s.peer.coldStep = 2 → s.media.ioAdmitted = true →
       exec (.coldJoin a b) s = .next ({ s with peer := { s.peer with coldStep := 3 } }.sendAll ((s.md.store.parts s.md.txn).map fun x => Output.ckptPage true x)))) ∧
  -- START_LEASE_READ in ALONE with no valid block and no lease set
  (∀ l s, s.up = true → s.peer.st = .alone → s.peer.leaseKnown = false → (∀ x ∈ l, ourBlock x.2 s = false) → s.peer.lset = [] →
     exec (.startLeaseRead l) s = .next { s with peer := { s.peer with leaseKnown := true, lease := .shared, startWait := none } }) ∧
  -- START_LEASE_READ that finds the one module of the set held by this head alone: LIGHTSHIP
  (∀ m b s u, s.up = true → s.peer.st = .alone → s.peer.leaseKnown = false → ourBlock b s = true → b.lset = [m] → b.sole = true → b.holder = s.peer.head → s.peer.head < 2 →
     u = { s with peer := { s.peer with lset := [m], lsetGen := b.lsetGen, owners := b.owners, ownGen := max s.peer.ownGen b.ownGen, leaseSeq := max s.peer.leaseSeq b.seq, leaseKnown := true,
                                        lease := .mine, survivor := true, startWait := none } } →
     exec (.startLeaseRead [(m, b)]) s = .next (setPeer .lightship u)) ∧
  -- ANA_STAGE in PAIRED of a group that another head owns, into a set that can take it
  (∀ (r : TaskReq) (s u : State), goes { opcode := 0x0401, windows := [0] } [(1, mask 9 0 ||| mask 16 16), (2, mask 2 0)] r s = true → u = taken { opcode := 0x0401, windows := [0] } r s →
     1 ≤ r.argBits 1 9 0 → r.argBits 1 9 0 ≤ 512 → s.peer.st = .paired → (∀ c ∈ s.peer.changes, c.group ≠ r.argBits 1 9 0) → s.owner (r.argBits 1 9 0) ≠ r.argBits 1 16 16 →
     canStage (r.arg 2) u (itemClaims (.owner (r.argBits 1 9 0) (r.argBits 1 16 16))) = true →
     ∃ t, exec (.anaStage r) s = .next t ∧ answered r cOK 0 [] t ∧ windowOnly (stageItem (r.arg 2) (.owner (r.argBits 1 9 0) (r.argBits 1 16 16)) u) t) ∧
  -- PEER_STATUS
  (∀ (r : TaskReq) (s u : State), goes { opcode := 0x0402, windows := [0, 1, 2, 3] } [] r s = true → u = taken { opcode := 0x0402, windows := [0, 1, 2, 3] } r s →
     ∃ t, exec (.peerStatus r) s = .next t ∧ answered r cOK 0 [peerStateWord u, leaseStatusWord u, groupStatusWord u 0, groupStatusWord u 1, BitVec.ofInt 64 s.peer.pairOffset] t ∧ windowOnly s t) ∧
  -- BEACON_CONFIG
  (∀ (r : TaskReq) (s : State), goes { opcode := 0x0403, windows := [0] } [(1, mask 7 0 ||| mask 31 16)] r s = true → 1 ≤ r.argBits 1 7 0 → r.argBits 1 7 0 ≤ 50 → 10 ≤ r.argBits 1 31 16 → r.argBits 1 31 16 ≤ 10000 →
     ∃ v t, exec (.beaconConfig r) s = .next t ∧ answered r cOK 0 [] t ∧ windowOnly v t ∧ v.fld Reg.fUBL_BEACON_CFG_LOSS_MS = r.argBits 1 7 0 ∧ v.fld Reg.fUBL_BEACON_CFG_SEVER_MS = r.argBits 1 31 16 ∧ v.peer = s.peer ∧ v.md = s.md) ∧
  -- PEER_ADMIT of a joiner with the same base Lens and firmware level
  (∀ (r : TaskReq) (s : State) n, goes { opcode := 0x0404, windows := [0] } [] r s = true → s.peer.st = .lightship → joinerHeard s = true → s.peer.admitJob = none → freeRecord r.window s = some n →
     phaseOneFault s true true = none →
     ∃ w t, exec (.peerAdmit r true true) s = .next t ∧ answered r cACCEPTED 0 [handleOf (plannedJob 0x0404 r { cancellable := true } s n)] t ∧
       windowOnly (admitStart { w with peer := { w.peer with admitJob := some n } }) t ∧ w = withJob 0x0404 r { cancellable := true } (taken { opcode := 0x0404, windows := [0] } r s) n)

/-- Power-fail sequence, dump and shutdown, store probe and test, vault sets. PFAIL_N starts the power-fail sequence unless the pin is stuck; a dump that commits shuts the chip down with every switched domain off, and the end of the power failure lets it leave reset; a sample of the store is taken in; a probe judges the store; a capacitance test starts when due and ends; vault members that no longer serve are replaced; dump areas are erased once restored records are covered; the settings block is queued. -/
def Obligations.EnergyStoreVaultAndShutdown : Prop :=
  -- PFAIL_N_ASSERTED; a stuck pin starts nothing
  (∀ s, s.up = true → ∃ u, u = { s with env := { s.env with pfailHigh := false } } ∧
     exec .pfailNAsserted s = .next (if s.flag Reg.fGLB_BOARD_STATUS_PFAIL_STUCK then u else powerFail 1 u)) ∧
  -- VAULT_DUMP_COMMIT: the Bardar shuts down
  (∀ s c, s.up = true → s.hup.dumping = true → ∃ t, exec (.vaultDumpCommit c) s = .next t ∧ t.up = false ∧ t.hup.shutdown = true ∧ t.hup.dumpInfo = (endDump c s).hup.dumpInfo ∧
     (∀ d, d < 47 → t.domainState d = 3) ∧ t.hup.image = (endDump c s).hup.image ∧ t.boot.fuses = s.boot.fuses ∧ t.host.directory = s.host.directory ∧ t.host.cmds = []) ∧
  -- SHUTDOWN_EXIT: PFAIL_N high after a power failure without a trip, and VDD_AON back
  (∀ s, (s.hup.shutdown = true → s.env.porstHigh = true → s.env.aonLost = false → (∀ i, s.hup.dumpInfo = some i → i.trip = false) → ∃ t, exec (.shutdownExit .pfailHigh) s = .next t ∧ t.up = true ∧ t.env.pfailHigh = true ∧ (∀ d, d < 47 → t.domainState d = 0) ∧ t.md = s.md) ∧
     (s.env.aonLost = true → s.env.porstHigh = true → ∃ t, exec (.shutdownExit .aonReturn) s = .next t ∧ t.up = true ∧ t.env.aonLost = false ∧ (∀ d, d < 47 → t.domainState d = 0) ∧ t.md = s.md)) ∧
  -- STORE_SENSE_SAMPLE with the pin not stuck
  (∀ v s, s.up = true → (senseStore v s).flag Reg.fGLB_BOARD_STATUS_PFAIL_STUCK = false → exec (.storeSenseSample v) s = .next (senseStore v s)) ∧
  -- STORE_PROBE and STORE_PROBE_REPEAT of a configured store
  (∀ v x s, s.up = true → unconfigured s = false → s.background = true →
     (s.hup.st = .probing → exec (.storeProbe v x) s = .next (runProbe v x s)) ∧
     (s.hup.st = .fault → exec (.storeProbeRepeat v x) s = .next (runProbe v x (s.reach (s.hup.probedAt + 60 * sec)))) ∧
     (∀ w u, 0 ≤ v → w = s.reach (s.now + 2 * sec) → u = { w with hup := { w.hup with probedAt := w.now } } → probeFault v x u = none →
       runProbe v x s = rejudge (setHup .unarmed { u with hup := { u.hup with chg := true, released := true } }))) ∧
  -- CAPACITANCE_TEST_DUE with enough energy
  (∀ s u, s.up = true → s.fld Reg.fHUP_CFG_TEST_INTERVAL_H ≠ 0 → s.background = true → u = s.reach (s.hup.testedAt + s.fld Reg.fHUP_CFG_TEST_INTERVAL_H * hour) → canTest u = true →
     exec .capacitanceTestDue s = .next (rejudge (setHup .testing { u with hup := { u.hup with chg := false, test := true, testStart := some (u.now, u.hup.vMv), testJob := none } }))) ∧
  -- CAPACITANCE_TEST_END at its drop or after 2 s
  (∀ v t s t0 v0, s.up = true → s.hup.testStart = some (t0, v0) → s.hup.st = .testing → t ≤ 2 * sec → ((s.fld Reg.fHUP_SENSE_CFG_TEST_DROP_MV : Int) ≤ v0 - v ∨ t = 2 * sec) →
     exec (.capacitanceTestEnd v t) s = .next (endTest v t v0 (s.reach (t0 + t)))) ∧
  -- VAULT_MEMBER_REPLACE when the sets change
  (∀ s u, s.up = true → u = assignVault s → (u.hup.set1 ≠ s.hup.set1 ∨ u.hup.set2 ≠ s.hup.set2) → exec .vaultMemberReplace s = .next (rejudge (queueFlash .other u))) ∧
  -- DUMP_AREA_ERASE: the image goes and the next DUMP_SEQ is armed
  (∀ s, s.up = true → mayEraseDump s = true →
     exec .dumpAreaErase s = .next (rejudge { s with hup := { s.hup with set1 := s.hup.set1.map fun m => { m with erased := true }, set2 := s.hup.set2.map fun m => { m with erased := true }, image := none, dumpSeq := if s.hup.image.isSome then s.hup.dumpSeq + 1 else s.hup.dumpSeq } })) ∧
  -- HOLDUP_SETTINGS_WRITE
  (∀ s, s.up = true → s.keeperA = some true → exec .holdupSettingsWrite s = .next { s with kpr := { s.kpr with flashQ := s.kpr.flashQ ++ [{ item := .holdup (s.word Reg.HUP_STORE_CFG.base) (s.word Reg.HUP_SENSE_CFG.base), doneA := false }] } }) ∧
  -- HOLDUP_TEST that only sets the interval ends at once; one that runs starts a test
  (∀ (r : TaskReq) v x (s u : State) n p, goes { opcode := 0x0A05, windows := [0, 2] } [(1, mask 1 0), (2, mask64)] r s = true → u = taken { opcode := 0x0A05, windows := [0, 2] } r s → freeRecord r.window s = some n → p = { carrier := .keeper, work := .capacitance } →
     (r.argBits 1 1 1 = 1 → r.argBits 1 0 0 = 0 → r.arg 2 ≤ 8760 → ∃ w t, w = (withJob 0x0A05 r p u n).setFld Reg.fHUP_CFG_TEST_INTERVAL_H (r.arg 2) ∧ exec (.holdupTest r v x) s = .next t ∧ answered r cACCEPTED 0 [handleOf (plannedJob 0x0A05 r p s n)] t ∧ windowOnly (endJob n cOK 0 (testResults w) w) t) ∧
     (r.argBits 1 1 1 = 0 → r.argBits 1 0 0 = 1 → u.hup.st = .armed → canTest u = true → ∃ t, exec (.holdupTest r v x) s = .next t ∧ answered r cACCEPTED 0 [handleOf (plannedJob 0x0A05 r p s n)] t ∧ windowOnly (beginTest (some n) (withJob 0x0A05 r p u n)) t))

/-- Uberuf Remote connections: HELLO, HELLO_ACK, PROOF, REKEY, keepalive, silence, loss, reconnection. A known partner's HELLO is answered with HELLO_ACK; a right HMAC in HELLO_ACK brings PROOF and proves the connection, as one in PROOF does; REKEY of the next generation moves the receive generation; the limit moves the send generation; KEEPALIVE changes its connection only; an idle connection sends one; a silent one is closed and the partner's source fires; a lost one leaves its streams in DISCONNECTED; a retry opens a new connection. A frame that is not good closes its connection. -/
def Obligations.RemoteConnectionsProveAndKeepKeys : Prop :=
  -- HELLO of a known partner on a new connection
  (∀ n (h : RrHead) id rand mine s p (c : ReplConn), s.up = true → h.intact = true → h.gen = 0xFFFF → h.fseq = 1 → s.conn n = none → s.repl.partners.find? (·.pairId == id) = some p → connCount s p.index < 8 →
     c = { conn := n, partner := p.index, caller := false, proved := false, mine := mine, theirs := rand, txGen := 0, rxGen := 0, txSeq := 1, rxSeq := 2, frames := 0, keyAt := s.now, txAt := s.now, rxAt := s.now } →
     ∃ t, exec (.hello n h id rand mine) s = .next t ∧ t.conn n = some { c with txSeq := 2, frames := 1 } ∧
       t.outputs = .remote n 0 1 0xFFFF (.helloAck (pairId s) mine (macFor p id (pairId s) rand mine)) :: s.outputs ∧ t.md = s.md ∧ t.regs = s.regs ∧ t.repl.streams = s.repl.streams) ∧
  -- HELLO_ACK at the side that called, PROOF at the side that was called, with the HMAC that R319 gives
  (∀ (h : RrHead) id rand (mac : BitVec 384) s u c d p, u.replPartner d.partner = some p → d.proved = false →
     (frameIn h true c d s u → d.caller = true → p.pairId = id → mac = macFor p (pairId u) id d.mine rand →
       ∃ v, v = sendConn { d with theirs := rand } 0 (.proof (macFor p (pairId u) id rand d.mine)) (u.putConn { d with theirs := rand }) ∧
         exec (.helloAck h id rand mac) s = .next (openWaiting p.index (proveConn ((v.conn d.conn).getD { d with theirs := rand }) v))) ∧
     (frameIn h false c d s u → d.caller = false → mac = macFor p p.pairId (pairId u) d.mine d.theirs →
       exec (.proof h mac) s = .next (openWaiting p.index (proveConn d u)))) ∧
  -- REKEY to the next generation
  (∀ (h : RrHead) g s u c d, frameIn h false c d s u → c.proved = true → g = c.rxGen + 1 → g < 0xFFFF → exec (.rekey h g) s = .next (u.putConn { d with rxGen := g })) ∧
  -- REKEY_LIMIT of a proved connection that has sent 2^31 frames under its key
  (∀ n s c v, s.up = true → s.conn n = some c → c.conn = n → c.proved = true → 2 ^ 31 ≤ c.frames → c.txGen + 1 ≠ 0xFFFF → v = sendConn c 0 (.rekey (c.txGen + 1)) s →
     ∃ t, exec (.rekeyLimit n) s = .next t ∧ t.conn n = some { c with txSeq := c.txSeq + 1, frames := 0, txAt := s.now, txGen := c.txGen + 1, keyAt := s.now } ∧
       t.outputs = .remote n 0 c.txSeq c.txGen (.rekey (c.txGen + 1)) :: s.outputs ∧ t.md = s.md ∧ t.regs = s.regs ∧ t.repl.streams = s.repl.streams) ∧
  -- KEEPALIVE of a proved connection
  (∀ (h : RrHead) s u c d, frameIn h false c d s u → c.proved = true → exec (.keepalive h) s = .next u) ∧
  -- A frame that is cut short, out of FSEQ or of another key generation: nothing of it is applied, the connection closes
  (∀ (h : RrHead) s c, s.up = true → s.conn h.conn = some c → (h.intact = false ∨ h.fseq ≠ c.rxSeq ∨ h.gen ≠ c.rxGen) → exec (.keepalive h) s = .next (closeConn c s)) ∧
  -- KEEPALIVE_IDLE_TIMER
  (∀ n s c, s.up = true → s.conn n = some c → c.proved = true → exec (.keepaliveIdleTimer n) s = .next (sendConn c 0 .keepAlive (s.reach (c.txAt + sec)))) ∧
  -- CONNECTION_SILENCE_TIMER, and REPLICATION_CONNECTION_LOSS, of a connection that carries no stream
  (∀ n s c, s.up = true → s.conn n = some c → s.repl.streams = [] →
     exec (.connectionSilenceTimer n) s = .next (fire (768 + c.partner) { (s.reach (c.rxAt + 5 * sec)) with repl := { s.repl with conns := s.repl.conns.filter (·.conn != c.conn) } }) ∧
     exec (.replicationConnectionLoss n) s = .next { s with repl := { s.repl with conns := s.repl.conns.filter (·.conn != c.conn) } }) ∧
  -- RECONNECT_RETRY of a partner with a stream that waits and no connection: HELLO on a new one
  (∀ (p : Fin 256) n rand s u q, s.up = true → s.replPartner p.val = some q → u = s.reach ((s.now / sec + 1) * sec) → s.repl.conns = [] →
     (∃ x ∈ s.repl.streams, x.source = true ∧ x.partner = q.index ∧ runsHere u x = true ∧ (x.st = .opening ∨ x.st = .disconnected ∨ x.st = .fractured)) →
     exec (.reconnectRetry p n rand) s = .next (callPartner q n rand u))

/-- Replication streams: opening, cycles, fingerprints, data, runs, cursors, synchronous records, acknowledgements. STREAM_OPEN finds its target stream and is answered with the durable cursor, or refused; the answer opens the source. A cycle starts when its interval falls due; what a batch does not hold is wanted; an answer counts its hits; a grain that matches its fingerprint is journaled; error runs mark blocks LOST; CURSOR clears what is done; DIFF_END marks the cycle whole and ends it; a synchronous record is journaled and its acknowledgement kept; SYNC_ACK lets the write through or fractures the stream; CLOSE ends connection or stream; an expired hold fractures. -/
def Obligations.StreamsCarryDifferencesAndRecords : Prop :=
  -- REPLICATION_INTERVAL of a stream in WAITING
  (∀ id s x, s.up = true → s.stream id = some x → x.role = .asyncSource → x.st = .waiting → runsHere s x = true → exec (.replicationInterval id) s = .next (startCycle x.id (s.reach x.dueAt))) ∧
  -- STREAM_OPEN that no stream fits is refused
  (∀ (h : RrHead) a b fps s u c d, frameIn h false c d s u → c.proved = true →
     (∀ x ∈ u.repl.streams, x.source = true ∨ x.partner ≠ d.partner ∨ x.nsid ≠ b ∨ x.remote ≠ a ∨ x.st = .stopped ∨ runsHere u x = false) →
     exec (.streamOpen h (.inl (a, b)) fps) s = .next (sendConn d h.stream (.close cSTATE_CONFLICT) u)) ∧
  -- STREAM_OPEN at its target, and its answer at the source
  (∀ (h : RrHead) fps s u x,
     (∀ a b c d, frameIn h false c d s u → c.proved = true →
       (u.repl.streams.find? fun x => !x.source && x.partner == d.partner && x.nsid == b && x.remote == a && x.st != .stopped && runsHere u x) = some x →
       exec (.streamOpen h (.inl (a, b)) fps) s = .next (sendStream { x with peerId := h.stream, st := if x.st == .opening then .diffing else x.st, wanted := [], mismatch := [], ended := false } (.streamOpened x.durable)
         (noteStream { x with peerId := h.stream, st := if x.st == .opening then .diffing else x.st, wanted := [], mismatch := [], ended := false } u))) ∧
     (∀ k, sourceFrame h x s u → exec (.streamOpen h (.inr k) fps) s = .next (opened x k fps u))) ∧
  -- FP_BATCH of which nothing is held here: every grain is wanted
  (∀ (h : RrHead) l es res s u x sh n, targetFrame h x sh n s u → es ≠ [] →
     ∃ y, y = { x with wanted := x.wanted ++ [(h.fseq, es)], closed := if l then (es.map (·.1 + 1)).foldl max x.closed else x.closed, hits := x.hits } ∧
       exec (.fpBatch h l es res []) s = .next (postWrites (settleIngest (sendStream y (.fpWant h.fseq (es.map (·.1))) (u.putStream y))))) ∧
  -- FP_WANT that wants nothing of a batch not answered before: every entry is a hit
  (∀ (h : RrHead) q rd s u x b, sourceFrame h x s u → x.wanted.find? (·.1 == q) = some b → x.answered.contains q = false →
     exec (.fpWant h q [] rd) s = .next (settleDiff x.id (u.putStream { x with answered := insertNat q x.answered, grains := x.grains + 0, hits := x.hits + (b.2.length - 0) }))) ∧
  -- DATA of one grain that matches its batch's fingerprint, while there is room
  (∀ (h : RrHead) k ss s u x sh n w f, targetFrame h x sh n s u → u.stream x.id = some x → x.st ≠ .stopped → (x.wanted.find? fun w => w.2.any (·.1 == k)) = some w → w.2.find? (·.1 == k) = some (k, f) →
     Config.sha256 (grainBytes ss) = f → ingestShort u n 1 = false →
     ∃ y, y = { x with grains := x.grains + 1, wanted := (updateIf (fun v => v.1 == w.1) (fun (v : Nat × List (Nat × BitVec 256)) => (v.1, v.2.filter (·.1 != k))) x.wanted).filter fun v => !v.2.isEmpty } ∧
       exec (.data h [(k, ss)]) s = .next (postWrites (settleIngest (ingestGrain y n k ss false (u.putStream y))))) ∧
  -- MAP_RUN of one error run that the stream wants nothing of: its blocks are marked LOST
  (∀ (h : RrHead) l k m s u x sh n, targetFrame h x sh n s u → x.wanted = [] →
     exec (.mapRun h l [(k, m, 2)]) s = .next (postWrites (settleIngest ((List.range' k (min m (grainsOf n - k))).foldl (fun s j => markLost sh n j s) (u.putStream { x with closed := if l then max x.closed (k + m) else x.closed, wanted := [] }))))) ∧
  -- CURSOR of a stream outside a resynchronisation
  (∀ (h : RrHead) key fps s u x, sourceFrame h x s u → x.st ≠ .resyncing → x.pass = [] → exec (.cursor h key fps) s = .next (noteStream { x with cursor := key, durable := key, changed := x.changed, pass := [] } u)) ∧
  -- DIFF_END at the target, and its answer at the source
  (∀ (h : RrHead) (k : Nat) s u x,
     (∀ sh n, targetFrame h x sh n s u → exec (.diffEnd h (.inl k)) s = .next (postWrites (settleIngest (u.putStream { x with ended := true })))) ∧
     (sourceFrame h x s u → x.st = .diffing → x.ended = true → exec (.diffEnd h (.inr k)) s = .next (cycleDone x u))) ∧
  -- SYNC_REC in order, with room, within the namespace
  (∀ (h : RrHead) j (r : JRecord) s u x sh n y v, targetFrame h x sh n s u → x.srcJseq ≤ j → x.job = none →
     v = u.putStream { x with srcJseq := j + 1, st := .sync } → v.stream x.id = some y → ingestShort v n (dataGrains r.grains) = false → r.slba + r.nblk ≤ n.size →
     ∃ w z, w = ingest y n r.kind r.slba r.nblk r.srcSlba r.grains false v ∧ z = (w.stream y.id).getD y ∧
       exec (.syncRec h j r) s = .next (postWrites (settleIngest (w.putStream { z with acks := z.acks ++ [(v.wr.jseqNext, j)] })))) ∧
  -- SYNC_ACK with OK, and with a code
  (∀ (h : RrHead) j s u x, sourceFrame h x s u → (x.unacked.any (·.1 == j)) = true →
     exec (.syncAck h j cOK) s = .next (postWrites { (u.putStream { x with unacked := x.unacked.filter (·.1 != j) }) with wr := { u.wr with ring := updateIf (fun e => e.rec_.jseq == j) (fun e => { e with syncWait := false }) u.wr.ring } }) ∧
     ∀ c, c ≠ cOK → exec (.syncAck h j c) s = .next (fracture x c u)) ∧
  -- SYNC_HOLD_EXPIRY of the oldest record
  (∀ id s x q l, s.up = true → s.stream id = some x → x.st = .sync → x.unacked = q :: l → exec (.syncHoldExpiry id) s = .next (fracture x cOK (s.reach (q.2 + x.hold * ms)))) ∧
  -- CLOSE of the connection, and of a stream at its source
  (∀ (h : RrHead) code s u c d, frameIn h false c d s u → c.proved = true →
     (h.stream = 0 → exec (.close h code) s = .next (dropConn d u)) ∧
     ∀ x, h.stream ≠ 0 → sourceOf u d h = some x → exec (.close h code) s = .next (dropStreamSnaps x (stopStream x (if x.st == .opening then cSTATE_CONFLICT else code) u)))

/-- REPL_PARTNER_ADD, REPL_PARTNER_REMOVE, REPL_START, REPL_STOP, REPL_PROMOTE, REPL_STATUS. REPL_PARTNER_ADD keeps the partner record and copies it to the partner Bardar; REPL_PARTNER_REMOVE, with no stream of it, is a job that ends its connections and drops the record; REPL_START of a target makes a stream in OPENING; REPL_STOP closes the stream and releases its pins; REPL_PROMOTE, without a namespace of it here, stops and promotes; REPL_STATUS answers state, lag, cursor, bytes, grains and hits. -/
def Obligations.ReplicationTaskCommands : Prop :=
  -- REPL_PARTNER_ADD of a free index
  (∀ (r : TaskReq) id l psk (s : State) p, goes { opcode := 0x0701, windows := [0], bulk := .take none } [(1, mask 8 0 ||| mask 31 16), (2, mask 15 0)] r s = true → r.argBits 1 31 16 ≠ 0 → r.arg 2 ≠ 0 →
     ((l.take 4).all (· == 0)) = false → s.replPartner (r.argBits 1 7 0) = none → r.bulkFault = none →
     p = { index := r.argBits 1 7 0, pairId := id, addrs := l.take 4, roce := r.argBits 1 8 8 == 1, port := r.arg 2, cap := r.argBits 1 31 16, psk := psk } →
     ∃ v t, exec (.replPartnerAdd r id l psk) s = .next t ∧ answered r cOK 0 [] t ∧ windowOnly v t ∧ v.replPartner p.index = some p ∧ v.repl.streams = s.repl.streams ∧ v.md = s.md ∧ v.host = s.host) ∧
  -- REPL_PARTNER_REMOVE of a partner with no stream and no connection
  (∀ (r : TaskReq) (s w : State) n, goes { opcode := 0x0702, windows := [0] } [(1, mask 7 0)] r s = true → (∀ x ∈ s.repl.streams, x.partner = r.argBits 1 7 0 → x.st = .stopped) → s.repl.conns = [] →
     freeRecord r.window s = some n → w = withJob 0x0702 r {} (taken { opcode := 0x0702, windows := [0] } r s) n →
     ∃ t, exec (.replPartnerRemove r) s = .next t ∧ answered r cACCEPTED 0 [handleOf (plannedJob 0x0702 r {} s n)] t ∧
       windowOnly (endJobPlanned n ({ w with repl := { w.repl with partners := w.repl.partners.filter (·.index != r.argBits 1 7 0) } }.emit (.replPartner (r.argBits 1 7 0) none))) t) ∧
  -- REPL_START of a target stream
  (∀ (r : TaskReq) k rand (s u w : State) n x, goes { opcode := 0x0703, windows := [0] } [(1, mask 33 0 ||| mask 47 40), (2, mask 31 0), (3, mask64)] r s = true →
     u = taken { opcode := 0x0703, windows := [0] } r s → startFault u r = none → r.argBits 1 33 32 = 2 → freeRecord r.window s = some n →
     w = withJob 0x0703 r { cancellable := true, results := [BitVec.ofNat 64 s.repl.streamNext] } u n →
     x = { Stream.fresh s.repl.streamNext (r.argBits 1 31 0) (r.argBits 2 31 0) (r.argBits 1 47 40) .target with st := .opening, job := some n } →
     ∃ t v, exec (.replStart r k rand) s = .next t ∧ answered r cACCEPTED 0 [handleOf (plannedJob 0x0703 r { cancellable := true, results := [BitVec.ofNat 64 s.repl.streamNext] } s n)] t ∧ windowOnly v t ∧
       v.stream s.repl.streamNext = some x ∧ v.repl.streamNext = s.repl.streamNext + 1 ∧ v.md = s.md ∧ v.host = s.host) ∧
  -- REPL_STOP
  (∀ (r : TaskReq) (s u : State) x, goes { opcode := 0x0704, windows := [0] } [(1, mask64), (2, mask 0 0)] r s = true → u = taken { opcode := 0x0704, windows := [0] } r s → s.stream (r.arg 1) = some x →
     ∃ t, exec (.replStop r) s = .next t ∧ answered r cOK 0 [] t ∧ windowOnly (dropStreamSnaps x (stopStream x cCANCELLED (sendStream x (.close cOK) u))) t) ∧
  -- REPL_PROMOTE of a target stream
  (∀ (r : TaskReq) (s u v : State) x sh n, goes { opcode := 0x0704, windows := [0] } [(1, mask64), (2, mask 0 0)] r s = true → u = taken { opcode := 0x0704, windows := [0] } r s → s.stream (r.arg 1) = some x →
     x.source = false → v = stopStream x cCANCELLED (sendStream x (.close cOK) u) → (v.putStream { (v.stream x.id).getD x with promoted := true }).ns x.nsid = some (sh, n) → n.root = none →
     ∃ w t, exec (.replPromote r) s = .next t ∧ answered r cOK 0 [] t ∧ w = v.putStream { (v.stream x.id).getD x with promoted := true } ∧
       windowOnly (postAll evNamespace (((Tx.start w).add sh (.nsSet { n with root := ((x.replicas.filterMap w.snap).find? fun p => p.2.st == .ready).bind fun p => p.2.root })).commit)) t) ∧
  -- REPL_STATUS
  (∀ (r : TaskReq) (s : State) x, goes { opcode := 0x0705, windows := [0] } [(1, mask64)] r s = true → s.stream (r.arg 1) = some x →
     ∃ t, exec (.replStatus r) s = .next t ∧ windowOnly s t ∧ answered r cOK 0 ([streamCode x.st, if x.role == .syncSource then x.unacked.length else (s.now - x.baseAt) / sec, x.cursor, x.bytes, x.grains, x.hits].map (BitVec.ofNat 64)) t)

/-- Cipher and digest channels, contexts and key slots. A descriptor that a channel fetches and that passes every check of the chapter's order runs: OPEN and SINGLE allocate a context and pin the slot's generation, UPDATE and FINAL go on with the named context, CLOSE frees it, SAVE writes its image, VERIFY and SIGN answer; each ends in one completion. A head-processor channel can be disabled; an idle context is freed; an erase that times out zeroises the slot; a DONE digest reads out and is released; key tasks stage, erase and report a slot. -/
def Obligations.CipherAndDigestJobs : Prop :=
  -- CRY_OPEN of a new message
  (∀ (ch : Fin 15) d s, s.up = true → cryFetches ch.val s = true → cryFault .open_ ch.val d s = none → badImage d = false →
     exec (.cryOpen ch d) s = .next (runMessage .open_ ch.val d (allocCtx ch.val d s).1 (allocCtx ch.val d s).2)) ∧
  -- CRY_UPDATE of an open context
  (∀ (ch : Fin 15) d s c, s.up = true → cryFetches ch.val s = true → cryFault .update ch.val d s = none → namedCtx ch.val d s = some c →
     exec (.cryUpdate ch d) s = .next (runMessage .update ch.val d c s)) ∧
  -- CRY_FINAL of an open context
  (∀ (ch : Fin 15) d s c, s.up = true → cryFetches ch.val s = true → cryFault .final ch.val d s = none → namedCtx ch.val d s = some c →
     exec (.cryFinal ch d) s = .next (runMessage .final ch.val d c s)) ∧
  -- CRY_SINGLE of a whole message
  (∀ (ch : Fin 15) d s, s.up = true → cryFetches ch.val s = true → cryFault .single ch.val d s = none →
     exec (.crySingle ch d) s = .next (runMessage .single ch.val d (allocCtx ch.val d s).1 (allocCtx ch.val d s).2)) ∧
  -- CRY_CLOSE frees the context and answers OK
  (∀ (ch : Fin 15) d s c, s.up = true → cryFetches ch.val s = true → cryFault .close ch.val d s = none → namedCtx ch.val d s = some c →
     exec (.cryClose ch d) s = .next (ringDone (cryRing ch.val s) { cplOf cOK with ctx := d.ctx, keyGen := ((c.pin.map (·.gen)).getD 0) % 65536 } (freeCtx c s))) ∧
  -- CRY_SAVE writes the 256-byte image; the context stays open
  (∀ (ch : Fin 15) d s c, s.up = true → cryFetches ch.val s = true → cryFault .save ch.val d s = none → namedCtx ch.val d s = some c → d.fault = none →
     ∃ u, u = (s.putCtx { c with lastAt := s.now }).emit (.jobData 0 ch.val d.dstSpace (imageBytes c)) ∧
       exec (.crySave ch d) s = .next (ringDone (cryRing ch.val u) { cplOf cOK with ctx := d.ctx, bytes := 256, valid := true } u)) ∧
  -- ECDSA_VERIFY answers whether the signature holds
  (∀ (ch : Fin 15) d s, s.up = true → cryFetches ch.val s = true → cryFault .verify ch.val d s = none → d.fault = none →
     exec (.ecdsaVerify ch d) s = .next (ringDone (cryRing ch.val s) { cplOf (if Config.ecdsaVerify d.data then cOK else cAUTH_FAIL) with valid := Config.ecdsaVerify d.data } s)) ∧
  -- ECDSA_SIGN writes 96 bytes, whatever the per-signature secret
  (∀ (ch : Fin 15) d s, s.up = true → cryFetches ch.val s = true → cryFault .sign ch.val d s = none → d.fault = none →
     ∃ out u, out.length = 96 ∧ u = s.draw.2.emit (.jobData 0 ch.val d.dstSpace out) ∧
       exec (.ecdsaSign ch d) s = .next (ringDone (cryRing ch.val u) { cplOf cOK with bytes := 96, valid := true, keyGen := (s.slot (keyNumber d.key)).gen % 65536 } u)) ∧
  -- CRY_CHANNEL_DISABLE of a head-processor channel
  (∀ (ch : Fin 15) s, s.up = true → ch.val < 8 → ∃ t, exec (.cryChannelDisable ch) s = .next t ∧ t.flag Reg.fCRY_CH_CTRL_EN ch.val = false ∧
     t.eng = s.eng ∧ t.outputs = s.outputs ∧ ∀ o, o ≠ Reg.fCRY_CH_CTRL_EN.off ch.val 0 → t.word o = s.word o) ∧
  -- CRY_CONTEXT_IDLE_EXPIRY of a context without a key
  (∀ (i : Fin 3072) s c, s.up = true → s.ctx i.val = some c → c.pin = none →
     ∃ t, exec (.cryContextIdleExpiry i) s = .next t ∧ t.eng.ctxs = putBy Ctx.index { c with st := .free, data := [], result := [], code := 0, mode := 0, cut := none, early := false } s.eng.ctxs ∧ t.md = s.md ∧ t.regs = s.regs ∧ t.outputs = s.outputs) ∧
  -- KEY_ERASE_TIMEOUT of a slot that no message pins any more
  (∀ (k : Fin 4160) s x T, s.up = true → s.slot k.val = x → x.slot = k.val → x.eraseAt = some T → x.eraseJob = none → pinsAny s k.val = [] →
     ∃ t, exec (.keyEraseTimeout k) s = .next t ∧
       t.slot k.val = { x with st := .empty, key := none, previous := none, usage := 0, eraseAt := none, eraseJob := none } ∧ t.md = s.md ∧ t.regs = s.regs ∧ t.outputs = s.outputs) ∧
  -- DIG_RESULT_READ of a DONE context of the head processor
  (∀ (i : Fin 1024) (w : Fin 8) s c, s.up = true → s.ctx i.val = some c → c.owner < 8 → c.st = .done →
     exec (.digResultRead i w) s = .next (s.emit (.readData (0xA40040 + 0x100 * i.val + 8 * w.val)
       (BitVec.ofNat 64 (((List.range 8).map fun b => ((c.result[8 * w.val + b]?).getD 0).toNat * 2 ^ (8 * b)).sum))))) ∧
  -- DIG_CTX_RELEASE of a DONE context of the head processor
  (∀ (i : Fin 1024) s c, s.up = true → s.ctx i.val = some c → c.owner < 8 → c.st = .done → c.pin = none →
     ∃ t, exec (.digCtxRelease i) s = .next t ∧ t.eng.ctxs = putBy Ctx.index { c with st := .free, data := [], result := [], code := 0, mode := 0, cut := none, early := false } s.eng.ctxs ∧ t.md = s.md ∧ t.regs = s.regs ∧ t.outputs = s.outputs) ∧
  -- KEY_LOAD of a good blob is staged in its set
  (∀ (r : TaskReq) (b : KeyBlob) (s u : State), goes { opcode := 0x0501, windows := [1], bulk := .take none } [(1, mask 12 0), (2, mask 2 0)] r s = true →
     u = taken { opcode := 0x0501, windows := [1], bulk := .take none } r s → keeperOnly (r.arg 1) = false → slotExists (r.arg 1) = true → canStage (r.arg 2) u [iCRY] = true → keyInUse u (r.arg 1) = false →
     (u.slot (r.arg 1)).st ≠ .erasing → (u.slot (r.arg 1)).previous = none → keyStaged u (r.arg 1) = false → b.length = 48 + b.keyLen → b.kek ≤ 63 → b.rsvdZero = true → b.target = r.arg 1 →
     keyFits (r.arg 1) b.use b.keyLen = true → (u.slot (4096 + b.kek)).st = .active → keyUse (u.slot (4096 + b.kek)) = 5 → (u.slot (4096 + b.kek)).usage + 1 < 2 ^ 32 → b.tagOk = true → r.bulkFault = none →
     ∃ t, exec (.keyLoad r b) s = .next t ∧ answered r cOK 0 [BitVec.ofNat 64 ((u.slot (r.arg 1)).gen + 1)] t ∧
       windowOnly (stageItem (r.arg 2) (.key (r.arg 1) { bytes := b.key.take b.keyLen, use := b.use }) (u.putSlot { u.slot (4096 + b.kek) with usage := (u.slot (4096 + b.kek)).usage + 1 })) t) ∧
  -- KEY_ERASE of a slot that holds a key
  (∀ (r : TaskReq) (s u : State) x n, goes { opcode := 0x0502, windows := [1] } [(1, mask 12 0)] r s = true → u = taken { opcode := 0x0502, windows := [1] } r s → x = u.slot (r.arg 1) →
     keeperOnly (r.arg 1) = false → slotExists (r.arg 1) = true → keyInUse u (r.arg 1) = false → x.st = .active → keyStaged u (r.arg 1) = false → freeRecord r.window s = some n →
     ∃ v t, v = withJob 0x0502 r {} u n ∧ exec (.keyErase r) s = .next t ∧ answered r cACCEPTED 0 [handleOf (plannedJob 0x0502 r {} s n)] t ∧
       windowOnly (settleSlot (r.arg 1) (v.putSlot { x with st := .erasing, eraseJob := some n, eraseAt := some (v.now + v.fld Reg.fCRY_CFG_ERASE_TIMEOUT_MS * ms) })) t) ∧
  -- KEY_STATUS of a slot without an old key
  (∀ (r : TaskReq) (s u : State) x, goes { opcode := 0x0503, windows := [0, 1] } [(1, mask 12 0)] r s = true → u = taken { opcode := 0x0503, windows := [0, 1] } r s → x = u.slot (r.arg 1) →
     slotExists (r.arg 1) = true → x.previous = none → keyStaged u (r.arg 1) = false →
     ∃ t, exec (.keyStatus r) s = .next t ∧ answered r cOK 0 ([slotCode x.st + 16 * keyUse x + 2 ^ 32 * (x.gen % 2 ^ 32), x.usage, pins u (r.arg 1) x.gen].map (BitVec.ofNat 64)) t ∧ windowOnly s t)

/-- Compression jobs, scan jobs and pattern images. A compression or decompression descriptor that its channel fetches and that passes its checks becomes a job that goes onto a serving PT; a job without a PT for 100 ms ends NO_RESOURCE and its channel is free; a scan job pins its bank and ends in its output; PATTERN_LOAD copies an image into the bank that is not live, with BUSY while it runs. -/
def Obligations.CompressionAndPatternJobs : Prop :=
  -- COMPRESS onto a PT that serves
  (∀ (ch : Fin 14) d (p : Fin 66) s, s.up = true → jobOf s 1 ch.val = none → cmpFetches ch.val s = true → cmpFault false ch.val d s = none → ptServes s p.val = true → running s < 16 →
     ∃ t, exec (.compress ch d (.run p)) s = .next t ∧ jobOf t 1 ch.val = some { block := 1, channel := ch.val, desc := .compress d, pt := some p.val, since := s.now, snap := 0, bank := 0 } ∧
       t.outputs = s.outputs ∧ t.md = s.md) ∧
  -- DECOMPRESS onto a PT that serves
  (∀ (ch : Fin 14) d (p : Fin 66) s, s.up = true → jobOf s 1 ch.val = none → cmpFetches ch.val s = true → cmpFault true ch.val d s = none → ptServes s p.val = true → running s < 16 →
     ∃ t, exec (.decompress ch d (.run p)) s = .next t ∧ jobOf t 1 ch.val = some { block := 1, channel := ch.val, desc := .decompress d, pt := some p.val, since := s.now, snap := 0, bank := 0 } ∧
       t.outputs = s.outputs ∧ t.md = s.md) ∧
  -- COMPRESSION_JOB_NO_PT of a job that waits
  (∀ (ch : Fin 14) s j, s.up = true → jobOf s 1 ch.val = some j → j.pt = none →
     ∃ u, u = s.reach (j.since + 100 * ms) ∧ exec (.compressionJobNoPt ch) s = .next (ringDone (cmpRing ch.val u) (cplOf cNO_RESOURCE) (dropJob 1 ch.val u)) ∧ jobOf (dropJob 1 ch.val u) 1 ch.val = none) ∧
  -- SCAN_BUFFER that runs on
  (∀ (ch : Fin 12) d s, s.up = true → jobOf s 2 ch.val = none → patFetches ch.val s = true → scanFault false ch.val d s = none →
     ∃ t, exec (.scanBuffer ch d false) s = .next t ∧
       jobOf t 2 ch.val = some { block := 2, channel := ch.val, desc := .scanBuffer d, pt := none, since := s.now, snap := 0, bank := s.fld Reg.fPAT_CFG_BANK } ∧ t.outputs = s.outputs ∧ t.md = s.md) ∧
  -- SCAN_BUFFER of a job in hand that ends
  (∀ (ch : Fin 12) d s j, s.up = true → jobOf s 2 ch.val = some j → exec (.scanBuffer ch d true) s = .next (scanFinish j [] s)) ∧
  -- SCAN_SNAPSHOT that runs on pins its snapshot
  (∀ (ch : Fin 12) d s, s.up = true → jobOf s 2 ch.val = none → patFetches ch.val s = true → scanFault true ch.val d s = none →
     ∃ t, exec (.scanSnapshot ch d none) s = .next t ∧
       jobOf t 2 ch.val = some { block := 2, channel := ch.val, desc := .scanSnapshot d, pt := none, since := s.now, snap := d.snap, bank := s.fld Reg.fPAT_CFG_BANK } ∧ t.outputs = s.outputs ∧ t.md = s.md) ∧
  -- PATTERN_LOAD that goes
  (∀ (len : Fin 16777216) s, s.up = true → s.flag Reg.fPAT_LOAD_STATUS_BUSY = false → 512 ≤ len.val → len.val ≤ 8388608 → bankStaged s = false → s.eng.jobs = [] →
     ∃ t, exec (.patternLoad len none) s = .next t ∧ t.flag Reg.fPAT_LOAD_STATUS_BUSY = true ∧ t.flag Reg.fPAT_LOAD_STATUS_VALID = false ∧ t.fld Reg.fPAT_LOAD_CTRL_LEN = len.val ∧
       t.eng = s.eng ∧ t.outputs = s.outputs)

/-- DRAM reads, buckets, scrubbing, zero fill, SRAM patrol and the map cache. A corrected read counts into its channel's bucket and queues a write-back, which a write-back ends; a bucket leaks one per interval; BUCKET_CONFIG commits a stage set; SCRUB_RANGE takes a slot; the background pass covers a GiB; the zero fill passes on; a corrected SRAM word counts into its class; a map-cache slice drains when disabled, is BYPASS when drained, and is enabled with every line invalid. -/
def Obligations.MemoryErrorsAndTheMapCache : Prop :=
  -- DRAM_READ_DECODE of a burst corrected by erasure
  (∀ addr w dm dv s, s.up = true → s.eng.poisoned.contains (addr / 64 * 64) = false → s.eng.writeBacks.contains (addr / 64 * 64) = false →
     ∃ u, u = { s with eng := { s.eng with writeBacks := s.eng.writeBacks ++ [addr / 64 * 64], erased := s.eng.erased ++ [(dramChannel (addr / 64 * 64), dm.val, dv.val)] } } ∧
       exec (.dramReadDecode addr (.demand w) false (.device dm dv)) s = .next (countBucket (dramChannel (addr / 64 * 64)) (u.bump Reg.fMEM_CH_STATUS_CORRECTED 1 (dramChannel (addr / 64 * 64))))) ∧
  -- CORRECTION_WRITE_BACK of a queued burst
  (∀ a c s, s.up = true → s.eng.writeBacks.contains a = true →
     exec (.correctionWriteBack a c) s = .next (State.emit { s with eng := { s.eng with writeBacks := s.eng.writeBacks.filter (· != a) } } (.writeBack a c))) ∧
  -- LEAKY_BUCKET_LEAK: the count falls by 1 unless it is 0
  (∀ (b : Fin 24) s, s.up = true → ∃ t, exec (.leakyBucketLeak b) s = .next t ∧ t.fld Reg.fMEM_BUCKET_STATUS_COUNT b.val = s.fld Reg.fMEM_BUCKET_STATUS_COUNT b.val - 1 ∧
     t.md = s.md ∧ t.outputs = s.outputs) ∧
  -- BUCKET_CONFIG of one bucket: the stage set that it fills is committed, and the window stays busy
  (∀ (r : TaskReq) (s u : State) n, goes { opcode := 0x0902, windows := [0] } [(1, mask 5 0), (2, mask 31 0), (3, mask 15 0)] r s = true → u = taken { opcode := 0x0902, windows := [0] } r s →
     r.arg 1 < 24 → 0 < r.arg 2 → r.arg 2 ≤ 86400000 → freeSet u = some n → claimedElsewhere n u (regClaims (Reg.MEM_BUCKET_CFG.base + 8 * 0)) = false →
     ∃ v, v = runCheck n (stageReg n (Reg.MEM_BUCKET_CFG.base + 8 * r.arg 1) (BitVec.ofNat 64 (r.arg 2 * 2 ^ 32 + r.arg 3)) (u.putSet n { StageSet.free with st := .staging })) ∧
       exec (.bucketConfig r) s = .next (stayBusy r.window (commitSet n defaultLead .plain (v.putSet n { v.set n with window := some r.window })))) ∧
  -- SCRUB_RANGE takes a slot and a pass
  (∀ (r : TaskReq) (s u : State) n, goes { opcode := 0x0901, windows := [0, 3] } [(1, mask64), (2, mask64), (3, mask 15 0)] r s = true → u = taken { opcode := 0x0901, windows := [0, 3] } r s →
     r.arg 1 % 64 = 0 → r.arg 2 % 64 = 0 → 0 < r.arg 2 → r.arg 1 + r.arg 2 ≤ installedGib u * gib → 0 < r.arg 3 → r.arg 3 ≤ 200 → s.eng.scrubs.length < 4 → freeRecord r.window s = some n →
     ∃ t, exec (.scrubRange r) s = .next t ∧ answered r cACCEPTED 0 [handleOf (plannedJob 0x0901 r { cancellable := true } s n)] t ∧
       t.eng.scrubs = s.eng.scrubs ++ [{ job := n, start := r.arg 1, len := r.arg 2, rate := r.arg 3, checked := 0, corrected := 0, marked := 0, bad := 0, firstBad := none, since := s.now }] ∧
       t.ctl = (withJob 0x0901 r { cancellable := true } s n).ctl ∧ t.md = s.md) ∧
  -- BACKGROUND_SCRUB_PASS of a GiB that is clean, not the last
  (∀ s, s.up = true → s.background = true → s.eng.bgDone + 1 < installedGib s → ∃ t, exec (.backgroundScrubPass []) s = .next t ∧ t.eng.bgDone = s.eng.bgDone + 1 ∧ t.md = s.md ∧ t.outputs = s.outputs ∧ s.now ≤ t.now) ∧
  -- DRAM_ZERO_FILL: some more GiB, not the last
  (∀ n s, s.up = true → s.flag Reg.fMEM_FILL_STATUS_DONE = false → s.keeperA = some true → s.fld Reg.fMEM_FILL_STATUS_FILLED_GIB + n < installedGib s →
     exec (.dramZeroFill n) s = .next (s.setFld Reg.fMEM_FILL_STATUS_FILLED_GIB (s.fld Reg.fMEM_FILL_STATUS_FILLED_GIB + n))) ∧
  -- SRAM_PATROL of a word that is corrected
  (∀ (c : Fin 8) w s, s.up = true → exec (.sramPatrol c w .corrected) s = .next (countBucket (16 + c.val) s)) ∧
  -- MCC_DISABLE of an enabled slice
  (∀ (k : Fin 64) s, s.up = true → sliceState s k.val = 0 → ∃ t, exec (.mccDisable k) s = .next t ∧ sliceState t k.val = 1 ∧ t.flag Reg.fMCC_CTRL_ENABLE k.val = false ∧ t.eng = s.eng ∧ t.md = s.md) ∧
  -- MCC_ENABLE of a slice in BYPASS: every line is invalid
  (∀ (k : Fin 64) s, s.up = true → sliceState s k.val = 2 → ∃ t, exec (.mccEnable k) s = .next t ∧ sliceState t k.val = 0 ∧ t.flag Reg.fMCC_CTRL_ENABLE k.val = true ∧
     t.eng.slices = s.eng.slices.filter (·.index != k.val) ∧ t.md = s.md) ∧
  -- MCC_DRAIN_COMPLETE: BYPASS, nothing held
  (∀ (k : Fin 64) s, s.up = true → sliceState s k.val = 1 → ∃ t, exec (.mccDrainComplete k) s = .next t ∧ sliceState t k.val = 2 ∧ t.eng.slices = s.eng.slices.filter (·.index != k.val) ∧ t.md = s.md) ∧
  -- MAP_CACHE_MISS_FILL of the outstanding miss, with no other waiting
  (∀ (k : Fin 64) s q, s.up = true → sliceState s k.val = 0 → (s.slice k.val).miss = some q → (s.slice k.val).waiting = [] → (s.slice k.val).index = k.val → mustWait q.line (cacheWays s) (s.slice k.val) = false →
     ∃ t, exec (.mapCacheMissFill k []) s = .next t ∧
       t.slice k.val = install { line := q.line, dirty := q.write } (cacheWays s) s.draw.1.toNat { s.slice k.val with miss := none } ∧ t.regs = s.regs ∧ t.md = s.md)

/-- Keeper pairs, sensors, boot flash, Keeper's Log, management network. A pair that stops restarts and the other carries its duties, and it runs again when its self-test passes; a sample moves its sensor; an operating hour is recorded; a period ends, or a fault ends it early, with its record queued for flash; a good write on both flashes takes effect; telemetry goes out once per interval; a settings block is checked whole and queued; an MCTP message binds W2 or goes to its handler; LOG_READ, LOG_CONFIG and SENSOR_READ answer in their window. -/
def Obligations.KeeperPairsLogAndManagement : Prop :=
  -- KEEPER_LOCKSTEP_MISMATCH of a pair that runs while the other does not restart
  (∀ (p : Fin 2) s, s.up = true → s.pair p.val ≠ 1 → s.pair p.val ≠ 2 → s.pair (1 - p.val) ≠ 1 →
     ∃ t, exec (.keeperLockstepMismatch p false) s = .next t ∧ t.pair p.val = 1 ∧ t.pair (1 - p.val) = (if s.pair (1 - p.val) = 0 then 3 else s.pair (1 - p.val)) ∧
       ∀ o, o ≠ Reg.SIG_STATUS.base → o ≠ Reg.KPR_STATE.base → t.word o = s.word o) ∧
  -- KEEPER_WATCHDOG_LAPSE of pair A
  (∀ s, s.up = true → s.pair 0 ≠ 1 → s.pair 0 ≠ 2 → s.pair 1 ≠ 1 →
     ∃ t, exec (.keeperWatchdogLapse true false) s = .next t ∧ t.pair 0 = 1 ∧ t.pair 1 = (if s.pair 1 = 0 then 3 else s.pair 1) ∧
       ∀ o, o ≠ Reg.SIG_STATUS.base → o ≠ Reg.KPR_STATE.base → t.word o = s.word o) ∧
  -- KEEPER_RESTART_COMPLETE after a good self-test, the other pair carrying both duties: both run
  (∀ (p : Fin 2) s, s.up = true → s.pair p.val = 1 → s.pair (1 - p.val) = 3 → (p.val = 0 → s.boot.attemptDue = false) → recentRestarts p.val s ≤ s.fld Reg.fKPR_WDOG_CFG_REPEAT_LIMIT → s.kpr.toRestart = [] →
     ∃ t, exec (.keeperRestartComplete p true) s = .next t ∧ t.pair p.val = 0 ∧ t.pair (1 - p.val) = 0) ∧
  -- SENSOR_SAMPLE of a sensor that has a period and can be reached; sensor 361 is the hottest of 0 to 63
  (∀ (i : Fin 410) x v s due u, s.up = true → s.background = true → (i.val < 104 ∨ 360 < i.val) → sensorCut i.val s = false → (if i.val = 361 then hottest 0 64 (fun _ => true) s else some x) = some v →
     due = (match s.kpr.sensors.find? (·.index == i.val) with | some y => y.at_ + sensorPeriod i.val | none => s.now) → u = noteGap i.val due s.now (s.reach due) →
     exec (.sensorSample i x) s = .next (sampled i.val v (fun n => (due - sensorPeriod i.val) / n < u.now / n) { u with kpr := { u.kpr with sensors := putBy Sensor.index { index := i.val, value := v, at_ := u.now } u.kpr.sensors } })) ∧
  -- OPERATING_HOUR_RECORD: the record waits for its flash write
  (∀ s ns c, s.up = true → s.background = true → s.kpr.hourRec = some (ns, c) →
     ∃ u, u = s.reachOp ((ns / hour + 1) * hour) ∧ exec .operatingHourRecord s = .next (queueFlash (.opHour u.kpr.opNs (s.fld Reg.fKPR_POWER_CYCLES_COUNT) u.boot.ptr.trialNs) u)) ∧
  -- LOG_PERIOD_END with room for a record
  (∀ s u, s.up = true → s.background = true → u = s.reachOp (((s.kpr.period.start + s.fld Reg.fKPR_LOG_STATUS_PERIOD_H * 65536) * hour + 65535) / 65536) → s.logRecords < 16384 → u.logRecords = s.logRecords →
     ∃ t, exec .logPeriodEnd s = .next t ∧ t.kpr.flashQ = s.kpr.flashQ ++ [{ item := .logRecord (periodRecord s.logRecords 1 u), doneA := false }] ∧
       t.fld Reg.fKPR_LOG_STATUS_PERIOD_H = s.kpr.periodNext % 256) ∧
  -- LOG_FAULT_FLUSH, the first in its operating hour
  (∀ s, s.up = true → s.background = true → s.kpr.faultDue = true → s.kpr.faultHour = none → s.logRecords < 16384 →
     ∃ t, exec .logFaultFlush s = .next t ∧ t.kpr.flashQ = s.kpr.flashQ ++ [{ item := .logRecord (periodRecord s.logRecords 2 s), doneA := false }] ∧
       t.kpr.faultDue = false ∧ t.kpr.faultHour = some s.kpr.opNs) ∧
  -- BOOT_FLASH_WRITE: first flash A, then flash B and the write takes effect
  (∀ s w q, s.up = true → s.kpr.flashQ = w :: q → s.flag Reg.fKPR_LOG_STATUS_FLASH_A_FAULT = false → s.flag Reg.fKPR_LOG_STATUS_FLASH_B_FAULT = false →
     exec (.bootFlashWrite true) s = .next (if w.doneA then flashDone w.item { s with kpr := { s.kpr with flashQ := q, flashGood := true } } else { s with kpr := { s.kpr with flashQ := { w with doneA := true } :: q } })) ∧
  -- TELEMETRY_PUSH that ends well
  (∀ s m p w v u, s.up = true → s.background = true → s.kpr.mgmt = some m → mgmtPort s = some p → m.telemetryS ≠ 0 →
     w = s.reach (s.kpr.pushedAt + m.telemetryS * sec) → v = { w with kpr := { w.kpr with pushedAt := w.now } } →
     u = (v.setFlag Reg.fKPR_MGMT_STATUS_NO_DATES v.wall.isNone p).setFld Reg.fKPR_MGMT_STATUS_LAST_CODE 0 p →
     ∃ t, exec (.telemetryPush true true true 0) s = .next t ∧ t = { u.send (.telemetry (periodRecord u.logRecords 0 u) (s.kpr.records.drop s.kpr.pushed)) with kpr := { u.kpr with pushed := s.kpr.records.length } }) ∧
  -- MANAGEMENT_SETTINGS_SUBMIT of a good block
  (∀ s, s.up = true → s.flag Reg.fKPR_MBOX_STATUS_BUSY = false → (parseMgmt (mboxBytes s)).crcOk = true → mgmtFault (parseMgmt (mboxBytes s)) (mboxBytes s) = none →
     ∃ t, exec .managementSettingsSubmit s = .next t ∧ t.flag Reg.fKPR_MBOX_STATUS_BUSY = true ∧ t.kpr.mgmtNew = some (parseMgmt (mboxBytes s)) ∧
       t.kpr.flashQ = s.kpr.flashQ ++ [{ item := .mgmt (parseMgmt (mboxBytes s)), doneA := false }] ∧ t.kpr.mgmt = s.kpr.mgmt) ∧
  -- MCTP_MESSAGE of another kind than an EID assignment, from the endpoint that W2 names
  (∀ (v : Bool) (e : Fin 256) m s, s.up = true → e.val ≠ 0 → w2Eid s = e.val → (∀ x, m ≠ .setEid x) →
     exec (.mctpMessage v e m) s = .next (({ s with ctl := { s.ctl with bound := true } }).send (.mctp e.val m))) ∧
  -- LOG_READ of records that are stored
  (∀ (r : TaskReq) (s u : State) n rs, goes { opcode := 0x0A02, windows := [0, 3], bulk := .give (if 1 ≤ r.arg 2 && r.arg 2 ≤ 32 then some (4096 * r.arg 2) else none) } [(1, mask 31 0), (2, mask64)] r s = true →
     u = taken { opcode := 0x0A02, windows := [0, 3], bulk := .give (if 1 ≤ r.arg 2 && r.arg 2 ≤ 32 then some (4096 * r.arg 2) else none) } r s →
     1 ≤ r.arg 2 → r.arg 2 ≤ 32 → r.arg 1 < s.kpr.records.length → r.arg 1 ≠ 0xFFFFFFFF → r.bulkFault = none → freeRecord r.window s = some n → rs = (s.kpr.records.drop (r.arg 1)).take (r.arg 2) →
     ∃ v t p, p = { carrier := .keeper, bulk := true, results := [BitVec.ofNat 64 rs.length, BitVec.ofNat 64 s.kpr.records.length] } ∧ v = (withJob 0x0A02 r p u n).send (.bulkLog rs) ∧
       exec (.logRead r) s = .next t ∧ answered r cACCEPTED 0 [handleOf (plannedJob 0x0A02 r p s n)] t ∧ windowOnly v t) ∧
  -- LOG_CONFIG of a legal period
  (∀ (r : TaskReq) s, goes { opcode := 0x0A03, windows := [0] } [(1, mask 7 0)] r s = true → 1 ≤ r.arg 1 → r.arg 1 ≤ 168 →
     ∃ t, exec (.logConfig r) s = .next t ∧ answered r cOK 0 [] t ∧ windowOnly { s with kpr := { s.kpr with periodNext := r.arg 1 } } t) ∧
  -- SENSOR_READ of up to 30 sensors
  (∀ (r : TaskReq) (s u : State), goes { opcode := 0x0A04, windows := [0, 1, 2, 3] } [(1, mask64), (2, mask64)] r s = true → u = taken { opcode := 0x0A04, windows := [0, 1, 2, 3] } r s → 1 ≤ r.arg 2 → r.arg 2 ≤ 30 → r.arg 1 + r.arg 2 ≤ 512 →
     ∃ t, exec (.sensorRead r) s = .next t ∧ answered r cOK 0 ((List.range (r.arg 2)).map fun k => sensorImage (r.arg 1 + k) u) t ∧ windowOnly s t)

/-- Sources, claims, coalescers and the event ring. An event sets its pending bit; SIG_PEND_SET sets the bits of assigned sources and SIG_PEND_CLR clears what it names and changes nothing else; a claim takes one source and clears its bit; a due or unmasked vector leaves as its MSI-X write; host sleep and L1 entry suspend coalescing once nothing is counted; enabling the event ring starts it at 0 with phase 1; SIG_ROUTE_STAGE stages each route. -/
def Obligations.SignalControllerDelivers : Prop :=
  -- SOURCE_EVENT of an assigned source; of a reserved one nothing happens
  (∀ (n : Fin 4096) c d s, s.up = true → ∃ t, exec (.sourceEvent n c d) s = .next t ∧ t = fire n.val s c d ∧
     (assignedSource n.val = true → ∀ m, m ∈ t.sig.pend ↔ m = n.val ∨ m ∈ s.sig.pend) ∧ (assignedSource n.val = false → t = s) ∧
     t.md = s.md ∧ t.host = s.host ∧ ∀ o, o ≠ Reg.SIG_STATUS.base → t.word o = s.word o) ∧
  -- SIG_PEND_SET
  (∀ (k : Fin 64) w s, s.up = true → ∃ t, exec (.sigPendSet k w) s = .next t ∧
     ∀ m, m ∈ t.sig.pend ↔ (m ∈ namedSources k.val w ∧ assignedSource m = true) ∨ m ∈ s.sig.pend) ∧
  -- SIG_PEND_CLR
  (∀ (k : Fin 64) w s, s.up = true → exec (.sigPendClr k w) s = .next { s with sig := { s.sig with pend := s.sig.pend.filter fun n => !((namedSources k.val w).contains n) } }) ∧
  -- SIG_VEC_CLAIM: the lowest pending source of the vector, or VALID 0
  (∀ (v : Fin 2048) s, s.up = true → exec (.sigVecClaim v) s = .next (match vectorSources v.val s with
     | n :: _ => ({ s with sig := { s.sig with pend := s.sig.pend.filter (· != n) } } : State).emit (.readData (0x50000 + 8 * v.val) (BitVec.ofNat 64 (2 ^ 63 + n)))
     | [] => s.emit (.readData (0x50000 + 8 * v.val) 0))) ∧
  -- SOURCE_CLAIM by a Keeper pair and by the core that is offered the source
  (∀ s, s.up = true →
     (∀ (p : Fin 2) n q, mostUrgent ((if servingPair 0 s == p.val then targetSources 1 (fun _ => true) s else []) ++ (if servingPair 1 s == p.val then targetSources 2 (fun _ => true) s else [])) = some (n, q) →
       exec (.sourceClaim (.keeper p)) s = .next ((claimSource n s).emit (.claimed (some n)))) ∧
     (∀ (c : Fin 8) (k : Fin 17) (pr : Fin 16) n q u, u = setRunning c k pr s → mostUrgent (targetSources 3 (· == c.val) u) = some (n, q) → offeredCore c u = some k.val → pr.val < q →
       exec (.sourceClaim (.core c k pr)) s = .next ((claimSource n (setRunning c k q u)).emit (.claimed (some n))))) ∧
  -- COALESCER_TIME_TRIGGER of a vector that counts and may be sent
  (∀ (v : Fin 2048) s, s.up = true → (s.vector v.val).count ≠ 0 → s.fld Reg.fSIG_COAL_TIME_US v.val ≠ 0 → (s.vector v.val).masked = false → s.ctl.msixMask = false → s.ctl.msixEnable = true →
     ∃ t, exec (.coalescerTimeTrigger v) s = .next t ∧ t.outputs = .msix v.val (s.vector v.val).addr (s.vector v.val).data :: s.outputs ∧
       t.vector v.val = { s.vector v.val with count := 0, pba := false } ∧ t.regs = s.regs) ∧
  -- MSI_X_UNMASK of a vector: what was due leaves with the new address and data
  (∀ (v : Fin 2048) a d s, s.up = true → (s.vector v.val).pba = true → s.ctl.msixMask = false → s.ctl.msixEnable = true →
     ∃ t, exec (.msiXUnmask (.vector v a d)) s = .next t ∧ t.outputs = .msix v.val a d :: s.outputs ∧
       t.vector v.val = { s.vector v.val with addr := a, data := d, masked := false, count := 0, pba := false } ∧ t.regs = s.regs) ∧
  -- SIG_HOST_SLEEP with nothing counted
  (∀ b s, s.up = true → (∀ v ∈ s.sig.vectors, v.count = 0) →
     ∃ t, exec (.sigHostSleep b) s = .next t ∧ t.sig = { s.sig with slept := b } ∧ t.flag Reg.fSIG_HOST_SLEEP_SLEEP = b ∧ t.outputs = s.outputs) ∧
  -- L1_ENTRY_REQUEST with nothing counted: L1 is acknowledged, coalescing suspended
  (∀ s, s.up = true → (∀ v ∈ s.sig.vectors, v.count = 0) →
     ∃ t, exec .l1EntryRequest s = .next t ∧ t.sig = { s.sig with linkFlush := true } ∧ t.outputs = .l1Ack :: s.outputs ∧ t.regs = s.regs) ∧
  -- EVENT_QUEUE_ENABLE of a legal size while the ring is off
  (∀ (z : Fin 32) s, s.up = true → 8 ≤ z.val → z.val ≤ 16 → s.flag Reg.fSIG_EVQ_CTRL_EN = false →
     ∃ t, exec (.eventQueueEnable z) s = .next t ∧ t.flag Reg.fSIG_EVQ_CTRL_EN = true ∧ t.fld Reg.fSIG_EVQ_CTRL_SIZE_LOG2 = z.val ∧
       t.fld Reg.fSIG_STATUS_EVQ_TAIL = 0 ∧ t.sig = { s.sig with phase := true }) ∧
  -- SIG_ROUTE_STAGE of a legal route
  (∀ (r : TaskReq) (s u : State), goes { opcode := 0x0B01, windows := [0] } [(1, mask 11 0 ||| mask 28 16), (2, mask64), (3, mask 2 0)] r s = true →
     u = taken { opcode := 0x0B01, windows := [0] } r s → 1 ≤ r.argBits 1 28 16 → r.argBits 1 11 0 + r.argBits 1 28 16 ≤ 4096 →
     r.arg 2 = r.arg 2 &&& (mask 31 31 ||| mask 27 24 ||| mask 17 16 ||| mask 10 0) → (r.argBits 2 17 16 = 3 → r.argBits 2 10 0 ≤ 7) → (r.argBits 2 17 16 = 1 ∨ r.argBits 2 17 16 = 2 → r.argBits 2 10 0 = 0) →
     canStage (r.argBits 3 2 0) u [iSIG] = true →
     ∃ t, exec (.sigRouteStage r) s = .next t ∧ answered r cOK 0 [] t ∧
       windowOnly ((List.range' (r.argBits 1 11 0) (r.argBits 1 28 16)).foldl (fun s k => stageReg (r.argBits 3 2 0) (Reg.SIG_ROUTE.base + 8 * k) (BitVec.ofNat 64 (r.arg 2)) s) u) t)

/-- Cold boot, trial starts and confirmation, reload, JTAG unlock, SPDM. A cold boot starts the set the boot ROM chooses, or the previous one, or boot recovery with Fog cause 18; a trial start counts its attempt; a trial that has run HEALTHY_H hours is confirmed and the counters never fall; a reload posts its event, restarts both pairs and ends when no Lens is left; a valid token unlocks JTAG for its hours and makes a ledger record; expiry ends it; SPDM answers certificates, challenge, measurements and sessions. -/
def Obligations.BootTrialReloadAndIdentity : Prop :=
  -- COLD_BOOT: a set starts, and the Boot Ledger's current record is one of a boot
  (∀ f s u k m, s.up = true → s.boot.booted = false → u = trialAttempt (clearStartCauses s) → bootSet f u = some (k, m) →
     ∃ t rec, exec (.coldBoot f) s = .next t ∧ t = startSet f (s.boot.ptr.trial && s.boot.ptr.attempts == 3) k m u ∧
       t.boot.current = some rec ∧ rec.kind = 0 ∧ t.boot.bootCount = rec.bootCount ∧ t.ctl.upstreamUp = t.env.perstHigh) ∧
  -- COLD_BOOT without a set that may start: boot recovery
  (∀ f s u, s.up = true → s.boot.booted = false → u = trialAttempt (clearStartCauses s) → bootSet f u = none →
     ∃ t, exec (.coldBoot f) s = .next t ∧ t.boot = { u.boot with booted := true, recovery := true } ∧ t.fog 18 = true ∧
       t.flag Reg.fGLB_FOG_STATUS_DRIVEN = true ∧ t.ctl = { u.ctl with upstreamUp := u.env.perstHigh }) ∧
  -- TRIAL_START_ATTEMPT with attempts left
  (∀ s, s.up = true → s.boot.attemptDue = true → s.boot.ptr.trial = true → s.boot.ptr.attempts < 3 →
     exec .trialStartAttempt s = .next { s with boot := { s.boot with attemptDue := false, bothFormats := true, ptr := { s.boot.ptr with attempts := s.boot.ptr.attempts + 1, gen := s.boot.ptr.gen + 1 } } }) ∧
  -- TRIAL_START_ATTEMPT with none left: the previous set is restored
  (∀ s, s.up = true → s.boot.attemptDue = true → s.boot.ptr.trial = true → s.boot.ptr.attempts = 3 →
     ∃ t, exec .trialStartAttempt s = .next t ∧ t = startReload true (revertSet s) ∧ t.boot.ptr.trial = false ∧ t.boot.ptr.attempts = 0 ∧
       t.boot.ptr.active = s.boot.ptr.old.getD s.boot.ptr.active ∧ t.fog 19 = true) ∧
  -- TRIAL_AUTO_CONFIRM of a trial: the rollback counters never fall
  (∀ s u, s.up = true → s.boot.ptr.trial = true → s.boot.ptr.healthyH ≠ 0 → s.keeperA = some true → u = s.reach (s.now + (s.boot.ptr.healthyH * hour - s.boot.ptr.trialNs)) →
     ∃ t, exec .trialAutoConfirm s = .next t ∧ t = confirm u ∧ t.boot.ptr = { u.boot.ptr with trial := false, attempts := 0, lensTrial := false, lensAttempts := 0, gen := u.boot.ptr.gen + 1 } ∧
       t.boot.bothFormats = false ∧ (∀ c, c < 4 → u.rollback c ≤ t.rollback c) ∧ t.md = s.md ∧ t.regs = s.regs) ∧
  -- IN_SERVICE_RELOAD: its first step and its last
  (∀ s r, s.up = true → s.boot.reload = some r →
     (r.step = 1 → s.ctl.jobs.any (fun j => !j.ended && (j.opcode == 0x0604 || j.opcode == 0x0608)) = false → ∃ u, u = postAll evFirmware { s with boot := { s.boot with reload := some { r with step := 2 } } } ∧
       exec .inServiceReload s = .next (restartPair 1 { u with kpr := { u.kpr with toRestart := [0] } })) ∧
     (r.step = 3 → s.pair 0 ≠ 1 → s.pair 1 ≠ 1 → s.kpr.toRestart = [] → s.lens.relens = none → s.lens.recordNext = none → r.lens = [] →
       exec .inServiceReload s = .next { s with boot := { s.boot with reload := none, running := { s.boot.running with secVersion := s.boot.running.secVersion.set 3 s.lens.live.secVersion } } })) ∧
  -- JTAG_UNLOCK_TOKEN that holds
  (∀ t s, s.up = true → s.boot.booted = true → s.boot.recovery = false → s.keeperA = some true → s.boot.fuses.jtagOff = false → t.challengeOk = true → t.device = Config.deviceId → 1 ≤ t.hours → t.hours ≤ 168 →
     signatureOk s t.keyIndex t.sigOk t.ownerPresent t.ownerSigOk = true →
     ∃ x rec, exec (.jtagUnlockToken t) s = .next x ∧ x.boot.jtagUntil = some (s.now + t.hours * hour) ∧ x.boot.current = some rec ∧ rec.kind = 3 ∧ x.boot.bootCount = s.boot.bootCount + 1 ∧ x.md = s.md) ∧
  -- JTAG_UNLOCK_EXPIRY
  (∀ s T, s.up = true → s.boot.jtagUntil = some T → ∃ t, exec .jtagUnlockExpiry s = .next t ∧ t.boot.jtagUntil = none ∧ t.jtagOpen = false ∧ t.now = max s.now T ∧ t.regs = s.regs) ∧
  -- SPDM_REQUEST on a path that is open, the identity derived
  (∀ v s a, s.up = true → s.boot.alias_ = some a → s.keeperA = some true → (if v then s.ctl.upstreamUp else !(s.fld Reg.fGLB_BOARD_STATUS_ISOLATED).testBit 0) = true →
     exec (.spdmRequest v .certificates) s = .next (s.emit (.spdm a .certificates)) ∧
     exec (.spdmRequest v .challenge) s = .next (s.emit (.spdm a .challenge)) ∧
     (∀ (i : Fin 256) m, measurement i s = some m → exec (.spdmRequest v (.measurement i)) s = .next (s.emit (.spdm a (.measurement m)))) ∧
     (∀ c, exec (.spdmRequest v (.keyExchange (some c))) s = .next (if chainOk c s then ({ s with ctl := { s.ctl with session := true } } : State).emit (.spdm a (.session true)) else s.emit (.spdm a .error))) ∧
     exec (.spdmRequest v .endSession) s = .next (({ s with ctl := { s.ctl with session := false } } : State).emit (.spdm a .ended)))

/-- Update pieces, verification, activation, confirmation, fetch, ledger export, fuses, NVMe and PLDM updates. A piece that fits is stored and its job ends OK; UPD_STATUS reports slots and pointer; verification, activation, arming, reverting and each fuse operation start one job that remembers what its end does; UPD_CONFIRM confirms what is on trial; UPD_FETCH stores pieces in order; LEDGER_EXPORT gives stored records; the NVMe commands and PLDM store, verify and activate by the same rules. -/
def Obligations.UpdatePackagesAndFuses : Prop :=
  -- UPD_PIECE that fits
  (∀ (r : TaskReq) q (s u v : State) n p, goes { opcode := 0x0601, windows := [0, 1], bulk := .take (some (r.argBits 6 31 0)) } [(1, mask 16 0), (2, mask64), (3, mask64), (4, mask64), (5, mask64), (6, mask 31 0), (7, mask64)] r s = true →
     u = taken { opcode := 0x0601, windows := [0, 1], bulk := .take (some (r.argBits 6 31 0)) } r s → p = { q with index := r.argBits 1 15 0, length := r.argBits 6 31 0 } →
     pieceFault (r.argBits 1 16 16 == 1) (r.argBits 1 15 0) (r.argBits 6 31 0) (BitVec.ofNat 64 (r.arg 7)) u = none → countFault p = false → r.bulkFault = none → argSha r = p.sha →
     storePiece (BitVec.ofNat 64 (r.arg 7)) p u = (cOK, v) → freeRecord r.window s = some n →
     ∃ t, exec (.updPiece r q) s = .next t ∧ answered r cACCEPTED 0 [handleOf (plannedJob 0x0601 r { carrier := .keeper, bulk := true, code := cOK } s n)] t ∧
       windowOnly { v with ctl := (withJob 0x0601 r { carrier := .keeper, bulk := true, code := cOK } u n).ctl } t) ∧
  -- UPD_STATUS
  (∀ (r : TaskReq) s, goes { opcode := 0x0602, windows := [0, 1, 2, 3] } [] r s = true →
     ∃ t, exec (.updStatus r) s = .next t ∧ windowOnly s t ∧ answered r cOK 0 [BitVec.ofNat 64 (SlotTag.num s.boot.slot0.st + 16 * SlotTag.num s.boot.slot1.st + 256 * s.boot.ptr.active + (if s.boot.ptr.trial then 2 ^ 9 else 0) + 1024 * s.boot.ptr.attempts + (if s.boot.ptr.lensTrial then 2 ^ 12 else 0)), BitVec.ofNat 64 (s.bootSlot (inactive s)).pieces.length, BitVec.ofNat 64 (((s.bootSlot (inactive s)).manifest.map Manifest.pieces).getD 0), (s.bootSlot (inactive s)).package, s.boot.ptr.activePkg, BitVec.ofNat 64 (s.boot.ptr.trialNs / hour)] t) ∧
  -- UPD_VERIFY of a COMPLETE slot
  (∀ (r : TaskReq) bad s n, goes { opcode := 0x0603, windows := [0, 1] } [] r s = true → (s.bootSlot (inactive s)).st = .complete → freeRecord r.window s = some n →
     ∃ t p, p = { carrier := .keeper, cancellable := true, work := .verifySet (inactive s) bad } ∧ exec (.updVerify r bad) s = .next t ∧ answered r cACCEPTED 0 [handleOf (plannedJob 0x0603 r p s n)] t ∧
       windowOnly (withJob 0x0603 r p (taken { opcode := 0x0603, windows := [0, 1] } r s) n) t) ∧
  -- UPD_ACTIVATE, UPD_ARM and UPD_REVERT that their state allows: one job; its end commits the pointer
  (∀ (r : TaskReq) x s n p, goes { opcode := 0x0604, windows := [1] } [(1, mask 1 0), (2, mask 15 0)] r s = true → freeRecord r.window s = some n → p = { carrier := .keeper, work := .pointer (r.arg 1) (r.arg 2) } →
     (pointerFault (r.arg 1) (r.arg 2) x s = none → ∃ t, exec (.updActivate r x) s = .next t ∧ answered r cACCEPTED 0 [handleOf (plannedJob 0x0604 r p s n)] t ∧ windowOnly (withJob 0x0604 r p (taken { opcode := 0x0604, windows := [1] } r s) n) t) ∧
     (pointerFault (r.arg 1) (r.arg 2) none s = none → (∃ t, exec (.updArm r) s = .next t ∧ answered r cACCEPTED 0 [handleOf (plannedJob 0x0604 r p s n)] t ∧ windowOnly (withJob 0x0604 r p (taken { opcode := 0x0604, windows := [1] } r s) n) t) ∧
       (∃ t, exec (.updRevert r) s = .next t ∧ answered r cACCEPTED 0 [handleOf (plannedJob 0x0604 r p s n)] t ∧ windowOnly (withJob 0x0604 r p (taken { opcode := 0x0604, windows := [1] } r s) n) t))) ∧
  -- UPD_CONFIRM of what is on trial
  (∀ (r : TaskReq) (s u : State), goes { opcode := 0x0605, windows := [1] } [] r s = true → u = taken { opcode := 0x0605, windows := [1] } r s → (s.boot.ptr.trial || s.boot.ptr.lensTrial) = true →
     ∃ t, exec (.updConfirm r) s = .next t ∧ answered r cOK 0 [BitVec.ofNat 64 ((if s.boot.ptr.trial then 1 else 0) + if s.boot.ptr.lensTrial then 2 else 0)] t ∧ windowOnly (confirm u) t ∧
       (confirm u).boot.ptr.trial = false ∧ (confirm u).boot.ptr.lensTrial = false ∧ ∀ c, c < 4 → u.rollback c ≤ (confirm u).rollback c) ∧
  -- UPD_FETCH from a server that is accepted
  (∀ (r : TaskReq) a b c ps (code : Fin 65536) (s u v w : State) P k n p, goes { opcode := 0x0606, windows := [0, 1], bulk := .take (some (r.argBits 1 15 0)) } [(1, mask 15 0), (2, mask64), (3, mask64), (4, mask64), (5, mask64)] r s = true →
     u = taken { opcode := 0x0606, windows := [0, 1], bulk := .take (some (r.argBits 1 15 0)) } r s → mgmtPort u = some P → serverOk a b c u = true → r.bulkFault = none →
     (∀ q t, ps = q :: t → (q.index = 0 ∧ q.sha = argSha r) ∨ (q.index ≠ 0 ∧ ((u.bootSlot (inactive u)).pieces.any fun x => x.index == 0 && x.sha == argSha r) = true)) →
     v = u.setFlag Reg.fKPR_MGMT_STATUS_NO_DATES u.wall.isNone P → fetchPieces ps 0 v = (cOK, k, w) → freeRecord r.window w = some n →
     p = { carrier := .keeper, bulk := true, cancellable := true, code := code.val, results := [BitVec.ofNat 64 k] } →
     ∃ t, exec (.updFetch r a b c ps code) s = .next t ∧ answered r cACCEPTED 0 [handleOf (plannedJob 0x0606 r p w n)] t ∧ windowOnly ((withJob 0x0606 r p w n).setFld Reg.fKPR_MGMT_STATUS_LAST_CODE code P) t) ∧
  -- LEDGER_EXPORT of stored records
  (∀ (r : TaskReq) (s u : State) n rs p, goes { opcode := 0x0607, windows := [1], bulk := .give (if 1 ≤ r.arg 2 && r.arg 2 ≤ 256 then some (512 * r.arg 2) else none) } [(1, mask64), (2, mask64), (3, mask 0 0)] r s = true →
     u = taken { opcode := 0x0607, windows := [1], bulk := .give (if 1 ≤ r.arg 2 && r.arg 2 ≤ 256 then some (512 * r.arg 2) else none) } r s →
     1 ≤ r.arg 2 → r.arg 2 ≤ 256 → r.arg 1 < s.boot.ledger.length → r.arg 1 ≠ 0xFFFFFFFF → r.arg 3 = 0 → r.bulkFault = none → freeRecord r.window s = some n → rs = (s.boot.ledger.drop (r.arg 1)).take (r.arg 2) →
     p = { carrier := .keeper, bulk := true, results := [BitVec.ofNat 64 rs.length, BitVec.ofNat 64 s.boot.ledger.length, BitVec.ofNat 64 s.boot.bootCount] } →
     ∃ t, exec (.ledgerExport r) s = .next t ∧ answered r cACCEPTED 0 [handleOf (plannedJob 0x0607 r p s n)] t ∧ windowOnly ((withJob 0x0607 r p u n).send (.bulkLedger rs)) t) ∧
  -- FUSE_RAISE_COUNTER and FUSE_BLOW_JTAG_DISABLED
  (∀ (r : TaskReq) s n, freeRecord r.window s = some n →
     (r.argBits 1 3 0 = 2 → goes { opcode := 0x0608, windows := [1], bulk := .none } (fuseMasks 2) r s = true → r.arg 2 < 4 → 1 ≤ r.arg 3 → r.arg 3 ≤ 64 → s.rollback (r.arg 2) ≤ r.arg 3 →
       ∃ t p, p = { carrier := .keeper, work := .fuse 2 (r.arg 2) (r.arg 3) } ∧ exec (.fuseRaiseCounter r) s = .next t ∧ answered r cACCEPTED 0 [handleOf (plannedJob 0x0608 r p s n)] t ∧ windowOnly (withJob 0x0608 r p (taken { opcode := 0x0608, windows := [1], bulk := .none } r s) n) t) ∧
     (r.argBits 1 3 0 = 4 → goes { opcode := 0x0608, windows := [1], bulk := .none } (fuseMasks 4) r s = true →
       ∃ t p, p = { carrier := .keeper, work := .fuse 4 0 0 } ∧ exec (.fuseBlowJtagDisabled r) s = .next t ∧ answered r cACCEPTED 0 [handleOf (plannedJob 0x0608 r p s n)] t ∧ windowOnly (withJob 0x0608 r p (taken { opcode := 0x0608, windows := [1], bulk := .none } r s) n) t)) ∧
  -- FUSE_ENROL_OWNER_KEY into the lowest unblown slot; FUSE_REVOKE_HEDAVY_KEY under a good signature
  (∀ (r : TaskReq) s n, freeRecord r.window s = some n → r.bulkFault = none →
     (∀ key j u p, r.argBits 1 3 0 = 1 → goes { opcode := 0x0608, windows := [1], bulk := .take (some 96) } (fuseMasks 1) r s = true → u = taken { opcode := 0x0608, windows := [1], bulk := .take (some 96) } r s → freeOwnerSlot s = some j → p = { carrier := .keeper, work := .fuse 1 j 0 } →
       ∃ t, exec (.fuseEnrolOwnerKey r key) s = .next t ∧ answered r cACCEPTED 0 [handleOf (plannedJob 0x0608 r p s n)] t ∧ windowOnly (blowOwner j key (withJob 0x0608 r p u n)) t) ∧
     (∀ u p, r.argBits 1 3 0 = 3 → goes { opcode := 0x0608, windows := [1], bulk := .take (some 96) } (fuseMasks 3) r s = true → u = taken { opcode := 0x0608, windows := [1], bulk := .take (some 96) } r s → r.arg 2 < 4 → p = { carrier := .keeper, work := .fuse 3 (r.arg 2) 0 } →
       ∃ t, exec (.fuseRevokeHedavyKey r true) s = .next t ∧ answered r cACCEPTED 0 [handleOf (plannedJob 0x0608 r p s n)] t ∧ windowOnly (withJob 0x0608 r p u n) t)) ∧
  -- The NVMe firmware commands of an identity with FWUPD
  (∀ c i s a, s.up = true → s.assoc c = some a → a.auth = .done → (s.ident a.host).any (·.fwUpd) = true →
     (∀ off q p pkg v, off % 262144 = 0 → p = { q with index := off / 262144 } → countFault p = false → pkg = (match p.index, p.manifest with | 0, some m => m.packageId | _, _ => (s.bootSlot (inactive s)).package) →
       pieceFault (p.index == 0) p.index p.length pkg s = none → storePiece pkg p s = (cOK, v) → exec (.firmwareImageDownload c i off q) s = .next (answer c 0 i .success v)) ∧
     (∀ bad v, verifyEnd (inactive s) bad s = (cOK, v) → exec (.firmwareCommitVerify c i bad) s = .next (answer c 0 i .success v)) ∧
     (∀ (x y : Fin 8) w, 1 ≤ x.val → x.val ≤ 3 → (s.bootSlot (inactive s)).st = .armed → (x.val = 2 → y.val = inactive s + 1) → activationBarred (inactive s) w s = false →
       exec (.firmwareCommitActivate c i x y w) s = .next (answer c 0 i .success (activate (inactive s) s.boot.armedHours s)))) ∧
  -- PLDM_FIRMWARE_COMPONENT: the piece is stored and answered
  (∀ off q p pkg v s, s.up = true → s.keeperA = some true → s.boot.recovery = false → off % 262144 = 0 → p = { q with index := off / 262144 } → countFault p = false →
     pkg = (match p.index, p.manifest with | 0, some m => m.packageId | _, _ => (s.bootSlot (inactive s)).package) → pieceFault (p.index == 0) p.index p.length pkg s = none → storePiece pkg p s = (cOK, v) →
     exec (.pldmFirmwareComponent off q) s = .next (v.emit (.pldm cOK)))

/-- Fog clear and read-back, stuck segments, stuck PFAIL_N, reference clock, links, retunes. FOG_CLEAR releases each masked cause whose condition holds and reports the rest; the pad read back sets or clears EXT_LOW and PIN_FAULT; a stuck segment is freed or isolated and tried again; PFAIL_N stuck for 2 s raises Fog cause 20 and governs again when high; the reference clock's loss, alarm and return move their flags; links report their state; a lane is retuned at most once an hour. -/
def Obligations.PinsSegmentsClocksAndFog : Prop :=
  -- FOG_CLEAR
  (∀ (r : TaskReq) (s u : State) left, goes { opcode := 0x0A06, windows := [0, 2] } [(1, mask 21 0)] r s = true → u = taken { opcode := 0x0A06, windows := [0, 2] } r s →
     left = (List.range 22).filter (fun c => s.fog c && !((r.arg 1).testBit c && fogReleasable u c)) →
     ∃ v t, exec (.fogClear r) s = .next t ∧ answered r cOK 0 [BitVec.ofNat 64 (causeMask left)] t ∧ windowOnly v t ∧ v.flag Reg.fGLB_FOG_STATUS_DRIVEN = !left.isEmpty ∧
       v.fld Reg.fGLB_FOG_CAUSE_CAUSE = causeMask left % 2 ^ 22 ∧ v.env = (if left.contains 3 then s.env else { s.env with fogUnits := [] }) ∧ v.md = s.md ∧ v.host = s.host) ∧
  -- FOG_N_READBACK: driven, a high pad is a pin fault; not driven, a low pad is another's
  (∀ h s, s.up = true →
     (s.flag Reg.fGLB_FOG_STATUS_DRIVEN = true → ∃ t, exec (.fogNReadback h) s = .next t ∧ t.flag Reg.fGLB_FOG_STATUS_EXT_LOW = false ∧ (h = true → t.flag Reg.fGLB_FOG_STATUS_PIN_FAULT = true) ∧ t.md = s.md) ∧
     (s.flag Reg.fGLB_FOG_STATUS_DRIVEN = false → ∃ t, exec (.fogNReadback h) s = .next t ∧ t.flag Reg.fGLB_FOG_STATUS_EXT_LOW = (!h) ∧ t.md = s.md ∧ t.outputs = s.outputs)) ∧
  -- BUS_STUCK_TIMEOUT of a segment in use
  (∀ (k : Fin 6) s, s.up = true → (s.fld Reg.fGLB_BOARD_STATUS_ISOLATED).testBit k.val = false →
     (∃ t, exec (.busStuckTimeout k true) s = .next t ∧ (t.fld Reg.fGLB_BOARD_STATUS_RECOVERED).testBit k.val = true ∧ t.fld Reg.fGLB_BOARD_STATUS_ISOLATED = s.fld Reg.fGLB_BOARD_STATUS_ISOLATED ∧ t.env = s.env) ∧
     (∃ t, exec (.busStuckTimeout k false) s = .next t ∧ (t.fld Reg.fGLB_BOARD_STATUS_ISOLATED).testBit k.val = true ∧ lookupD 0 k.val t.env.segRetry = s.now + 10 * sec)) ∧
  -- BUS_RETRY_TIMER of an isolated segment
  (∀ (k : Fin 6) s, s.up = true → (s.fld Reg.fGLB_BOARD_STATUS_ISOLATED).testBit k.val = true →
     (∃ t, exec (.busRetryTimer k true) s = .next t ∧ (t.fld Reg.fGLB_BOARD_STATUS_ISOLATED).testBit k.val = false ∧ t.env.segRetry = s.env.segRetry.filter (·.1 != k.val)) ∧
     (∃ t, exec (.busRetryTimer k false) s = .next t ∧ (t.fld Reg.fGLB_BOARD_STATUS_ISOLATED).testBit k.val = true ∧ lookupD 0 k.val t.env.segRetry = (s.reach (lookupD s.now k.val s.env.segRetry)).now + 10 * sec)) ∧
  -- PFAIL_STUCK_DETECT: with the store not fallen the pin is stuck and Fog cause 20 raised
  (∀ s T v w u, s.up = true → s.env.stuckFrom = some (T, v) → w = s.reach (T + 2 * sec) → u = { w with env := { w.env with stuckFrom := none } } →
     (v ≤ s.hup.vMv → exec .pfailStuckDetect s = .next (rejudge (raiseFog 20 (u.setFlag Reg.fGLB_BOARD_STATUS_PFAIL_STUCK true) (arg := 1)))) ∧
     (s.hup.vMv < v → exec .pfailStuckDetect s = .next u)) ∧
  -- PFAIL_N_HIGH
  (∀ s u, s.up = true → u = { s with env := { s.env with pfailHigh := true, stuckFrom := none } } →
     (s.flag Reg.fGLB_BOARD_STATUS_PFAIL_STUCK = false → exec .pfailNHigh s = .next u) ∧
     (s.flag Reg.fGLB_BOARD_STATUS_PFAIL_STUCK = true → exec .pfailNHigh s = .next (rejudge (u.setFlag Reg.fGLB_BOARD_STATUS_PFAIL_STUCK false)))) ∧
  -- REFCLK_LOSS and REFCLK_RETURN
  (∀ s, s.up = true → (s.env.refLostAt = none → exec .refclkLoss s = .next { s with env := { s.env with refLostAt := some s.now } }) ∧
     (∀ T, s.env.refLostAt = some T → ∃ t, exec .refclkReturn s = .next t ∧ t.env.refLostAt = none ∧ t.lens.timeFault = allIslands ∧ t.flag Reg.fGLB_BOARD_STATUS_REFCLK_LOST = false ∧ t.md = s.md ∧ t.now = s.now)) ∧
  -- REFCLK_LOST_ALARM a second after the loss
  (∀ s T, s.up = true → s.env.refLostAt = some T → s.flag Reg.fGLB_BOARD_STATUS_REFCLK_LOST = false →
     ∃ t, exec .refclkLostAlarm s = .next t ∧ t.flag Reg.fGLB_BOARD_STATUS_REFCLK_LOST = true ∧ t.fog 20 = true ∧ t.now = max s.now (T + sec) ∧ t.md = s.md) ∧
  -- UPSTREAM_LINK_DOWN and MANAGEMENT_LINK_CHANGE
  (∀ s, s.up = true → exec .upstreamLinkDown s = .next { s with ctl := { s.ctl with upstreamUp := false } } ∧
     ∀ (p : Fin 2) b, ∃ t, exec (.managementLinkChange p b) s = .next t ∧ t.flag Reg.fKPR_MGMT_STATUS_UP p.val = (b && !s.isFenced (iMG + p.val)) ∧ t.md = s.md ∧ t.outputs = s.outputs) ∧
  -- TRANSMITTER_EQUALISATION_RETUNE of a lane not retuned in the last hour
  (∀ l w s, s.up = true → (∀ x ∈ s.env.retunes, x.1 = l → x.2 + hour ≤ s.now) →
     exec (.transmitterEqualisationRetune l w) s = .next { s with env := { s.env with retunes := setKey l s.now s.env.retunes, tunes := if w then s.env.tunes else setKey l (lookupD 0 l s.env.tunes + 1) s.env.tunes } })

/-- Unit fences, retest, DDR failure, substitution, injection, trace and peek. A hang and a third error of a kind fence their unit; a unit that passes its retest is repaired and returned; a DDR channel failure makes the head exit with Fog cause 17; UNIT_FENCE and UNIT_SUBSTITUTE start a job, and their CLEAR and RESTORE forms do the reverse; DIAG_INJECT acts as a real error, DIAG_TRACE returns a trace, and DIAG_PEEK answers with a free value, whatever it is (the model's choice, log 5: the spec states no value). -/
def Obligations.FencesSubstitutesAndDiagnostics : Prop :=
  -- ISLAND_HANG and UNIT_ERROR_FENCE of a unit
  (∀ u s, s.up = true → isUnit u = true → exec (.islandHang u) s = .next (fenceUnit u 1 true s) ∧ exec (.unitErrorFence u .crossing) s = .next (unitError u 3 s) ∧
     (∀ (c : Fin 8) w, (c.val = 2 ∨ c.val = 3 ∨ c.val = 5) → exec (.unitErrorFence u (.sram c w)) s = .next (unitError u 2 (fire (624 + c.val) (logUe (16 + c.val) w false s) 0 w)))) ∧
  -- FENCE_RETEST that passes and that fails, of a fence that is not for good
  (∀ u s f w, s.up = true → s.env.fences.find? (·.unit == u) = some f → f.permanent = false → f.repaired = false → u ≠ iKPA → u ≠ iKPB → u ≠ iMIR → w = s.reach (f.at_ + 10 * sec) →
     exec (.fenceRetest u true) s = .next (settleSubs { w with env := { w.env with fences := w.env.fences.map fun (g : Fence) => if g.unit == u then { g with repaired := true } else g } }) ∧
     exec (.fenceRetest u false) s = .next (if isCore u then noteFence u 6 (fenceForGood u w) else domainFenced u true (noteFence u 6 (fenceForGood u w)))) ∧
  -- DDR_CHANNEL_FAIL outside Lightship mode: the channel is down, the head exits, Fog cause 17
  (∀ (c : Fin 16) l s, s.up = true → s.peer.st ≠ .lightship → s.fld Reg.fMEM_CH_STATUS_STATE c.val ≠ 3 →
     ∃ t u, exec (.ddrChannelFail c l) s = .next t ∧ u = s.setFld Reg.fMEM_CH_STATUS_STATE 0 c.val ∧ t = raiseFog 17 (headExit c.val u) (arg := c.val) ∧ t.fog 17 = true ∧ t.flag Reg.fGLB_FOG_STATUS_DRIVEN = true) ∧
  -- UNIT_FENCE of a unit in service that is not the last of its kind; with CLEAR in W3, the unit leaves the fence list
  (∀ (r : TaskReq) (s v : State) x n, goes { opcode := 0x0C01, windows := [0, 3] } fenceMasks r s = true → v = taken { opcode := 0x0C01, windows := [0, 3] } r s → argUnit r = some x → freeRecord r.window s = some n →
     (r.argBits 1 25 25 = 0 → (x < 264 ∨ 269 < x) → v.unitOut x = false → (152 ≤ x → x < 168 → s.peer.st = .paired) → lastOfKind v x = false →
       ∃ w t, w = fenceUnit x 5 (r.argBits 1 24 24 == 0) (withJob 0x0C01 r {} v n) ∧ exec (.unitFence r) s = .next t ∧ answered r cACCEPTED 0 [handleOf (plannedJob 0x0C01 r {} s n)] t ∧
         windowOnly (endJob n cOK 0 [BitVec.ofNat 64 (spareGiven w (((v.lens.sparesUsed.find? (·.1 == x)).map (·.2)).getD x))] w) t) ∧
     (r.argBits 1 25 25 = 1 → r.window = 3 → x ∈ lastFenceList v →
       ∃ t, exec (.unitFenceClear r) s = .next t ∧ answered r cACCEPTED 0 [handleOf (plannedJob 0x0C01 r {} s n)] t ∧
         windowOnly (endJob n cOK 0 [0x1FF#64] (queueFlash (.fenceList ((lastFenceList v).filter (· != x))) (withJob 0x0C01 r {} v n))) t)) ∧
  -- UNIT_SUBSTITUTE of a unit out of service with a spare left; with RESTORE, a repaired unit returns
  (∀ (r : TaskReq) (s v : State) x n, goes { opcode := 0x0C02, windows := [0, 3] } substituteMasks r s = true → v = taken { opcode := 0x0C02, windows := [0, 3] } r s → argUnit r = some x → freeRecord r.window s = some n → s.lens.relens = none →
     (∀ sp l, r.argBits 1 24 24 = 0 → v.unitOut x = true → v.lens.sparesUsed.any (·.2 == x) = false → spareGiven v x = 0x1FF → freeSpares v x = sp :: l →
       ∃ w t, w = withJob 0x0C02 r {} v n ∧ exec (.unitSubstitute r) s = .next t ∧ answered r cACCEPTED 0 [handleOf (plannedJob 0x0C02 r {} s n)] t ∧ windowOnly (settleSubs { w with env := { w.env with toSub := w.env.toSub ++ [(x, sp, some n)] } }) t) ∧
     (∀ m, r.argBits 1 24 24 = 1 → v.env.fences.any (fun f => f.unit == x && f.repaired) = true → freeSet v = some m → claimedElsewhere m v (itemClaims (.restore x)) = false →
       ∃ t, exec (.unitSubstituteRestore r) s = .next t ∧ answered r cACCEPTED 0 [handleOf (plannedJob 0x0C02 r {} s n)] t ∧ windowOnly (commitReturn x (some n) (withJob 0x0C02 r {} v n)) t)) ∧
  -- DIAG_INJECT: a DDR error, an SRAM error, a link error, a hang
  (∀ (r : TaskReq) i (s v : State), goes { opcode := 0x0D01, windows := [3] } [(1, mask 3 0), (2, mask64)] r s = true → v = taken { opcode := 0x0D01, windows := [3] } r s →
     (∀ w, (r.arg 1 = 0 ∧ r.arg 2 % 64 = 0 ∧ r.arg 2 < installedGib v * gib ∧ w = countBurst (r.arg 2) (.device i.dimm i.dev) v) ∨ (r.arg 1 = 1 ∧ r.arg 2 % 64 = 0 ∧ r.arg 2 < installedGib v * gib ∧ w = consume i.who (countBurst (r.arg 2) .bad v)) ∨
         (r.arg 1 = 2 ∧ r.arg 2 < 8 ∧ w = injectSram (r.arg 2) false i v) ∨ (r.arg 1 = 3 ∧ r.arg 2 < 8 ∧ w = injectSram (r.arg 2) true i v) ∨
         (r.arg 1 = 4 ∧ r.arg 2 < 256 ∧ v.portUp (r.arg 2) = true ∧ w = sendControl (r.arg 2) .nak (v.bump Reg.fSML_PORT_ERR_CRC_ERRORS 1 (r.arg 2))) ∨
         (r.arg 1 = 5 ∧ r.arg 2 < 272 ∧ (r.arg 2 < 100 ∨ 108 ≤ r.arg 2) ∧ w = fenceUnit (r.arg 2) 1 true v) →
       ∃ t, exec (.diagInject r i) s = .next t ∧ answered r cOK 0 [] t ∧ windowOnly w t)) ∧
  -- DIAG_TRACE of a legal length
  (∀ (r : TaskReq) (s v : State) n p, goes { opcode := 0x0D02, windows := [3], bulk := .give none } [(1, mask 8 0), (2, mask64)] r s = true → v = taken { opcode := 0x0D02, windows := [3], bulk := .give none } r s →
     r.arg 1 < 272 → 1048576 ≤ bits r.bulkCtrl 31 0 → bits r.bulkCtrl 31 0 ≤ 16777216 → r.bulkFault = none → freeRecord r.window s = some n → p = { bulk := true, results := [BitVec.ofNat 64 (bits r.bulkCtrl 31 0)] } →
     ∃ t, exec (.diagTrace r) s = .next t ∧ answered r cACCEPTED 0 [handleOf (plannedJob 0x0D02 r p s n)] t ∧ windowOnly ((withJob 0x0D02 r p v n).send (.bulkTrace (r.arg 1) (r.arg 2) (bits r.bulkCtrl 31 0))) t) ∧
  -- DIAG_PEEK of a register that exists: a free value, whatever it is
  (∀ (r : TaskReq) (s v : State), goes { opcode := 0x0D03, windows := [3] } [(1, mask 8 0), (2, mask64)] r s = true → v = taken { opcode := 0x0D03, windows := [3] } r s → r.arg 1 < 272 → Config.internalReg (r.arg 1) (r.arg 2) = true → v.isFenced (r.arg 1) = false →
     ∃ t, exec (.diagPeek r) s = .next t ∧ answered r cOK 0 [v.draw.1] t ∧ windowOnly v.draw.2 t)

/-- Park, wake, supplies, thermal control, wall-clock, resets of the chip. A domain parks when its timer runs out, deep-parks, wakes and runs; the core voltage target moves by rule; a droop counts; thermal steps follow the junction and a trip starts the power-fail sequence; the wall-clock is set; asserting PORST_N, losing VDD_AON or a core brown-out holds the chip in reset and keeps fuses, Boot Ledger, directory and saved metadata; release samples HEAD_SEL; a chip power state is taken once what it needs is awake. -/
def Obligations.PowerDomainsThermalAndResets : Prop :=
  -- PARK_TIMER of a domain that may park
  (∀ (d : Fin 48) s e, s.up = true → planOf d.val s = some e → e.parkUs ≠ 0 → 2 ≤ e.mode → s.domainState d.val = 0 →
     ∃ t, exec (.parkTimer d) s = .next t ∧ t.domainState d.val = 1 ∧ (∀ k, k ≠ d.val → t.domainState k = s.domainState k) ∧
       t.env = { s.env with parked := ((domainIslands d.val).filter fun i => !s.isFenced i).foldl (fun l i => insertNat i l) s.env.parked } ∧ t.md = s.md ∧ t.lens = s.lens) ∧
  -- DEEP_PARK_TIMER of a parked domain of mode 3
  (∀ (d : Fin 48) s e, s.up = true → planOf d.val s = some e → e.mode = 3 → e.deepMs ≠ 0 → s.domainState d.val = 1 → neverDeep s.host.chipPs d.val = false →
     ∃ t, exec (.deepParkTimer d) s = .next t ∧ t.domainState d.val = 2 ∧ t.md = s.md ∧ t.env = s.env ∧
       t.wr = (if 38 ≤ d.val ∧ d.val < 42 then { s.wr with sieve := s.wr.sieve.filter fun (e : SieveEntry) => Config.sieveBank e.part e.bucket % 4 != d.val - 38 } else s.wr)) ∧
  -- PARKED_ISLAND_WAKE of an island whose domain is parked
  (∀ (i : Fin 272) s d, s.up = true → powerDomain i.val = some d → s.domainState d = 1 →
     ∃ t, exec (.parkedIslandWake i) s = .next t ∧ t.domainState d = 0 ∧ t.env = { s.env with parked := s.env.parked.filter fun k => !(domainIslands d).contains k } ∧ t.md = s.md) ∧
  -- SUPPLY_RAMP_COMPLETE of a waking domain, nothing else waiting
  (∀ (d : Fin 48) s, s.up = true → s.domainState d.val = 5 → s.env.rampQ = [] → calm s = true →
     ∃ t, exec (.supplyRampComplete d) s = .next t ∧ t.domainState d.val = 0 ∧ t.env.parked = s.env.parked.filter (fun k => !(domainIslands d.val).contains k) ∧ t.md = s.md ∧ t.lens = s.lens) ∧
  -- AVS_TICK while AVS is not held, no ramp waiting, no island short of margin
  (∀ w s u, s.up = true → s.flag Reg.fPWR_AVS_STATUS_HELD = false → s.env.rampQ = [] → u = s.reach ((s.now / (100 * us) + 1) * (100 * us)) →
     ∃ t, exec (.avsTick w []) s = .next t ∧ t.fld Reg.fPWR_AVS_STATUS_TARGET_MV10 = avsTarget (nominalMv10 0 s) w ∧
       t.outputs = .voutCommand (avsTarget (nominalMv10 0 s) w) :: s.outputs ∧ t.env.shortSince = none ∧ t.md = s.md) ∧
  -- SUPPLY_DROOP counts a stretch
  (∀ (i : Fin 272) s, s.up = true → ∃ t, exec (.supplyDroop i) s = .next t ∧ t.fld Reg.fPWR_ISLAND_FREQ_STRETCHES i.val = min (2 ^ 32 - 1) (s.fld Reg.fPWR_ISLAND_FREQ_STRETCHES i.val + 1) ∧
     (∀ o, o ≠ Reg.fPWR_ISLAND_FREQ_STRETCHES.off i.val 0 → t.word o = s.word o) ∧ t.md = s.md ∧ t.outputs = s.outputs) ∧
  -- THERMAL_STEP: up at once, down one step after a second
  (∀ s cur j, s.up = true → cur = s.fld Reg.fPWR_THERM_STATUS_PT_STEP → j = signed 16 (s.fld Reg.fPWR_THERM_STATUS_JUNCTION) →
     (cur < stepAbove ptThreshold 2 j → ∃ t, exec .thermalStep s = .next t ∧ t.fld Reg.fPWR_THERM_STATUS_PT_STEP = stepAbove ptThreshold 2 j ∧ t.md = s.md) ∧
     (∀ p, stepAbove ptThreshold 2 j ≤ cur → cur ≠ 0 → s.env.coolSince.find? (·.1 == cur) = some p → ∃ t, exec .thermalStep s = .next t ∧ t.fld Reg.fPWR_THERM_STATUS_PT_STEP = cur - 1 ∧ t.now = max s.now (p.2 + sec) ∧ t.md = s.md)) ∧
  -- THERMAL_TRIP: the trip is latched with its sensor, Fog cause 21, and the power-fail sequence with cause 2
  (∀ (k : Fin 64) s, s.up = true → s.flag Reg.fPWR_THERM_STATUS_TRIPPED = false →
     ∃ u, exec (.thermalTrip k) s = .next (powerFail 2 u) ∧ u.flag Reg.fPWR_THERM_STATUS_TRIPPED = true ∧ u.fld Reg.fPWR_THERM_STATUS_TRIP_SENSOR = k.val ∧ u.fog 21 = true ∧ u.md = s.md ∧ u.hup = s.hup) ∧
  -- THERMAL_AUTO_START after a trip, where it is enabled and no pin or supply holds the reset
  (∀ s i, s.hup.shutdown = true → s.hup.dumpInfo = some i → i.trip = true → s.flag Reg.fPWR_THERM_CFG_AUTO_START = true → s.env.porstHigh = true → s.env.aonLost = false →
     ∃ t, exec .thermalAutoStart s = .next t ∧ t.up = true ∧ (∀ d, d < 47 → t.domainState d = 0) ∧ t.md = s.md ∧ t.host = s.host) ∧
  -- TMB_WALL_OFFSET_WRITE while PTP is off: the wall-clock is known; with PTP it is discarded
  (∀ v s, s.up = true →
     (s.flag Reg.fHFE_PTP_CFG_EN = false → ∃ t, exec (.tmbWallOffsetWrite v) s = .next t ∧ t.word Reg.TMB_WALL_OFFSET.base = v ∧ t.flag Reg.fTMB_STATUS_WALL_KNOWN = true ∧ t.md = s.md ∧ t.now = s.now) ∧
     (s.flag Reg.fHFE_PTP_CFG_EN = true → exec (.tmbWallOffsetWrite v) s = .next (captureErr cSTATE_CONFLICT Reg.TMB_WALL_OFFSET.base s))) ∧
  -- PORST_N_ASSERT and VDD_AON_LOSS: the chip is held in reset, the timebase starts anew; what fuses, modules and flash hold stays
  (∀ n s, s.hup.dumping = false → ∃ t x, exec (.porstNAssert n) s = .next t ∧ exec (.vddAonLoss n) s = .next x ∧ t.env.porstHigh = false ∧ x.env.aonLost = true ∧
     ∀ y, y = t ∨ y = x → y.up = false ∧ y.now = 0 ∧ y.regs = [] ∧ y.boot.fuses = s.boot.fuses ∧ y.boot.ledger = s.boot.ledger ∧ y.host.directory = s.host.directory ∧ y.md.saved = s.md.saved ∧ y.host.cmds = [] ∧ y.pending = s.pending) ∧
  -- PORST_N_RELEASE with VDD_AON present: the chip leaves reset as the head that HEAD_SEL names
  (∀ h p v s, s.env.porstHigh = false → s.env.aonLost = false → s.up = false →
     ∃ t, exec (.porstNRelease h p v) s = .next t ∧ t.up = true ∧ t.peer.head = (if h then 1 else 0) ∧ t.env.porstHigh = true ∧ t.env.headSel = h ∧ t.hup.vMv = v ∧ (∀ d, d < 47 → t.domainState d = 0) ∧ t.md = s.md) ∧
  -- SUPPLY_BROWN_OUT of VDD_CORE or VDD_SRAM holds the reset without a dump; another supply counts as PFAIL_N
  (∀ x n s, s.up = true → s.hup.dumping = false →
     ((x = .core ∨ x = .sram) → ∃ t, exec (.supplyBrownOut x n) s = .next t ∧ t.up = false ∧ t.now = s.now ∧ t.boot.fuses = s.boot.fuses ∧ t.hup.image = s.hup.image ∧ t.md.saved = s.md.saved) ∧
     (x ≠ .core → x ≠ .sram → exec (.supplyBrownOut x n) s = .next (powerFail 1 s))) ∧
  -- CHIP_POWER_STATE_CHANGE to a state whose units are awake
  (∀ s, s.up = true → demandedPs s ≠ s.host.chipPs → s.lens.relens = none → (∀ d ∈ psNeeds (demandedPs s), s.domainState d ≠ 2 ∧ s.domainState d ≠ 5) →
     ∃ u, u = fire 128 (bumpGen { s with host := { s.host with chipPs := demandedPs s } }) ∧ exec .chipPowerStateChange s = .next (settleActive (demandedPs s) u) ∧ u.host.chipPs = demandedPs s ∧ u.lens.liveGen = s.lens.liveGen + 1)
end

