-- ==== Sys2Proof/Laws/State.lean ====
section
/-!
SUPPORT. One lemma per state field per named update: what each update leaves alone, and what it stores.
-/
namespace Sys2Proof.Machine

/-! ## setWord -/

@[simp] theorem State.setWord_pending (s : State) (o : Nat) (w : Word) : (s.setWord o w).pending = s.pending := rfl
@[simp] theorem State.setWord_now (s : State) (o : Nat) (w : Word) : (s.setWord o w).now = s.now := rfl
@[simp] theorem State.setWord_scratch (s : State) (o : Nat) (w : Word) : (s.setWord o w).scratch = s.scratch := rfl
@[simp] theorem State.setWord_lens (s : State) (o : Nat) (w : Word) : (s.setWord o w).lens = s.lens := rfl
@[simp] theorem State.setWord_ctl (s : State) (o : Nat) (w : Word) : (s.setWord o w).ctl = s.ctl := rfl
@[simp] theorem State.setWord_host (s : State) (o : Nat) (w : Word) : (s.setWord o w).host = s.host := rfl
@[simp] theorem State.setWord_wr (s : State) (o : Nat) (w : Word) : (s.setWord o w).wr = s.wr := rfl
@[simp] theorem State.setWord_rd (s : State) (o : Nat) (w : Word) : (s.setWord o w).rd = s.rd := rfl
@[simp] theorem State.setWord_media (s : State) (o : Nat) (w : Word) : (s.setWord o w).media = s.media := rfl
@[simp] theorem State.setWord_sml (s : State) (o : Nat) (w : Word) : (s.setWord o w).sml = s.sml := rfl
@[simp] theorem State.setWord_md (s : State) (o : Nat) (w : Word) : (s.setWord o w).md = s.md := rfl
@[simp] theorem State.setWord_peer (s : State) (o : Nat) (w : Word) : (s.setWord o w).peer = s.peer := rfl
@[simp] theorem State.setWord_hup (s : State) (o : Nat) (w : Word) : (s.setWord o w).hup = s.hup := rfl
@[simp] theorem State.setWord_repl (s : State) (o : Nat) (w : Word) : (s.setWord o w).repl = s.repl := rfl
@[simp] theorem State.setWord_eng (s : State) (o : Nat) (w : Word) : (s.setWord o w).eng = s.eng := rfl
@[simp] theorem State.setWord_kpr (s : State) (o : Nat) (w : Word) : (s.setWord o w).kpr = s.kpr := rfl
@[simp] theorem State.setWord_sig (s : State) (o : Nat) (w : Word) : (s.setWord o w).sig = s.sig := rfl
@[simp] theorem State.setWord_boot (s : State) (o : Nat) (w : Word) : (s.setWord o w).boot = s.boot := rfl
@[simp] theorem State.setWord_env (s : State) (o : Nat) (w : Word) : (s.setWord o w).env = s.env := rfl
@[simp] theorem State.setWord_ubQueue (s : State) (o : Nat) (w : Word) : (s.setWord o w).ubQueue = s.ubQueue := rfl
@[simp] theorem State.setWord_outputs (s : State) (o : Nat) (w : Word) : (s.setWord o w).outputs = s.outputs := rfl
@[simp] theorem State.setWord_free (s : State) (o : Nat) (w : Word) : (s.setWord o w).free = s.free := rfl

@[simp] theorem State.setWord_regs (s : State) (o : Nat) (w : Word) : (s.setWord o w).regs = putReg o w s.regs := rfl

/-! ## setFld -/

@[simp] theorem State.setFld_pending (s : State) (f : Fld) (v i j : Nat) : (s.setFld f v i j).pending = s.pending := rfl
@[simp] theorem State.setFld_now (s : State) (f : Fld) (v i j : Nat) : (s.setFld f v i j).now = s.now := rfl
@[simp] theorem State.setFld_scratch (s : State) (f : Fld) (v i j : Nat) : (s.setFld f v i j).scratch = s.scratch := rfl
@[simp] theorem State.setFld_lens (s : State) (f : Fld) (v i j : Nat) : (s.setFld f v i j).lens = s.lens := rfl
@[simp] theorem State.setFld_ctl (s : State) (f : Fld) (v i j : Nat) : (s.setFld f v i j).ctl = s.ctl := rfl
@[simp] theorem State.setFld_host (s : State) (f : Fld) (v i j : Nat) : (s.setFld f v i j).host = s.host := rfl
@[simp] theorem State.setFld_wr (s : State) (f : Fld) (v i j : Nat) : (s.setFld f v i j).wr = s.wr := rfl
@[simp] theorem State.setFld_rd (s : State) (f : Fld) (v i j : Nat) : (s.setFld f v i j).rd = s.rd := rfl
@[simp] theorem State.setFld_media (s : State) (f : Fld) (v i j : Nat) : (s.setFld f v i j).media = s.media := rfl
@[simp] theorem State.setFld_sml (s : State) (f : Fld) (v i j : Nat) : (s.setFld f v i j).sml = s.sml := rfl
@[simp] theorem State.setFld_md (s : State) (f : Fld) (v i j : Nat) : (s.setFld f v i j).md = s.md := rfl
@[simp] theorem State.setFld_peer (s : State) (f : Fld) (v i j : Nat) : (s.setFld f v i j).peer = s.peer := rfl
@[simp] theorem State.setFld_hup (s : State) (f : Fld) (v i j : Nat) : (s.setFld f v i j).hup = s.hup := rfl
@[simp] theorem State.setFld_repl (s : State) (f : Fld) (v i j : Nat) : (s.setFld f v i j).repl = s.repl := rfl
@[simp] theorem State.setFld_eng (s : State) (f : Fld) (v i j : Nat) : (s.setFld f v i j).eng = s.eng := rfl
@[simp] theorem State.setFld_kpr (s : State) (f : Fld) (v i j : Nat) : (s.setFld f v i j).kpr = s.kpr := rfl
@[simp] theorem State.setFld_sig (s : State) (f : Fld) (v i j : Nat) : (s.setFld f v i j).sig = s.sig := rfl
@[simp] theorem State.setFld_boot (s : State) (f : Fld) (v i j : Nat) : (s.setFld f v i j).boot = s.boot := rfl
@[simp] theorem State.setFld_env (s : State) (f : Fld) (v i j : Nat) : (s.setFld f v i j).env = s.env := rfl
@[simp] theorem State.setFld_ubQueue (s : State) (f : Fld) (v i j : Nat) : (s.setFld f v i j).ubQueue = s.ubQueue := rfl
@[simp] theorem State.setFld_outputs (s : State) (f : Fld) (v i j : Nat) : (s.setFld f v i j).outputs = s.outputs := rfl
@[simp] theorem State.setFld_free (s : State) (f : Fld) (v i j : Nat) : (s.setFld f v i j).free = s.free := rfl

/-! ## setFlag -/

@[simp] theorem State.setFlag_pending (s : State) (f : Fld) (b : Bool) (i j : Nat) : (s.setFlag f b i j).pending = s.pending := rfl
@[simp] theorem State.setFlag_now (s : State) (f : Fld) (b : Bool) (i j : Nat) : (s.setFlag f b i j).now = s.now := rfl
@[simp] theorem State.setFlag_scratch (s : State) (f : Fld) (b : Bool) (i j : Nat) : (s.setFlag f b i j).scratch = s.scratch := rfl
@[simp] theorem State.setFlag_lens (s : State) (f : Fld) (b : Bool) (i j : Nat) : (s.setFlag f b i j).lens = s.lens := rfl
@[simp] theorem State.setFlag_ctl (s : State) (f : Fld) (b : Bool) (i j : Nat) : (s.setFlag f b i j).ctl = s.ctl := rfl
@[simp] theorem State.setFlag_host (s : State) (f : Fld) (b : Bool) (i j : Nat) : (s.setFlag f b i j).host = s.host := rfl
@[simp] theorem State.setFlag_wr (s : State) (f : Fld) (b : Bool) (i j : Nat) : (s.setFlag f b i j).wr = s.wr := rfl
@[simp] theorem State.setFlag_rd (s : State) (f : Fld) (b : Bool) (i j : Nat) : (s.setFlag f b i j).rd = s.rd := rfl
@[simp] theorem State.setFlag_media (s : State) (f : Fld) (b : Bool) (i j : Nat) : (s.setFlag f b i j).media = s.media := rfl
@[simp] theorem State.setFlag_sml (s : State) (f : Fld) (b : Bool) (i j : Nat) : (s.setFlag f b i j).sml = s.sml := rfl
@[simp] theorem State.setFlag_md (s : State) (f : Fld) (b : Bool) (i j : Nat) : (s.setFlag f b i j).md = s.md := rfl
@[simp] theorem State.setFlag_peer (s : State) (f : Fld) (b : Bool) (i j : Nat) : (s.setFlag f b i j).peer = s.peer := rfl
@[simp] theorem State.setFlag_hup (s : State) (f : Fld) (b : Bool) (i j : Nat) : (s.setFlag f b i j).hup = s.hup := rfl
@[simp] theorem State.setFlag_repl (s : State) (f : Fld) (b : Bool) (i j : Nat) : (s.setFlag f b i j).repl = s.repl := rfl
@[simp] theorem State.setFlag_eng (s : State) (f : Fld) (b : Bool) (i j : Nat) : (s.setFlag f b i j).eng = s.eng := rfl
@[simp] theorem State.setFlag_kpr (s : State) (f : Fld) (b : Bool) (i j : Nat) : (s.setFlag f b i j).kpr = s.kpr := rfl
@[simp] theorem State.setFlag_sig (s : State) (f : Fld) (b : Bool) (i j : Nat) : (s.setFlag f b i j).sig = s.sig := rfl
@[simp] theorem State.setFlag_boot (s : State) (f : Fld) (b : Bool) (i j : Nat) : (s.setFlag f b i j).boot = s.boot := rfl
@[simp] theorem State.setFlag_env (s : State) (f : Fld) (b : Bool) (i j : Nat) : (s.setFlag f b i j).env = s.env := rfl
@[simp] theorem State.setFlag_ubQueue (s : State) (f : Fld) (b : Bool) (i j : Nat) : (s.setFlag f b i j).ubQueue = s.ubQueue := rfl
@[simp] theorem State.setFlag_outputs (s : State) (f : Fld) (b : Bool) (i j : Nat) : (s.setFlag f b i j).outputs = s.outputs := rfl
@[simp] theorem State.setFlag_free (s : State) (f : Fld) (b : Bool) (i j : Nat) : (s.setFlag f b i j).free = s.free := rfl

/-! ## bump -/

@[simp] theorem State.bump_pending (s : State) (f : Fld) (n i j : Nat) : (s.bump f n i j).pending = s.pending := rfl
@[simp] theorem State.bump_now (s : State) (f : Fld) (n i j : Nat) : (s.bump f n i j).now = s.now := rfl
@[simp] theorem State.bump_scratch (s : State) (f : Fld) (n i j : Nat) : (s.bump f n i j).scratch = s.scratch := rfl
@[simp] theorem State.bump_lens (s : State) (f : Fld) (n i j : Nat) : (s.bump f n i j).lens = s.lens := rfl
@[simp] theorem State.bump_ctl (s : State) (f : Fld) (n i j : Nat) : (s.bump f n i j).ctl = s.ctl := rfl
@[simp] theorem State.bump_host (s : State) (f : Fld) (n i j : Nat) : (s.bump f n i j).host = s.host := rfl
@[simp] theorem State.bump_wr (s : State) (f : Fld) (n i j : Nat) : (s.bump f n i j).wr = s.wr := rfl
@[simp] theorem State.bump_rd (s : State) (f : Fld) (n i j : Nat) : (s.bump f n i j).rd = s.rd := rfl
@[simp] theorem State.bump_media (s : State) (f : Fld) (n i j : Nat) : (s.bump f n i j).media = s.media := rfl
@[simp] theorem State.bump_sml (s : State) (f : Fld) (n i j : Nat) : (s.bump f n i j).sml = s.sml := rfl
@[simp] theorem State.bump_md (s : State) (f : Fld) (n i j : Nat) : (s.bump f n i j).md = s.md := rfl
@[simp] theorem State.bump_peer (s : State) (f : Fld) (n i j : Nat) : (s.bump f n i j).peer = s.peer := rfl
@[simp] theorem State.bump_hup (s : State) (f : Fld) (n i j : Nat) : (s.bump f n i j).hup = s.hup := rfl
@[simp] theorem State.bump_repl (s : State) (f : Fld) (n i j : Nat) : (s.bump f n i j).repl = s.repl := rfl
@[simp] theorem State.bump_eng (s : State) (f : Fld) (n i j : Nat) : (s.bump f n i j).eng = s.eng := rfl
@[simp] theorem State.bump_kpr (s : State) (f : Fld) (n i j : Nat) : (s.bump f n i j).kpr = s.kpr := rfl
@[simp] theorem State.bump_sig (s : State) (f : Fld) (n i j : Nat) : (s.bump f n i j).sig = s.sig := rfl
@[simp] theorem State.bump_boot (s : State) (f : Fld) (n i j : Nat) : (s.bump f n i j).boot = s.boot := rfl
@[simp] theorem State.bump_env (s : State) (f : Fld) (n i j : Nat) : (s.bump f n i j).env = s.env := rfl
@[simp] theorem State.bump_ubQueue (s : State) (f : Fld) (n i j : Nat) : (s.bump f n i j).ubQueue = s.ubQueue := rfl
@[simp] theorem State.bump_outputs (s : State) (f : Fld) (n i j : Nat) : (s.bump f n i j).outputs = s.outputs := rfl
@[simp] theorem State.bump_free (s : State) (f : Fld) (n i j : Nat) : (s.bump f n i j).free = s.free := rfl

/-! ## emit -/

@[simp] theorem State.emit_pending (s : State) (o : Output) : (s.emit o).pending = s.pending := rfl
@[simp] theorem State.emit_now (s : State) (o : Output) : (s.emit o).now = s.now := rfl
@[simp] theorem State.emit_regs (s : State) (o : Output) : (s.emit o).regs = s.regs := rfl
@[simp] theorem State.emit_scratch (s : State) (o : Output) : (s.emit o).scratch = s.scratch := rfl
@[simp] theorem State.emit_lens (s : State) (o : Output) : (s.emit o).lens = s.lens := rfl
@[simp] theorem State.emit_ctl (s : State) (o : Output) : (s.emit o).ctl = s.ctl := rfl
@[simp] theorem State.emit_host (s : State) (o : Output) : (s.emit o).host = s.host := rfl
@[simp] theorem State.emit_wr (s : State) (o : Output) : (s.emit o).wr = s.wr := rfl
@[simp] theorem State.emit_rd (s : State) (o : Output) : (s.emit o).rd = s.rd := rfl
@[simp] theorem State.emit_media (s : State) (o : Output) : (s.emit o).media = s.media := rfl
@[simp] theorem State.emit_sml (s : State) (o : Output) : (s.emit o).sml = s.sml := rfl
@[simp] theorem State.emit_md (s : State) (o : Output) : (s.emit o).md = s.md := rfl
@[simp] theorem State.emit_peer (s : State) (o : Output) : (s.emit o).peer = s.peer := rfl
@[simp] theorem State.emit_hup (s : State) (o : Output) : (s.emit o).hup = s.hup := rfl
@[simp] theorem State.emit_repl (s : State) (o : Output) : (s.emit o).repl = s.repl := rfl
@[simp] theorem State.emit_eng (s : State) (o : Output) : (s.emit o).eng = s.eng := rfl
@[simp] theorem State.emit_kpr (s : State) (o : Output) : (s.emit o).kpr = s.kpr := rfl
@[simp] theorem State.emit_sig (s : State) (o : Output) : (s.emit o).sig = s.sig := rfl
@[simp] theorem State.emit_boot (s : State) (o : Output) : (s.emit o).boot = s.boot := rfl
@[simp] theorem State.emit_env (s : State) (o : Output) : (s.emit o).env = s.env := rfl
@[simp] theorem State.emit_ubQueue (s : State) (o : Output) : (s.emit o).ubQueue = s.ubQueue := rfl
@[simp] theorem State.emit_free (s : State) (o : Output) : (s.emit o).free = s.free := rfl

@[simp] theorem State.emit_outputs (s : State) (o : Output) : (s.emit o).outputs = o :: s.outputs := rfl

/-! ## putGroup -/

@[simp] theorem State.putGroup_pending (s : State) (g : Nat) (x : UbGroup) : (s.putGroup g x).pending = s.pending := rfl
@[simp] theorem State.putGroup_now (s : State) (g : Nat) (x : UbGroup) : (s.putGroup g x).now = s.now := rfl
@[simp] theorem State.putGroup_regs (s : State) (g : Nat) (x : UbGroup) : (s.putGroup g x).regs = s.regs := rfl
@[simp] theorem State.putGroup_scratch (s : State) (g : Nat) (x : UbGroup) : (s.putGroup g x).scratch = s.scratch := rfl
@[simp] theorem State.putGroup_lens (s : State) (g : Nat) (x : UbGroup) : (s.putGroup g x).lens = s.lens := rfl
@[simp] theorem State.putGroup_ctl (s : State) (g : Nat) (x : UbGroup) : (s.putGroup g x).ctl = s.ctl := rfl
@[simp] theorem State.putGroup_host (s : State) (g : Nat) (x : UbGroup) : (s.putGroup g x).host = s.host := rfl
@[simp] theorem State.putGroup_wr (s : State) (g : Nat) (x : UbGroup) : (s.putGroup g x).wr = s.wr := rfl
@[simp] theorem State.putGroup_rd (s : State) (g : Nat) (x : UbGroup) : (s.putGroup g x).rd = s.rd := rfl
@[simp] theorem State.putGroup_media (s : State) (g : Nat) (x : UbGroup) : (s.putGroup g x).media = s.media := rfl
@[simp] theorem State.putGroup_sml (s : State) (g : Nat) (x : UbGroup) : (s.putGroup g x).sml = s.sml := rfl
@[simp] theorem State.putGroup_md (s : State) (g : Nat) (x : UbGroup) : (s.putGroup g x).md = s.md := rfl
@[simp] theorem State.putGroup_hup (s : State) (g : Nat) (x : UbGroup) : (s.putGroup g x).hup = s.hup := rfl
@[simp] theorem State.putGroup_repl (s : State) (g : Nat) (x : UbGroup) : (s.putGroup g x).repl = s.repl := rfl
@[simp] theorem State.putGroup_eng (s : State) (g : Nat) (x : UbGroup) : (s.putGroup g x).eng = s.eng := rfl
@[simp] theorem State.putGroup_kpr (s : State) (g : Nat) (x : UbGroup) : (s.putGroup g x).kpr = s.kpr := rfl
@[simp] theorem State.putGroup_sig (s : State) (g : Nat) (x : UbGroup) : (s.putGroup g x).sig = s.sig := rfl
@[simp] theorem State.putGroup_boot (s : State) (g : Nat) (x : UbGroup) : (s.putGroup g x).boot = s.boot := rfl
@[simp] theorem State.putGroup_env (s : State) (g : Nat) (x : UbGroup) : (s.putGroup g x).env = s.env := rfl
@[simp] theorem State.putGroup_ubQueue (s : State) (g : Nat) (x : UbGroup) : (s.putGroup g x).ubQueue = s.ubQueue := rfl
@[simp] theorem State.putGroup_outputs (s : State) (g : Nat) (x : UbGroup) : (s.putGroup g x).outputs = s.outputs := rfl
@[simp] theorem State.putGroup_free (s : State) (g : Nat) (x : UbGroup) : (s.putGroup g x).free = s.free := rfl

/-! ## draw -/

@[simp] theorem State.draw_pending (s : State)  : (s.draw.2).pending = s.pending := rfl
@[simp] theorem State.draw_now (s : State)  : (s.draw.2).now = s.now := rfl
@[simp] theorem State.draw_regs (s : State)  : (s.draw.2).regs = s.regs := rfl
@[simp] theorem State.draw_scratch (s : State)  : (s.draw.2).scratch = s.scratch := rfl
@[simp] theorem State.draw_lens (s : State)  : (s.draw.2).lens = s.lens := rfl
@[simp] theorem State.draw_ctl (s : State)  : (s.draw.2).ctl = s.ctl := rfl
@[simp] theorem State.draw_host (s : State)  : (s.draw.2).host = s.host := rfl
@[simp] theorem State.draw_wr (s : State)  : (s.draw.2).wr = s.wr := rfl
@[simp] theorem State.draw_rd (s : State)  : (s.draw.2).rd = s.rd := rfl
@[simp] theorem State.draw_media (s : State)  : (s.draw.2).media = s.media := rfl
@[simp] theorem State.draw_sml (s : State)  : (s.draw.2).sml = s.sml := rfl
@[simp] theorem State.draw_md (s : State)  : (s.draw.2).md = s.md := rfl
@[simp] theorem State.draw_peer (s : State)  : (s.draw.2).peer = s.peer := rfl
@[simp] theorem State.draw_hup (s : State)  : (s.draw.2).hup = s.hup := rfl
@[simp] theorem State.draw_repl (s : State)  : (s.draw.2).repl = s.repl := rfl
@[simp] theorem State.draw_eng (s : State)  : (s.draw.2).eng = s.eng := rfl
@[simp] theorem State.draw_kpr (s : State)  : (s.draw.2).kpr = s.kpr := rfl
@[simp] theorem State.draw_sig (s : State)  : (s.draw.2).sig = s.sig := rfl
@[simp] theorem State.draw_boot (s : State)  : (s.draw.2).boot = s.boot := rfl
@[simp] theorem State.draw_env (s : State)  : (s.draw.2).env = s.env := rfl
@[simp] theorem State.draw_ubQueue (s : State)  : (s.draw.2).ubQueue = s.ubQueue := rfl
@[simp] theorem State.draw_outputs (s : State)  : (s.draw.2).outputs = s.outputs := rfl

@[simp] theorem State.draw_free (s : State) : s.draw.2.free = s.free + 1 := rfl
@[simp] theorem State.draw_fst (s : State) : s.draw.1 = Config.freeWord s.free := rfl

end Sys2Proof.Machine
end

