-- ==== Sys2Proof/Laws/Ops.lean ====
section
/-!
SUPPORT. The laws of registers and scratch memory: reading after writing, the canonical form, fields within a word.
-/
namespace Sys2Proof.Machine

variable {β : Type} [DecidableEq β]

/-! ## Sparse data -/

omit [DecidableEq β] in
theorem readAt_filter (d : Nat → β) (k p : Nat) (l : List (Nat × β)) :
    readAt d p (l.filter fun e => e.1 != k) = if p = k then d k else readAt d p l := by
  induction l with
  | nil => simp [readAt]; intro h; rw [h]
  | cons e t ih =>
    obtain ⟨a, x⟩ := e
    by_cases hk : a = k <;> by_cases hp : a = p <;> by_cases hpk : p = k <;>
      simp_all [readAt]

omit [DecidableEq β] in
theorem readAt_insertAt (d : Nat → β) (k p : Nat) (v : β) (l : List (Nat × β)) :
    readAt d p (insertAt k v l) = if p = k then v else readAt d p l := by
  induction l with
  | nil => simp [readAt, insertAt, eq_comm]
  | cons e t ih =>
    obtain ⟨a, x⟩ := e
    unfold insertAt
    split
    · simp [readAt, eq_comm]
    · split
      · subst_vars; by_cases hp : p = a <;> simp [readAt, hp, eq_comm]
      · by_cases hp : a = p <;> simp_all [readAt, eq_comm]

/-- A key reads what was last stored there, every other key what it read before. -/
theorem readAt_storeAt (d : Nat → β) (k p : Nat) (v : β) (l : List (Nat × β)) :
    readAt d p (storeAt d k v l) = if p = k then v else readAt d p l := by
  unfold storeAt
  split
  · rename_i h; rw [readAt_filter, h]
  · exact readAt_insertAt d k p v l

theorem canon_iff (d : Nat → β) (l : List (Nat × β)) :
    canon d l = true ↔ (l.Pairwise fun a b => a.1 < b.1) ∧ ∀ e ∈ l, e.2 ≠ d e.1 := by
  simp [canon]

omit [DecidableEq β] in
theorem mem_insertAt (k : Nat) (v : β) (l : List (Nat × β)) (e : Nat × β) (h : e ∈ insertAt k v l) :
    e = (k, v) ∨ e ∈ l := by
  induction l with
  | nil => simpa [insertAt] using h
  | cons x t ih =>
    obtain ⟨a, x⟩ := x
    unfold insertAt at h
    split at h
    · simpa using h
    · split at h
      · simp at h ⊢; tauto
      · simp at h ⊢; tauto

omit [DecidableEq β] in
theorem pairwise_insertAt (k : Nat) (v : β) (l : List (Nat × β)) (h : l.Pairwise fun a b => a.1 < b.1) :
    (insertAt k v l).Pairwise fun a b => a.1 < b.1 := by
  induction l with
  | nil => simp [insertAt]
  | cons e t ih =>
    obtain ⟨a, x⟩ := e
    rw [List.pairwise_cons] at h
    unfold insertAt
    split
    · rename_i hk
      refine List.pairwise_cons.2 ⟨?_, List.pairwise_cons.2 h⟩
      intro b hb
      rcases List.mem_cons.1 hb with rfl | hb
      · exact hk
      · exact lt_trans hk (h.1 b hb)
    · split
      · rename_i hk
        subst hk
        exact List.pairwise_cons.2 h
      · refine List.pairwise_cons.2 ⟨?_, ih h.2⟩
        intro b hb
        rcases mem_insertAt k v t b hb with rfl | hb
        · simp; omega
        · exact h.1 b hb

/-- Storing keeps the canonical form. -/
theorem canon_storeAt (d : Nat → β) (k : Nat) (v : β) (l : List (Nat × β)) (h : canon d l = true) :
    canon d (storeAt d k v l) = true := by
  rw [canon_iff] at h ⊢
  unfold storeAt
  split
  · exact ⟨h.1.sublist List.filter_sublist, fun e he => h.2 e (List.mem_filter.1 he).1⟩
  · refine ⟨pairwise_insertAt k v l h.1, fun e he => ?_⟩
    rcases mem_insertAt k v l e he with rfl | he
    · assumption
    · exact h.2 e he

/-- Dropping entries keeps the canonical form. -/
theorem canon_filter (d : Nat → β) (p : Nat × β → Bool) (l : List (Nat × β)) (h : canon d l = true) :
    canon d (l.filter p) = true := by
  rw [canon_iff] at h ⊢
  exact ⟨h.1.sublist List.filter_sublist, fun e he => h.2 e (List.mem_filter.1 he).1⟩

/-! ## Lists by place and by key -/

omit [DecidableEq β] in
/-- An entry reads what was last put there, every other what it read before. -/
theorem getD_putNth (d x : β) (l : List β) : ∀ n m : Nat, ((putNth d x n l)[m]?).getD d = if m = n then x else (l[m]?).getD d := by
  induction l with
  | nil =>
    intro n
    induction n with
    | zero => intro m; cases m <;> simp [putNth]
    | succ n ih =>
      intro m
      cases m with
      | zero => simp [putNth]
      | succ m => simpa [putNth] using ih m
  | cons y t ih =>
    intro n m
    cases n with
    | zero => cases m <;> simp [putNth]
    | succ n =>
      cases m with
      | zero => simp [putNth]
      | succ m => simpa [putNth] using ih n m

omit [DecidableEq β] in
/-- A key reads what was last put under it, every other what it read before. -/
theorem lookupD_setKey (d v : β) (k p : Nat) (l : List (Nat × β)) :
    lookupD d p (setKey k v l) = if p = k then v else lookupD d p l := by
  unfold setKey
  induction l with
  | nil => simp [putBy, lookupD, eq_comm]
  | cons e t ih =>
    obtain ⟨a, b⟩ := e
    by_cases ha : a = k
    · subst ha
      by_cases hp : p = a <;> simp [putBy, lookupD, hp, eq_comm]
    · by_cases hp : a = p
      · subst hp; simp [putBy, lookupD, ha]
      · simpa [putBy, lookupD, ha, hp] using ih

/-! ## Registers -/

/-- A register reads what was last stored there. -/
theorem State.word_setWord (s : State) (o p : Nat) (w : Word) :
    (s.setWord o w).word p = if p = o then w else s.word p := readAt_storeAt resetWord o p w s.regs

@[simp] theorem State.word_setWord_same (s : State) (o : Nat) (w : Word) : (s.setWord o w).word o = w := by
  simp [State.word_setWord]

@[simp] theorem State.word_setWord_ne (s : State) (o p : Nat) (w : Word) (h : p ≠ o) :
    (s.setWord o w).word p = s.word p := by
  simp [State.word_setWord, h]

theorem regsWf_putReg (o : Nat) (w : Word) (l : List (Nat × Word)) (h : regsWf l = true) :
    regsWf (putReg o w l) = true := canon_storeAt resetWord o w l h

/-! ## Fields -/

theorem bits_lt (w : Word) (hi lo : Nat) : bits w hi lo < 2 ^ (hi + 1 - lo) := Nat.mod_lt _ (Nat.two_pow_pos _)

theorem setBits_testBit (w : Word) (hi lo v k : Nat) (hlo : lo ≤ hi) (hhi : hi < 64) :
    (setBits w hi lo v).toNat.testBit k =
      if lo ≤ k ∧ k ≤ hi then v.testBit (k - lo) else w.toNat.testBit k := by
  by_cases hk : k < 64
  · have e1 : (setBits w hi lo v).toNat.testBit k = (setBits w hi lo v).getLsbD k := (BitVec.testBit_toNat _)
    rw [e1]
    unfold setBits
    simp only [BitVec.getLsbD_or, BitVec.getLsbD_and, BitVec.getLsbD_not, BitVec.getLsbD_ofNat, Nat.testBit_shiftLeft,
      Nat.testBit_mod_two_pow, Nat.testBit_two_pow_sub_one, hk, decide_true, Bool.true_and]
    rw [BitVec.testBit_toNat]
    by_cases h1 : lo ≤ k <;> by_cases h2 : k ≤ hi
    · have : k - lo < hi + 1 - lo := by omega
      simp [h1, h2, this]
    · have : ¬ (k - lo < hi + 1 - lo) := by omega
      simp [h1, h2, this]
    · simp [h1, h2]
    · simp [h1, h2]
  · have hb : ∀ x : Word, x.toNat.testBit k = false := fun x =>
      Nat.testBit_lt_two_pow (lt_of_lt_of_le x.isLt (Nat.pow_le_pow_right (by norm_num) (by omega)))
    rw [hb, hb]
    have : ¬ (lo ≤ k ∧ k ≤ hi) := by omega
    simp [this]

/-- A field reads what was last stored in it, cut to its width. -/
theorem bits_setBits_same (w : Word) (hi lo v : Nat) (hlo : lo ≤ hi) (hhi : hi < 64) :
    bits (setBits w hi lo v) hi lo = v % 2 ^ (hi + 1 - lo) := by
  apply Nat.eq_of_testBit_eq
  intro k
  simp only [bits, Nat.testBit_mod_two_pow, Nat.testBit_shiftRight, setBits_testBit w hi lo v _ hlo hhi]
  by_cases h : k < hi + 1 - lo
  · have : lo ≤ lo + k ∧ lo + k ≤ hi := by omega
    simp [h, this]
  · simp [h]

/-- Storing one field leaves a field beside it alone. -/
theorem bits_setBits_apart (w : Word) (hi lo v hi' lo' : Nat) (hlo : lo ≤ hi) (hhi : hi < 64)
    (h : hi' < lo ∨ hi < lo') : bits (setBits w hi lo v) hi' lo' = bits w hi' lo' := by
  apply Nat.eq_of_testBit_eq
  intro k
  simp only [bits, Nat.testBit_mod_two_pow, Nat.testBit_shiftRight, setBits_testBit w hi lo v _ hlo hhi]
  by_cases hk : k < hi' + 1 - lo'
  · have : ¬ (lo ≤ lo' + k ∧ lo' + k ≤ hi) := by omega
    simp [hk, this]
  · simp [hk]

/-- A field's place is one a 64-bit word has. -/
def Fld.ok (f : Fld) : Bool := decide (f.lo ≤ f.hi) && decide (f.hi < 64)

/-- A field reads what was last stored in it, cut to its width. -/
theorem State.fld_setFld_same (s : State) (f : Fld) (v i j : Nat) (h : f.ok = true) :
    (s.setFld f v i j).fld f i j = v % 2 ^ (f.hi + 1 - f.lo) := by
  simp only [Fld.ok, Bool.and_eq_true, decide_eq_true_eq] at h
  simp [State.fld, State.setFld, bits_setBits_same _ _ _ _ h.1 h.2]

/-- A field of another register reads what it read before. -/
theorem State.fld_setFld_off (s : State) (f g : Fld) (v i j i' j' : Nat) (h : g.off i' j' ≠ f.off i j) :
    (s.setFld f v i j).fld g i' j' = s.fld g i' j' := by
  simp [State.fld, State.setFld, h]

/-- A field beside the one stored reads what it read before. -/
theorem State.fld_setFld_apart (s : State) (f g : Fld) (v i j i' j' : Nat) (h : f.ok = true)
    (ha : g.hi < f.lo ∨ f.hi < g.lo) : (s.setFld f v i j).fld g i' j' = s.fld g i' j' := by
  simp only [Fld.ok, Bool.and_eq_true, decide_eq_true_eq] at h
  unfold State.fld State.setFld
  rw [State.word_setWord]
  split
  · rename_i e; rw [e, bits_setBits_apart _ _ _ _ _ _ h.1 h.2 ha]
  · rfl

/-- The word of another register reads what it read before. -/
theorem State.word_setFld_ne (s : State) (f : Fld) (v i j p : Nat) (h : p ≠ f.off i j) :
    (s.setFld f v i j).word p = s.word p := by
  simp [State.setFld, h]

/-! ## Scratch memory -/

/-- A byte reads what was last stored there. -/
theorem memRead_memWrite (a b : Nat) (v : BitVec 8) (m : List Host.Cell) :
    memRead b (memWrite a v m) = if b = a then v else memRead b m := readAt_storeAt _ a b v m

theorem memWrite_wf (a : Nat) (v : BitVec 8) (m : List Host.Cell) (h : Memory.wf m = true) :
    Memory.wf (memWrite a v m) = true := canon_storeAt _ a v m h

theorem memWriteAll_wf (vs : List (BitVec 8)) : ∀ (a : Nat) (m : List Host.Cell), Memory.wf m = true →
    Memory.wf (memWriteAll a vs m) = true := by
  induction vs with
  | nil => intro a m h; exact h
  | cons v vs ih => intro a m h; exact ih (a + 1) _ (memWrite_wf a v m h)

theorem State.reset_wf : regsWf State.reset.regs = true ∧ Memory.wf State.reset.scratch = true := by decide

end Sys2Proof.Machine
end

