-- ==== Sys2Proof/Laws/Shared.lean ====
section
/-!
SUPPORT. What the shared operations over events, messages and task windows can change: one lemma each, and what each leaves alone.
-/
namespace Sys2Proof.Machine

/-! ## A chip that serves -/

theorem act_up (f : State → State) (s : State) (h : s.up = true) : act f s = .next (f s) := by simp [act, h]

theorem act_down (f : State → State) (s : State) (h : s.up = false) : act f s = .next s := by simp [act, h]

/-! ## Time -/

theorem reach_only (s : State) (T : Nat) : ∃ k b, s.reach T = { s with now := max s.now T, kpr := k, boot := b } := by
  unfold State.reach
  simp only
  split
  · exact ⟨_, _, rfl⟩
  · exact ⟨_, _, rfl⟩

@[simp] theorem reach_now (s : State) (T : Nat) : (s.reach T).now = max s.now T := by
  obtain ⟨_, _, h⟩ := reach_only s T; rw [h]

/-! ## Firing a source -/

/-- Sending a vector's write changes the Signal controller and what has left the part. -/
theorem sendVector_only (v : Nat) (s : State) :
    ∃ g o, sendVector v s = { s with sig := g, outputs := o } := by
  unfold sendVector
  simp only
  split
  · exact ⟨_, _, rfl⟩
  · exact ⟨_, _, rfl⟩

theorem countVector_only (v : Nat) (s : State) :
    ∃ g o, countVector v s = { s with sig := g, outputs := o } := by
  unfold countVector
  simp only
  split
  · exact sendVector_only v s
  · split
    · obtain ⟨g, o, h⟩ := sendVector_only v (s.setVector _)
      exact ⟨g, o, h⟩
    · exact ⟨_, _, rfl⟩

theorem routeSource_only (n : Nat) (s : State) :
    ∃ g o, routeSource n s = { s with sig := g, outputs := o } := by
  unfold routeSource
  split
  · exact countVector_only _ s
  · exact ⟨_, _, rfl⟩

theorem pendSource_only (n : Nat) (s : State) :
    ∃ g o, pendSource n s = { s with sig := g, outputs := o } := by
  unfold pendSource
  split
  · exact ⟨_, _, rfl⟩
  · obtain ⟨g, o, h⟩ := routeSource_only n { s with sig := { s.sig with pend := insertNat n s.sig.pend } }
    exact ⟨g, o, h⟩

theorem writeRecord_only (n c d : Nat) (s : State) :
    ∃ r g o, writeRecord n c d s = { s with regs := r, sig := g, outputs := o } := by
  unfold writeRecord
  split
  · simp only
    split
    · exact ⟨_, _, _, rfl⟩
    · split <;> exact ⟨_, _, _, rfl⟩
  · exact ⟨_, _, _, rfl⟩

/-- An event changes registers, the Signal controller and what has left the part, nothing else (18 R431 to R438). -/
theorem fire_only (n : Nat) (s : State) (c d : Nat) :
    ∃ r g o, fire n s c d = { s with regs := r, sig := g, outputs := o } := by
  unfold fire
  split
  · split
    · obtain ⟨r, g, o, h⟩ := writeRecord_only n c d s
      rw [h]
      obtain ⟨g', o', h'⟩ := pendSource_only n { s with regs := r, sig := g, outputs := o }
      exact ⟨r, g', o', h'⟩
    · obtain ⟨g', o', h'⟩ := pendSource_only n s
      exact ⟨s.regs, g', o', h'⟩
  · exact ⟨_, _, _, rfl⟩

/-- Raising a Fog cause changes registers, the Keeper, the Signal controller and what has left the part (20 R483). -/
theorem raiseFog_only (cause : Nat) (s : State) (arg code : Nat) :
    ∃ r k g o, raiseFog cause s arg code = { s with regs := r, kpr := k, sig := g, outputs := o } := by
  unfold raiseFog
  simp only
  obtain ⟨r, g, o, h⟩ := fire_only 688 _ code (cause + 256 * (arg % 2 ^ 56))
  rw [h]
  exact ⟨_, _, _, _, rfl⟩

/-- A capture changes registers, the Signal controller and what has left the part (03 R64, R65). -/
theorem fillCapture_only (cap code off : Nat) (src : Option Nat) (s : State) :
    ∃ r g o, fillCapture cap code off src s = { s with regs := r, sig := g, outputs := o } := by
  unfold fillCapture
  split
  · exact ⟨_, _, _, rfl⟩
  · cases src with
    | none => exact ⟨_, _, _, rfl⟩
    | some n =>
      simp only
      obtain ⟨r, g, o, h⟩ := fire_only n (s.setWord cap (setBits (setBits (setBits 0 63 63 1) 47 32 code) 25 0 off)) 0 0
      rw [h]
      exact ⟨_, _, _, rfl⟩

theorem captureErr_only (code off : Nat) (s : State) :
    ∃ r g o, captureErr code off s = { s with regs := r, sig := g, outputs := o } := fillCapture_only _ _ _ _ s

/-! ## Sending to the partner -/

theorem transmit_only (c : Nat) (x : Output) (s t : State) (h : transmit c x s = some t) :
    ∃ p o, t = { s with peer := p, outputs := o } := by
  unfold transmit at h
  simp only at h
  split at h
  · cases h
  · split at h
    · cases h
    · cases h
      exact ⟨_, _, rfl⟩

theorem sendPeer_only (c : Nat) (x : Output) (s : State) :
    ∃ p q o, sendPeer c x s = { s with peer := p, ubQueue := q, outputs := o } := by
  unfold sendPeer
  simp only
  split
  · exact ⟨_, _, _, rfl⟩
  · cases h : transmit c x s with
    | none => exact ⟨_, _, _, rfl⟩
    | some t =>
      obtain ⟨p, o, rfl⟩ := transmit_only c x s t h
      exact ⟨_, _, _, rfl⟩

/-- Sending changes the pair link, its waiting messages and what has left the part (11 R273). -/
theorem send_only (s : State) (x : Output) :
    ∃ p q o, s.send x = { s with peer := p, ubQueue := q, outputs := o } := by
  unfold State.send
  split
  · exact sendPeer_only _ x s
  · exact ⟨_, _, _, rfl⟩

theorem foldl_sendPeer_only (l : List (Nat × Output)) : ∀ s : State,
    ∃ p q o, l.foldl (fun s m => sendPeer m.1 m.2 s) s = { s with peer := p, ubQueue := q, outputs := o } := by
  induction l with
  | nil => intro s; exact ⟨_, _, _, rfl⟩
  | cons m t ih =>
    intro s
    obtain ⟨p, q, o, h⟩ := sendPeer_only m.1 m.2 s
    obtain ⟨p', q', o', h'⟩ := ih { s with peer := p, ubQueue := q, outputs := o }
    exact ⟨p', q', o', by rw [List.foldl_cons, h, h']⟩

theorem pumpPeer_only (s : State) :
    ∃ p q o, pumpPeer s = { s with peer := p, ubQueue := q, outputs := o } := by
  unfold pumpPeer
  obtain ⟨p, q, o, h⟩ := foldl_sendPeer_only
    ((List.range' 2 6).flatMap fun c => s.ubQueue.filter (·.1 == c)) { s with ubQueue := [] }
  exact ⟨p, q, o, h⟩

theorem sendAll_only (l : List Output) : ∀ s : State,
    ∃ p q o, s.sendAll l = { s with peer := p, ubQueue := q, outputs := o } := by
  unfold State.sendAll
  induction l with
  | nil => intro s; exact ⟨_, _, _, rfl⟩
  | cons m t ih =>
    intro s
    obtain ⟨p, q, o, h⟩ := send_only s m
    obtain ⟨p', q', o', h'⟩ := ih { s with peer := p, ubQueue := q, outputs := o }
    exact ⟨p', q', o', by rw [List.foldl_cons, h, h']⟩

/-- What goes nowhere near the partner is recorded and nothing else. -/
theorem send_emit (s : State) (o : Output) (h : ubClass o = none) : s.send o = s.emit o := by
  simp [State.send, h]

/-! ## Task windows -/

theorem clearRegs_only (lo hi : Nat) (s : State) : ∃ r, clearRegs lo hi s = { s with regs := r } := ⟨_, rfl⟩

theorem setWord_only (s : State) (o : Nat) (w : Word) : ∃ r, s.setWord o w = { s with regs := r } := ⟨_, rfl⟩

theorem storeWords_only (ws : List Word) : ∀ (b : Nat) (s : State), ∃ r, storeWords b ws s = { s with regs := r } := by
  induction ws with
  | nil => intro b s; exact ⟨s.regs, rfl⟩
  | cons w ws ih =>
    intro b s
    obtain ⟨r, h⟩ := ih (b + 8) (s.setWord b w)
    exact ⟨r, h⟩

theorem window_only (a c d e f : Nat) (ws : List Word) (v w x : Word) (s : State) :
    ∃ r, (((storeWords a ws (clearRegs a c s)).setWord d v).setWord e w).setWord f x = { s with regs := r } := by
  obtain ⟨r, h⟩ := storeWords_only ws a (clearRegs a c s)
  rw [h]
  exact ⟨_, rfl⟩

theorem loadWindow_only (op : Nat) (r : TaskReq) (s : State) : ∃ x, loadWindow op r s = { s with regs := x } :=
  window_only (winBase r.window + 8) (winBase r.window + 0xF8) (winBase r.window + 0x300) (winBase r.window + 0x308)
    (winBase r.window) (r.args.take 31) (r.bulkAddr &&& ~~~0x3F#64) r.bulkCtrl
    (BitVec.ofNat 64 (op + if r.notify then 2 ^ 16 else 0)) s

theorem stored_fire_only (a b d n : Nat) (ws : List Word) (w : Word) (f : Bool) (s : State) :
    ∃ x g o, (if f = true then fire n ((storeWords a ws (clearRegs a b s)).setWord d w)
      else (storeWords a ws (clearRegs a b s)).setWord d w) = { s with regs := x, sig := g, outputs := o } := by
  obtain ⟨y, h⟩ := storeWords_only ws a (clearRegs a b s)
  rw [h]
  cases f with
  | false => exact ⟨_, _, _, rfl⟩
  | true =>
    obtain ⟨x, g, o, h'⟩ := fire_only n (State.setWord { clearRegs a b s with regs := y } d w) 0 0
    exact ⟨x, g, o, h'⟩

/-- The end of a task command changes registers, the Signal controller and what has left the part (03 R54, R55). -/
theorem finish_only (r : TaskReq) (code detail : Nat) (res : List Word) (s : State) :
    ∃ x g o, finish r code detail res s = { s with regs := x, sig := g, outputs := o } :=
  stored_fire_only (winBase r.window + 0x200) (winBase r.window + 0x2E8) (winBase r.window + 0x108) (32 + r.window)
    (res.take 30) (BitVec.ofNat 64 (2 ^ 62 + code * 2 ^ 32 + detail % 2 ^ 32)) r.notify s

/-! ## What each leaves alone -/

@[simp] theorem State.reach_pending (s : State) (T : Nat) : (s.reach T).pending = s.pending := by
  obtain ⟨_, _, h⟩ := reach_only s T; rw [h]
@[simp] theorem State.reach_regs (s : State) (T : Nat) : (s.reach T).regs = s.regs := by
  obtain ⟨_, _, h⟩ := reach_only s T; rw [h]
@[simp] theorem State.reach_scratch (s : State) (T : Nat) : (s.reach T).scratch = s.scratch := by
  obtain ⟨_, _, h⟩ := reach_only s T; rw [h]
@[simp] theorem State.reach_lens (s : State) (T : Nat) : (s.reach T).lens = s.lens := by
  obtain ⟨_, _, h⟩ := reach_only s T; rw [h]
@[simp] theorem State.reach_ctl (s : State) (T : Nat) : (s.reach T).ctl = s.ctl := by
  obtain ⟨_, _, h⟩ := reach_only s T; rw [h]
@[simp] theorem State.reach_host (s : State) (T : Nat) : (s.reach T).host = s.host := by
  obtain ⟨_, _, h⟩ := reach_only s T; rw [h]
@[simp] theorem State.reach_wr (s : State) (T : Nat) : (s.reach T).wr = s.wr := by
  obtain ⟨_, _, h⟩ := reach_only s T; rw [h]
@[simp] theorem State.reach_rd (s : State) (T : Nat) : (s.reach T).rd = s.rd := by
  obtain ⟨_, _, h⟩ := reach_only s T; rw [h]
@[simp] theorem State.reach_media (s : State) (T : Nat) : (s.reach T).media = s.media := by
  obtain ⟨_, _, h⟩ := reach_only s T; rw [h]
@[simp] theorem State.reach_sml (s : State) (T : Nat) : (s.reach T).sml = s.sml := by
  obtain ⟨_, _, h⟩ := reach_only s T; rw [h]
@[simp] theorem State.reach_md (s : State) (T : Nat) : (s.reach T).md = s.md := by
  obtain ⟨_, _, h⟩ := reach_only s T; rw [h]
@[simp] theorem State.reach_peer (s : State) (T : Nat) : (s.reach T).peer = s.peer := by
  obtain ⟨_, _, h⟩ := reach_only s T; rw [h]
@[simp] theorem State.reach_hup (s : State) (T : Nat) : (s.reach T).hup = s.hup := by
  obtain ⟨_, _, h⟩ := reach_only s T; rw [h]
@[simp] theorem State.reach_repl (s : State) (T : Nat) : (s.reach T).repl = s.repl := by
  obtain ⟨_, _, h⟩ := reach_only s T; rw [h]
@[simp] theorem State.reach_eng (s : State) (T : Nat) : (s.reach T).eng = s.eng := by
  obtain ⟨_, _, h⟩ := reach_only s T; rw [h]
@[simp] theorem State.reach_sig (s : State) (T : Nat) : (s.reach T).sig = s.sig := by
  obtain ⟨_, _, h⟩ := reach_only s T; rw [h]
@[simp] theorem State.reach_env (s : State) (T : Nat) : (s.reach T).env = s.env := by
  obtain ⟨_, _, h⟩ := reach_only s T; rw [h]
@[simp] theorem State.reach_ubQueue (s : State) (T : Nat) : (s.reach T).ubQueue = s.ubQueue := by
  obtain ⟨_, _, h⟩ := reach_only s T; rw [h]
@[simp] theorem State.reach_outputs (s : State) (T : Nat) : (s.reach T).outputs = s.outputs := by
  obtain ⟨_, _, h⟩ := reach_only s T; rw [h]
@[simp] theorem State.reach_free (s : State) (T : Nat) : (s.reach T).free = s.free := by
  obtain ⟨_, _, h⟩ := reach_only s T; rw [h]

@[simp] theorem fire_pending (n : Nat) (s : State) (c d : Nat) : (fire n s c d).pending = s.pending := by
  obtain ⟨_, _, _, h⟩ := fire_only n s c d; rw [h]
@[simp] theorem fire_now (n : Nat) (s : State) (c d : Nat) : (fire n s c d).now = s.now := by
  obtain ⟨_, _, _, h⟩ := fire_only n s c d; rw [h]
@[simp] theorem fire_scratch (n : Nat) (s : State) (c d : Nat) : (fire n s c d).scratch = s.scratch := by
  obtain ⟨_, _, _, h⟩ := fire_only n s c d; rw [h]
@[simp] theorem fire_lens (n : Nat) (s : State) (c d : Nat) : (fire n s c d).lens = s.lens := by
  obtain ⟨_, _, _, h⟩ := fire_only n s c d; rw [h]
@[simp] theorem fire_ctl (n : Nat) (s : State) (c d : Nat) : (fire n s c d).ctl = s.ctl := by
  obtain ⟨_, _, _, h⟩ := fire_only n s c d; rw [h]
@[simp] theorem fire_host (n : Nat) (s : State) (c d : Nat) : (fire n s c d).host = s.host := by
  obtain ⟨_, _, _, h⟩ := fire_only n s c d; rw [h]
@[simp] theorem fire_wr (n : Nat) (s : State) (c d : Nat) : (fire n s c d).wr = s.wr := by
  obtain ⟨_, _, _, h⟩ := fire_only n s c d; rw [h]
@[simp] theorem fire_rd (n : Nat) (s : State) (c d : Nat) : (fire n s c d).rd = s.rd := by
  obtain ⟨_, _, _, h⟩ := fire_only n s c d; rw [h]
@[simp] theorem fire_media (n : Nat) (s : State) (c d : Nat) : (fire n s c d).media = s.media := by
  obtain ⟨_, _, _, h⟩ := fire_only n s c d; rw [h]
@[simp] theorem fire_sml (n : Nat) (s : State) (c d : Nat) : (fire n s c d).sml = s.sml := by
  obtain ⟨_, _, _, h⟩ := fire_only n s c d; rw [h]
@[simp] theorem fire_md (n : Nat) (s : State) (c d : Nat) : (fire n s c d).md = s.md := by
  obtain ⟨_, _, _, h⟩ := fire_only n s c d; rw [h]
@[simp] theorem fire_peer (n : Nat) (s : State) (c d : Nat) : (fire n s c d).peer = s.peer := by
  obtain ⟨_, _, _, h⟩ := fire_only n s c d; rw [h]
@[simp] theorem fire_hup (n : Nat) (s : State) (c d : Nat) : (fire n s c d).hup = s.hup := by
  obtain ⟨_, _, _, h⟩ := fire_only n s c d; rw [h]
@[simp] theorem fire_repl (n : Nat) (s : State) (c d : Nat) : (fire n s c d).repl = s.repl := by
  obtain ⟨_, _, _, h⟩ := fire_only n s c d; rw [h]
@[simp] theorem fire_eng (n : Nat) (s : State) (c d : Nat) : (fire n s c d).eng = s.eng := by
  obtain ⟨_, _, _, h⟩ := fire_only n s c d; rw [h]
@[simp] theorem fire_kpr (n : Nat) (s : State) (c d : Nat) : (fire n s c d).kpr = s.kpr := by
  obtain ⟨_, _, _, h⟩ := fire_only n s c d; rw [h]
@[simp] theorem fire_boot (n : Nat) (s : State) (c d : Nat) : (fire n s c d).boot = s.boot := by
  obtain ⟨_, _, _, h⟩ := fire_only n s c d; rw [h]
@[simp] theorem fire_env (n : Nat) (s : State) (c d : Nat) : (fire n s c d).env = s.env := by
  obtain ⟨_, _, _, h⟩ := fire_only n s c d; rw [h]
@[simp] theorem fire_ubQueue (n : Nat) (s : State) (c d : Nat) : (fire n s c d).ubQueue = s.ubQueue := by
  obtain ⟨_, _, _, h⟩ := fire_only n s c d; rw [h]
@[simp] theorem fire_free (n : Nat) (s : State) (c d : Nat) : (fire n s c d).free = s.free := by
  obtain ⟨_, _, _, h⟩ := fire_only n s c d; rw [h]

@[simp] theorem raiseFog_pending (n : Nat) (s : State) (a c : Nat) : (raiseFog n s a c).pending = s.pending := by
  obtain ⟨_, _, _, _, h⟩ := raiseFog_only n s a c; rw [h]
@[simp] theorem raiseFog_now (n : Nat) (s : State) (a c : Nat) : (raiseFog n s a c).now = s.now := by
  obtain ⟨_, _, _, _, h⟩ := raiseFog_only n s a c; rw [h]
@[simp] theorem raiseFog_scratch (n : Nat) (s : State) (a c : Nat) : (raiseFog n s a c).scratch = s.scratch := by
  obtain ⟨_, _, _, _, h⟩ := raiseFog_only n s a c; rw [h]
@[simp] theorem raiseFog_lens (n : Nat) (s : State) (a c : Nat) : (raiseFog n s a c).lens = s.lens := by
  obtain ⟨_, _, _, _, h⟩ := raiseFog_only n s a c; rw [h]
@[simp] theorem raiseFog_ctl (n : Nat) (s : State) (a c : Nat) : (raiseFog n s a c).ctl = s.ctl := by
  obtain ⟨_, _, _, _, h⟩ := raiseFog_only n s a c; rw [h]
@[simp] theorem raiseFog_host (n : Nat) (s : State) (a c : Nat) : (raiseFog n s a c).host = s.host := by
  obtain ⟨_, _, _, _, h⟩ := raiseFog_only n s a c; rw [h]
@[simp] theorem raiseFog_wr (n : Nat) (s : State) (a c : Nat) : (raiseFog n s a c).wr = s.wr := by
  obtain ⟨_, _, _, _, h⟩ := raiseFog_only n s a c; rw [h]
@[simp] theorem raiseFog_rd (n : Nat) (s : State) (a c : Nat) : (raiseFog n s a c).rd = s.rd := by
  obtain ⟨_, _, _, _, h⟩ := raiseFog_only n s a c; rw [h]
@[simp] theorem raiseFog_media (n : Nat) (s : State) (a c : Nat) : (raiseFog n s a c).media = s.media := by
  obtain ⟨_, _, _, _, h⟩ := raiseFog_only n s a c; rw [h]
@[simp] theorem raiseFog_sml (n : Nat) (s : State) (a c : Nat) : (raiseFog n s a c).sml = s.sml := by
  obtain ⟨_, _, _, _, h⟩ := raiseFog_only n s a c; rw [h]
@[simp] theorem raiseFog_md (n : Nat) (s : State) (a c : Nat) : (raiseFog n s a c).md = s.md := by
  obtain ⟨_, _, _, _, h⟩ := raiseFog_only n s a c; rw [h]
@[simp] theorem raiseFog_peer (n : Nat) (s : State) (a c : Nat) : (raiseFog n s a c).peer = s.peer := by
  obtain ⟨_, _, _, _, h⟩ := raiseFog_only n s a c; rw [h]
@[simp] theorem raiseFog_hup (n : Nat) (s : State) (a c : Nat) : (raiseFog n s a c).hup = s.hup := by
  obtain ⟨_, _, _, _, h⟩ := raiseFog_only n s a c; rw [h]
@[simp] theorem raiseFog_repl (n : Nat) (s : State) (a c : Nat) : (raiseFog n s a c).repl = s.repl := by
  obtain ⟨_, _, _, _, h⟩ := raiseFog_only n s a c; rw [h]
@[simp] theorem raiseFog_eng (n : Nat) (s : State) (a c : Nat) : (raiseFog n s a c).eng = s.eng := by
  obtain ⟨_, _, _, _, h⟩ := raiseFog_only n s a c; rw [h]
@[simp] theorem raiseFog_boot (n : Nat) (s : State) (a c : Nat) : (raiseFog n s a c).boot = s.boot := by
  obtain ⟨_, _, _, _, h⟩ := raiseFog_only n s a c; rw [h]
@[simp] theorem raiseFog_env (n : Nat) (s : State) (a c : Nat) : (raiseFog n s a c).env = s.env := by
  obtain ⟨_, _, _, _, h⟩ := raiseFog_only n s a c; rw [h]
@[simp] theorem raiseFog_ubQueue (n : Nat) (s : State) (a c : Nat) : (raiseFog n s a c).ubQueue = s.ubQueue := by
  obtain ⟨_, _, _, _, h⟩ := raiseFog_only n s a c; rw [h]
@[simp] theorem raiseFog_free (n : Nat) (s : State) (a c : Nat) : (raiseFog n s a c).free = s.free := by
  obtain ⟨_, _, _, _, h⟩ := raiseFog_only n s a c; rw [h]

@[simp] theorem captureErr_pending (c o : Nat) (s : State) : (captureErr c o s).pending = s.pending := by
  obtain ⟨_, _, _, h⟩ := captureErr_only c o s; rw [h]
@[simp] theorem captureErr_now (c o : Nat) (s : State) : (captureErr c o s).now = s.now := by
  obtain ⟨_, _, _, h⟩ := captureErr_only c o s; rw [h]
@[simp] theorem captureErr_scratch (c o : Nat) (s : State) : (captureErr c o s).scratch = s.scratch := by
  obtain ⟨_, _, _, h⟩ := captureErr_only c o s; rw [h]
@[simp] theorem captureErr_lens (c o : Nat) (s : State) : (captureErr c o s).lens = s.lens := by
  obtain ⟨_, _, _, h⟩ := captureErr_only c o s; rw [h]
@[simp] theorem captureErr_ctl (c o : Nat) (s : State) : (captureErr c o s).ctl = s.ctl := by
  obtain ⟨_, _, _, h⟩ := captureErr_only c o s; rw [h]
@[simp] theorem captureErr_host (c o : Nat) (s : State) : (captureErr c o s).host = s.host := by
  obtain ⟨_, _, _, h⟩ := captureErr_only c o s; rw [h]
@[simp] theorem captureErr_wr (c o : Nat) (s : State) : (captureErr c o s).wr = s.wr := by
  obtain ⟨_, _, _, h⟩ := captureErr_only c o s; rw [h]
@[simp] theorem captureErr_rd (c o : Nat) (s : State) : (captureErr c o s).rd = s.rd := by
  obtain ⟨_, _, _, h⟩ := captureErr_only c o s; rw [h]
@[simp] theorem captureErr_media (c o : Nat) (s : State) : (captureErr c o s).media = s.media := by
  obtain ⟨_, _, _, h⟩ := captureErr_only c o s; rw [h]
@[simp] theorem captureErr_sml (c o : Nat) (s : State) : (captureErr c o s).sml = s.sml := by
  obtain ⟨_, _, _, h⟩ := captureErr_only c o s; rw [h]
@[simp] theorem captureErr_md (c o : Nat) (s : State) : (captureErr c o s).md = s.md := by
  obtain ⟨_, _, _, h⟩ := captureErr_only c o s; rw [h]
@[simp] theorem captureErr_peer (c o : Nat) (s : State) : (captureErr c o s).peer = s.peer := by
  obtain ⟨_, _, _, h⟩ := captureErr_only c o s; rw [h]
@[simp] theorem captureErr_hup (c o : Nat) (s : State) : (captureErr c o s).hup = s.hup := by
  obtain ⟨_, _, _, h⟩ := captureErr_only c o s; rw [h]
@[simp] theorem captureErr_repl (c o : Nat) (s : State) : (captureErr c o s).repl = s.repl := by
  obtain ⟨_, _, _, h⟩ := captureErr_only c o s; rw [h]
@[simp] theorem captureErr_eng (c o : Nat) (s : State) : (captureErr c o s).eng = s.eng := by
  obtain ⟨_, _, _, h⟩ := captureErr_only c o s; rw [h]
@[simp] theorem captureErr_kpr (c o : Nat) (s : State) : (captureErr c o s).kpr = s.kpr := by
  obtain ⟨_, _, _, h⟩ := captureErr_only c o s; rw [h]
@[simp] theorem captureErr_boot (c o : Nat) (s : State) : (captureErr c o s).boot = s.boot := by
  obtain ⟨_, _, _, h⟩ := captureErr_only c o s; rw [h]
@[simp] theorem captureErr_env (c o : Nat) (s : State) : (captureErr c o s).env = s.env := by
  obtain ⟨_, _, _, h⟩ := captureErr_only c o s; rw [h]
@[simp] theorem captureErr_ubQueue (c o : Nat) (s : State) : (captureErr c o s).ubQueue = s.ubQueue := by
  obtain ⟨_, _, _, h⟩ := captureErr_only c o s; rw [h]
@[simp] theorem captureErr_free (c o : Nat) (s : State) : (captureErr c o s).free = s.free := by
  obtain ⟨_, _, _, h⟩ := captureErr_only c o s; rw [h]

@[simp] theorem send_pending (s : State) (x : Output) : (s.send x).pending = s.pending := by
  obtain ⟨_, _, _, h⟩ := send_only s x; rw [h]
@[simp] theorem send_now (s : State) (x : Output) : (s.send x).now = s.now := by
  obtain ⟨_, _, _, h⟩ := send_only s x; rw [h]
@[simp] theorem send_regs (s : State) (x : Output) : (s.send x).regs = s.regs := by
  obtain ⟨_, _, _, h⟩ := send_only s x; rw [h]
@[simp] theorem send_scratch (s : State) (x : Output) : (s.send x).scratch = s.scratch := by
  obtain ⟨_, _, _, h⟩ := send_only s x; rw [h]
@[simp] theorem send_lens (s : State) (x : Output) : (s.send x).lens = s.lens := by
  obtain ⟨_, _, _, h⟩ := send_only s x; rw [h]
@[simp] theorem send_ctl (s : State) (x : Output) : (s.send x).ctl = s.ctl := by
  obtain ⟨_, _, _, h⟩ := send_only s x; rw [h]
@[simp] theorem send_host (s : State) (x : Output) : (s.send x).host = s.host := by
  obtain ⟨_, _, _, h⟩ := send_only s x; rw [h]
@[simp] theorem send_wr (s : State) (x : Output) : (s.send x).wr = s.wr := by
  obtain ⟨_, _, _, h⟩ := send_only s x; rw [h]
@[simp] theorem send_rd (s : State) (x : Output) : (s.send x).rd = s.rd := by
  obtain ⟨_, _, _, h⟩ := send_only s x; rw [h]
@[simp] theorem send_media (s : State) (x : Output) : (s.send x).media = s.media := by
  obtain ⟨_, _, _, h⟩ := send_only s x; rw [h]
@[simp] theorem send_sml (s : State) (x : Output) : (s.send x).sml = s.sml := by
  obtain ⟨_, _, _, h⟩ := send_only s x; rw [h]
@[simp] theorem send_md (s : State) (x : Output) : (s.send x).md = s.md := by
  obtain ⟨_, _, _, h⟩ := send_only s x; rw [h]
@[simp] theorem send_hup (s : State) (x : Output) : (s.send x).hup = s.hup := by
  obtain ⟨_, _, _, h⟩ := send_only s x; rw [h]
@[simp] theorem send_repl (s : State) (x : Output) : (s.send x).repl = s.repl := by
  obtain ⟨_, _, _, h⟩ := send_only s x; rw [h]
@[simp] theorem send_eng (s : State) (x : Output) : (s.send x).eng = s.eng := by
  obtain ⟨_, _, _, h⟩ := send_only s x; rw [h]
@[simp] theorem send_kpr (s : State) (x : Output) : (s.send x).kpr = s.kpr := by
  obtain ⟨_, _, _, h⟩ := send_only s x; rw [h]
@[simp] theorem send_sig (s : State) (x : Output) : (s.send x).sig = s.sig := by
  obtain ⟨_, _, _, h⟩ := send_only s x; rw [h]
@[simp] theorem send_boot (s : State) (x : Output) : (s.send x).boot = s.boot := by
  obtain ⟨_, _, _, h⟩ := send_only s x; rw [h]
@[simp] theorem send_env (s : State) (x : Output) : (s.send x).env = s.env := by
  obtain ⟨_, _, _, h⟩ := send_only s x; rw [h]
@[simp] theorem send_free (s : State) (x : Output) : (s.send x).free = s.free := by
  obtain ⟨_, _, _, h⟩ := send_only s x; rw [h]

@[simp] theorem sendAll_pending (s : State) (l : List Output) : (s.sendAll l).pending = s.pending := by
  obtain ⟨_, _, _, h⟩ := sendAll_only l s; rw [h]
@[simp] theorem sendAll_now (s : State) (l : List Output) : (s.sendAll l).now = s.now := by
  obtain ⟨_, _, _, h⟩ := sendAll_only l s; rw [h]
@[simp] theorem sendAll_regs (s : State) (l : List Output) : (s.sendAll l).regs = s.regs := by
  obtain ⟨_, _, _, h⟩ := sendAll_only l s; rw [h]
@[simp] theorem sendAll_scratch (s : State) (l : List Output) : (s.sendAll l).scratch = s.scratch := by
  obtain ⟨_, _, _, h⟩ := sendAll_only l s; rw [h]
@[simp] theorem sendAll_lens (s : State) (l : List Output) : (s.sendAll l).lens = s.lens := by
  obtain ⟨_, _, _, h⟩ := sendAll_only l s; rw [h]
@[simp] theorem sendAll_ctl (s : State) (l : List Output) : (s.sendAll l).ctl = s.ctl := by
  obtain ⟨_, _, _, h⟩ := sendAll_only l s; rw [h]
@[simp] theorem sendAll_host (s : State) (l : List Output) : (s.sendAll l).host = s.host := by
  obtain ⟨_, _, _, h⟩ := sendAll_only l s; rw [h]
@[simp] theorem sendAll_wr (s : State) (l : List Output) : (s.sendAll l).wr = s.wr := by
  obtain ⟨_, _, _, h⟩ := sendAll_only l s; rw [h]
@[simp] theorem sendAll_rd (s : State) (l : List Output) : (s.sendAll l).rd = s.rd := by
  obtain ⟨_, _, _, h⟩ := sendAll_only l s; rw [h]
@[simp] theorem sendAll_media (s : State) (l : List Output) : (s.sendAll l).media = s.media := by
  obtain ⟨_, _, _, h⟩ := sendAll_only l s; rw [h]
@[simp] theorem sendAll_sml (s : State) (l : List Output) : (s.sendAll l).sml = s.sml := by
  obtain ⟨_, _, _, h⟩ := sendAll_only l s; rw [h]
@[simp] theorem sendAll_md (s : State) (l : List Output) : (s.sendAll l).md = s.md := by
  obtain ⟨_, _, _, h⟩ := sendAll_only l s; rw [h]
@[simp] theorem sendAll_hup (s : State) (l : List Output) : (s.sendAll l).hup = s.hup := by
  obtain ⟨_, _, _, h⟩ := sendAll_only l s; rw [h]
@[simp] theorem sendAll_repl (s : State) (l : List Output) : (s.sendAll l).repl = s.repl := by
  obtain ⟨_, _, _, h⟩ := sendAll_only l s; rw [h]
@[simp] theorem sendAll_eng (s : State) (l : List Output) : (s.sendAll l).eng = s.eng := by
  obtain ⟨_, _, _, h⟩ := sendAll_only l s; rw [h]
@[simp] theorem sendAll_kpr (s : State) (l : List Output) : (s.sendAll l).kpr = s.kpr := by
  obtain ⟨_, _, _, h⟩ := sendAll_only l s; rw [h]
@[simp] theorem sendAll_sig (s : State) (l : List Output) : (s.sendAll l).sig = s.sig := by
  obtain ⟨_, _, _, h⟩ := sendAll_only l s; rw [h]
@[simp] theorem sendAll_boot (s : State) (l : List Output) : (s.sendAll l).boot = s.boot := by
  obtain ⟨_, _, _, h⟩ := sendAll_only l s; rw [h]
@[simp] theorem sendAll_env (s : State) (l : List Output) : (s.sendAll l).env = s.env := by
  obtain ⟨_, _, _, h⟩ := sendAll_only l s; rw [h]
@[simp] theorem sendAll_free (s : State) (l : List Output) : (s.sendAll l).free = s.free := by
  obtain ⟨_, _, _, h⟩ := sendAll_only l s; rw [h]

@[simp] theorem pumpPeer_pending (s : State) : (pumpPeer s).pending = s.pending := by
  obtain ⟨_, _, _, h⟩ := pumpPeer_only s; rw [h]
@[simp] theorem pumpPeer_now (s : State) : (pumpPeer s).now = s.now := by
  obtain ⟨_, _, _, h⟩ := pumpPeer_only s; rw [h]
@[simp] theorem pumpPeer_regs (s : State) : (pumpPeer s).regs = s.regs := by
  obtain ⟨_, _, _, h⟩ := pumpPeer_only s; rw [h]
@[simp] theorem pumpPeer_scratch (s : State) : (pumpPeer s).scratch = s.scratch := by
  obtain ⟨_, _, _, h⟩ := pumpPeer_only s; rw [h]
@[simp] theorem pumpPeer_lens (s : State) : (pumpPeer s).lens = s.lens := by
  obtain ⟨_, _, _, h⟩ := pumpPeer_only s; rw [h]
@[simp] theorem pumpPeer_ctl (s : State) : (pumpPeer s).ctl = s.ctl := by
  obtain ⟨_, _, _, h⟩ := pumpPeer_only s; rw [h]
@[simp] theorem pumpPeer_host (s : State) : (pumpPeer s).host = s.host := by
  obtain ⟨_, _, _, h⟩ := pumpPeer_only s; rw [h]
@[simp] theorem pumpPeer_wr (s : State) : (pumpPeer s).wr = s.wr := by
  obtain ⟨_, _, _, h⟩ := pumpPeer_only s; rw [h]
@[simp] theorem pumpPeer_rd (s : State) : (pumpPeer s).rd = s.rd := by
  obtain ⟨_, _, _, h⟩ := pumpPeer_only s; rw [h]
@[simp] theorem pumpPeer_media (s : State) : (pumpPeer s).media = s.media := by
  obtain ⟨_, _, _, h⟩ := pumpPeer_only s; rw [h]
@[simp] theorem pumpPeer_sml (s : State) : (pumpPeer s).sml = s.sml := by
  obtain ⟨_, _, _, h⟩ := pumpPeer_only s; rw [h]
@[simp] theorem pumpPeer_md (s : State) : (pumpPeer s).md = s.md := by
  obtain ⟨_, _, _, h⟩ := pumpPeer_only s; rw [h]
@[simp] theorem pumpPeer_hup (s : State) : (pumpPeer s).hup = s.hup := by
  obtain ⟨_, _, _, h⟩ := pumpPeer_only s; rw [h]
@[simp] theorem pumpPeer_repl (s : State) : (pumpPeer s).repl = s.repl := by
  obtain ⟨_, _, _, h⟩ := pumpPeer_only s; rw [h]
@[simp] theorem pumpPeer_eng (s : State) : (pumpPeer s).eng = s.eng := by
  obtain ⟨_, _, _, h⟩ := pumpPeer_only s; rw [h]
@[simp] theorem pumpPeer_kpr (s : State) : (pumpPeer s).kpr = s.kpr := by
  obtain ⟨_, _, _, h⟩ := pumpPeer_only s; rw [h]
@[simp] theorem pumpPeer_sig (s : State) : (pumpPeer s).sig = s.sig := by
  obtain ⟨_, _, _, h⟩ := pumpPeer_only s; rw [h]
@[simp] theorem pumpPeer_boot (s : State) : (pumpPeer s).boot = s.boot := by
  obtain ⟨_, _, _, h⟩ := pumpPeer_only s; rw [h]
@[simp] theorem pumpPeer_env (s : State) : (pumpPeer s).env = s.env := by
  obtain ⟨_, _, _, h⟩ := pumpPeer_only s; rw [h]
@[simp] theorem pumpPeer_free (s : State) : (pumpPeer s).free = s.free := by
  obtain ⟨_, _, _, h⟩ := pumpPeer_only s; rw [h]

@[simp] theorem finish_pending (r : TaskReq) (c d : Nat) (l : List Word) (s : State) : (finish r c d l s).pending = s.pending := by
  obtain ⟨_, _, _, h⟩ := finish_only r c d l s; rw [h]
@[simp] theorem finish_now (r : TaskReq) (c d : Nat) (l : List Word) (s : State) : (finish r c d l s).now = s.now := by
  obtain ⟨_, _, _, h⟩ := finish_only r c d l s; rw [h]
@[simp] theorem finish_scratch (r : TaskReq) (c d : Nat) (l : List Word) (s : State) : (finish r c d l s).scratch = s.scratch := by
  obtain ⟨_, _, _, h⟩ := finish_only r c d l s; rw [h]
@[simp] theorem finish_lens (r : TaskReq) (c d : Nat) (l : List Word) (s : State) : (finish r c d l s).lens = s.lens := by
  obtain ⟨_, _, _, h⟩ := finish_only r c d l s; rw [h]
@[simp] theorem finish_ctl (r : TaskReq) (c d : Nat) (l : List Word) (s : State) : (finish r c d l s).ctl = s.ctl := by
  obtain ⟨_, _, _, h⟩ := finish_only r c d l s; rw [h]
@[simp] theorem finish_host (r : TaskReq) (c d : Nat) (l : List Word) (s : State) : (finish r c d l s).host = s.host := by
  obtain ⟨_, _, _, h⟩ := finish_only r c d l s; rw [h]
@[simp] theorem finish_wr (r : TaskReq) (c d : Nat) (l : List Word) (s : State) : (finish r c d l s).wr = s.wr := by
  obtain ⟨_, _, _, h⟩ := finish_only r c d l s; rw [h]
@[simp] theorem finish_rd (r : TaskReq) (c d : Nat) (l : List Word) (s : State) : (finish r c d l s).rd = s.rd := by
  obtain ⟨_, _, _, h⟩ := finish_only r c d l s; rw [h]
@[simp] theorem finish_media (r : TaskReq) (c d : Nat) (l : List Word) (s : State) : (finish r c d l s).media = s.media := by
  obtain ⟨_, _, _, h⟩ := finish_only r c d l s; rw [h]
@[simp] theorem finish_sml (r : TaskReq) (c d : Nat) (l : List Word) (s : State) : (finish r c d l s).sml = s.sml := by
  obtain ⟨_, _, _, h⟩ := finish_only r c d l s; rw [h]
@[simp] theorem finish_md (r : TaskReq) (c d : Nat) (l : List Word) (s : State) : (finish r c d l s).md = s.md := by
  obtain ⟨_, _, _, h⟩ := finish_only r c d l s; rw [h]
@[simp] theorem finish_peer (r : TaskReq) (c d : Nat) (l : List Word) (s : State) : (finish r c d l s).peer = s.peer := by
  obtain ⟨_, _, _, h⟩ := finish_only r c d l s; rw [h]
@[simp] theorem finish_hup (r : TaskReq) (c d : Nat) (l : List Word) (s : State) : (finish r c d l s).hup = s.hup := by
  obtain ⟨_, _, _, h⟩ := finish_only r c d l s; rw [h]
@[simp] theorem finish_repl (r : TaskReq) (c d : Nat) (l : List Word) (s : State) : (finish r c d l s).repl = s.repl := by
  obtain ⟨_, _, _, h⟩ := finish_only r c d l s; rw [h]
@[simp] theorem finish_eng (r : TaskReq) (c d : Nat) (l : List Word) (s : State) : (finish r c d l s).eng = s.eng := by
  obtain ⟨_, _, _, h⟩ := finish_only r c d l s; rw [h]
@[simp] theorem finish_kpr (r : TaskReq) (c d : Nat) (l : List Word) (s : State) : (finish r c d l s).kpr = s.kpr := by
  obtain ⟨_, _, _, h⟩ := finish_only r c d l s; rw [h]
@[simp] theorem finish_boot (r : TaskReq) (c d : Nat) (l : List Word) (s : State) : (finish r c d l s).boot = s.boot := by
  obtain ⟨_, _, _, h⟩ := finish_only r c d l s; rw [h]
@[simp] theorem finish_env (r : TaskReq) (c d : Nat) (l : List Word) (s : State) : (finish r c d l s).env = s.env := by
  obtain ⟨_, _, _, h⟩ := finish_only r c d l s; rw [h]
@[simp] theorem finish_ubQueue (r : TaskReq) (c d : Nat) (l : List Word) (s : State) : (finish r c d l s).ubQueue = s.ubQueue := by
  obtain ⟨_, _, _, h⟩ := finish_only r c d l s; rw [h]
@[simp] theorem finish_free (r : TaskReq) (c d : Nat) (l : List Word) (s : State) : (finish r c d l s).free = s.free := by
  obtain ⟨_, _, _, h⟩ := finish_only r c d l s; rw [h]

@[simp] theorem loadWindow_pending (op : Nat) (r : TaskReq) (s : State) : (loadWindow op r s).pending = s.pending := by
  obtain ⟨_, h⟩ := loadWindow_only op r s; rw [h]
@[simp] theorem loadWindow_now (op : Nat) (r : TaskReq) (s : State) : (loadWindow op r s).now = s.now := by
  obtain ⟨_, h⟩ := loadWindow_only op r s; rw [h]
@[simp] theorem loadWindow_scratch (op : Nat) (r : TaskReq) (s : State) : (loadWindow op r s).scratch = s.scratch := by
  obtain ⟨_, h⟩ := loadWindow_only op r s; rw [h]
@[simp] theorem loadWindow_lens (op : Nat) (r : TaskReq) (s : State) : (loadWindow op r s).lens = s.lens := by
  obtain ⟨_, h⟩ := loadWindow_only op r s; rw [h]
@[simp] theorem loadWindow_ctl (op : Nat) (r : TaskReq) (s : State) : (loadWindow op r s).ctl = s.ctl := by
  obtain ⟨_, h⟩ := loadWindow_only op r s; rw [h]
@[simp] theorem loadWindow_host (op : Nat) (r : TaskReq) (s : State) : (loadWindow op r s).host = s.host := by
  obtain ⟨_, h⟩ := loadWindow_only op r s; rw [h]
@[simp] theorem loadWindow_wr (op : Nat) (r : TaskReq) (s : State) : (loadWindow op r s).wr = s.wr := by
  obtain ⟨_, h⟩ := loadWindow_only op r s; rw [h]
@[simp] theorem loadWindow_rd (op : Nat) (r : TaskReq) (s : State) : (loadWindow op r s).rd = s.rd := by
  obtain ⟨_, h⟩ := loadWindow_only op r s; rw [h]
@[simp] theorem loadWindow_media (op : Nat) (r : TaskReq) (s : State) : (loadWindow op r s).media = s.media := by
  obtain ⟨_, h⟩ := loadWindow_only op r s; rw [h]
@[simp] theorem loadWindow_sml (op : Nat) (r : TaskReq) (s : State) : (loadWindow op r s).sml = s.sml := by
  obtain ⟨_, h⟩ := loadWindow_only op r s; rw [h]
@[simp] theorem loadWindow_md (op : Nat) (r : TaskReq) (s : State) : (loadWindow op r s).md = s.md := by
  obtain ⟨_, h⟩ := loadWindow_only op r s; rw [h]
@[simp] theorem loadWindow_peer (op : Nat) (r : TaskReq) (s : State) : (loadWindow op r s).peer = s.peer := by
  obtain ⟨_, h⟩ := loadWindow_only op r s; rw [h]
@[simp] theorem loadWindow_hup (op : Nat) (r : TaskReq) (s : State) : (loadWindow op r s).hup = s.hup := by
  obtain ⟨_, h⟩ := loadWindow_only op r s; rw [h]
@[simp] theorem loadWindow_repl (op : Nat) (r : TaskReq) (s : State) : (loadWindow op r s).repl = s.repl := by
  obtain ⟨_, h⟩ := loadWindow_only op r s; rw [h]
@[simp] theorem loadWindow_eng (op : Nat) (r : TaskReq) (s : State) : (loadWindow op r s).eng = s.eng := by
  obtain ⟨_, h⟩ := loadWindow_only op r s; rw [h]
@[simp] theorem loadWindow_kpr (op : Nat) (r : TaskReq) (s : State) : (loadWindow op r s).kpr = s.kpr := by
  obtain ⟨_, h⟩ := loadWindow_only op r s; rw [h]
@[simp] theorem loadWindow_sig (op : Nat) (r : TaskReq) (s : State) : (loadWindow op r s).sig = s.sig := by
  obtain ⟨_, h⟩ := loadWindow_only op r s; rw [h]
@[simp] theorem loadWindow_boot (op : Nat) (r : TaskReq) (s : State) : (loadWindow op r s).boot = s.boot := by
  obtain ⟨_, h⟩ := loadWindow_only op r s; rw [h]
@[simp] theorem loadWindow_env (op : Nat) (r : TaskReq) (s : State) : (loadWindow op r s).env = s.env := by
  obtain ⟨_, h⟩ := loadWindow_only op r s; rw [h]
@[simp] theorem loadWindow_ubQueue (op : Nat) (r : TaskReq) (s : State) : (loadWindow op r s).ubQueue = s.ubQueue := by
  obtain ⟨_, h⟩ := loadWindow_only op r s; rw [h]
@[simp] theorem loadWindow_outputs (op : Nat) (r : TaskReq) (s : State) : (loadWindow op r s).outputs = s.outputs := by
  obtain ⟨_, h⟩ := loadWindow_only op r s; rw [h]
@[simp] theorem loadWindow_free (op : Nat) (r : TaskReq) (s : State) : (loadWindow op r s).free = s.free := by
  obtain ⟨_, h⟩ := loadWindow_only op r s; rw [h]

end Sys2Proof.Machine
end

