-- ==== Sys2Proof/Laws/Task.lean ====
section
/-!
SUPPORT. What a task command does once its GO is taken; registers outside the window stay as they were.
-/
namespace Sys2Proof.Machine

/-! ## Registers outside the window -/

theorem word_clearRegs (lo hi p : Nat) (s : State) (h : p < lo ∨ hi < p) : (clearRegs lo hi s).word p = s.word p := by
  unfold State.word wordAt clearRegs
  simp only
  induction s.regs with
  | nil => rfl
  | cons e t ih =>
    obtain ⟨a, x⟩ := e
    rw [List.filter_cons]
    split
    · by_cases hp : a = p
      · simp [readAt, hp]
      · simpa [readAt, hp] using ih
    · rename_i hk
      have hne : a ≠ p := by
        simp at hk
        omega
      simpa [readAt, hne] using ih

theorem word_storeWords (ws : List Word) : ∀ (b p : Nat) (s : State), (p < b ∨ b + 8 * ws.length ≤ p) →
    (storeWords b ws s).word p = s.word p := by
  induction ws with
  | nil => intro b p s _; rfl
  | cons w ws ih =>
    intro b p s h
    simp only [List.length_cons] at h
    unfold storeWords
    rw [ih (b + 8) p _ (by omega), State.word_setWord_ne]
    omega

/-- What GO loads into a window stands between its first register and its bulk registers. -/
theorem word_loadWindow (op : Nat) (r : TaskReq) (s : State) (p : Nat)
    (h : p < winBase r.window ∨ winBase r.window + 0x308 < p) : (loadWindow op r s).word p = s.word p := by
  have hl : (r.args.take 31).length ≤ 31 := by simp
  unfold loadWindow
  simp only
  rw [State.word_setWord_ne _ _ _ _ (by omega), State.word_setWord_ne _ _ _ _ (by omega),
    State.word_setWord_ne _ _ _ _ (by omega), word_storeWords _ _ _ _ (by omega), word_clearRegs _ _ _ _ (by omega)]

/-- The other registers of the window that GO does not load: TSK_GO, TSK_STATUS and the results. -/
theorem word_loadWindow_status (op : Nat) (r : TaskReq) (s : State) (p : Nat)
    (h : winBase r.window + 0x100 ≤ p ∧ p < winBase r.window + 0x300) : (loadWindow op r s).word p = s.word p := by
  have hl : (r.args.take 31).length ≤ 31 := by simp
  unfold loadWindow
  simp only
  rw [State.word_setWord_ne _ _ _ _ (by omega), State.word_setWord_ne _ _ _ _ (by omega),
    State.word_setWord_ne _ _ _ _ (by omega), word_storeWords _ _ _ _ (by omega), word_clearRegs _ _ _ _ (by omega)]

theorem winBase_range (w : Fin 4) : 0x11000 ≤ winBase w ∧ winBase w ≤ 0x14000 := by
  have := w.isLt
  unfold winBase
  omega

/-- Registers outside the task windows read what they read before. -/
theorem word_taken (t : TaskSpec) (r : TaskReq) (s : State) (p : Nat) (h : p < 0x11000 ∨ 0x15000 ≤ p) :
    (taken t r s).word p = s.word p := by
  have hw := winBase_range r.window
  unfold taken
  simp only
  split
  · rw [State.word_setWord_ne _ _ _ _ (by omega), word_loadWindow _ _ _ _ (by omega)]
  · exact word_loadWindow _ _ _ _ (by omega)

theorem taken_only (t : TaskSpec) (r : TaskReq) (s : State) : ∃ x, taken t r s = { s with regs := x } := by
  unfold taken
  obtain ⟨x, h⟩ := loadWindow_only t.opcode r s
  rw [h]
  simp only
  split
  · exact ⟨_, rfl⟩
  · exact ⟨_, rfl⟩

@[simp] theorem taken_pending (t : TaskSpec) (r : TaskReq) (s : State) : (taken t r s).pending = s.pending := by
  obtain ⟨_, h⟩ := taken_only t r s; rw [h]
@[simp] theorem taken_now (t : TaskSpec) (r : TaskReq) (s : State) : (taken t r s).now = s.now := by
  obtain ⟨_, h⟩ := taken_only t r s; rw [h]
@[simp] theorem taken_scratch (t : TaskSpec) (r : TaskReq) (s : State) : (taken t r s).scratch = s.scratch := by
  obtain ⟨_, h⟩ := taken_only t r s; rw [h]
@[simp] theorem taken_lens (t : TaskSpec) (r : TaskReq) (s : State) : (taken t r s).lens = s.lens := by
  obtain ⟨_, h⟩ := taken_only t r s; rw [h]
@[simp] theorem taken_ctl (t : TaskSpec) (r : TaskReq) (s : State) : (taken t r s).ctl = s.ctl := by
  obtain ⟨_, h⟩ := taken_only t r s; rw [h]
@[simp] theorem taken_host (t : TaskSpec) (r : TaskReq) (s : State) : (taken t r s).host = s.host := by
  obtain ⟨_, h⟩ := taken_only t r s; rw [h]
@[simp] theorem taken_wr (t : TaskSpec) (r : TaskReq) (s : State) : (taken t r s).wr = s.wr := by
  obtain ⟨_, h⟩ := taken_only t r s; rw [h]
@[simp] theorem taken_rd (t : TaskSpec) (r : TaskReq) (s : State) : (taken t r s).rd = s.rd := by
  obtain ⟨_, h⟩ := taken_only t r s; rw [h]
@[simp] theorem taken_media (t : TaskSpec) (r : TaskReq) (s : State) : (taken t r s).media = s.media := by
  obtain ⟨_, h⟩ := taken_only t r s; rw [h]
@[simp] theorem taken_sml (t : TaskSpec) (r : TaskReq) (s : State) : (taken t r s).sml = s.sml := by
  obtain ⟨_, h⟩ := taken_only t r s; rw [h]
@[simp] theorem taken_md (t : TaskSpec) (r : TaskReq) (s : State) : (taken t r s).md = s.md := by
  obtain ⟨_, h⟩ := taken_only t r s; rw [h]
@[simp] theorem taken_peer (t : TaskSpec) (r : TaskReq) (s : State) : (taken t r s).peer = s.peer := by
  obtain ⟨_, h⟩ := taken_only t r s; rw [h]
@[simp] theorem taken_hup (t : TaskSpec) (r : TaskReq) (s : State) : (taken t r s).hup = s.hup := by
  obtain ⟨_, h⟩ := taken_only t r s; rw [h]
@[simp] theorem taken_repl (t : TaskSpec) (r : TaskReq) (s : State) : (taken t r s).repl = s.repl := by
  obtain ⟨_, h⟩ := taken_only t r s; rw [h]
@[simp] theorem taken_eng (t : TaskSpec) (r : TaskReq) (s : State) : (taken t r s).eng = s.eng := by
  obtain ⟨_, h⟩ := taken_only t r s; rw [h]
@[simp] theorem taken_kpr (t : TaskSpec) (r : TaskReq) (s : State) : (taken t r s).kpr = s.kpr := by
  obtain ⟨_, h⟩ := taken_only t r s; rw [h]
@[simp] theorem taken_sig (t : TaskSpec) (r : TaskReq) (s : State) : (taken t r s).sig = s.sig := by
  obtain ⟨_, h⟩ := taken_only t r s; rw [h]
@[simp] theorem taken_boot (t : TaskSpec) (r : TaskReq) (s : State) : (taken t r s).boot = s.boot := by
  obtain ⟨_, h⟩ := taken_only t r s; rw [h]
@[simp] theorem taken_env (t : TaskSpec) (r : TaskReq) (s : State) : (taken t r s).env = s.env := by
  obtain ⟨_, h⟩ := taken_only t r s; rw [h]
@[simp] theorem taken_ubQueue (t : TaskSpec) (r : TaskReq) (s : State) : (taken t r s).ubQueue = s.ubQueue := by
  obtain ⟨_, h⟩ := taken_only t r s; rw [h]
@[simp] theorem taken_outputs (t : TaskSpec) (r : TaskReq) (s : State) : (taken t r s).outputs = s.outputs := by
  obtain ⟨_, h⟩ := taken_only t r s; rw [h]
@[simp] theorem taken_free (t : TaskSpec) (r : TaskReq) (s : State) : (taken t r s).free = s.free := by
  obtain ⟨_, h⟩ := taken_only t r s; rw [h]

/-- Fields of registers outside the task windows read what they read before. -/
theorem fld_taken (t : TaskSpec) (r : TaskReq) (s : State) (f : Fld) (i j : Nat) (h : f.off i j < 0x11000 ∨ 0x15000 ≤ f.off i j) :
    (taken t r s).fld f i j = s.fld f i j := by
  unfold State.fld; rw [word_taken _ _ _ _ h]

/-! ## The command's own part -/

theorem keeperA_taken (t : TaskSpec) (r : TaskReq) (s : State) : (taken t r s).keeperA = s.keeperA := by
  unfold State.keeperA State.fld
  rw [word_taken _ _ _ _ (by decide), word_taken _ _ _ _ (by decide)]

theorem keeperA_loadWindow (op : Nat) (r : TaskReq) (s : State) : (loadWindow op r s).keeperA = s.keeperA := by
  have hw := winBase_range r.window
  unfold State.keeperA State.fld
  rw [word_loadWindow _ _ _ _ (by right; simp [Fld.off, Reg.fKPR_STATE_A_STATE]; omega),
    word_loadWindow _ _ _ _ (by right; simp [Fld.off, Reg.fKPR_STATE_B_STATE]; omega)]

theorem tokenFault_loadWindow (op o : Nat) (r : TaskReq) (s : State) :
    tokenFault o r (loadWindow op r s) = tokenFault o r s := by
  unfold tokenFault
  by_cases hw : r.window = 1
  · have hb : winBase r.window = 0x12000 := by rw [hw]; decide
    have : (loadWindow op r s).word 0x12400 = s.word 0x12400 := word_loadWindow _ _ _ _ (by omega)
    simp [this, State.ownerKey]
  · simp [hw]

theorem goes_iff (t : TaskSpec) (m : List (Nat × Nat)) (r : TaskReq) (s : State) :
    goes t m r s = true ↔ s.up = true ∧ r.resume = false ∧ pathOpen r s = true ∧ s.boot.recovery = false ∧
      s.busy r.window = false ∧ s.keeperA = some true ∧ t.windows.contains r.window.val = true ∧
      tokenFault t.opcode r s = none ∧ bulkCheck t.bulk r = none ∧ r.badArg m = none := by
  simp only [goes, Bool.and_eq_true, Bool.not_eq_true', beq_iff_eq, Option.isNone_iff_eq_none]
  tauto

/-- A GO that is taken ends as its own part says. -/
theorem taskCmd_goes (t : TaskSpec) (m : List (Nat × Nat)) (r : TaskReq) (body : State → TaskOut) (s : State)
    (h : goes t m r s = true) :
    taskCmd t m r body s = .next (match body (taken t r s) with
      | .fail c d res => finish r c d res (taken t r s)
      | .done s' c d res => finish r c d res s'
      | .later s' => stayBusy r.window s') := by
  obtain ⟨hup, hres, hpath, hrec, hbusy, hk, hwin, htok, hbulk, harg⟩ := (goes_iff t m r s).1 h
  have hk' : (loadWindow t.opcode r s).keeperA = some true := by rw [keeperA_loadWindow, hk]
  have htk : (taken t r s).keeperA = some true := by rw [keeperA_taken, hk]
  have htok' : tokenFault t.opcode r (loadWindow t.opcode r s) = none := by rw [tokenFault_loadWindow, htok]
  have hrec' : (taken t r s).boot.recovery = false := by
    obtain ⟨x, hx⟩ := taken_only t r s
    rw [hx]
    exact hrec
  unfold taskCmd act
  rw [if_pos hup]
  congr 1
  have hT : (if (r.window == 1) = true then (loadWindow t.opcode r s).setWord 0x12400 r.nonce
      else loadWindow t.opcode r s) = taken t r s := rfl
  unfold runTask
  simp only [hres, hpath, hrec, hbusy, hk', Bool.false_eq_true, if_false, Bool.not_true, Bool.false_and, Bool.or_self]
  rw [if_neg (by decide)]
  unfold runStarted
  simp only [htok', hT, htk, hwin, hrec', Bool.not_true, Bool.false_and, Bool.or_self, Bool.false_eq_true, if_false,
    hbulk, harg] <;>
  cases body (taken t r s) <;> rfl

/-- The outcome of a GO that is taken and whose own part is done. -/
theorem taskCmd_done (t : TaskSpec) (m : List (Nat × Nat)) (r : TaskReq) (body : State → TaskOut) (s s' : State)
    (c d : Nat) (res : List Word) (h : goes t m r s = true) (hb : body (taken t r s) = .done s' c d res) :
    taskCmd t m r body s = .next (finish r c d res s') := by
  rw [taskCmd_goes t m r body s h, hb]

/-- The outcome of a GO that is taken and whose own part fails. -/
theorem taskCmd_fail (t : TaskSpec) (m : List (Nat × Nat)) (r : TaskReq) (body : State → TaskOut) (s : State)
    (c d : Nat) (res : List Word) (h : goes t m r s = true) (hb : body (taken t r s) = .fail c d res) :
    taskCmd t m r body s = .next (finish r c d res (taken t r s)) := by
  rw [taskCmd_goes t m r body s h, hb]

/-! ## What the window shows afterwards -/

theorem word_sendVector (v p : Nat) (s : State) : (sendVector v s).word p = s.word p := by
  obtain ⟨_, _, h⟩ := sendVector_only v s; rw [h]; rfl

theorem word_pendSource (n p : Nat) (s : State) : (pendSource n s).word p = s.word p := by
  obtain ⟨_, _, h⟩ := pendSource_only n s; rw [h]; rfl

theorem word_emit (o : Output) (p : Nat) (s : State) : (s.emit o).word p = s.word p := rfl

theorem word_send (o : Output) (p : Nat) (s : State) : (s.send o).word p = s.word p := by
  obtain ⟨_, _, _, h⟩ := send_only s o; rw [h]; rfl

/-- The one register that an event record moves. -/
abbrev sigStatus : Nat := Reg.SIG_STATUS.base

theorem word_writeRecord (n c d p : Nat) (s : State) (h : p ≠ sigStatus) : (writeRecord n c d s).word p = s.word p := by
  unfold writeRecord
  split
  · simp only
    split
    · exact State.word_setFld_ne _ _ _ _ _ _ h
    · split
      · show (State.setFld _ _ _ 0 0).word p = _
        rw [State.word_setFld_ne _ _ _ _ _ _ h, word_send]
      · rw [State.word_setFld_ne _ _ _ _ _ _ h, word_send]
  · rfl

/-- An event moves no register but SIG_STATUS. -/
theorem word_fire (n c d p : Nat) (s : State) (h : p ≠ sigStatus) : (fire n s c d).word p = s.word p := by
  unfold fire
  split
  · rw [word_pendSource]
    split
    · exact word_writeRecord n c d p s h
    · rfl
  · rfl

theorem fld_fire (n c d i j : Nat) (f : Fld) (s : State) (h : f.off i j ≠ sigStatus) : (fire n s c d).fld f i j = s.fld f i j := by
  unfold State.fld; rw [word_fire _ _ _ _ _ h]

theorem word_storeWords_at (ws : List Word) : ∀ (b k : Nat) (s : State), k < ws.length →
    (storeWords b ws s).word (b + 8 * k) = (ws[k]?).getD 0 := by
  induction ws with
  | nil => intro b k s h; simp at h
  | cons w ws ih =>
    intro b k s h
    unfold storeWords
    cases k with
    | zero =>
      rw [word_storeWords _ _ _ _ (by omega)]
      simp
    | succ k =>
      have e : b + 8 * (k + 1) = b + 8 + 8 * k := by omega
      rw [e, ih (b + 8) k _ (by simpa using h)]
      simp

theorem word_clearRegs_in (lo hi p : Nat) (s : State) (h : lo ≤ p ∧ p ≤ hi) : (clearRegs lo hi s).word p = resetWord p := by
  unfold State.word wordAt clearRegs
  simp only
  induction s.regs with
  | nil => rfl
  | cons e t ih =>
    obtain ⟨a, x⟩ := e
    rw [List.filter_cons]
    split
    · rename_i hk
      have hne : a ≠ p := by
        intro e
        subst e
        simp at hk
        omega
      simpa [readAt, hne] using ih
    · exact ih

theorem resetWord_results : ∀ w : Fin 4, ∀ k : Fin 30, resetWord (winBase w + 0x200 + 8 * k) = 0 := by decide

/-- What the window shows of a command that has ended. -/
theorem finish_answered (r : TaskReq) (c d : Nat) (res : List Word) (s : State) (hl : res.length ≤ 30) :
    answered r c d res (finish r c d res s) := by
  have hw := winBase_range r.window
  have hne : ∀ p, 0x11000 ≤ p → p < 0x15000 → p ≠ sigStatus := by intro p _ h; simp [sigStatus, Reg.SIG_STATUS]; omega
  have ht : res.take 30 = res := List.take_of_length_le hl
  have hf : ∀ p, 0x11000 ≤ p → p < 0x15000 → (finish r c d res s).word p =
      (((storeWords (winBase r.window + 0x200) res (clearRegs (winBase r.window + 0x200) (winBase r.window + 0x2E8) s)).setWord
        (winBase r.window + 0x108) (BitVec.ofNat 64 (2 ^ 62 + c * 2 ^ 32 + d % 2 ^ 32))).word p) := by
    intro p h1 h2
    unfold finish
    simp only [ht]
    split
    · exact word_fire _ _ _ _ _ (hne p h1 h2)
    · rfl
  refine ⟨?_, fun k hk => ?_⟩
  · rw [hf _ (by omega) (by omega), State.word_setWord_same]
  · rw [hf _ (by omega) (by omega), State.word_setWord_ne _ _ _ _ (by omega)]
    by_cases hkl : k < res.length
    · exact word_storeWords_at res _ k _ hkl
    · rw [word_storeWords _ _ _ _ (by omega), word_clearRegs_in _ _ _ _ (by omega), resetWord_results r.window ⟨k, hk⟩]
      rw [List.getElem?_eq_none (by omega)]
      rfl

/-! ## What a window leaves alone -/

theorem windowOnly_refl (s : State) : windowOnly s s := ⟨rfl, fun _ _ _ => rfl⟩

theorem windowOnly_trans (s t u : State) (h : windowOnly s t) (h' : windowOnly t u) : windowOnly s u := by
  refine ⟨?_, fun p hp hn => by rw [h'.2 p hp hn, h.2 p hp hn]⟩
  rw [h'.1, h.1]

theorem windowOnly_taken (t : TaskSpec) (r : TaskReq) (s : State) : windowOnly s (taken t r s) := by
  refine ⟨?_, fun p hp _ => word_taken t r s p hp⟩
  obtain ⟨x, h⟩ := taken_only t r s
  rw [h]

theorem word_finish (r : TaskReq) (c d : Nat) (res : List Word) (s : State) (p : Nat) (hp : p < 0x11000 ∨ 0x15000 ≤ p)
    (hn : p ≠ sigStatus) : (finish r c d res s).word p = s.word p := by
  have hw := winBase_range r.window
  have hl : (res.take 30).length ≤ 30 := by simp
  have hr : (storeWords (winBase r.window + 0x200) (res.take 30) (clearRegs (winBase r.window + 0x200) (winBase r.window + 0x2E8) s)).word p
      = s.word p := by rw [word_storeWords _ _ _ _ (by omega), word_clearRegs _ _ _ _ (by omega)]
  unfold finish
  simp only
  split
  · rw [word_fire _ _ _ _ _ hn, State.word_setWord_ne _ _ _ _ (by omega), hr]
  · rw [State.word_setWord_ne _ _ _ _ (by omega), hr]

theorem windowOnly_finish (r : TaskReq) (c d : Nat) (res : List Word) (s : State) : windowOnly s (finish r c d res s) := by
  refine ⟨?_, fun p hp hn => word_finish r c d res s p hp hn⟩
  obtain ⟨x, g, o, h⟩ := finish_only r c d res s
  rw [h]

/-- A change of state that reads and writes neither registers, Signal controller nor outputs acts the same behind a window. -/
theorem windowOnly_map (f : State → State) (s t : State) (h : windowOnly s t)
    (hf : ∀ r g o, f { s with regs := r, sig := g, outputs := o } = { f s with regs := r, sig := g, outputs := o })
    (hr : (f s).regs = s.regs) : windowOnly (f s) (f t) := by
  have e := hf t.regs t.sig t.outputs
  rw [← h.1] at e
  refine ⟨?_, fun p hp hn => ?_⟩
  · rw [e]
  · have h1 : (f t).word p = t.word p := by rw [e]; rfl
    have h2 : (f s).word p = s.word p := by unfold State.word; rw [hr]
    rw [h1, h2, h.2 p hp hn]

/-- A task command whose own part is done, as the window shows it and as the state shows it. -/
theorem taskCmd_answered (t : TaskSpec) (m : List (Nat × Nat)) (r : TaskReq) (body : State → TaskOut) (s s' u : State)
    (c d : Nat) (res : List Word) (h : goes t m r s = true) (hb : body (taken t r s) = .done s' c d res)
    (hl : res.length ≤ 30) (hu : windowOnly u s') :
    ∃ x, taskCmd t m r body s = .next x ∧ answered r c d res x ∧ windowOnly u x :=
  ⟨_, taskCmd_done t m r body s s' c d res h hb, finish_answered r c d res s' hl,
    windowOnly_trans _ _ _ hu (windowOnly_finish r c d res s')⟩

/-- A task command that only answers. -/
theorem taskCmd_read (t : TaskSpec) (m : List (Nat × Nat)) (r : TaskReq) (body : State → TaskOut) (s : State)
    (c d : Nat) (res : List Word) (h : goes t m r s = true) (hl : res.length ≤ 30)
    (hb : body (taken t r s) = .done (taken t r s) c d res) :
    ∃ x, taskCmd t m r body s = .next x ∧ answered r c d res x ∧ windowOnly s x :=
  taskCmd_answered t m r body s _ s c d res h hb hl (windowOnly_taken t r s)

/-- A task command whose effect `f` has nothing to do with registers, Signal controller and outputs. -/
theorem taskCmd_effect (f : State → State) (t : TaskSpec) (m : List (Nat × Nat)) (r : TaskReq) (body : State → TaskOut)
    (s : State) (c d : Nat) (res : List Word) (h : goes t m r s = true) (hl : res.length ≤ 30)
    (hf : ∀ r g o, f { s with regs := r, sig := g, outputs := o } = { f s with regs := r, sig := g, outputs := o })
    (hr : (f s).regs = s.regs) (hb : body (taken t r s) = .done (f (taken t r s)) c d res) :
    ∃ x, taskCmd t m r body s = .next x ∧ answered r c d res x ∧ windowOnly (f s) x :=
  taskCmd_answered t m r body s _ (f s) c d res h hb hl (windowOnly_map f s _ (windowOnly_taken t r s) hf hr)

/-- A task command that fails changes nothing but its window. -/
theorem taskCmd_refused (t : TaskSpec) (m : List (Nat × Nat)) (r : TaskReq) (body : State → TaskOut) (s : State)
    (c d : Nat) (res : List Word) (h : goes t m r s = true) (hb : body (taken t r s) = .fail c d res) (hl : res.length ≤ 30) :
    ∃ x, taskCmd t m r body s = .next x ∧ answered r c d res x ∧ windowOnly s x :=
  ⟨_, taskCmd_fail t m r body s c d res h hb, finish_answered r c d res _ hl,
    windowOnly_trans _ _ _ (windowOnly_taken t r s) (windowOnly_finish r c d res _)⟩

/-! ## Captures -/

theorem capture_ne_sigStatus (off : Nat) : blockBase (blockOf off) + 0x18 ≠ sigStatus := by
  have h : ∀ b ∈ blocks, b.1 + 0x18 ≠ sigStatus := by decide
  unfold blockBase
  cases hb : blocks[blockOf off]? with
  | none => decide
  | some b => exact h b (List.mem_of_getElem? hb)

/-- What an idle capture register holds of a discarded write, and what the capture leaves alone (03 R64, R65). -/
theorem capture_facts (code off : Nat) (s : State) (hc : code < 2 ^ 16) (ho : off < 2 ^ 26)
    (hv : bits (s.word (blockBase (blockOf off) + 0x18)) 63 63 = 0) :
    bits ((captureErr code off s).word (blockBase (blockOf off) + 0x18)) 63 63 = 1 ∧
    bits ((captureErr code off s).word (blockBase (blockOf off) + 0x18)) 47 32 = code ∧
    bits ((captureErr code off s).word (blockBase (blockOf off) + 0x18)) 25 0 = off ∧
    (∀ p, p ≠ blockBase (blockOf off) + 0x18 → p ≠ sigStatus → (captureErr code off s).word p = s.word p) ∧
    captureErr code off s = { s with regs := (captureErr code off s).regs, sig := (captureErr code off s).sig,
                                     outputs := (captureErr code off s).outputs } := by
  have hn := capture_ne_sigStatus off
  obtain ⟨x, g, o, h⟩ := captureErr_only code off s
  have hw : (captureErr code off s).word (blockBase (blockOf off) + 0x18) = setBits (setBits (setBits 0 63 63 1) 47 32 code) 25 0 off := by
    unfold captureErr fillCapture
    rw [if_neg (by omega)]
    simp only
    rw [word_fire _ _ _ _ _ hn, State.word_setWord_same]
  refine ⟨?_, ?_, ?_, ?_, by rw [h]⟩
  · rw [hw, bits_setBits_apart _ _ _ _ _ _ (by decide) (by decide) (by decide),
      bits_setBits_apart _ _ _ _ _ _ (by decide) (by decide) (by decide), bits_setBits_same _ _ _ _ (by decide) (by decide)]
    rfl
  · rw [hw, bits_setBits_apart _ _ _ _ _ _ (by decide) (by decide) (by decide), bits_setBits_same _ _ _ _ (by decide) (by decide)]
    exact Nat.mod_eq_of_lt hc
  · rw [hw, bits_setBits_same _ _ _ _ (by decide) (by decide)]
    exact Nat.mod_eq_of_lt ho
  · intro p hp hs
    unfold captureErr fillCapture
    rw [if_neg (by omega)]
    simp only
    rw [word_fire _ _ _ _ _ hs, State.word_setWord_ne _ _ _ _ hp]

end Sys2Proof.Machine
end

