-- ==== Sys2Proof/Laws/Parts.lean ====
section
/-!
SUPPORT. What is stored in one place of the state is read there and nowhere else: sets, jobs, hosts, modules, slots, ports, streams, slices.
-/
namespace Sys2Proof.Machine

variable {α : Type}

/-- Looking an entry up by its key after it was put there. -/
theorem find_putBy_same (key : α → Nat) (x : α) (l : List α) : (putBy key x l).find? (fun y => key y == key x) = some x := by
  induction l with
  | nil => simp [putBy]
  | cons y t ih =>
    by_cases h : key y = key x
    · simp [putBy, h]
    · simp [putBy, h, ih]

/-- Looking another key up. -/
theorem find_putBy_ne (key : α → Nat) (x : α) (l : List α) (k : Nat) (hk : k ≠ key x) :
    (putBy key x l).find? (fun y => key y == k) = l.find? (fun y => key y == k) := by
  induction l with
  | nil => simp [putBy, Ne.symm hk]
  | cons y t ih =>
    by_cases h : key y = key x
    · have : key y ≠ k := by omega
      simp [putBy, h, Ne.symm hk]
    · by_cases hy : key y = k
      · simp [putBy, hy, hk]
      · simp [putBy, h, hy, ih]

@[simp] theorem State.setJob_pending (s : State) (j : Job) : (s.setJob j).pending = s.pending := rfl
@[simp] theorem State.setJob_now (s : State) (j : Job) : (s.setJob j).now = s.now := rfl
@[simp] theorem State.setJob_regs (s : State) (j : Job) : (s.setJob j).regs = s.regs := rfl
@[simp] theorem State.setJob_scratch (s : State) (j : Job) : (s.setJob j).scratch = s.scratch := rfl
@[simp] theorem State.setJob_lens (s : State) (j : Job) : (s.setJob j).lens = s.lens := rfl
@[simp] theorem State.setJob_host (s : State) (j : Job) : (s.setJob j).host = s.host := rfl
@[simp] theorem State.setJob_wr (s : State) (j : Job) : (s.setJob j).wr = s.wr := rfl
@[simp] theorem State.setJob_rd (s : State) (j : Job) : (s.setJob j).rd = s.rd := rfl
@[simp] theorem State.setJob_media (s : State) (j : Job) : (s.setJob j).media = s.media := rfl
@[simp] theorem State.setJob_sml (s : State) (j : Job) : (s.setJob j).sml = s.sml := rfl
@[simp] theorem State.setJob_md (s : State) (j : Job) : (s.setJob j).md = s.md := rfl
@[simp] theorem State.setJob_peer (s : State) (j : Job) : (s.setJob j).peer = s.peer := rfl
@[simp] theorem State.setJob_hup (s : State) (j : Job) : (s.setJob j).hup = s.hup := rfl
@[simp] theorem State.setJob_repl (s : State) (j : Job) : (s.setJob j).repl = s.repl := rfl
@[simp] theorem State.setJob_eng (s : State) (j : Job) : (s.setJob j).eng = s.eng := rfl
@[simp] theorem State.setJob_kpr (s : State) (j : Job) : (s.setJob j).kpr = s.kpr := rfl
@[simp] theorem State.setJob_sig (s : State) (j : Job) : (s.setJob j).sig = s.sig := rfl
@[simp] theorem State.setJob_boot (s : State) (j : Job) : (s.setJob j).boot = s.boot := rfl
@[simp] theorem State.setJob_env (s : State) (j : Job) : (s.setJob j).env = s.env := rfl
@[simp] theorem State.setJob_ubQueue (s : State) (j : Job) : (s.setJob j).ubQueue = s.ubQueue := rfl
@[simp] theorem State.setJob_outputs (s : State) (j : Job) : (s.setJob j).outputs = s.outputs := rfl
@[simp] theorem State.setJob_free (s : State) (j : Job) : (s.setJob j).free = s.free := rfl

@[simp] theorem State.putIdent_pending (s : State) (x : HostIdent) : (s.putIdent x).pending = s.pending := rfl
@[simp] theorem State.putIdent_now (s : State) (x : HostIdent) : (s.putIdent x).now = s.now := rfl
@[simp] theorem State.putIdent_regs (s : State) (x : HostIdent) : (s.putIdent x).regs = s.regs := rfl
@[simp] theorem State.putIdent_scratch (s : State) (x : HostIdent) : (s.putIdent x).scratch = s.scratch := rfl
@[simp] theorem State.putIdent_lens (s : State) (x : HostIdent) : (s.putIdent x).lens = s.lens := rfl
@[simp] theorem State.putIdent_ctl (s : State) (x : HostIdent) : (s.putIdent x).ctl = s.ctl := rfl
@[simp] theorem State.putIdent_wr (s : State) (x : HostIdent) : (s.putIdent x).wr = s.wr := rfl
@[simp] theorem State.putIdent_rd (s : State) (x : HostIdent) : (s.putIdent x).rd = s.rd := rfl
@[simp] theorem State.putIdent_media (s : State) (x : HostIdent) : (s.putIdent x).media = s.media := rfl
@[simp] theorem State.putIdent_sml (s : State) (x : HostIdent) : (s.putIdent x).sml = s.sml := rfl
@[simp] theorem State.putIdent_md (s : State) (x : HostIdent) : (s.putIdent x).md = s.md := rfl
@[simp] theorem State.putIdent_peer (s : State) (x : HostIdent) : (s.putIdent x).peer = s.peer := rfl
@[simp] theorem State.putIdent_hup (s : State) (x : HostIdent) : (s.putIdent x).hup = s.hup := rfl
@[simp] theorem State.putIdent_repl (s : State) (x : HostIdent) : (s.putIdent x).repl = s.repl := rfl
@[simp] theorem State.putIdent_eng (s : State) (x : HostIdent) : (s.putIdent x).eng = s.eng := rfl
@[simp] theorem State.putIdent_kpr (s : State) (x : HostIdent) : (s.putIdent x).kpr = s.kpr := rfl
@[simp] theorem State.putIdent_sig (s : State) (x : HostIdent) : (s.putIdent x).sig = s.sig := rfl
@[simp] theorem State.putIdent_boot (s : State) (x : HostIdent) : (s.putIdent x).boot = s.boot := rfl
@[simp] theorem State.putIdent_env (s : State) (x : HostIdent) : (s.putIdent x).env = s.env := rfl
@[simp] theorem State.putIdent_ubQueue (s : State) (x : HostIdent) : (s.putIdent x).ubQueue = s.ubQueue := rfl
@[simp] theorem State.putIdent_outputs (s : State) (x : HostIdent) : (s.putIdent x).outputs = s.outputs := rfl
@[simp] theorem State.putIdent_free (s : State) (x : HostIdent) : (s.putIdent x).free = s.free := rfl

@[simp] theorem State.putAssoc_pending (s : State) (x : Assoc) : (s.putAssoc x).pending = s.pending := rfl
@[simp] theorem State.putAssoc_now (s : State) (x : Assoc) : (s.putAssoc x).now = s.now := rfl
@[simp] theorem State.putAssoc_regs (s : State) (x : Assoc) : (s.putAssoc x).regs = s.regs := rfl
@[simp] theorem State.putAssoc_scratch (s : State) (x : Assoc) : (s.putAssoc x).scratch = s.scratch := rfl
@[simp] theorem State.putAssoc_lens (s : State) (x : Assoc) : (s.putAssoc x).lens = s.lens := rfl
@[simp] theorem State.putAssoc_ctl (s : State) (x : Assoc) : (s.putAssoc x).ctl = s.ctl := rfl
@[simp] theorem State.putAssoc_wr (s : State) (x : Assoc) : (s.putAssoc x).wr = s.wr := rfl
@[simp] theorem State.putAssoc_rd (s : State) (x : Assoc) : (s.putAssoc x).rd = s.rd := rfl
@[simp] theorem State.putAssoc_media (s : State) (x : Assoc) : (s.putAssoc x).media = s.media := rfl
@[simp] theorem State.putAssoc_sml (s : State) (x : Assoc) : (s.putAssoc x).sml = s.sml := rfl
@[simp] theorem State.putAssoc_md (s : State) (x : Assoc) : (s.putAssoc x).md = s.md := rfl
@[simp] theorem State.putAssoc_peer (s : State) (x : Assoc) : (s.putAssoc x).peer = s.peer := rfl
@[simp] theorem State.putAssoc_hup (s : State) (x : Assoc) : (s.putAssoc x).hup = s.hup := rfl
@[simp] theorem State.putAssoc_repl (s : State) (x : Assoc) : (s.putAssoc x).repl = s.repl := rfl
@[simp] theorem State.putAssoc_eng (s : State) (x : Assoc) : (s.putAssoc x).eng = s.eng := rfl
@[simp] theorem State.putAssoc_kpr (s : State) (x : Assoc) : (s.putAssoc x).kpr = s.kpr := rfl
@[simp] theorem State.putAssoc_sig (s : State) (x : Assoc) : (s.putAssoc x).sig = s.sig := rfl
@[simp] theorem State.putAssoc_boot (s : State) (x : Assoc) : (s.putAssoc x).boot = s.boot := rfl
@[simp] theorem State.putAssoc_env (s : State) (x : Assoc) : (s.putAssoc x).env = s.env := rfl
@[simp] theorem State.putAssoc_ubQueue (s : State) (x : Assoc) : (s.putAssoc x).ubQueue = s.ubQueue := rfl
@[simp] theorem State.putAssoc_outputs (s : State) (x : Assoc) : (s.putAssoc x).outputs = s.outputs := rfl
@[simp] theorem State.putAssoc_free (s : State) (x : Assoc) : (s.putAssoc x).free = s.free := rfl

@[simp] theorem State.putCmd_pending (s : State) (x : HostCmd) : (s.putCmd x).pending = s.pending := rfl
@[simp] theorem State.putCmd_now (s : State) (x : HostCmd) : (s.putCmd x).now = s.now := rfl
@[simp] theorem State.putCmd_regs (s : State) (x : HostCmd) : (s.putCmd x).regs = s.regs := rfl
@[simp] theorem State.putCmd_scratch (s : State) (x : HostCmd) : (s.putCmd x).scratch = s.scratch := rfl
@[simp] theorem State.putCmd_lens (s : State) (x : HostCmd) : (s.putCmd x).lens = s.lens := rfl
@[simp] theorem State.putCmd_ctl (s : State) (x : HostCmd) : (s.putCmd x).ctl = s.ctl := rfl
@[simp] theorem State.putCmd_wr (s : State) (x : HostCmd) : (s.putCmd x).wr = s.wr := rfl
@[simp] theorem State.putCmd_rd (s : State) (x : HostCmd) : (s.putCmd x).rd = s.rd := rfl
@[simp] theorem State.putCmd_media (s : State) (x : HostCmd) : (s.putCmd x).media = s.media := rfl
@[simp] theorem State.putCmd_sml (s : State) (x : HostCmd) : (s.putCmd x).sml = s.sml := rfl
@[simp] theorem State.putCmd_md (s : State) (x : HostCmd) : (s.putCmd x).md = s.md := rfl
@[simp] theorem State.putCmd_peer (s : State) (x : HostCmd) : (s.putCmd x).peer = s.peer := rfl
@[simp] theorem State.putCmd_hup (s : State) (x : HostCmd) : (s.putCmd x).hup = s.hup := rfl
@[simp] theorem State.putCmd_repl (s : State) (x : HostCmd) : (s.putCmd x).repl = s.repl := rfl
@[simp] theorem State.putCmd_eng (s : State) (x : HostCmd) : (s.putCmd x).eng = s.eng := rfl
@[simp] theorem State.putCmd_kpr (s : State) (x : HostCmd) : (s.putCmd x).kpr = s.kpr := rfl
@[simp] theorem State.putCmd_sig (s : State) (x : HostCmd) : (s.putCmd x).sig = s.sig := rfl
@[simp] theorem State.putCmd_boot (s : State) (x : HostCmd) : (s.putCmd x).boot = s.boot := rfl
@[simp] theorem State.putCmd_env (s : State) (x : HostCmd) : (s.putCmd x).env = s.env := rfl
@[simp] theorem State.putCmd_ubQueue (s : State) (x : HostCmd) : (s.putCmd x).ubQueue = s.ubQueue := rfl
@[simp] theorem State.putCmd_outputs (s : State) (x : HostCmd) : (s.putCmd x).outputs = s.outputs := rfl
@[simp] theorem State.putCmd_free (s : State) (x : HostCmd) : (s.putCmd x).free = s.free := rfl

@[simp] theorem State.putFlow_pending (s : State) (x : Flow) : (s.putFlow x).pending = s.pending := rfl
@[simp] theorem State.putFlow_now (s : State) (x : Flow) : (s.putFlow x).now = s.now := rfl
@[simp] theorem State.putFlow_regs (s : State) (x : Flow) : (s.putFlow x).regs = s.regs := rfl
@[simp] theorem State.putFlow_scratch (s : State) (x : Flow) : (s.putFlow x).scratch = s.scratch := rfl
@[simp] theorem State.putFlow_lens (s : State) (x : Flow) : (s.putFlow x).lens = s.lens := rfl
@[simp] theorem State.putFlow_ctl (s : State) (x : Flow) : (s.putFlow x).ctl = s.ctl := rfl
@[simp] theorem State.putFlow_wr (s : State) (x : Flow) : (s.putFlow x).wr = s.wr := rfl
@[simp] theorem State.putFlow_rd (s : State) (x : Flow) : (s.putFlow x).rd = s.rd := rfl
@[simp] theorem State.putFlow_media (s : State) (x : Flow) : (s.putFlow x).media = s.media := rfl
@[simp] theorem State.putFlow_sml (s : State) (x : Flow) : (s.putFlow x).sml = s.sml := rfl
@[simp] theorem State.putFlow_md (s : State) (x : Flow) : (s.putFlow x).md = s.md := rfl
@[simp] theorem State.putFlow_peer (s : State) (x : Flow) : (s.putFlow x).peer = s.peer := rfl
@[simp] theorem State.putFlow_hup (s : State) (x : Flow) : (s.putFlow x).hup = s.hup := rfl
@[simp] theorem State.putFlow_repl (s : State) (x : Flow) : (s.putFlow x).repl = s.repl := rfl
@[simp] theorem State.putFlow_eng (s : State) (x : Flow) : (s.putFlow x).eng = s.eng := rfl
@[simp] theorem State.putFlow_kpr (s : State) (x : Flow) : (s.putFlow x).kpr = s.kpr := rfl
@[simp] theorem State.putFlow_sig (s : State) (x : Flow) : (s.putFlow x).sig = s.sig := rfl
@[simp] theorem State.putFlow_boot (s : State) (x : Flow) : (s.putFlow x).boot = s.boot := rfl
@[simp] theorem State.putFlow_env (s : State) (x : Flow) : (s.putFlow x).env = s.env := rfl
@[simp] theorem State.putFlow_ubQueue (s : State) (x : Flow) : (s.putFlow x).ubQueue = s.ubQueue := rfl
@[simp] theorem State.putFlow_outputs (s : State) (x : Flow) : (s.putFlow x).outputs = s.outputs := rfl
@[simp] theorem State.putFlow_free (s : State) (x : Flow) : (s.putFlow x).free = s.free := rfl

@[simp] theorem State.putStream_pending (s : State) (x : Stream) : (s.putStream x).pending = s.pending := rfl
@[simp] theorem State.putStream_now (s : State) (x : Stream) : (s.putStream x).now = s.now := rfl
@[simp] theorem State.putStream_regs (s : State) (x : Stream) : (s.putStream x).regs = s.regs := rfl
@[simp] theorem State.putStream_scratch (s : State) (x : Stream) : (s.putStream x).scratch = s.scratch := rfl
@[simp] theorem State.putStream_lens (s : State) (x : Stream) : (s.putStream x).lens = s.lens := rfl
@[simp] theorem State.putStream_ctl (s : State) (x : Stream) : (s.putStream x).ctl = s.ctl := rfl
@[simp] theorem State.putStream_host (s : State) (x : Stream) : (s.putStream x).host = s.host := rfl
@[simp] theorem State.putStream_wr (s : State) (x : Stream) : (s.putStream x).wr = s.wr := rfl
@[simp] theorem State.putStream_rd (s : State) (x : Stream) : (s.putStream x).rd = s.rd := rfl
@[simp] theorem State.putStream_media (s : State) (x : Stream) : (s.putStream x).media = s.media := rfl
@[simp] theorem State.putStream_sml (s : State) (x : Stream) : (s.putStream x).sml = s.sml := rfl
@[simp] theorem State.putStream_md (s : State) (x : Stream) : (s.putStream x).md = s.md := rfl
@[simp] theorem State.putStream_peer (s : State) (x : Stream) : (s.putStream x).peer = s.peer := rfl
@[simp] theorem State.putStream_hup (s : State) (x : Stream) : (s.putStream x).hup = s.hup := rfl
@[simp] theorem State.putStream_eng (s : State) (x : Stream) : (s.putStream x).eng = s.eng := rfl
@[simp] theorem State.putStream_kpr (s : State) (x : Stream) : (s.putStream x).kpr = s.kpr := rfl
@[simp] theorem State.putStream_sig (s : State) (x : Stream) : (s.putStream x).sig = s.sig := rfl
@[simp] theorem State.putStream_boot (s : State) (x : Stream) : (s.putStream x).boot = s.boot := rfl
@[simp] theorem State.putStream_env (s : State) (x : Stream) : (s.putStream x).env = s.env := rfl
@[simp] theorem State.putStream_ubQueue (s : State) (x : Stream) : (s.putStream x).ubQueue = s.ubQueue := rfl
@[simp] theorem State.putStream_outputs (s : State) (x : Stream) : (s.putStream x).outputs = s.outputs := rfl
@[simp] theorem State.putStream_free (s : State) (x : Stream) : (s.putStream x).free = s.free := rfl

@[simp] theorem State.putConn_pending (s : State) (x : ReplConn) : (s.putConn x).pending = s.pending := rfl
@[simp] theorem State.putConn_now (s : State) (x : ReplConn) : (s.putConn x).now = s.now := rfl
@[simp] theorem State.putConn_regs (s : State) (x : ReplConn) : (s.putConn x).regs = s.regs := rfl
@[simp] theorem State.putConn_scratch (s : State) (x : ReplConn) : (s.putConn x).scratch = s.scratch := rfl
@[simp] theorem State.putConn_lens (s : State) (x : ReplConn) : (s.putConn x).lens = s.lens := rfl
@[simp] theorem State.putConn_ctl (s : State) (x : ReplConn) : (s.putConn x).ctl = s.ctl := rfl
@[simp] theorem State.putConn_host (s : State) (x : ReplConn) : (s.putConn x).host = s.host := rfl
@[simp] theorem State.putConn_wr (s : State) (x : ReplConn) : (s.putConn x).wr = s.wr := rfl
@[simp] theorem State.putConn_rd (s : State) (x : ReplConn) : (s.putConn x).rd = s.rd := rfl
@[simp] theorem State.putConn_media (s : State) (x : ReplConn) : (s.putConn x).media = s.media := rfl
@[simp] theorem State.putConn_sml (s : State) (x : ReplConn) : (s.putConn x).sml = s.sml := rfl
@[simp] theorem State.putConn_md (s : State) (x : ReplConn) : (s.putConn x).md = s.md := rfl
@[simp] theorem State.putConn_peer (s : State) (x : ReplConn) : (s.putConn x).peer = s.peer := rfl
@[simp] theorem State.putConn_hup (s : State) (x : ReplConn) : (s.putConn x).hup = s.hup := rfl
@[simp] theorem State.putConn_eng (s : State) (x : ReplConn) : (s.putConn x).eng = s.eng := rfl
@[simp] theorem State.putConn_kpr (s : State) (x : ReplConn) : (s.putConn x).kpr = s.kpr := rfl
@[simp] theorem State.putConn_sig (s : State) (x : ReplConn) : (s.putConn x).sig = s.sig := rfl
@[simp] theorem State.putConn_boot (s : State) (x : ReplConn) : (s.putConn x).boot = s.boot := rfl
@[simp] theorem State.putConn_env (s : State) (x : ReplConn) : (s.putConn x).env = s.env := rfl
@[simp] theorem State.putConn_ubQueue (s : State) (x : ReplConn) : (s.putConn x).ubQueue = s.ubQueue := rfl
@[simp] theorem State.putConn_outputs (s : State) (x : ReplConn) : (s.putConn x).outputs = s.outputs := rfl
@[simp] theorem State.putConn_free (s : State) (x : ReplConn) : (s.putConn x).free = s.free := rfl

@[simp] theorem State.putModule_pending (s : State) (x : Module) : (s.putModule x).pending = s.pending := rfl
@[simp] theorem State.putModule_now (s : State) (x : Module) : (s.putModule x).now = s.now := rfl
@[simp] theorem State.putModule_regs (s : State) (x : Module) : (s.putModule x).regs = s.regs := rfl
@[simp] theorem State.putModule_scratch (s : State) (x : Module) : (s.putModule x).scratch = s.scratch := rfl
@[simp] theorem State.putModule_lens (s : State) (x : Module) : (s.putModule x).lens = s.lens := rfl
@[simp] theorem State.putModule_ctl (s : State) (x : Module) : (s.putModule x).ctl = s.ctl := rfl
@[simp] theorem State.putModule_host (s : State) (x : Module) : (s.putModule x).host = s.host := rfl
@[simp] theorem State.putModule_wr (s : State) (x : Module) : (s.putModule x).wr = s.wr := rfl
@[simp] theorem State.putModule_rd (s : State) (x : Module) : (s.putModule x).rd = s.rd := rfl
@[simp] theorem State.putModule_sml (s : State) (x : Module) : (s.putModule x).sml = s.sml := rfl
@[simp] theorem State.putModule_md (s : State) (x : Module) : (s.putModule x).md = s.md := rfl
@[simp] theorem State.putModule_peer (s : State) (x : Module) : (s.putModule x).peer = s.peer := rfl
@[simp] theorem State.putModule_hup (s : State) (x : Module) : (s.putModule x).hup = s.hup := rfl
@[simp] theorem State.putModule_repl (s : State) (x : Module) : (s.putModule x).repl = s.repl := rfl
@[simp] theorem State.putModule_eng (s : State) (x : Module) : (s.putModule x).eng = s.eng := rfl
@[simp] theorem State.putModule_kpr (s : State) (x : Module) : (s.putModule x).kpr = s.kpr := rfl
@[simp] theorem State.putModule_sig (s : State) (x : Module) : (s.putModule x).sig = s.sig := rfl
@[simp] theorem State.putModule_boot (s : State) (x : Module) : (s.putModule x).boot = s.boot := rfl
@[simp] theorem State.putModule_env (s : State) (x : Module) : (s.putModule x).env = s.env := rfl
@[simp] theorem State.putModule_ubQueue (s : State) (x : Module) : (s.putModule x).ubQueue = s.ubQueue := rfl
@[simp] theorem State.putModule_outputs (s : State) (x : Module) : (s.putModule x).outputs = s.outputs := rfl
@[simp] theorem State.putModule_free (s : State) (x : Module) : (s.putModule x).free = s.free := rfl

@[simp] theorem State.putDomain_pending (s : State) (d : Nat) (x : PDomain) : (s.putDomain d x).pending = s.pending := rfl
@[simp] theorem State.putDomain_now (s : State) (d : Nat) (x : PDomain) : (s.putDomain d x).now = s.now := rfl
@[simp] theorem State.putDomain_regs (s : State) (d : Nat) (x : PDomain) : (s.putDomain d x).regs = s.regs := rfl
@[simp] theorem State.putDomain_scratch (s : State) (d : Nat) (x : PDomain) : (s.putDomain d x).scratch = s.scratch := rfl
@[simp] theorem State.putDomain_lens (s : State) (d : Nat) (x : PDomain) : (s.putDomain d x).lens = s.lens := rfl
@[simp] theorem State.putDomain_ctl (s : State) (d : Nat) (x : PDomain) : (s.putDomain d x).ctl = s.ctl := rfl
@[simp] theorem State.putDomain_host (s : State) (d : Nat) (x : PDomain) : (s.putDomain d x).host = s.host := rfl
@[simp] theorem State.putDomain_wr (s : State) (d : Nat) (x : PDomain) : (s.putDomain d x).wr = s.wr := rfl
@[simp] theorem State.putDomain_rd (s : State) (d : Nat) (x : PDomain) : (s.putDomain d x).rd = s.rd := rfl
@[simp] theorem State.putDomain_sml (s : State) (d : Nat) (x : PDomain) : (s.putDomain d x).sml = s.sml := rfl
@[simp] theorem State.putDomain_md (s : State) (d : Nat) (x : PDomain) : (s.putDomain d x).md = s.md := rfl
@[simp] theorem State.putDomain_peer (s : State) (d : Nat) (x : PDomain) : (s.putDomain d x).peer = s.peer := rfl
@[simp] theorem State.putDomain_hup (s : State) (d : Nat) (x : PDomain) : (s.putDomain d x).hup = s.hup := rfl
@[simp] theorem State.putDomain_repl (s : State) (d : Nat) (x : PDomain) : (s.putDomain d x).repl = s.repl := rfl
@[simp] theorem State.putDomain_eng (s : State) (d : Nat) (x : PDomain) : (s.putDomain d x).eng = s.eng := rfl
@[simp] theorem State.putDomain_kpr (s : State) (d : Nat) (x : PDomain) : (s.putDomain d x).kpr = s.kpr := rfl
@[simp] theorem State.putDomain_sig (s : State) (d : Nat) (x : PDomain) : (s.putDomain d x).sig = s.sig := rfl
@[simp] theorem State.putDomain_boot (s : State) (d : Nat) (x : PDomain) : (s.putDomain d x).boot = s.boot := rfl
@[simp] theorem State.putDomain_env (s : State) (d : Nat) (x : PDomain) : (s.putDomain d x).env = s.env := rfl
@[simp] theorem State.putDomain_ubQueue (s : State) (d : Nat) (x : PDomain) : (s.putDomain d x).ubQueue = s.ubQueue := rfl
@[simp] theorem State.putDomain_outputs (s : State) (d : Nat) (x : PDomain) : (s.putDomain d x).outputs = s.outputs := rfl
@[simp] theorem State.putDomain_free (s : State) (d : Nat) (x : PDomain) : (s.putDomain d x).free = s.free := rfl

@[simp] theorem State.putSlot_pending (s : State) (x : KeySlot) : (s.putSlot x).pending = s.pending := rfl
@[simp] theorem State.putSlot_now (s : State) (x : KeySlot) : (s.putSlot x).now = s.now := rfl
@[simp] theorem State.putSlot_regs (s : State) (x : KeySlot) : (s.putSlot x).regs = s.regs := rfl
@[simp] theorem State.putSlot_scratch (s : State) (x : KeySlot) : (s.putSlot x).scratch = s.scratch := rfl
@[simp] theorem State.putSlot_lens (s : State) (x : KeySlot) : (s.putSlot x).lens = s.lens := rfl
@[simp] theorem State.putSlot_ctl (s : State) (x : KeySlot) : (s.putSlot x).ctl = s.ctl := rfl
@[simp] theorem State.putSlot_host (s : State) (x : KeySlot) : (s.putSlot x).host = s.host := rfl
@[simp] theorem State.putSlot_wr (s : State) (x : KeySlot) : (s.putSlot x).wr = s.wr := rfl
@[simp] theorem State.putSlot_rd (s : State) (x : KeySlot) : (s.putSlot x).rd = s.rd := rfl
@[simp] theorem State.putSlot_media (s : State) (x : KeySlot) : (s.putSlot x).media = s.media := rfl
@[simp] theorem State.putSlot_sml (s : State) (x : KeySlot) : (s.putSlot x).sml = s.sml := rfl
@[simp] theorem State.putSlot_md (s : State) (x : KeySlot) : (s.putSlot x).md = s.md := rfl
@[simp] theorem State.putSlot_peer (s : State) (x : KeySlot) : (s.putSlot x).peer = s.peer := rfl
@[simp] theorem State.putSlot_hup (s : State) (x : KeySlot) : (s.putSlot x).hup = s.hup := rfl
@[simp] theorem State.putSlot_repl (s : State) (x : KeySlot) : (s.putSlot x).repl = s.repl := rfl
@[simp] theorem State.putSlot_kpr (s : State) (x : KeySlot) : (s.putSlot x).kpr = s.kpr := rfl
@[simp] theorem State.putSlot_sig (s : State) (x : KeySlot) : (s.putSlot x).sig = s.sig := rfl
@[simp] theorem State.putSlot_boot (s : State) (x : KeySlot) : (s.putSlot x).boot = s.boot := rfl
@[simp] theorem State.putSlot_env (s : State) (x : KeySlot) : (s.putSlot x).env = s.env := rfl
@[simp] theorem State.putSlot_ubQueue (s : State) (x : KeySlot) : (s.putSlot x).ubQueue = s.ubQueue := rfl
@[simp] theorem State.putSlot_outputs (s : State) (x : KeySlot) : (s.putSlot x).outputs = s.outputs := rfl
@[simp] theorem State.putSlot_free (s : State) (x : KeySlot) : (s.putSlot x).free = s.free := rfl

@[simp] theorem State.putCtx_pending (s : State) (x : Ctx) : (s.putCtx x).pending = s.pending := rfl
@[simp] theorem State.putCtx_now (s : State) (x : Ctx) : (s.putCtx x).now = s.now := rfl
@[simp] theorem State.putCtx_regs (s : State) (x : Ctx) : (s.putCtx x).regs = s.regs := rfl
@[simp] theorem State.putCtx_scratch (s : State) (x : Ctx) : (s.putCtx x).scratch = s.scratch := rfl
@[simp] theorem State.putCtx_lens (s : State) (x : Ctx) : (s.putCtx x).lens = s.lens := rfl
@[simp] theorem State.putCtx_ctl (s : State) (x : Ctx) : (s.putCtx x).ctl = s.ctl := rfl
@[simp] theorem State.putCtx_host (s : State) (x : Ctx) : (s.putCtx x).host = s.host := rfl
@[simp] theorem State.putCtx_wr (s : State) (x : Ctx) : (s.putCtx x).wr = s.wr := rfl
@[simp] theorem State.putCtx_rd (s : State) (x : Ctx) : (s.putCtx x).rd = s.rd := rfl
@[simp] theorem State.putCtx_media (s : State) (x : Ctx) : (s.putCtx x).media = s.media := rfl
@[simp] theorem State.putCtx_sml (s : State) (x : Ctx) : (s.putCtx x).sml = s.sml := rfl
@[simp] theorem State.putCtx_md (s : State) (x : Ctx) : (s.putCtx x).md = s.md := rfl
@[simp] theorem State.putCtx_peer (s : State) (x : Ctx) : (s.putCtx x).peer = s.peer := rfl
@[simp] theorem State.putCtx_hup (s : State) (x : Ctx) : (s.putCtx x).hup = s.hup := rfl
@[simp] theorem State.putCtx_repl (s : State) (x : Ctx) : (s.putCtx x).repl = s.repl := rfl
@[simp] theorem State.putCtx_kpr (s : State) (x : Ctx) : (s.putCtx x).kpr = s.kpr := rfl
@[simp] theorem State.putCtx_sig (s : State) (x : Ctx) : (s.putCtx x).sig = s.sig := rfl
@[simp] theorem State.putCtx_boot (s : State) (x : Ctx) : (s.putCtx x).boot = s.boot := rfl
@[simp] theorem State.putCtx_env (s : State) (x : Ctx) : (s.putCtx x).env = s.env := rfl
@[simp] theorem State.putCtx_ubQueue (s : State) (x : Ctx) : (s.putCtx x).ubQueue = s.ubQueue := rfl
@[simp] theorem State.putCtx_outputs (s : State) (x : Ctx) : (s.putCtx x).outputs = s.outputs := rfl
@[simp] theorem State.putCtx_free (s : State) (x : Ctx) : (s.putCtx x).free = s.free := rfl

@[simp] theorem State.putSlice_pending (s : State) (x : Slice) : (s.putSlice x).pending = s.pending := rfl
@[simp] theorem State.putSlice_now (s : State) (x : Slice) : (s.putSlice x).now = s.now := rfl
@[simp] theorem State.putSlice_regs (s : State) (x : Slice) : (s.putSlice x).regs = s.regs := rfl
@[simp] theorem State.putSlice_scratch (s : State) (x : Slice) : (s.putSlice x).scratch = s.scratch := rfl
@[simp] theorem State.putSlice_lens (s : State) (x : Slice) : (s.putSlice x).lens = s.lens := rfl
@[simp] theorem State.putSlice_ctl (s : State) (x : Slice) : (s.putSlice x).ctl = s.ctl := rfl
@[simp] theorem State.putSlice_host (s : State) (x : Slice) : (s.putSlice x).host = s.host := rfl
@[simp] theorem State.putSlice_wr (s : State) (x : Slice) : (s.putSlice x).wr = s.wr := rfl
@[simp] theorem State.putSlice_rd (s : State) (x : Slice) : (s.putSlice x).rd = s.rd := rfl
@[simp] theorem State.putSlice_media (s : State) (x : Slice) : (s.putSlice x).media = s.media := rfl
@[simp] theorem State.putSlice_sml (s : State) (x : Slice) : (s.putSlice x).sml = s.sml := rfl
@[simp] theorem State.putSlice_md (s : State) (x : Slice) : (s.putSlice x).md = s.md := rfl
@[simp] theorem State.putSlice_peer (s : State) (x : Slice) : (s.putSlice x).peer = s.peer := rfl
@[simp] theorem State.putSlice_hup (s : State) (x : Slice) : (s.putSlice x).hup = s.hup := rfl
@[simp] theorem State.putSlice_repl (s : State) (x : Slice) : (s.putSlice x).repl = s.repl := rfl
@[simp] theorem State.putSlice_kpr (s : State) (x : Slice) : (s.putSlice x).kpr = s.kpr := rfl
@[simp] theorem State.putSlice_sig (s : State) (x : Slice) : (s.putSlice x).sig = s.sig := rfl
@[simp] theorem State.putSlice_boot (s : State) (x : Slice) : (s.putSlice x).boot = s.boot := rfl
@[simp] theorem State.putSlice_env (s : State) (x : Slice) : (s.putSlice x).env = s.env := rfl
@[simp] theorem State.putSlice_ubQueue (s : State) (x : Slice) : (s.putSlice x).ubQueue = s.ubQueue := rfl
@[simp] theorem State.putSlice_outputs (s : State) (x : Slice) : (s.putSlice x).outputs = s.outputs := rfl
@[simp] theorem State.putSlice_free (s : State) (x : Slice) : (s.putSlice x).free = s.free := rfl

@[simp] theorem State.putMport_pending (s : State) (x : MediaPort) : (s.putMport x).pending = s.pending := rfl
@[simp] theorem State.putMport_now (s : State) (x : MediaPort) : (s.putMport x).now = s.now := rfl
@[simp] theorem State.putMport_regs (s : State) (x : MediaPort) : (s.putMport x).regs = s.regs := rfl
@[simp] theorem State.putMport_scratch (s : State) (x : MediaPort) : (s.putMport x).scratch = s.scratch := rfl
@[simp] theorem State.putMport_lens (s : State) (x : MediaPort) : (s.putMport x).lens = s.lens := rfl
@[simp] theorem State.putMport_ctl (s : State) (x : MediaPort) : (s.putMport x).ctl = s.ctl := rfl
@[simp] theorem State.putMport_host (s : State) (x : MediaPort) : (s.putMport x).host = s.host := rfl
@[simp] theorem State.putMport_wr (s : State) (x : MediaPort) : (s.putMport x).wr = s.wr := rfl
@[simp] theorem State.putMport_rd (s : State) (x : MediaPort) : (s.putMport x).rd = s.rd := rfl
@[simp] theorem State.putMport_media (s : State) (x : MediaPort) : (s.putMport x).media = s.media := rfl
@[simp] theorem State.putMport_md (s : State) (x : MediaPort) : (s.putMport x).md = s.md := rfl
@[simp] theorem State.putMport_peer (s : State) (x : MediaPort) : (s.putMport x).peer = s.peer := rfl
@[simp] theorem State.putMport_hup (s : State) (x : MediaPort) : (s.putMport x).hup = s.hup := rfl
@[simp] theorem State.putMport_repl (s : State) (x : MediaPort) : (s.putMport x).repl = s.repl := rfl
@[simp] theorem State.putMport_eng (s : State) (x : MediaPort) : (s.putMport x).eng = s.eng := rfl
@[simp] theorem State.putMport_kpr (s : State) (x : MediaPort) : (s.putMport x).kpr = s.kpr := rfl
@[simp] theorem State.putMport_sig (s : State) (x : MediaPort) : (s.putMport x).sig = s.sig := rfl
@[simp] theorem State.putMport_boot (s : State) (x : MediaPort) : (s.putMport x).boot = s.boot := rfl
@[simp] theorem State.putMport_env (s : State) (x : MediaPort) : (s.putMport x).env = s.env := rfl
@[simp] theorem State.putMport_ubQueue (s : State) (x : MediaPort) : (s.putMport x).ubQueue = s.ubQueue := rfl
@[simp] theorem State.putMport_outputs (s : State) (x : MediaPort) : (s.putMport x).outputs = s.outputs := rfl
@[simp] theorem State.putMport_free (s : State) (x : MediaPort) : (s.putMport x).free = s.free := rfl

@[simp] theorem State.setVector_pending (s : State) (x : Vector_) : (s.setVector x).pending = s.pending := rfl
@[simp] theorem State.setVector_now (s : State) (x : Vector_) : (s.setVector x).now = s.now := rfl
@[simp] theorem State.setVector_regs (s : State) (x : Vector_) : (s.setVector x).regs = s.regs := rfl
@[simp] theorem State.setVector_scratch (s : State) (x : Vector_) : (s.setVector x).scratch = s.scratch := rfl
@[simp] theorem State.setVector_lens (s : State) (x : Vector_) : (s.setVector x).lens = s.lens := rfl
@[simp] theorem State.setVector_ctl (s : State) (x : Vector_) : (s.setVector x).ctl = s.ctl := rfl
@[simp] theorem State.setVector_host (s : State) (x : Vector_) : (s.setVector x).host = s.host := rfl
@[simp] theorem State.setVector_wr (s : State) (x : Vector_) : (s.setVector x).wr = s.wr := rfl
@[simp] theorem State.setVector_rd (s : State) (x : Vector_) : (s.setVector x).rd = s.rd := rfl
@[simp] theorem State.setVector_media (s : State) (x : Vector_) : (s.setVector x).media = s.media := rfl
@[simp] theorem State.setVector_sml (s : State) (x : Vector_) : (s.setVector x).sml = s.sml := rfl
@[simp] theorem State.setVector_md (s : State) (x : Vector_) : (s.setVector x).md = s.md := rfl
@[simp] theorem State.setVector_peer (s : State) (x : Vector_) : (s.setVector x).peer = s.peer := rfl
@[simp] theorem State.setVector_hup (s : State) (x : Vector_) : (s.setVector x).hup = s.hup := rfl
@[simp] theorem State.setVector_repl (s : State) (x : Vector_) : (s.setVector x).repl = s.repl := rfl
@[simp] theorem State.setVector_eng (s : State) (x : Vector_) : (s.setVector x).eng = s.eng := rfl
@[simp] theorem State.setVector_kpr (s : State) (x : Vector_) : (s.setVector x).kpr = s.kpr := rfl
@[simp] theorem State.setVector_boot (s : State) (x : Vector_) : (s.setVector x).boot = s.boot := rfl
@[simp] theorem State.setVector_env (s : State) (x : Vector_) : (s.setVector x).env = s.env := rfl
@[simp] theorem State.setVector_ubQueue (s : State) (x : Vector_) : (s.setVector x).ubQueue = s.ubQueue := rfl
@[simp] theorem State.setVector_outputs (s : State) (x : Vector_) : (s.setVector x).outputs = s.outputs := rfl
@[simp] theorem State.setVector_free (s : State) (x : Vector_) : (s.setVector x).free = s.free := rfl

@[simp] theorem State.putStore_pending (s : State) (b : Bool) (x : Store) : (s.putStore b x).pending = s.pending := rfl
@[simp] theorem State.putStore_now (s : State) (b : Bool) (x : Store) : (s.putStore b x).now = s.now := rfl
@[simp] theorem State.putStore_regs (s : State) (b : Bool) (x : Store) : (s.putStore b x).regs = s.regs := rfl
@[simp] theorem State.putStore_scratch (s : State) (b : Bool) (x : Store) : (s.putStore b x).scratch = s.scratch := rfl
@[simp] theorem State.putStore_lens (s : State) (b : Bool) (x : Store) : (s.putStore b x).lens = s.lens := rfl
@[simp] theorem State.putStore_ctl (s : State) (b : Bool) (x : Store) : (s.putStore b x).ctl = s.ctl := rfl
@[simp] theorem State.putStore_host (s : State) (b : Bool) (x : Store) : (s.putStore b x).host = s.host := rfl
@[simp] theorem State.putStore_wr (s : State) (b : Bool) (x : Store) : (s.putStore b x).wr = s.wr := rfl
@[simp] theorem State.putStore_rd (s : State) (b : Bool) (x : Store) : (s.putStore b x).rd = s.rd := rfl
@[simp] theorem State.putStore_media (s : State) (b : Bool) (x : Store) : (s.putStore b x).media = s.media := rfl
@[simp] theorem State.putStore_sml (s : State) (b : Bool) (x : Store) : (s.putStore b x).sml = s.sml := rfl
@[simp] theorem State.putStore_peer (s : State) (b : Bool) (x : Store) : (s.putStore b x).peer = s.peer := rfl
@[simp] theorem State.putStore_hup (s : State) (b : Bool) (x : Store) : (s.putStore b x).hup = s.hup := rfl
@[simp] theorem State.putStore_repl (s : State) (b : Bool) (x : Store) : (s.putStore b x).repl = s.repl := rfl
@[simp] theorem State.putStore_eng (s : State) (b : Bool) (x : Store) : (s.putStore b x).eng = s.eng := rfl
@[simp] theorem State.putStore_kpr (s : State) (b : Bool) (x : Store) : (s.putStore b x).kpr = s.kpr := rfl
@[simp] theorem State.putStore_sig (s : State) (b : Bool) (x : Store) : (s.putStore b x).sig = s.sig := rfl
@[simp] theorem State.putStore_boot (s : State) (b : Bool) (x : Store) : (s.putStore b x).boot = s.boot := rfl
@[simp] theorem State.putStore_env (s : State) (b : Bool) (x : Store) : (s.putStore b x).env = s.env := rfl
@[simp] theorem State.putStore_ubQueue (s : State) (b : Bool) (x : Store) : (s.putStore b x).ubQueue = s.ubQueue := rfl
@[simp] theorem State.putStore_outputs (s : State) (b : Bool) (x : Store) : (s.putStore b x).outputs = s.outputs := rfl
@[simp] theorem State.putStore_free (s : State) (b : Bool) (x : Store) : (s.putStore b x).free = s.free := rfl

@[simp] theorem State.job_setJob (s : State) (x : Job) : (s.setJob x).job x.slot = some x := by
  exact find_putBy_same Job.slot x _
theorem State.job_setJob_ne (s : State) (x : Job) (k : Nat) (h : k ≠ x.slot) : (s.setJob x).job k = s.job k := by
  exact find_putBy_ne Job.slot x _ k h

@[simp] theorem State.ident_putIdent (s : State) (x : HostIdent) : (s.putIdent x).ident x.index = some x := by
  exact find_putBy_same HostIdent.index x _
theorem State.ident_putIdent_ne (s : State) (x : HostIdent) (k : Nat) (h : k ≠ x.index) : (s.putIdent x).ident k = s.ident k := by
  exact find_putBy_ne HostIdent.index x _ k h

@[simp] theorem State.assoc_putAssoc (s : State) (x : Assoc) : (s.putAssoc x).assoc x.cntlid = some x := by
  exact find_putBy_same Assoc.cntlid x _
theorem State.assoc_putAssoc_ne (s : State) (x : Assoc) (k : Nat) (h : k ≠ x.cntlid) : (s.putAssoc x).assoc k = s.assoc k := by
  exact find_putBy_ne Assoc.cntlid x _ k h

@[simp] theorem State.stream_putStream (s : State) (x : Stream) : (s.putStream x).stream x.id = some x := by
  exact find_putBy_same Stream.id x _
theorem State.stream_putStream_ne (s : State) (x : Stream) (k : Nat) (h : k ≠ x.id) : (s.putStream x).stream k = s.stream k := by
  exact find_putBy_ne Stream.id x _ k h

@[simp] theorem State.conn_putConn (s : State) (x : ReplConn) : (s.putConn x).conn x.conn = some x := by
  exact find_putBy_same ReplConn.conn x _
theorem State.conn_putConn_ne (s : State) (x : ReplConn) (k : Nat) (h : k ≠ x.conn) : (s.putConn x).conn k = s.conn k := by
  exact find_putBy_ne ReplConn.conn x _ k h

@[simp] theorem State.module_putModule (s : State) (x : Module) : (s.putModule x).module x.index = some x := by
  exact find_putBy_same Module.index x _
theorem State.module_putModule_ne (s : State) (x : Module) (k : Nat) (h : k ≠ x.index) : (s.putModule x).module k = s.module k := by
  exact find_putBy_ne Module.index x _ k h

@[simp] theorem State.slot_putSlot (s : State) (x : KeySlot) : (s.putSlot x).slot x.slot = x := by
  have h := find_putBy_same KeySlot.slot x
  simp [State.slot, State.putSlot, h]
theorem State.slot_putSlot_ne (s : State) (x : KeySlot) (k : Nat) (h : k ≠ x.slot) : (s.putSlot x).slot k = s.slot k := by
  have e := fun l => find_putBy_ne KeySlot.slot x l k h
  simp [State.slot, State.putSlot, e]

@[simp] theorem State.slice_putSlice (s : State) (x : Slice) : (s.putSlice x).slice x.index = x := by
  have h := find_putBy_same Slice.index x
  simp [State.slice, State.putSlice, h]
theorem State.slice_putSlice_ne (s : State) (x : Slice) (k : Nat) (h : k ≠ x.index) : (s.putSlice x).slice k = s.slice k := by
  have e := fun l => find_putBy_ne Slice.index x l k h
  simp [State.slice, State.putSlice, e]

@[simp] theorem State.mport_putMport (s : State) (x : MediaPort) : (s.putMport x).mport x.port = x := by
  have h := find_putBy_same MediaPort.port x
  simp [State.mport, State.putMport, h]
theorem State.mport_putMport_ne (s : State) (x : MediaPort) (k : Nat) (h : k ≠ x.port) : (s.putMport x).mport k = s.mport k := by
  have e := fun l => find_putBy_ne MediaPort.port x l k h
  simp [State.mport, State.putMport, e]

@[simp] theorem State.vector_setVector (s : State) (x : Vector_) : (s.setVector x).vector x.index = x := by
  have h := find_putBy_same Vector_.index x
  simp [State.vector, State.setVector, h]
theorem State.vector_setVector_ne (s : State) (x : Vector_) (k : Nat) (h : k ≠ x.index) : (s.setVector x).vector k = s.vector k := by
  have e := fun l => find_putBy_ne Vector_.index x l k h
  simp [State.vector, State.setVector, e]

theorem State.domain_putDomain (s : State) (d e : Nat) (x : PDomain) :
    (s.putDomain d x).domain e = if e = d then x else s.domain e := getD_putNth PDomain.reset x s.media.domains d e

theorem State.group_putGroup (s : State) (g h : Nat) (x : UbGroup) :
    (s.putGroup g x).group h = if h = g then x else s.group h := getD_putNth UbGroup.down x s.peer.groups g h

/-! ## Stage sets -/

/-- Storing a stage set moves that set, and with a new state fires its source (02 R50). -/
theorem putSet_only (s : State) (n : Nat) (x : StageSet) :
    ∃ r g o, s.putSet n x = { s with lens := { s.lens with sets := putNth .free x n s.lens.sets }, regs := r, sig := g, outputs := o } := by
  unfold State.putSet
  simp only
  split
  · exact ⟨_, _, _, rfl⟩
  · obtain ⟨r, g, o, h⟩ := fire_only (40 + n) { s with lens := { s.lens with sets := putNth .free x n s.lens.sets } } 0 0
    exact ⟨r, g, o, h⟩

@[simp] theorem State.putSet_pending (s : State) (n : Nat) (x : StageSet) : (s.putSet n x).pending = s.pending := by
  obtain ⟨_, _, _, h⟩ := putSet_only s n x; rw [h]
@[simp] theorem State.putSet_now (s : State) (n : Nat) (x : StageSet) : (s.putSet n x).now = s.now := by
  obtain ⟨_, _, _, h⟩ := putSet_only s n x; rw [h]
@[simp] theorem State.putSet_scratch (s : State) (n : Nat) (x : StageSet) : (s.putSet n x).scratch = s.scratch := by
  obtain ⟨_, _, _, h⟩ := putSet_only s n x; rw [h]
@[simp] theorem State.putSet_ctl (s : State) (n : Nat) (x : StageSet) : (s.putSet n x).ctl = s.ctl := by
  obtain ⟨_, _, _, h⟩ := putSet_only s n x; rw [h]
@[simp] theorem State.putSet_host (s : State) (n : Nat) (x : StageSet) : (s.putSet n x).host = s.host := by
  obtain ⟨_, _, _, h⟩ := putSet_only s n x; rw [h]
@[simp] theorem State.putSet_wr (s : State) (n : Nat) (x : StageSet) : (s.putSet n x).wr = s.wr := by
  obtain ⟨_, _, _, h⟩ := putSet_only s n x; rw [h]
@[simp] theorem State.putSet_rd (s : State) (n : Nat) (x : StageSet) : (s.putSet n x).rd = s.rd := by
  obtain ⟨_, _, _, h⟩ := putSet_only s n x; rw [h]
@[simp] theorem State.putSet_media (s : State) (n : Nat) (x : StageSet) : (s.putSet n x).media = s.media := by
  obtain ⟨_, _, _, h⟩ := putSet_only s n x; rw [h]
@[simp] theorem State.putSet_sml (s : State) (n : Nat) (x : StageSet) : (s.putSet n x).sml = s.sml := by
  obtain ⟨_, _, _, h⟩ := putSet_only s n x; rw [h]
@[simp] theorem State.putSet_md (s : State) (n : Nat) (x : StageSet) : (s.putSet n x).md = s.md := by
  obtain ⟨_, _, _, h⟩ := putSet_only s n x; rw [h]
@[simp] theorem State.putSet_peer (s : State) (n : Nat) (x : StageSet) : (s.putSet n x).peer = s.peer := by
  obtain ⟨_, _, _, h⟩ := putSet_only s n x; rw [h]
@[simp] theorem State.putSet_hup (s : State) (n : Nat) (x : StageSet) : (s.putSet n x).hup = s.hup := by
  obtain ⟨_, _, _, h⟩ := putSet_only s n x; rw [h]
@[simp] theorem State.putSet_repl (s : State) (n : Nat) (x : StageSet) : (s.putSet n x).repl = s.repl := by
  obtain ⟨_, _, _, h⟩ := putSet_only s n x; rw [h]
@[simp] theorem State.putSet_eng (s : State) (n : Nat) (x : StageSet) : (s.putSet n x).eng = s.eng := by
  obtain ⟨_, _, _, h⟩ := putSet_only s n x; rw [h]
@[simp] theorem State.putSet_kpr (s : State) (n : Nat) (x : StageSet) : (s.putSet n x).kpr = s.kpr := by
  obtain ⟨_, _, _, h⟩ := putSet_only s n x; rw [h]
@[simp] theorem State.putSet_boot (s : State) (n : Nat) (x : StageSet) : (s.putSet n x).boot = s.boot := by
  obtain ⟨_, _, _, h⟩ := putSet_only s n x; rw [h]
@[simp] theorem State.putSet_env (s : State) (n : Nat) (x : StageSet) : (s.putSet n x).env = s.env := by
  obtain ⟨_, _, _, h⟩ := putSet_only s n x; rw [h]
@[simp] theorem State.putSet_ubQueue (s : State) (n : Nat) (x : StageSet) : (s.putSet n x).ubQueue = s.ubQueue := by
  obtain ⟨_, _, _, h⟩ := putSet_only s n x; rw [h]
@[simp] theorem State.putSet_free (s : State) (n : Nat) (x : StageSet) : (s.putSet n x).free = s.free := by
  obtain ⟨_, _, _, h⟩ := putSet_only s n x; rw [h]

@[simp] theorem State.putSet_lens (s : State) (n : Nat) (x : StageSet) :
    (s.putSet n x).lens = { s.lens with sets := putNth .free x n s.lens.sets } := by
  obtain ⟨_, _, _, h⟩ := putSet_only s n x; rw [h]

theorem State.set_putSet (s : State) (n m : Nat) (x : StageSet) :
    (s.putSet n x).set m = if m = n then x else s.set m := by
  unfold State.set
  rw [State.putSet_lens]
  exact getD_putNth StageSet.free x s.lens.sets n m

@[simp] theorem State.set_putSet_same (s : State) (n : Nat) (x : StageSet) : (s.putSet n x).set n = x := by
  simp [State.set_putSet]

theorem State.word_putSet (s : State) (n p : Nat) (x : StageSet) (h : p ≠ sigStatus) : (s.putSet n x).word p = s.word p := by
  unfold State.putSet
  simp only
  split
  · rfl
  · rw [word_fire _ _ _ _ _ h]; rfl

/-- Sets hang on the Lens state alone. -/
theorem State.set_of_lens (s t : State) (h : t.lens = s.lens) (n : Nat) : t.set n = s.set n := by
  unfold State.set; rw [h]

@[simp] theorem State.set_setFld (s : State) (f : Fld) (v i j n : Nat) : (s.setFld f v i j).set n = s.set n := rfl
@[simp] theorem State.set_setFlag (s : State) (f : Fld) (b : Bool) (i j n : Nat) : (s.setFlag f b i j).set n = s.set n := rfl
@[simp] theorem State.set_setWord (s : State) (o : Nat) (w : Word) (n : Nat) : (s.setWord o w).set n = s.set n := rfl

/-! ## Jobs -/

/-- The end of a job moves its record, and with NOTIFY fires its window's source (03 R59). -/
theorem endJob_only (n c d : Nat) (l : List Word) (s : State) :
    ∃ k r g o, endJob n c d l s = { s with ctl := k, regs := r, sig := g, outputs := o } := by
  unfold endJob
  split
  · exact ⟨_, _, _, _, rfl⟩
  · split
    · exact ⟨_, _, _, _, rfl⟩
    · rename_i j _ _
      simp only
      split
      · obtain ⟨r, g, o, h⟩ := fire_only (32 + j.window) (s.setJob { j with ended := true, stopping := false, code := c, detail := d, results := l, progress := 1000, work := .nothing }) 0 0
        rw [h]
        exact ⟨_, _, _, _, rfl⟩
      · exact ⟨_, _, _, _, rfl⟩

theorem job_fire (n m c d : Nat) (s : State) : (fire n s c d).job m = s.job m := by
  unfold State.job; rw [fire_ctl]

/-- The record of a job that ends. -/
theorem endJob_job (n c d : Nat) (l : List Word) (s : State) (j : Job) (hj : s.job n = some j) (he : j.ended = false) :
    (endJob n c d l s).job n = some { j with ended := true, stopping := false, code := c, detail := d, results := l, progress := 1000, work := .nothing } := by
  have hn : j.slot = n := by simpa using List.find?_some hj
  subst hn
  unfold endJob
  rw [hj]
  simp only [he, Bool.false_eq_true, if_false]
  split
  · rw [job_fire]
    exact State.job_setJob s { j with ended := true, stopping := false, code := c, detail := d, results := l, progress := 1000, work := .nothing }
  · exact State.job_setJob s { j with ended := true, stopping := false, code := c, detail := d, results := l, progress := 1000, work := .nothing }

theorem startJob_free (op : Nat) (r : TaskReq) (p : JobPlan) (s : State) (k : Nat → State → State) (n : Nat)
    (h : freeRecord r.window s = some n) :
    startJob op r p s k = .done (k n (withJob op r p s n)) cACCEPTED 0 [handleOf (plannedJob op r p s n)] := by
  unfold startJob
  rw [h]

theorem freeRecord_free (w n : Nat) (s : State) (h : freeRecord w s = some n) : s.job n = none := by
  unfold freeRecord at h
  split at h
  · cases h
  · have := List.find?_some h
    unfold State.job
    simpa using this

theorem withJob_job (op : Nat) (r : TaskReq) (p : JobPlan) (s : State) (n : Nat) (h : s.job n = none) :
    (withJob op r p s n).job n = some (plannedJob op r p s n) := by
  unfold State.job at h ⊢
  unfold withJob
  simp only [List.find?_append, h]
  simp [plannedJob]

theorem freeRecord_of_ctl (w : Nat) (s t : State) (h : t.ctl = s.ctl) : freeRecord w t = freeRecord w s := by
  unfold freeRecord; rw [h]

theorem windowOnly_withJob (op : Nat) (r : TaskReq) (p : JobPlan) (s t : State) (n : Nat) (h : windowOnly s t) :
    windowOnly (withJob op r p s n) (withJob op r p t n) := by
  obtain ⟨h1, h2⟩ := h
  have hc : t.ctl = s.ctl := by rw [h1]
  have e : plannedJob op r p t n = plannedJob op r p s n := by unfold plannedJob; rw [hc]
  refine ⟨?_, fun q hq hn => h2 q hq hn⟩
  unfold withJob
  rw [e, hc, h1]

/-- A command that starts a job and does nothing else answers ACCEPTED with the handle, and the record stands. -/
theorem taskCmd_job (t : TaskSpec) (m : List (Nat × Nat)) (r : TaskReq) (body : State → TaskOut) (s : State) (op n : Nat) (p : JobPlan)
    (h : goes t m r s = true) (hn : freeRecord r.window s = some n)
    (hb : body (taken t r s) = startJob op r p (taken t r s) fun _ s => s) :
    ∃ x, taskCmd t m r body s = .next x ∧ answered r cACCEPTED 0 [handleOf (plannedJob op r p s n)] x ∧
      windowOnly (withJob op r p s n) x := by
  have e : plannedJob op r p (taken t r s) n = plannedJob op r p s n := by unfold plannedJob; rw [taken_ctl]
  have hn' : freeRecord r.window (taken t r s) = some n := by rw [freeRecord_of_ctl _ s _ (taken_ctl t r s), hn]
  rw [startJob_free _ _ _ _ _ n hn', e] at hb
  exact taskCmd_answered t m r body s _ (withJob op r p s n) _ _ _ h hb (by simp)
    (windowOnly_withJob op r p s _ n (windowOnly_taken t r s))

/-! ## Behind a window -/

theorem windowOnly_fire (n c d : Nat) (u t : State) (h : windowOnly u t) : windowOnly u (fire n t c d) := by
  obtain ⟨r, g, o, e⟩ := fire_only n t c d
  refine ⟨?_, fun p hp hn => by rw [word_fire _ _ _ _ _ hn, h.2 p hp hn]⟩
  rw [e, h.1]

theorem set_of_windowOnly (u t : State) (h : windowOnly u t) (n : Nat) : t.set n = u.set n :=
  State.set_of_lens u t (by rw [h.1]) n

/-- The state with one set replaced, without the event of it. -/
theorem windowOnly_putSet (n : Nat) (x : StageSet) (u t : State) (h : windowOnly u t) : windowOnly (u.putSet n x) (t.putSet n x) := by
  obtain ⟨r, g, o, e⟩ := putSet_only u n x
  obtain ⟨r', g', o', e'⟩ := putSet_only t n x
  refine ⟨?_, fun p hp hn => by rw [State.word_putSet _ _ _ _ hn, State.word_putSet _ _ _ _ hn, h.2 p hp hn]⟩
  rw [e, e', h.1]

theorem settleSubs_calm (s : State) (h : calm s = true) : settleSubs s = s := by
  simp only [calm, Bool.and_eq_true, List.isEmpty_iff] at h
  have h1 : returnsDue s = [] := by simp [returnsDue, h.1]
  have h2 : startSubs s = s := by
    unfold startSubs
    rw [h.2]
    cases freeSet s <;> rfl
  unfold settleSubs
  rw [h1]
  simp only [List.foldl_nil, h2]
  split <;> rfl

/-! ## Flags -/

/-- A one-bit field reads what was last stored in it. -/
theorem State.flag_setFlag_same (s : State) (f : Fld) (b : Bool) (i j : Nat) (h : f.ok = true) (h1 : f.hi = f.lo) :
    (s.setFlag f b i j).flag f i j = b := by
  unfold State.setFlag State.flag
  rw [State.fld_setFld_same _ _ _ _ _ h]
  have : f.hi + 1 - f.lo = 1 := by omega
  rw [this]
  cases b <;> simp

theorem State.flag_setFld_off (s : State) (f g : Fld) (v i j i' j' : Nat) (h : g.off i' j' ≠ f.off i j) :
    (s.setFld f v i j).flag g i' j' = s.flag g i' j' := by
  unfold State.flag; rw [State.fld_setFld_off _ _ _ _ _ _ _ _ h]

theorem State.flag_setFld_apart (s : State) (f g : Fld) (v i j i' j' : Nat) (h : f.ok = true) (ha : g.hi < f.lo ∨ f.hi < g.lo) :
    (s.setFld f v i j).flag g i' j' = s.flag g i' j' := by
  unfold State.flag; rw [State.fld_setFld_apart _ _ _ _ _ _ _ _ h ha]

theorem flag_fire (n c d i j : Nat) (f : Fld) (s : State) (h : f.off i j ≠ sigStatus) : (fire n s c d).flag f i j = s.flag f i j := by
  unfold State.flag; rw [fld_fire _ _ _ _ _ _ _ h]

theorem flag_taken (t : TaskSpec) (r : TaskReq) (s : State) (f : Fld) (i j : Nat) (h : f.off i j < 0x11000 ∨ 0x15000 ≤ f.off i j) :
    (taken t r s).flag f i j = s.flag f i j := by
  unfold State.flag; rw [fld_taken _ _ _ _ _ _ h]

/-- Registers hang on the register list alone. -/
theorem State.word_of_regs (s t : State) (h : t.regs = s.regs) (p : Nat) : t.word p = s.word p := by
  unfold State.word; rw [h]

theorem State.fld_of_regs (s t : State) (h : t.regs = s.regs) (f : Fld) (i j : Nat) : t.fld f i j = s.fld f i j := by
  unfold State.fld; rw [State.word_of_regs _ _ h]

theorem State.flag_of_regs (s t : State) (h : t.regs = s.regs) (f : Fld) (i j : Nat) : t.flag f i j = s.flag f i j := by
  unfold State.flag; rw [State.fld_of_regs _ _ h]

/-! ## Host commands -/

/-- An answer that may be posted is one completion and nothing else. -/
theorem answer_emit (c q i : Nat) (st : NvmeStatus) (s : State) (d : Nat) (h : s.hup.dumping = false) :
    answer c q i st s d = s.emit (.completion c q i st d) := by
  unfold answer
  rw [if_neg (by simp [h])]
  rfl

/-- An admin command of an authenticated association. -/
theorem admin_done (c i : Nat) (k : Assoc → State → State) (s : State) (a : Assoc) (ha : s.assoc c = some a) (hd : a.auth = .done) :
    admin c i k s = k a s := by
  unfold admin
  rw [ha]
  simp [hd]

theorem assoc_cntlid (s : State) (c : Nat) (a : Assoc) (h : s.assoc c = some a) : a.cntlid = c := by
  simpa using List.find?_some h

end Sys2Proof.Machine
end

