-- ==== Sys2Proof/Laws/Meta.lean ====
section
/-!
SUPPORT. What a transaction, a posted answer and the end of a host command or an association leave alone.
-/
namespace Sys2Proof.Machine

/-- What every step of a fold keeps, the fold keeps. -/
theorem foldl_keep {σ : Type} {α : Type} {β : Type} (p : σ → β) (g : σ → α → σ) (h : ∀ s x, p (g s x) = p s) :
    ∀ (l : List α) (s : σ), p (l.foldl g s) = p s := by
  intro l
  induction l with
  | nil => intro s; rfl
  | cons a t ih => intro s; rw [List.foldl_cons, ih, h]

/-! ## Transactions (10 R250 to R253) -/

/-- Sending changes of the pair the groups and the next message numbers only (11 R272, R273). -/
theorem sendPeer_peer (c : Nat) (o : Output) (s : State) :
    ∃ g m, (sendPeer c o s).peer = { s.peer with groups := g, msgNext := m } := by
  unfold sendPeer
  simp only
  split
  · exact ⟨_, _, rfl⟩
  · unfold transmit
    simp only
    split
    · exact ⟨_, _, rfl⟩
    · split
      · exact ⟨_, _, rfl⟩
      · exact ⟨_, _, rfl⟩

theorem send_peer (o : Output) (s : State) : ∃ g m, (s.send o).peer = { s.peer with groups := g, msgNext := m } := by
  unfold State.send
  split
  · exact sendPeer_peer _ _ _
  · exact ⟨_, _, rfl⟩

/-- Sending changes the pair link's groups and message numbers, the messages that wait and what has left the part. -/
theorem send_frame (o : Output) (s : State) :
    ∃ g m q x, s.send o = { s with peer := { s.peer with groups := g, msgNext := m }, ubQueue := q, outputs := x } := by
  obtain ⟨p, q, x, h⟩ := send_only s o
  obtain ⟨g, m, h'⟩ := send_peer o s
  rw [h] at h'
  dsimp only at h'
  exact ⟨g, m, q, x, by rw [h, h']⟩

theorem sendLogPage_frame (p : LogPage) (s : State) :
    ∃ l g m q x, sendLogPage p s = { s with md := { s.md with log := l }, peer := { s.peer with groups := g, msgNext := m }, ubQueue := q, outputs := x } := by
  unfold sendLogPage
  simp only
  split
  · obtain ⟨g, m, q, x, h⟩ := send_frame (.logPage p.lpseq p.txns) { s with md := { s.md with log := updateIf (·.lpseq == p.lpseq) (fun p => { p with sent := true }) s.md.log } }
    exact ⟨_, g, m, q, x, h⟩
  · exact ⟨_, _, _, _, _, rfl⟩

theorem foldl_sendLogPage_frame (ps : List LogPage) : ∀ s : State,
    ∃ l g m q x, ps.foldl (fun s p => sendLogPage p s) s = { s with md := { s.md with log := l }, peer := { s.peer with groups := g, msgNext := m }, ubQueue := q, outputs := x } := by
  induction ps with
  | nil => intro s; exact ⟨_, _, _, _, _, rfl⟩
  | cons p t ih =>
    intro s
    obtain ⟨l, g, m, q, x, h⟩ := sendLogPage_frame p s
    obtain ⟨l', g', m', q', x', h'⟩ := ih { s with md := { s.md with log := l }, peer := { s.peer with groups := g, msgNext := m }, ubQueue := q, outputs := x }
    exact ⟨l', g', m', q', x', by rw [List.foldl_cons, h, h']⟩

theorem fillLog_frame (n : Nat) (t : Txn) (s : State) :
    ∃ l k b g m q x, fillLog n t s = { s with md := { s.md with log := l, lpseq := k }, media := { s.media with logBytes := b }, peer := { s.peer with groups := g, msgNext := m }, ubQueue := q, outputs := x } := by
  unfold fillLog
  simp only
  have key : ∀ (l0 : List LogPage) (k0 : Nat) (c : Bool) (a b : Nat) (l1 l2 : List LogPage) (k2 : Nat) (ps : List LogPage),
      ∃ l k b' g m q x, (if c = true then { ({ s with md := { s.md with log := l0, lpseq := k0 } } : State) with md := { s.md with log := l1, lpseq := k0 }, media := { s.media with logBytes := a } }
        else ps.foldl (fun s p => sendLogPage p s) { ({ s with md := { s.md with log := l0, lpseq := k0 } } : State) with md := { s.md with log := l2, lpseq := k2 }, media := { s.media with logBytes := b } })
      = { s with md := { s.md with log := l, lpseq := k }, media := { s.media with logBytes := b' }, peer := { s.peer with groups := g, msgNext := m }, ubQueue := q, outputs := x } := by
    intro l0 k0 c a b l1 l2 k2 ps
    split
    · exact ⟨_, _, _, _, _, _, _, rfl⟩
    · obtain ⟨l', g', m', q', x', h'⟩ := foldl_sendLogPage_frame ps { ({ s with md := { s.md with log := l0, lpseq := k0 } } : State) with md := { s.md with log := l2, lpseq := k2 }, media := { s.media with logBytes := b } }
      exact ⟨l', k2, b, g', m', q', x', h'⟩
  cases hq : List.getLast? s.md.log with
  | none =>
    simp only [Option.filter_none, Option.isSome_none, Bool.false_eq_true, if_false]
    split
    · exact ⟨_, _, _, _, _, _, _, rfl⟩
    · obtain ⟨l', g', m', q', x', h'⟩ := foldl_sendLogPage_frame _ _
      exact ⟨l', _, _, g', m', q', x', h'⟩
  | some p =>
    cases hs : p.sent with
    | true =>
      simp only [Option.filter_some, hs, Bool.not_true, Bool.false_eq_true, if_false, Option.isSome_none]
      split
      · exact ⟨_, _, _, _, _, _, _, rfl⟩
      · obtain ⟨l', g', m', q', x', h'⟩ := foldl_sendLogPage_frame _ _
        exact ⟨l', _, _, g', m', q', x', h'⟩
    | false =>
      simp only [Option.filter_some, hs, Bool.not_false, if_true, Option.isSome_some]
      split
      · exact ⟨_, _, _, _, _, _, _, rfl⟩
      · obtain ⟨l', g', m', q', x', h'⟩ := foldl_sendLogPage_frame _ _
        exact ⟨l', _, _, g', m', q', x', h'⟩

theorem foldl_remote_frame (num j : Nat) (ds : List (Delta × Nat)) : ∀ s : State,
    ∃ r g m q x, ds.foldl (fun (s : State) (d : Delta × Nat) =>
      let t : State := { s with md := { s.md with remote := s.md.remote ++ [{ txn := num, index := d.2, delta := d.1, jseq := j }] } }
      t.send (.remoteDelta num d.2 d.1)) s
    = { s with md := { s.md with remote := r }, peer := { s.peer with groups := g, msgNext := m }, ubQueue := q, outputs := x } := by
  induction ds with
  | nil => intro s; exact ⟨_, _, _, _, _, rfl⟩
  | cons d t ih =>
    intro s
    obtain ⟨g, m, q, x, h⟩ := send_frame (.remoteDelta num d.2 d.1) { s with md := { s.md with remote := s.md.remote ++ [{ txn := num, index := d.2, delta := d.1, jseq := j }] } }
    rw [List.foldl_cons]
    simp only
    rw [h]
    obtain ⟨r', g', m', q', x', h'⟩ := ih _
    exact ⟨r', g', m', q', x', h'⟩

/-- Closing a transaction changes the log, the remote deltas that wait, the log's byte count and the pair link: no store. -/
theorem commit_frame (t : Tx) (j : Nat) :
    ∃ l k n r b g m q x, t.commit j = { t.s with md := { t.s.md with log := l, lpseq := k, txn := n, remote := r }, media := { t.s.media with logBytes := b }, peer := { t.s.peer with groups := g, msgNext := m }, ubQueue := q, outputs := x } := by
  unfold Tx.commit
  split
  · exact ⟨_, _, _, _, _, _, _, _, _, rfl⟩
  · simp only
    obtain ⟨l, k, b, g, m, q, x, h⟩ := fillLog_frame (((t.local_.map fun d => Delta.len d.2).sum) + 24)
      { num := t.s.md.txn, deltas := t.local_.reverse, jseq := j, remote := t.remote.length } { t.s with md := { t.s.md with txn := t.s.md.txn + 1 } }
    rw [h]
    obtain ⟨r', g', m', q', x', h'⟩ := foldl_remote_frame t.s.md.txn j (t.remote.reverse.zipIdx) _
    exact ⟨_, _, _, _, _, _, _, _, _, h'⟩

@[simp] theorem commit_pending (t : Tx) (j : Nat) : (t.commit j).pending = t.s.pending := by
  obtain ⟨_, _, _, _, _, _, _, _, _, h⟩ := commit_frame t j; rw [h]
@[simp] theorem commit_now (t : Tx) (j : Nat) : (t.commit j).now = t.s.now := by
  obtain ⟨_, _, _, _, _, _, _, _, _, h⟩ := commit_frame t j; rw [h]
@[simp] theorem commit_regs (t : Tx) (j : Nat) : (t.commit j).regs = t.s.regs := by
  obtain ⟨_, _, _, _, _, _, _, _, _, h⟩ := commit_frame t j; rw [h]
@[simp] theorem commit_scratch (t : Tx) (j : Nat) : (t.commit j).scratch = t.s.scratch := by
  obtain ⟨_, _, _, _, _, _, _, _, _, h⟩ := commit_frame t j; rw [h]
@[simp] theorem commit_lens (t : Tx) (j : Nat) : (t.commit j).lens = t.s.lens := by
  obtain ⟨_, _, _, _, _, _, _, _, _, h⟩ := commit_frame t j; rw [h]
@[simp] theorem commit_ctl (t : Tx) (j : Nat) : (t.commit j).ctl = t.s.ctl := by
  obtain ⟨_, _, _, _, _, _, _, _, _, h⟩ := commit_frame t j; rw [h]
@[simp] theorem commit_host (t : Tx) (j : Nat) : (t.commit j).host = t.s.host := by
  obtain ⟨_, _, _, _, _, _, _, _, _, h⟩ := commit_frame t j; rw [h]
@[simp] theorem commit_wr (t : Tx) (j : Nat) : (t.commit j).wr = t.s.wr := by
  obtain ⟨_, _, _, _, _, _, _, _, _, h⟩ := commit_frame t j; rw [h]
@[simp] theorem commit_rd (t : Tx) (j : Nat) : (t.commit j).rd = t.s.rd := by
  obtain ⟨_, _, _, _, _, _, _, _, _, h⟩ := commit_frame t j; rw [h]
@[simp] theorem commit_sml (t : Tx) (j : Nat) : (t.commit j).sml = t.s.sml := by
  obtain ⟨_, _, _, _, _, _, _, _, _, h⟩ := commit_frame t j; rw [h]
@[simp] theorem commit_hup (t : Tx) (j : Nat) : (t.commit j).hup = t.s.hup := by
  obtain ⟨_, _, _, _, _, _, _, _, _, h⟩ := commit_frame t j; rw [h]
@[simp] theorem commit_repl (t : Tx) (j : Nat) : (t.commit j).repl = t.s.repl := by
  obtain ⟨_, _, _, _, _, _, _, _, _, h⟩ := commit_frame t j; rw [h]
@[simp] theorem commit_eng (t : Tx) (j : Nat) : (t.commit j).eng = t.s.eng := by
  obtain ⟨_, _, _, _, _, _, _, _, _, h⟩ := commit_frame t j; rw [h]
@[simp] theorem commit_kpr (t : Tx) (j : Nat) : (t.commit j).kpr = t.s.kpr := by
  obtain ⟨_, _, _, _, _, _, _, _, _, h⟩ := commit_frame t j; rw [h]
@[simp] theorem commit_sig (t : Tx) (j : Nat) : (t.commit j).sig = t.s.sig := by
  obtain ⟨_, _, _, _, _, _, _, _, _, h⟩ := commit_frame t j; rw [h]
@[simp] theorem commit_boot (t : Tx) (j : Nat) : (t.commit j).boot = t.s.boot := by
  obtain ⟨_, _, _, _, _, _, _, _, _, h⟩ := commit_frame t j; rw [h]
@[simp] theorem commit_env (t : Tx) (j : Nat) : (t.commit j).env = t.s.env := by
  obtain ⟨_, _, _, _, _, _, _, _, _, h⟩ := commit_frame t j; rw [h]
@[simp] theorem commit_free (t : Tx) (j : Nat) : (t.commit j).free = t.s.free := by
  obtain ⟨_, _, _, _, _, _, _, _, _, h⟩ := commit_frame t j; rw [h]
@[simp] theorem commit_md_store (t : Tx) (j : Nat) : (t.commit j).md.store = t.s.md.store := by
  obtain ⟨_, _, _, _, _, _, _, _, _, h⟩ := commit_frame t j; rw [h]
@[simp] theorem commit_md_saved (t : Tx) (j : Nat) : (t.commit j).md.saved = t.s.md.saved := by
  obtain ⟨_, _, _, _, _, _, _, _, _, h⟩ := commit_frame t j; rw [h]
@[simp] theorem commit_md_taking (t : Tx) (j : Nat) : (t.commit j).md.taking = t.s.md.taking := by
  obtain ⟨_, _, _, _, _, _, _, _, _, h⟩ := commit_frame t j; rw [h]
@[simp] theorem commit_md_savedShadow (t : Tx) (j : Nat) : (t.commit j).md.savedShadow = t.s.md.savedShadow := by
  obtain ⟨_, _, _, _, _, _, _, _, _, h⟩ := commit_frame t j; rw [h]
@[simp] theorem commit_md_takingShadow (t : Tx) (j : Nat) : (t.commit j).md.takingShadow = t.s.md.takingShadow := by
  obtain ⟨_, _, _, _, _, _, _, _, _, h⟩ := commit_frame t j; rw [h]
@[simp] theorem commit_md_shadow (t : Tx) (j : Nat) : (t.commit j).md.shadow = t.s.md.shadow := by
  obtain ⟨_, _, _, _, _, _, _, _, _, h⟩ := commit_frame t j; rw [h]
@[simp] theorem commit_md_shadowTxn (t : Tx) (j : Nat) : (t.commit j).md.shadowTxn = t.s.md.shadowTxn := by
  obtain ⟨_, _, _, _, _, _, _, _, _, h⟩ := commit_frame t j; rw [h]
@[simp] theorem commit_md_conflicts (t : Tx) (j : Nat) : (t.commit j).md.conflicts = t.s.md.conflicts := by
  obtain ⟨_, _, _, _, _, _, _, _, _, h⟩ := commit_frame t j; rw [h]
@[simp] theorem commit_md_lostPages (t : Tx) (j : Nat) : (t.commit j).md.lostPages = t.s.md.lostPages := by
  obtain ⟨_, _, _, _, _, _, _, _, _, h⟩ := commit_frame t j; rw [h]
@[simp] theorem commit_md_dirty (t : Tx) (j : Nat) : (t.commit j).md.dirty = t.s.md.dirty := by
  obtain ⟨_, _, _, _, _, _, _, _, _, h⟩ := commit_frame t j; rw [h]
@[simp] theorem commit_md_freedSnaps (t : Tx) (j : Nat) : (t.commit j).md.freedSnaps = t.s.md.freedSnaps := by
  obtain ⟨_, _, _, _, _, _, _, _, _, h⟩ := commit_frame t j; rw [h]
@[simp] theorem commit_md_replay (t : Tx) (j : Nat) : (t.commit j).md.replay = t.s.md.replay := by
  obtain ⟨_, _, _, _, _, _, _, _, _, h⟩ := commit_frame t j; rw [h]
@[simp] theorem commit_md_readOnly (t : Tx) (j : Nat) : (t.commit j).md.readOnly = t.s.md.readOnly := by
  obtain ⟨_, _, _, _, _, _, _, _, _, h⟩ := commit_frame t j; rw [h]
@[simp] theorem commit_md_deletes (t : Tx) (j : Nat) : (t.commit j).md.deletes = t.s.md.deletes := by
  obtain ⟨_, _, _, _, _, _, _, _, _, h⟩ := commit_frame t j; rw [h]
@[simp] theorem commit_peer_head (t : Tx) (j : Nat) : (t.commit j).peer.head = t.s.peer.head := by
  obtain ⟨_, _, _, _, _, _, _, _, _, h⟩ := commit_frame t j; rw [h]
@[simp] theorem send_peer_head (o : Output) (s : State) : (s.send o).peer.head = s.peer.head := by
  obtain ⟨_, _, h⟩ := send_peer o s; rw [h]
@[simp] theorem commit_peer_st (t : Tx) (j : Nat) : (t.commit j).peer.st = t.s.peer.st := by
  obtain ⟨_, _, _, _, _, _, _, _, _, h⟩ := commit_frame t j; rw [h]
@[simp] theorem send_peer_st (o : Output) (s : State) : (s.send o).peer.st = s.peer.st := by
  obtain ⟨_, _, h⟩ := send_peer o s; rw [h]
@[simp] theorem commit_peer_owners (t : Tx) (j : Nat) : (t.commit j).peer.owners = t.s.peer.owners := by
  obtain ⟨_, _, _, _, _, _, _, _, _, h⟩ := commit_frame t j; rw [h]
@[simp] theorem send_peer_owners (o : Output) (s : State) : (s.send o).peer.owners = s.peer.owners := by
  obtain ⟨_, _, h⟩ := send_peer o s; rw [h]
@[simp] theorem commit_peer_changes (t : Tx) (j : Nat) : (t.commit j).peer.changes = t.s.peer.changes := by
  obtain ⟨_, _, _, _, _, _, _, _, _, h⟩ := commit_frame t j; rw [h]
@[simp] theorem send_peer_changes (o : Output) (s : State) : (s.send o).peer.changes = s.peer.changes := by
  obtain ⟨_, _, h⟩ := send_peer o s; rw [h]
@[simp] theorem commit_peer_survivor (t : Tx) (j : Nat) : (t.commit j).peer.survivor = t.s.peer.survivor := by
  obtain ⟨_, _, _, _, _, _, _, _, _, h⟩ := commit_frame t j; rw [h]
@[simp] theorem send_peer_survivor (o : Output) (s : State) : (s.send o).peer.survivor = s.peer.survivor := by
  obtain ⟨_, _, h⟩ := send_peer o s; rw [h]

/-- A store after a transaction closes is the store its deltas left. -/
@[simp] theorem commit_storeOf (t : Tx) (j : Nat) (sh : Bool) : (t.commit j).store sh = t.s.store sh := by
  unfold State.store; simp

/-- One delta to this head's store, or to either store when this head serves both. -/
theorem oneDelta_store (sh : Bool) (d : Delta) (s : State) (h : sh = false ∨ s.peer.survivor = true) :
    (oneDelta sh d s).store sh = applyDelta (s.writer sh) d (s.store sh) := by
  unfold oneDelta Tx.addAt Tx.start
  have : (sh && !s.peer.survivor) = false := by rcases h with h | h <;> simp [h]
  simp only [this, Bool.false_eq_true, if_false, commit_storeOf]
  cases sh <;> simp [Tx.add, State.store, State.putStore]

/-- A namespace that a store has just taken. -/
theorem applyDelta_nsSet (h : Nat) (n : Namespace) (st : Store) : (applyDelta h (.nsSet n) st).ns n.nsid = some n := by
  exact find_putBy_same Namespace.nsid n _

/-- A task command whose own part leaves a state of which something holds that registers, Signal controller and outputs have no part in. -/
theorem taskCmd_post (P : State → Prop) (t : TaskSpec) (m : List (Nat × Nat)) (r : TaskReq) (body : State → TaskOut) (s : State)
    (c d : Nat) (res : List Word) (h : goes t m r s = true) (hl : res.length ≤ 30)
    (hb : ∃ s', body (taken t r s) = .done s' c d res ∧ ∀ x g o, P { s' with regs := x, sig := g, outputs := o }) :
    ∃ x, taskCmd t m r body s = .next x ∧ answered r c d res x ∧ P x := by
  obtain ⟨s', hb, hp⟩ := hb
  refine ⟨_, taskCmd_done t m r body s s' c d res h hb, finish_answered r c d res s' hl, ?_⟩
  obtain ⟨x, g, o, e⟩ := finish_only r c d res s'
  rw [e]
  exact hp x g o

/-! ## Answers -/

@[simp] theorem answer_eq_host (c q i : Nat) (st : NvmeStatus) (s : State) (d : Nat) : (answer c q i st s d).host = s.host := by
  unfold answer; split <;> simp
@[simp] theorem answer_eq_hup (c q i : Nat) (st : NvmeStatus) (s : State) (d : Nat) : (answer c q i st s d).hup = s.hup := by
  unfold answer; split <;> simp
@[simp] theorem answer_eq_md (c q i : Nat) (st : NvmeStatus) (s : State) (d : Nat) : (answer c q i st s d).md = s.md := by
  unfold answer; split <;> simp
@[simp] theorem answer_eq_regs (c q i : Nat) (st : NvmeStatus) (s : State) (d : Nat) : (answer c q i st s d).regs = s.regs := by
  unfold answer; split <;> simp

/-! ## The end of commands and associations (04 R101, R103) -/

/-- Releasing a pin concerns segments only. -/
@[simp] theorem unpinSegment_host (g : Nat) (s : State) : (unpinSegment g s).host = s.host := by
  unfold unpinSegment
  rfl

/-- The end of a command frees its context and nothing else of the front end. -/
theorem endCmd_host (x : HostCmd) (s : State) : (endCmd x s).host = { s.host with cmds := (endCmd x s).host.cmds } := by
  unfold endCmd
  simp only [State.dropCmd]
  have h := foldl_keep (fun s : State => s.host) (fun s g => unpinSegment g s) (fun s g => unpinSegment_host g s) (x.fetches.filterMap (·.segment)) s
  rw [h]

theorem endCmds_host (l : List HostCmd) (s : State) :
    (l.foldl (fun s x => endCmd x s) s).host = { s.host with cmds := (l.foldl (fun s x => endCmd x s) s).host.cmds } := by
  induction l generalizing s with
  | nil => rfl
  | cons x t ih =>
    rw [List.foldl_cons, ih, endCmd_host]

/-- An association that ends is gone; the others, the directory and what is on the media stay. -/
theorem endAssoc_assocs (c : Nat) (s : State) : (endAssoc c s).host.assocs = s.host.assocs.filter (·.cntlid != c) := by
  unfold endAssoc
  split
  · rename_i h
    symm
    rw [List.filter_eq_self]
    intro a ha
    have := List.find?_eq_none.1 h a ha
    simpa using this
  · dsimp only
    rw [endCmds_host]

theorem endAssoc_directory (c : Nat) (s : State) : (endAssoc c s).host.directory = s.host.directory := by
  unfold endAssoc
  split
  · rfl
  · dsimp only
    rw [endCmds_host]

theorem endAssoc_gone (c : Nat) (s : State) : (endAssoc c s).assoc c = none := by
  unfold State.assoc
  rw [endAssoc_assocs, List.find?_filter]
  simp

/-! ## Events to controllers (04 R89, R93) -/

theorem postEvent_directory (c e : Nat) (s : State) : (postEvent c e s).host.directory = s.host.directory := by
  unfold postEvent
  split
  · rfl
  · dsimp only
    split
    · rfl
    · split
      · rw [answer_eq_host]; rfl
      · split <;> rfl

theorem postEvent_hup (c e : Nat) (s : State) : (postEvent c e s).hup = s.hup := by
  unfold postEvent
  split
  · rfl
  · dsimp only
    split
    · rfl
    · split
      · rw [answer_eq_hup]; rfl
      · split <;> rfl

theorem noteChanged_directory (h n : Nat) (s : State) : (noteChanged h n s).host.directory = s.host.directory := by
  refine foldl_keep (fun s : State => s.host.directory) _ (fun s a => ?_) _ s
  dsimp only
  rw [postEvent_directory]
  split <;> rfl

theorem noteChanged_hup (h n : Nat) (s : State) : (noteChanged h n s).hup = s.hup := by
  refine foldl_keep (fun s : State => s.hup) _ (fun s a => ?_) _ s
  dsimp only
  rw [postEvent_hup]
  split <;> rfl

/-- A number below `n + 1` that a list of `n` does not hold. -/
theorem free_index (l : List Nat) : ∃ i, ((List.range (l.length + 1)).find? fun i => !l.contains i) = some i ∧ i ∉ l := by
  cases h : (List.range (l.length + 1)).find? fun i => !l.contains i with
  | some i =>
    have := List.find?_some h
    exact ⟨i, rfl, by simpa using this⟩
  | none =>
    exfalso
    have hs : ∀ i ∈ List.range (l.length + 1), i ∈ l := by
      intro i hi
      have := List.find?_eq_none.1 h i hi
      simpa using this
    have := (List.Nodup.subperm List.nodup_range hs).length_le
    simp at this

end Sys2Proof.Machine
end

