-- ==== Sys2Proof/Laws/HostIo.lean ====
section
/-!
SUPPORT. What taking in a host command does: the context it gets, and where it is served (04 R89 to R95).
-/
namespace Sys2Proof.Machine

/-- A meaning of the datapath while it runs. -/
theorem actPipe_on (f : State → State) (s : State) (h : s.pipes = true) : actPipe f s = .next (f s) := by simp [actPipe, h]

/-- A meaning of host I/O while it is served. -/
theorem actIO_on (f : State → State) (s : State) (h : s.serves = true) : actIO f s = .next (f s) := by simp [actIO, h]

theorem serves_parts (s : State) (h : s.serves = true) : s.up = true ∧ s.hup.dumping = false ∧ s.media.ioAdmitted = true := by
  simpa [State.serves, State.pipes, and_assoc] using h

theorem ioReady_serves (c : IoCapsule) (s : State) (h : ioReady c s = true) : s.serves = true := by
  unfold ioReady at h
  simp only [Bool.and_eq_true] at h
  exact h.1.1

theorem ioReady_fresh (c : IoCapsule) (s : State) (h : ioReady c s = true) : s.hostCmd c.cntlid c.qid c.cid = none := by
  unfold ioReady at h
  simp only [Bool.and_eq_true] at h
  simpa using h.1.2

/-- The context a capsule takes. -/
def newCmd (c : IoCapsule) (kind : HostCmdKind) (ranges : List (Nat × Nat × Nat)) (rsv : Option RsvReq) (data : List Sector) (pt : Nat)
    (need missing : Nat) (h : HostIdent) : HostCmd :=
  { cntlid := c.cntlid, qid := c.qid, cid := c.cid, kind := kind, nsid := c.nsid, slba := c.slba, nblk := c.nblk, ranges := ranges,
    data := data.take need, phase := .receiving, jseqs := [], missing := missing, fwdTag := none,
    host := hostKey h, rsv := rsv, pt := pt, fetches := [], failed := none, differs := false }

/-- A capsule that is ready, within its namespace and its SGL, takes a context (04 R89, R91, R94). -/
theorem submit_ok (c : IoCapsule) (kind : HostCmdKind) (ranges : List (Nat × Nat × Nat)) (rsv : Option RsvReq) (sgl : Option Nat) (data : List Sector)
    (pt : Nat) (badCrc : List Nat) (s : State) (sh : Bool) (n : Namespace) (h : ioReady c s = true) (hn : s.ns c.nsid = some (sh, n))
    (hr : c.slba + c.nblk ≤ n.size) (hb : ∀ r ∈ ranges, r.1 + r.2.1 ≤ n.size) (h1 : sgl = none ∨ c.nblk * sectorsPerBlock n ≤ 4096)
    (h2 : ∀ b, sgl = some b → 512 * (c.nblk * sectorsPerBlock n) ≤ b) :
    ∃ a i, s.assoc c.cntlid = some a ∧ s.ident a.host = some i ∧
      submit c kind ranges rsv sgl data pt badCrc s =
        takeContext badCrc (newCmd c kind ranges rsv data pt (c.nblk * sectorsPerBlock n)
          (if kind == .write || kind == .compare then c.nblk * sectorsPerBlock n - (data.take (c.nblk * sectorsPerBlock n)).length else 0) i) s := by
  unfold ioReady at h
  cases ha : s.assoc c.cntlid with
  | none => simp [ha] at h
  | some a =>
    cases hi : s.ident a.host with
    | none => simp [ha, hn, hi] at h
    | some i =>
      simp only [ha, hn, hi, Bool.and_eq_true, Bool.not_eq_true'] at h
      obtain ⟨_, ⟨hq, he⟩, ⟨⟨hg, hd⟩, ht⟩, hc⟩ := h
      refine ⟨a, i, rfl, hi, ?_⟩
      have e1 : (!(a.queues.any (·.1 == c.qid)) || !a.enabled) = false := by simp only [hq, he]; rfl
      have e2 : (!(i.grants.contains c.nsid) || n.deleting || replTarget s c.nsid) = false := by simp only [hg, hd, ht]; rfl
      have e3 : (ranges.any fun r => n.size < r.1 + r.2.1) = false := by
        rw [List.any_eq_false]; intro r hr'; simpa using hb r hr'
      have e4 : (decide (n.size < c.slba + c.nblk) || false) = false := by simp; omega
      have e5 : (sgl.isSome && decide (4096 < c.nblk * sectorsPerBlock n)) = false := by
        rcases h1 with h1 | h1
        · simp [h1]
        · simp; intro _; omega
      have e6 : (sgl.any (· < 512 * (c.nblk * sectorsPerBlock n))) = false := by
        cases sgl with
        | none => rfl
        | some b => have := h2 b rfl; simp; omega
      unfold submit
      simp only [ha, hn, hi, e1, Bool.false_eq_true, if_false, e2, e3, e4, e5, e6, hc, if_true]
      rfl

/-- Data is awaited: a context and a solicitation (04 R106). -/
theorem takeContext_wait (b : List Nat) (x : HostCmd) (s : State) (sh : Bool) (n : Namespace) (hn : s.ns x.nsid = some (sh, n)) (hm : x.missing ≠ 0) :
    takeContext b x s = (countTraffic x n { s with host := { s.host with cmds := s.host.cmds ++ [x] } }).emit (.solicit x.cntlid x.qid x.cid (512 * x.missing)) := by
  have hn' : ({ s with host := { s.host with cmds := s.host.cmds ++ [x] } } : State).ns x.nsid = some (sh, n) := hn
  unfold takeContext
  simp only [hn']
  rw [if_neg (by simpa using hm)]
  rfl

/-- Every datum is here: a context, and the command is routed (04 R94). -/
theorem takeContext_route (b : List Nat) (x : HostCmd) (s : State) (sh : Bool) (n : Namespace) (hn : s.ns x.nsid = some (sh, n)) (hm : x.missing = 0) :
    takeContext b x s = route b x (countTraffic x n { s with host := { s.host with cmds := s.host.cmds ++ [x] } }) := by
  have hn' : ({ s with host := { s.host with cmds := s.host.cmds ++ [x] } } : State).ns x.nsid = some (sh, n) := hn
  unfold takeContext
  simp only [hn']
  rw [if_pos (by simpa using hm)]

theorem countTraffic_only (x : HostCmd) (n : Namespace) (s : State) : ∃ t, countTraffic x n s = { s with media := { s.media with traffic := t } } := by
  unfold countTraffic
  dsimp only
  split <;> exact ⟨_, rfl⟩

/-- The owner that reports a group Optimised serves a command itself (04 R95). -/
theorem route_here (b : List Nat) (x : HostCmd) (s : State) (sh : Bool) (n : Namespace) (h : servesHere s x.nsid sh n) :
    route b x s = serveLocal b x s := by
  obtain ⟨hn, ha, ho, -, -⟩ := h
  unfold route
  simp only [hn, ha, ho, if_true]

theorem servesHere_cmds (s : State) (cs : List HostCmd) (t : Nat × Nat × Nat × Nat) (i : Nat) (sh : Bool) (n : Namespace) (h : servesHere s i sh n) :
    servesHere { s with host := { s.host with cmds := cs }, media := { s.media with traffic := t } } i sh n := h

/-- A command that changes data, with nothing in its way, is ready for the journal (05 R112). -/
theorem serveLocal_write (b : List Nat) (x : HostCmd) (s : State) (sh : Bool) (n : Namespace) (h : servesHere s x.nsid sh n) (hk : isWrite x.kind = true) :
    serveLocal b x s = s.putCmd { x with phase := .ready } := by
  obtain ⟨hn, -, -, hr, hc⟩ := h
  have k1 : (x.kind == HostCmdKind.reservation) = false := by cases hx : x.kind <;> simp_all [isWrite]
  have k2 : (x.kind == HostCmdKind.flush) = false := by cases hx : x.kind <;> simp_all [isWrite]
  have hw : mayWrite n.rsv x.host = true := by simp [mayWrite, hr]
  unfold serveLocal
  simp only [hn, k1, k2, hk, hw, hc, Bool.not_true, Bool.and_false, Bool.false_and, Bool.or_self, Bool.false_eq_true, if_false, if_true]

/-- A context that has just been taken is found by its names. -/
theorem hostCmd_new (s : State) (x : HostCmd) (hf : x.fwdTag = none) (h : s.hostCmd x.cntlid x.qid x.cid = none) :
    (s.host.cmds ++ [x]).find? (fun y => y.is x.cntlid x.qid x.cid && y.fwdTag.isNone) = some x := by
  unfold State.hostCmd at h
  rw [List.find?_append, h]
  simp [HostCmd.is, hf]

/-- Changing a command that has just been taken changes it alone. -/
theorem updateIf_new (l : List HostCmd) (x y : HostCmd) (hf : x.fwdTag = none)
    (h : l.find? (fun z => z.is x.cntlid x.qid x.cid && z.fwdTag.isNone) = none)
    (hy : y.cntlid = x.cntlid ∧ y.qid = x.qid ∧ y.cid = x.cid ∧ y.fwdTag = none) :
    updateIf (fun z => z.is y.cntlid y.qid y.cid && z.fwdTag == y.fwdTag) (fun _ => y) (l ++ [x]) = l ++ [y] := by
  obtain ⟨h1, h2, h3, h4⟩ := hy
  unfold updateIf
  rw [List.map_append]
  congr 1
  · conv_rhs => rw [← List.map_id l]
    apply List.map_congr_left
    intro z hz
    have := List.find?_eq_none.1 h z hz
    rw [if_neg]
    · rfl
    · rw [h1, h2, h3, h4]
      intro hc
      apply this
      simpa using hc
  · simp [HostCmd.is, h1, h2, h3, h4, hf]

/-- Dropping a command that has just been taken leaves the rest. -/
theorem filter_new (l : List HostCmd) (x y : HostCmd) (hf : x.fwdTag = none)
    (h : l.find? (fun z => z.is x.cntlid x.qid x.cid && z.fwdTag.isNone) = none)
    (hy : y.cntlid = x.cntlid ∧ y.qid = x.qid ∧ y.cid = x.cid ∧ y.fwdTag = none) :
    (l ++ [x]).filter (fun z => !(z.is y.cntlid y.qid y.cid && z.fwdTag == y.fwdTag)) = l := by
  obtain ⟨h1, h2, h3, h4⟩ := hy
  rw [List.filter_append, List.filter_eq_self.2]
  · simp [HostCmd.is, h1, h2, h3, h4, hf]
  · intro z hz
    have := List.find?_eq_none.1 h z hz
    rw [h1, h2, h3, h4]
    by_contra hc
    apply this
    simpa using hc

/-- With no group in Change nothing waits to be drained. -/
theorem settleDrain_calm (s : State) (h : s.peer.changes = []) : settleDrain s = s := by
  unfold settleDrain
  rw [h]
  rfl

/-- A host command completes while no group is in Change (04 R101). -/
theorem complete_calm (x : HostCmd) (st : NvmeStatus) (s : State) (d : Nat) (hd : s.hup.dumping = false) (hc : s.peer.changes = []) (hf : x.fwdTag = none) :
    complete x st s d = (s.dropCmd x).emit (.completion x.cntlid x.qid x.cid st d) := by
  unfold complete
  rw [if_neg (by simp [hd])]
  simp only [hf]
  rw [settleDrain_calm]
  · rfl
  · exact hc

/-! ## A read of one grain that the map does not name (06 R144, Table 6.1) -/

/-- One 4 KiB block is one grain, all eight sectors of it. -/
theorem wantedSectors_block (n : Namespace) (x : HostCmd) (hs : n.small = false) (h1 : x.nblk = 1) : wantedSectors n x x.slba = [0, 1, 2, 3, 4, 5, 6, 7] := by
  have hb : sectorsPerBlock n = 8 := by simp [sectorsPerBlock, hs]
  unfold wantedSectors
  rw [hb, h1]
  rw [List.filter_eq_self.2]
  · rfl
  · intro i hi
    have := List.mem_range.1 hi
    simp
    omega

/-- Unmapped, with no journal record of the namespace: eight zero sectors, nothing to fetch. -/
theorem resolve_unmapped (s : State) (sh : Bool) (n : Namespace) (b : List Nat) (x : HostCmd) (no : Nat) (hs : n.small = false) (h1 : x.nblk = 1)
    (hm : (s.store sh).mapGet n.root n.height x.slba = .unmapped) (hl : pageLost s sh n x.slba = false) :
    resolveGrain s sh n [] b x x.slba no = some ([(0, 0), (1, 0), (2, 0), (3, 0), (4, 0), (5, 0), (6, 0), (7, 0)], []) := by
  unfold resolveGrain
  rw [wantedSectors_block n x hs h1]
  have hg : ∀ l, grainSource s sh n x.slba l = .data zeroSectors := by intro l; unfold grainSource; rw [hm]
  simp only [List.map_cons, List.map_nil, sectorSource, List.filterMap_cons, List.filterMap_nil, List.eraseDups_cons, List.eraseDups_nil,
    List.filter_cons, List.filter_nil, beq_self_eq_true, Bool.not_true, Bool.false_eq_true, if_false, if_true, hl, hg]
  rfl

/-- A command that has just been taken, as the state holds it. -/
theorem cmdOf_new (s : State) (l : List HostCmd) (x y : HostCmd) (hf : x.fwdTag = none)
    (h : l.find? (fun z => z.is x.cntlid x.qid x.cid && z.fwdTag.isNone) = none)
    (hy : y.cntlid = x.cntlid ∧ y.qid = x.qid ∧ y.cid = x.cid ∧ y.fwdTag = none) (hc : s.host.cmds = l ++ [x]) : s.cmdOf y = x := by
  obtain ⟨h1, h2, h3, h4⟩ := hy
  unfold State.cmdOf
  rw [hc, h1, h2, h3, h4]
  have e : (fun z : HostCmd => z.is x.cntlid x.qid x.cid && z.fwdTag == none) = fun z => z.is x.cntlid x.qid x.cid && z.fwdTag.isNone := by
    funext z
    cases z.fwdTag <;> simp
  rw [e, List.find?_append, h]
  simp [HostCmd.is, hf]

/-- A read of one unmapped 4 KiB block at the owner gives zeros and completes, and its context is freed. -/
theorem startRead_unmapped (b : List Nat) (x : HostCmd) (l : List HostCmd) (s : State) (sh : Bool) (n : Namespace)
    (hn : s.ns x.nsid = some (sh, n)) (hs : n.small = false) (h1 : x.nblk = 1)
    (hm : (s.store sh).mapGet n.root n.height x.slba = .unmapped) (hl : pageLost s sh n x.slba = false)
    (hr : ∀ e ∈ s.wr.ring, e.rec_.nsid ≠ x.nsid) (hk : x.kind = .read) (hf : x.fwdTag = none) (hx : x.fetches = []) (hxf : x.failed = none)
    (hxd : x.differs = false) (hc : s.host.cmds = l ++ [x]) (hl2 : l.find? (fun z => z.is x.cntlid x.qid x.cid && z.fwdTag.isNone) = none)
    (hd : s.hup.dumping = false) (hch : s.peer.changes = []) :
    ∃ t, startRead b x s = t ∧ t.host.cmds = l ∧
      t.outputs = [Output.completion x.cntlid x.qid x.cid .success 0,
        .hostData x.cntlid x.qid x.cid x.slba [(0, 0), (1, 0), (2, 0), (3, 0), (4, 0), (5, 0), (6, 0), (7, 0)]] ++ s.outputs ∧ t.md = s.md := by
  have hb : sectorsPerBlock n = 8 := by simp [sectorsPerBlock, hs]
  have hring : (s.wr.ring.filter fun e => e.rec_.nsid == x.nsid && e.mapped.length < recordSteps e.rec_) = [] := by
    rw [List.filter_eq_nil_iff]
    intro e he
    simp [hr e he]
  have hlo : x.slba * 8 / 8 = x.slba := by omega
  have hhi : ((x.slba + 1) * 8 + 7) / 8 - x.slba = 1 := by omega
  refine ⟨_, rfl, ?_⟩
  unfold startRead
  simp only [hn, hb, h1, hlo, hhi, hring, List.reverse_nil]
  have c0 : s.cmdOf x = x := cmdOf_new s l x x hf hl2 ⟨rfl, rfl, rfl, hf⟩ hc
  rw [c0]
  obtain ⟨y, hy⟩ : ∃ y, y = ({ x with phase := .reading } : HostCmd) := ⟨_, rfl⟩
  rw [← hy]
  have hyp : y.cntlid = x.cntlid ∧ y.qid = x.qid ∧ y.cid = x.cid ∧ y.fwdTag = none := by subst hy; exact ⟨rfl, rfl, rfl, hf⟩
  have hcm : (s.putCmd y).host.cmds = l ++ [y] := by
    show updateIf _ _ s.host.cmds = _
    rw [hc]
    exact updateIf_new l x y hf hl2 hyp
  have hl3 : l.find? (fun z => z.is y.cntlid y.qid y.cid && z.fwdTag.isNone) = none := by
    obtain ⟨a, b, c, _⟩ := hyp
    rw [a, b, c]
    exact hl2
  have c1 : (s.putCmd y).cmdOf x = y := cmdOf_new _ l y x hyp.2.2.2 hl3 ⟨hyp.1.symm, hyp.2.1.symm, hyp.2.2.1.symm, hf⟩ hcm
  have ry : ∀ no, resolveGrain s sh n [] b y x.slba no = some ([(0, 0), (1, 0), (2, 0), (3, 0), (4, 0), (5, 0), (6, 0), (7, 0)], []) := by
    intro no
    subst hy
    exact resolve_unmapped s sh n b { x with phase := .reading } no hs h1 hm hl
  simp only [List.range'_one, List.foldl_cons, List.foldl_nil, readGrain, hn, c1, ry, List.isEmpty_cons, Bool.not_false, Bool.true_and, Bool.false_eq_true,
    if_false, List.append_nil]
  have ky : (y.kind == HostCmdKind.read) = true := by subst hy; simp [hk]
  rw [if_pos ky]
  obtain ⟨z, hz⟩ : ∃ z, z = ({ y with phase := .sending } : HostCmd) := ⟨_, rfl⟩
  have hz' : ({ y with fetches := y.fetches, phase := .sending } : HostCmd) = z := hz.symm
  rw [hz']
  have hzp : z.cntlid = y.cntlid ∧ z.qid = y.qid ∧ z.cid = y.cid ∧ z.fwdTag = none := by subst hz; exact ⟨rfl, rfl, rfl, hyp.2.2.2⟩
  have hcm2 : ((s.putCmd y).putCmd z).host.cmds = l ++ [z] := by
    show updateIf _ _ (s.putCmd y).host.cmds = _
    rw [hcm]
    exact updateIf_new l y z hyp.2.2.2 hl3 hzp
  have hl4 : l.find? (fun w => w.is z.cntlid z.qid z.cid && w.fwdTag.isNone) = none := by
    obtain ⟨a, b, c, _⟩ := hzp
    rw [a, b, c]
    exact hl3
  have kz : (z.kind == HostCmdKind.compare) = false := by subst hz; subst hy; simp [hk]
  have zn : z.cntlid = x.cntlid ∧ z.qid = x.qid ∧ z.cid = x.cid := ⟨hzp.1.trans hyp.1, hzp.2.1.trans hyp.2.1, hzp.2.2.1.trans hyp.2.2.1⟩
  unfold deliverSectors
  rw [if_neg (by simp [kz])]
  simp only [hzp.2.2.2]
  rw [send_emit _ _ rfl]
  have c2 : ∀ o, (((s.putCmd y).putCmd z).emit o).cmdOf x = z := fun o =>
    cmdOf_new _ l z x hzp.2.2.2 hl4 ⟨zn.1.symm, zn.2.1.symm, zn.2.2.symm, hf⟩ hcm2
  rw [c2]
  have e1 : z.fetches = [] := by subst hz; subst hy; exact hx
  have e2 : z.failed = none := by subst hz; subst hy; exact hxf
  have e3 : z.differs = false := by subst hz; subst hy; exact hxd
  unfold endRead
  rw [if_neg (by simp [e1])]
  simp only [e2, e3, Bool.false_eq_true, if_false]
  rw [complete_calm _ _ _ _ (by exact hd) (by exact hch) hzp.2.2.2]
  refine ⟨?_, ?_, rfl⟩
  · show ((s.putCmd y).putCmd z).host.cmds.filter _ = l
    rw [hcm2]
    exact filter_new l z z hzp.2.2.2 hl4 ⟨rfl, rfl, rfl, hzp.2.2.2⟩
  · rw [zn.1, zn.2.1, zn.2.2]
    rfl

/-! ## Reservations (04 R93, 11 R276) -/

/-- What one delta to a store this head serves leaves alone. -/
theorem oneDelta_host (sh : Bool) (d : Delta) (s : State) : (oneDelta sh d s).host = s.host := by
  unfold oneDelta
  rw [commit_host]
  unfold Tx.addAt
  split
  · rfl
  · unfold Tx.add State.putStore
    split <;> rfl

theorem oneDelta_hup (sh : Bool) (d : Delta) (s : State) : (oneDelta sh d s).hup = s.hup := by
  unfold oneDelta
  rw [commit_hup]
  unfold Tx.addAt
  split
  · rfl
  · unfold Tx.add State.putStore
    split <;> rfl

theorem oneDelta_peer (sh : Bool) (d : Delta) (s : State) :
    (oneDelta sh d s).peer.changes = s.peer.changes ∧ (oneDelta sh d s).peer.st = s.peer.st := by
  unfold oneDelta
  rw [commit_peer_changes, commit_peer_st]
  unfold Tx.addAt
  split
  · exact ⟨rfl, rfl⟩
  · unfold Tx.add State.putStore
    split <;> exact ⟨rfl, rfl⟩

theorem ns_nsid (s : State) (i : Nat) (sh : Bool) (n : Namespace) (h : s.ns i = some (sh, n)) : n.nsid = i := by
  unfold State.ns at h
  split at h
  · rename_i m hm
    cases h
    simpa using List.find?_some hm
  · cases hm : s.md.shadow.ns i with
    | none => rw [hm] at h; cases h
    | some m =>
      rw [hm] at h
      cases h
      simpa using List.find?_some hm

/-- A reservation command at the owner, with no partner and nobody else registered, stores the new reservation and completes. -/
theorem reserve_ok (c : IoCapsule) (q : RsvReq) (s : State) (sh : Bool) (n : Namespace) (a : Assoc) (i : HostIdent) (r : Rsv)
    (hr : ioReady c s = true) (hn : s.ns c.nsid = some (sh, n)) (ha : anaState s n.group = .optimised) (ho : s.owns n.group = true)
    (hs : sh = false ∨ s.peer.survivor = true) (hp : s.peer.st ≠ .paired) (hch : s.peer.changes = [])
    (has : s.assoc c.cntlid = some a) (hi : s.ident a.host = some i) (hq : applyRsv q (hostKey i) n.rsv = some r)
    (hreg : ∀ e ∈ n.rsv.regs, e.1 = hostKey i) :
    ∃ t, actIO (reserve c q) s = .next t ∧ (t.store sh).ns c.nsid = some { n with rsv := r } ∧ t.host.cmds = s.host.cmds ∧
      t.host.assocs = s.host.assocs ∧ t.outputs.head? = some (.completion c.cntlid c.qid c.cid .success 0) := by
  rw [actIO_on _ _ (ioReady_serves c s hr)]
  unfold reserve
  obtain ⟨c', hc'⟩ : ∃ c', c' = ({ c with slba := 0, nblk := 0 } : IoCapsule) := ⟨_, rfl⟩
  rw [← hc']
  have hr' : ioReady c' s = true := by rw [hc']; exact hr
  have hn' : s.ns c'.nsid = some (sh, n) := by rw [hc']; exact hn
  obtain ⟨a', i', ha', hi', e⟩ := submit_ok c' .reservation [] (some q) none [] 0 [] s sh n hr' hn' (by rw [hc']; simp) (by simp) (Or.inl rfl) (by simp)
  have haa : a' = a := by
    rw [hc'] at ha'
    exact Option.some.inj (ha'.symm.trans has)
  subst haa
  have hii : i' = i := Option.some.inj (hi'.symm.trans hi)
  subst hii
  rw [e]
  obtain ⟨x, hx⟩ : ∃ x, x = newCmd c' .reservation [] (some q) [] 0 (c'.nblk * sectorsPerBlock n) 0 i' := ⟨_, rfl⟩
  have hx' : newCmd c' .reservation [] (some q) [] 0 (c'.nblk * sectorsPerBlock n)
      (if HostCmdKind.reservation == HostCmdKind.write || HostCmdKind.reservation == HostCmdKind.compare
        then c'.nblk * sectorsPerBlock n - ([].take (c'.nblk * sectorsPerBlock n) : List Sector).length else 0) i' = x := hx.symm
  rw [hx']
  have xn : x.nsid = c.nsid := by rw [hx, hc']; rfl
  have xf : x.fwdTag = none := by rw [hx]; rfl
  have xk : x.kind = .reservation := by rw [hx]; rfl
  have xr : x.rsv = some q := by rw [hx]; rfl
  have xh : x.host = hostKey i' := by rw [hx]; rfl
  have xi : x.cntlid = c.cntlid ∧ x.qid = c.qid ∧ x.cid = c.cid := by rw [hx, hc']; exact ⟨rfl, rfl, rfl⟩
  rw [takeContext_route _ _ _ sh n (by rw [xn]; exact hn) (by rw [hx]; rfl)]
  obtain ⟨t, ht⟩ := countTraffic_only x n { s with host := { s.host with cmds := s.host.cmds ++ [x] } }
  rw [ht]
  obtain ⟨u, hu⟩ : ∃ u : State, u = { s with host := { s.host with cmds := s.host.cmds ++ [x] }, media := { s.media with traffic := t } } := ⟨_, rfl⟩
  have hu' : ({ ({ s with host := { s.host with cmds := s.host.cmds ++ [x] } } : State) with media := { s.media with traffic := t } } : State) = u := hu.symm
  have un : u.ns x.nsid = some (sh, n) := by rw [hu, xn]; exact hn
  have ua : anaState u n.group = .optimised := by rw [hu]; exact ha
  have uo : u.owns n.group = true := by rw [hu]; exact ho
  have up : u.peer = s.peer := by rw [hu]
  have uh : u.hup = s.hup := by rw [hu]
  have ust : u.store sh = s.store sh := by rw [hu]; rfl
  have uc : u.host.cmds = s.host.cmds ++ [x] := by rw [hu]
  have uas : u.host.assocs = s.host.assocs := by rw [hu]
  dsimp only at hu' ⊢
  rw [hu']
  unfold route
  simp only [un, ua, uo, if_true]
  unfold serveLocal
  simp only [un, xk, xr, xh, Option.bind_some, hq, beq_self_eq_true, if_true]
  unfold updateRsv tellRsv
  have hf : ((n.rsv.regs.map Prod.fst).filter fun h => some x.host != some h) = [] := by
    rw [List.filter_eq_nil_iff]
    intro h hm
    obtain ⟨e, he, rfl⟩ := List.mem_map.1 hm
    simp [xh, hreg e he]
  simp only [hf, List.foldl_nil, ite_self]
  have hpp : partnerPresent (oneDelta sh (.nsSet { n with rsv := r }) u) = false := by
    unfold partnerPresent
    rw [(oneDelta_peer _ _ _).2, up]
    simpa using hp
  rw [hpp]
  simp only [Bool.false_eq_true, if_false]
  have hd := (serves_parts s (ioReady_serves c s hr)).2.1
  rw [complete_calm _ _ _ _ (by rw [oneDelta_hup, uh]; exact hd) (by rw [(oneDelta_peer _ _ _).1, up]; exact hch) xf]
  have hst := oneDelta_store sh (.nsSet { n with rsv := r }) u (by rw [up]; exact hs)
  have hfr := ioReady_fresh c s hr
  rw [← xi.1, ← xi.2.1, ← xi.2.2] at hfr
  refine ⟨_, rfl, ?_, ?_, ?_, ?_⟩
  · show ((oneDelta sh (.nsSet { n with rsv := r }) u).store sh).ns c.nsid = _
    rw [hst, ← ns_nsid s c.nsid sh n hn]
    exact applyDelta_nsSet _ { n with rsv := r } _
  · show (oneDelta sh (.nsSet { n with rsv := r }) u).host.cmds.filter _ = _
    rw [oneDelta_host, uc]
    exact filter_new s.host.cmds x x xf hfr ⟨rfl, rfl, rfl, xf⟩
  · show (oneDelta sh (.nsSet { n with rsv := r }) u).host.assocs = _
    rw [oneDelta_host, uas]
  · rw [xi.1, xi.2.1, xi.2.2]
    rfl

end Sys2Proof.Machine
end

