-- ==== Sys2Proof/Laws/Media.lean ====
section
/-!
SUPPORT. What the shared operations of the media change at most: rebuild status, read-only states, losses, seals; and the end of a read.
-/
namespace Sys2Proof.Machine

/-- Bringing the rebuild registers up to date changes registers and the Signal controller. -/
theorem settleRebuild_only (s : State) : ∃ r g o, settleRebuild s = { s with regs := r, sig := g, outputs := o } := by
  unfold settleRebuild
  simp only
  have key : ∀ (a b : Bool) (m d1 d2 : Nat) (u : State), (∃ r g o, u = { s with regs := r, sig := g, outputs := o }) →
      ∃ r g o, (if b = true then fire 145 (if a = true then u else fire 144 u 0 d1) 0 d2 else (if a = true then u else fire 144 u 0 d1))
        = { s with regs := r, sig := g, outputs := o } := by
    intro a b m d1 d2 u hu
    obtain ⟨r, g, o, rfl⟩ := hu
    cases a <;> cases b <;> simp only [if_true, if_false, Bool.false_eq_true]
    · obtain ⟨r1, g1, o1, h1⟩ := fire_only 144 { s with regs := r, sig := g, outputs := o } 0 d1
      exact ⟨r1, g1, o1, h1⟩
    · obtain ⟨r1, g1, o1, h1⟩ := fire_only 144 { s with regs := r, sig := g, outputs := o } 0 d1
      rw [h1]
      obtain ⟨r2, g2, o2, h2⟩ := fire_only 145 { s with regs := r1, sig := g1, outputs := o1 } 0 d2
      exact ⟨r2, g2, o2, h2⟩
    · exact ⟨_, _, _, rfl⟩
    · obtain ⟨r2, g2, o2, h2⟩ := fire_only 145 { s with regs := r, sig := g, outputs := o } 0 d2
      exact ⟨r2, g2, o2, h2⟩
  have := key (rebuildState s == s.fld Reg.fMTL_REBUILD_STATUS_STATE)
    (decide (s.fld Reg.fMTL_REBUILD_COUNTS_CRIT_SEGS < (((mySegments s).filter (degraded s)).filter fun x => segmentR s x == 0).length)) 0
    (rebuildState s) (((mySegments s).filter (degraded s)).filter fun x => segmentR s x == 0).length
  simp only [decide_eq_true_eq] at this
  exact this _ ⟨_, _, _, rfl⟩

theorem settleMetaRo_only (s : State) : ∃ r k g o, settleMetaRo s = { s with regs := r, kpr := k, sig := g, outputs := o } := by
  unfold settleMetaRo
  simp only
  split
  · exact ⟨_, _, _, _, rfl⟩
  · obtain ⟨r, g, o, h⟩ := fire_only 152 (s.setFlag Reg.fMTL_META_STATUS_META_RO (!s.media.modules.isEmpty && decide ((activeModules s 0).length < 12))) 0 0
    rw [h]
    split
    · obtain ⟨r', k', g', o', h'⟩ := raiseFog_only 7 { (s.setFlag Reg.fMTL_META_STATUS_META_RO (!s.media.modules.isEmpty && decide ((activeModules s 0).length < 12))) with regs := r, sig := g, outputs := o } 0 0
      exact ⟨r', k', g', o', h'⟩
    · exact ⟨_, _, _, _, rfl⟩

/-- The read-only states change the domains, registers, the Keeper's Fog and the Signal controller. -/
theorem settleRo_only (s : State) :
    ∃ r d k g o, settleRo s = { s with regs := r, media := { s.media with domains := d }, kpr := k, sig := g, outputs := o } := by
  unfold settleRo
  obtain ⟨r, k, g, o, h⟩ := settleMetaRo_only s
  simp only
  rw [h]
  have key : ∀ (l : List Nat) (u : State), (∃ r d k g o, u = { s with regs := r, media := { s.media with domains := d }, kpr := k, sig := g, outputs := o }) →
      ∃ r d k g o, l.foldl (fun s d =>
        let ro := (s.domain d).code.isSome && domainRO s d
        if ro == (s.domain d).readOnly then s
        else
          let s := fire 148 (s.putDomain d { s.domain d with readOnly := ro })
          if ro then raiseFog 7 s (arg := d) else s) u = { s with regs := r, media := { s.media with domains := d }, kpr := k, sig := g, outputs := o } := by
    intro l
    induction l with
    | nil => intro u h; exact h
    | cons n t ih =>
      intro u hu
      rw [List.foldl_cons]
      apply ih
      obtain ⟨r, d, k, g, o, rfl⟩ := hu
      simp only
      split
      · exact ⟨_, _, _, _, _, rfl⟩
      · rename_i hne
        generalize ((_ : State).domain n).code.isSome = c
        obtain ⟨r1, g1, o1, h1⟩ := fire_only 148 (State.putDomain { s with regs := r, media := { s.media with domains := d }, kpr := k, sig := g, outputs := o } n
          { (State.domain { s with regs := r, media := { s.media with domains := d }, kpr := k, sig := g, outputs := o } n) with
            readOnly := c && domainRO { s with regs := r, media := { s.media with domains := d }, kpr := k, sig := g, outputs := o } n }) 0 0
        rw [h1]
        split
        · obtain ⟨r2, k2, g2, o2, h2⟩ := raiseFog_only 7 _ n 0
          rw [h2]
          exact ⟨_, _, _, _, _, rfl⟩
        · exact ⟨_, _, _, _, _, rfl⟩
  exact key _ _ ⟨_, s.media.domains, _, _, _, rfl⟩

theorem onModule_only (i : Nat) (f : Module → Module) (s : State) : ∃ m, onModule i f s = { s with media := { s.media with modules := m } } := by
  unfold onModule
  split <;> exact ⟨_, rfl⟩


/-! ## Fields that stay -/

@[simp] theorem settleRebuild_pending (s : State) : (settleRebuild s).pending = s.pending := by
  obtain ⟨_, _, _, h⟩ := settleRebuild_only s; rw [h]
@[simp] theorem settleRebuild_now (s : State) : (settleRebuild s).now = s.now := by
  obtain ⟨_, _, _, h⟩ := settleRebuild_only s; rw [h]
@[simp] theorem settleRebuild_scratch (s : State) : (settleRebuild s).scratch = s.scratch := by
  obtain ⟨_, _, _, h⟩ := settleRebuild_only s; rw [h]
@[simp] theorem settleRebuild_lens (s : State) : (settleRebuild s).lens = s.lens := by
  obtain ⟨_, _, _, h⟩ := settleRebuild_only s; rw [h]
@[simp] theorem settleRebuild_ctl (s : State) : (settleRebuild s).ctl = s.ctl := by
  obtain ⟨_, _, _, h⟩ := settleRebuild_only s; rw [h]
@[simp] theorem settleRebuild_host (s : State) : (settleRebuild s).host = s.host := by
  obtain ⟨_, _, _, h⟩ := settleRebuild_only s; rw [h]
@[simp] theorem settleRebuild_wr (s : State) : (settleRebuild s).wr = s.wr := by
  obtain ⟨_, _, _, h⟩ := settleRebuild_only s; rw [h]
@[simp] theorem settleRebuild_rd (s : State) : (settleRebuild s).rd = s.rd := by
  obtain ⟨_, _, _, h⟩ := settleRebuild_only s; rw [h]
@[simp] theorem settleRebuild_media (s : State) : (settleRebuild s).media = s.media := by
  obtain ⟨_, _, _, h⟩ := settleRebuild_only s; rw [h]
@[simp] theorem settleRebuild_sml (s : State) : (settleRebuild s).sml = s.sml := by
  obtain ⟨_, _, _, h⟩ := settleRebuild_only s; rw [h]
@[simp] theorem settleRebuild_md (s : State) : (settleRebuild s).md = s.md := by
  obtain ⟨_, _, _, h⟩ := settleRebuild_only s; rw [h]
@[simp] theorem settleRebuild_peer (s : State) : (settleRebuild s).peer = s.peer := by
  obtain ⟨_, _, _, h⟩ := settleRebuild_only s; rw [h]
@[simp] theorem settleRebuild_hup (s : State) : (settleRebuild s).hup = s.hup := by
  obtain ⟨_, _, _, h⟩ := settleRebuild_only s; rw [h]
@[simp] theorem settleRebuild_repl (s : State) : (settleRebuild s).repl = s.repl := by
  obtain ⟨_, _, _, h⟩ := settleRebuild_only s; rw [h]
@[simp] theorem settleRebuild_eng (s : State) : (settleRebuild s).eng = s.eng := by
  obtain ⟨_, _, _, h⟩ := settleRebuild_only s; rw [h]
@[simp] theorem settleRebuild_kpr (s : State) : (settleRebuild s).kpr = s.kpr := by
  obtain ⟨_, _, _, h⟩ := settleRebuild_only s; rw [h]
@[simp] theorem settleRebuild_boot (s : State) : (settleRebuild s).boot = s.boot := by
  obtain ⟨_, _, _, h⟩ := settleRebuild_only s; rw [h]
@[simp] theorem settleRebuild_env (s : State) : (settleRebuild s).env = s.env := by
  obtain ⟨_, _, _, h⟩ := settleRebuild_only s; rw [h]
@[simp] theorem settleRebuild_ubQueue (s : State) : (settleRebuild s).ubQueue = s.ubQueue := by
  obtain ⟨_, _, _, h⟩ := settleRebuild_only s; rw [h]
@[simp] theorem settleRebuild_free (s : State) : (settleRebuild s).free = s.free := by
  obtain ⟨_, _, _, h⟩ := settleRebuild_only s; rw [h]

@[simp] theorem settleRo_pending (s : State) : (settleRo s).pending = s.pending := by
  obtain ⟨_, _, _, _, _, h⟩ := settleRo_only s; rw [h]
@[simp] theorem settleRo_now (s : State) : (settleRo s).now = s.now := by
  obtain ⟨_, _, _, _, _, h⟩ := settleRo_only s; rw [h]
@[simp] theorem settleRo_scratch (s : State) : (settleRo s).scratch = s.scratch := by
  obtain ⟨_, _, _, _, _, h⟩ := settleRo_only s; rw [h]
@[simp] theorem settleRo_lens (s : State) : (settleRo s).lens = s.lens := by
  obtain ⟨_, _, _, _, _, h⟩ := settleRo_only s; rw [h]
@[simp] theorem settleRo_ctl (s : State) : (settleRo s).ctl = s.ctl := by
  obtain ⟨_, _, _, _, _, h⟩ := settleRo_only s; rw [h]
@[simp] theorem settleRo_host (s : State) : (settleRo s).host = s.host := by
  obtain ⟨_, _, _, _, _, h⟩ := settleRo_only s; rw [h]
@[simp] theorem settleRo_wr (s : State) : (settleRo s).wr = s.wr := by
  obtain ⟨_, _, _, _, _, h⟩ := settleRo_only s; rw [h]
@[simp] theorem settleRo_rd (s : State) : (settleRo s).rd = s.rd := by
  obtain ⟨_, _, _, _, _, h⟩ := settleRo_only s; rw [h]
@[simp] theorem settleRo_sml (s : State) : (settleRo s).sml = s.sml := by
  obtain ⟨_, _, _, _, _, h⟩ := settleRo_only s; rw [h]
@[simp] theorem settleRo_md (s : State) : (settleRo s).md = s.md := by
  obtain ⟨_, _, _, _, _, h⟩ := settleRo_only s; rw [h]
@[simp] theorem settleRo_peer (s : State) : (settleRo s).peer = s.peer := by
  obtain ⟨_, _, _, _, _, h⟩ := settleRo_only s; rw [h]
@[simp] theorem settleRo_hup (s : State) : (settleRo s).hup = s.hup := by
  obtain ⟨_, _, _, _, _, h⟩ := settleRo_only s; rw [h]
@[simp] theorem settleRo_repl (s : State) : (settleRo s).repl = s.repl := by
  obtain ⟨_, _, _, _, _, h⟩ := settleRo_only s; rw [h]
@[simp] theorem settleRo_eng (s : State) : (settleRo s).eng = s.eng := by
  obtain ⟨_, _, _, _, _, h⟩ := settleRo_only s; rw [h]
@[simp] theorem settleRo_boot (s : State) : (settleRo s).boot = s.boot := by
  obtain ⟨_, _, _, _, _, h⟩ := settleRo_only s; rw [h]
@[simp] theorem settleRo_env (s : State) : (settleRo s).env = s.env := by
  obtain ⟨_, _, _, _, _, h⟩ := settleRo_only s; rw [h]
@[simp] theorem settleRo_ubQueue (s : State) : (settleRo s).ubQueue = s.ubQueue := by
  obtain ⟨_, _, _, _, _, h⟩ := settleRo_only s; rw [h]
@[simp] theorem settleRo_free (s : State) : (settleRo s).free = s.free := by
  obtain ⟨_, _, _, _, _, h⟩ := settleRo_only s; rw [h]

@[simp] theorem onModule_pending (i : Nat) (f : Module → Module) (s : State) : (onModule i f s).pending = s.pending := by
  obtain ⟨_, h⟩ := onModule_only i f s; rw [h]
@[simp] theorem onModule_now (i : Nat) (f : Module → Module) (s : State) : (onModule i f s).now = s.now := by
  obtain ⟨_, h⟩ := onModule_only i f s; rw [h]
@[simp] theorem onModule_regs (i : Nat) (f : Module → Module) (s : State) : (onModule i f s).regs = s.regs := by
  obtain ⟨_, h⟩ := onModule_only i f s; rw [h]
@[simp] theorem onModule_scratch (i : Nat) (f : Module → Module) (s : State) : (onModule i f s).scratch = s.scratch := by
  obtain ⟨_, h⟩ := onModule_only i f s; rw [h]
@[simp] theorem onModule_lens (i : Nat) (f : Module → Module) (s : State) : (onModule i f s).lens = s.lens := by
  obtain ⟨_, h⟩ := onModule_only i f s; rw [h]
@[simp] theorem onModule_ctl (i : Nat) (f : Module → Module) (s : State) : (onModule i f s).ctl = s.ctl := by
  obtain ⟨_, h⟩ := onModule_only i f s; rw [h]
@[simp] theorem onModule_host (i : Nat) (f : Module → Module) (s : State) : (onModule i f s).host = s.host := by
  obtain ⟨_, h⟩ := onModule_only i f s; rw [h]
@[simp] theorem onModule_wr (i : Nat) (f : Module → Module) (s : State) : (onModule i f s).wr = s.wr := by
  obtain ⟨_, h⟩ := onModule_only i f s; rw [h]
@[simp] theorem onModule_rd (i : Nat) (f : Module → Module) (s : State) : (onModule i f s).rd = s.rd := by
  obtain ⟨_, h⟩ := onModule_only i f s; rw [h]
@[simp] theorem onModule_sml (i : Nat) (f : Module → Module) (s : State) : (onModule i f s).sml = s.sml := by
  obtain ⟨_, h⟩ := onModule_only i f s; rw [h]
@[simp] theorem onModule_md (i : Nat) (f : Module → Module) (s : State) : (onModule i f s).md = s.md := by
  obtain ⟨_, h⟩ := onModule_only i f s; rw [h]
@[simp] theorem onModule_peer (i : Nat) (f : Module → Module) (s : State) : (onModule i f s).peer = s.peer := by
  obtain ⟨_, h⟩ := onModule_only i f s; rw [h]
@[simp] theorem onModule_hup (i : Nat) (f : Module → Module) (s : State) : (onModule i f s).hup = s.hup := by
  obtain ⟨_, h⟩ := onModule_only i f s; rw [h]
@[simp] theorem onModule_repl (i : Nat) (f : Module → Module) (s : State) : (onModule i f s).repl = s.repl := by
  obtain ⟨_, h⟩ := onModule_only i f s; rw [h]
@[simp] theorem onModule_eng (i : Nat) (f : Module → Module) (s : State) : (onModule i f s).eng = s.eng := by
  obtain ⟨_, h⟩ := onModule_only i f s; rw [h]
@[simp] theorem onModule_kpr (i : Nat) (f : Module → Module) (s : State) : (onModule i f s).kpr = s.kpr := by
  obtain ⟨_, h⟩ := onModule_only i f s; rw [h]
@[simp] theorem onModule_sig (i : Nat) (f : Module → Module) (s : State) : (onModule i f s).sig = s.sig := by
  obtain ⟨_, h⟩ := onModule_only i f s; rw [h]
@[simp] theorem onModule_boot (i : Nat) (f : Module → Module) (s : State) : (onModule i f s).boot = s.boot := by
  obtain ⟨_, h⟩ := onModule_only i f s; rw [h]
@[simp] theorem onModule_env (i : Nat) (f : Module → Module) (s : State) : (onModule i f s).env = s.env := by
  obtain ⟨_, h⟩ := onModule_only i f s; rw [h]
@[simp] theorem onModule_ubQueue (i : Nat) (f : Module → Module) (s : State) : (onModule i f s).ubQueue = s.ubQueue := by
  obtain ⟨_, h⟩ := onModule_only i f s; rw [h]
@[simp] theorem onModule_outputs (i : Nat) (f : Module → Module) (s : State) : (onModule i f s).outputs = s.outputs := by
  obtain ⟨_, h⟩ := onModule_only i f s; rw [h]
@[simp] theorem onModule_free (i : Nat) (f : Module → Module) (s : State) : (onModule i f s).free = s.free := by
  obtain ⟨_, h⟩ := onModule_only i f s; rw [h]

/-- A delta to a store, or sent to the partner, changes the two stores at most. -/
theorem addAt_only (t : Tx) (sh : Bool) (d : Delta) : ∃ a b, (t.addAt sh d).s = { t.s with md := { t.s.md with store := a, shadow := b } } := by
  unfold Tx.addAt
  split
  · exact ⟨_, _, rfl⟩
  · unfold Tx.add State.putStore
    split <;> exact ⟨_, _, rfl⟩

theorem addAt_wr (t : Tx) (sh : Bool) (d : Delta) : (t.addAt sh d).s.wr = t.s.wr := by
  obtain ⟨_, _, h⟩ := addAt_only t sh d; rw [h]

/-- One delta changes the metadata, the log's byte count and the pair link. -/
theorem oneDelta_only (sh : Bool) (d : Delta) (s : State) :
    ∃ m b p q x, oneDelta sh d s = { s with md := m, media := { s.media with logBytes := b }, peer := p, ubQueue := q, outputs := x } := by
  unfold oneDelta
  obtain ⟨l, k, n, r, b, g, m, q, x, h⟩ := commit_frame ((Tx.start s).addAt sh d) 0
  obtain ⟨a, c, h'⟩ := addAt_only (Tx.start s) sh d
  rw [h, h']
  exact ⟨_, b, _, q, x, rfl⟩

theorem putSegment_only (sh : Bool) (y : Segment) (s : State) :
    ∃ m b p q x, putSegment sh y s = { s with md := m, media := { s.media with logBytes := b }, peer := p, ubQueue := q, outputs := x } := oneDelta_only _ _ _

theorem sealSegment_only (sh : Bool) (y : Segment) (s : State) :
    ∃ m b p q x, sealSegment sh y s = { s with md := m, media := { s.media with logBytes := b }, peer := p, ubQueue := q, outputs := x } := by
  unfold sealSegment
  split
  · exact putSegment_only _ _ _
  · exact ⟨_, s.media.logBytes, _, _, _, rfl⟩

@[simp] theorem oneDelta_pending (sh : Bool) (d : Delta) (s : State) : (oneDelta sh d s).pending = s.pending := by
  obtain ⟨_, _, _, _, _, h⟩ := oneDelta_only sh d s; rw [h]
@[simp] theorem oneDelta_now (sh : Bool) (d : Delta) (s : State) : (oneDelta sh d s).now = s.now := by
  obtain ⟨_, _, _, _, _, h⟩ := oneDelta_only sh d s; rw [h]
@[simp] theorem oneDelta_regs (sh : Bool) (d : Delta) (s : State) : (oneDelta sh d s).regs = s.regs := by
  obtain ⟨_, _, _, _, _, h⟩ := oneDelta_only sh d s; rw [h]
@[simp] theorem oneDelta_scratch (sh : Bool) (d : Delta) (s : State) : (oneDelta sh d s).scratch = s.scratch := by
  obtain ⟨_, _, _, _, _, h⟩ := oneDelta_only sh d s; rw [h]
@[simp] theorem oneDelta_lens (sh : Bool) (d : Delta) (s : State) : (oneDelta sh d s).lens = s.lens := by
  obtain ⟨_, _, _, _, _, h⟩ := oneDelta_only sh d s; rw [h]
@[simp] theorem oneDelta_ctl (sh : Bool) (d : Delta) (s : State) : (oneDelta sh d s).ctl = s.ctl := by
  obtain ⟨_, _, _, _, _, h⟩ := oneDelta_only sh d s; rw [h]
@[simp] theorem oneDelta_wr (sh : Bool) (d : Delta) (s : State) : (oneDelta sh d s).wr = s.wr := by
  obtain ⟨_, _, _, _, _, h⟩ := oneDelta_only sh d s; rw [h]
@[simp] theorem oneDelta_rd (sh : Bool) (d : Delta) (s : State) : (oneDelta sh d s).rd = s.rd := by
  obtain ⟨_, _, _, _, _, h⟩ := oneDelta_only sh d s; rw [h]
@[simp] theorem oneDelta_sml (sh : Bool) (d : Delta) (s : State) : (oneDelta sh d s).sml = s.sml := by
  obtain ⟨_, _, _, _, _, h⟩ := oneDelta_only sh d s; rw [h]
@[simp] theorem oneDelta_repl (sh : Bool) (d : Delta) (s : State) : (oneDelta sh d s).repl = s.repl := by
  obtain ⟨_, _, _, _, _, h⟩ := oneDelta_only sh d s; rw [h]
@[simp] theorem oneDelta_eng (sh : Bool) (d : Delta) (s : State) : (oneDelta sh d s).eng = s.eng := by
  obtain ⟨_, _, _, _, _, h⟩ := oneDelta_only sh d s; rw [h]
@[simp] theorem oneDelta_kpr (sh : Bool) (d : Delta) (s : State) : (oneDelta sh d s).kpr = s.kpr := by
  obtain ⟨_, _, _, _, _, h⟩ := oneDelta_only sh d s; rw [h]
@[simp] theorem oneDelta_sig (sh : Bool) (d : Delta) (s : State) : (oneDelta sh d s).sig = s.sig := by
  obtain ⟨_, _, _, _, _, h⟩ := oneDelta_only sh d s; rw [h]
@[simp] theorem oneDelta_boot (sh : Bool) (d : Delta) (s : State) : (oneDelta sh d s).boot = s.boot := by
  obtain ⟨_, _, _, _, _, h⟩ := oneDelta_only sh d s; rw [h]
@[simp] theorem oneDelta_env (sh : Bool) (d : Delta) (s : State) : (oneDelta sh d s).env = s.env := by
  obtain ⟨_, _, _, _, _, h⟩ := oneDelta_only sh d s; rw [h]
@[simp] theorem oneDelta_free (sh : Bool) (d : Delta) (s : State) : (oneDelta sh d s).free = s.free := by
  obtain ⟨_, _, _, _, _, h⟩ := oneDelta_only sh d s; rw [h]

@[simp] theorem putSegment_pending (sh : Bool) (y : Segment) (s : State) : (putSegment sh y s).pending = s.pending := by
  obtain ⟨_, _, _, _, _, h⟩ := putSegment_only sh y s; rw [h]
@[simp] theorem putSegment_now (sh : Bool) (y : Segment) (s : State) : (putSegment sh y s).now = s.now := by
  obtain ⟨_, _, _, _, _, h⟩ := putSegment_only sh y s; rw [h]
@[simp] theorem putSegment_regs (sh : Bool) (y : Segment) (s : State) : (putSegment sh y s).regs = s.regs := by
  obtain ⟨_, _, _, _, _, h⟩ := putSegment_only sh y s; rw [h]
@[simp] theorem putSegment_scratch (sh : Bool) (y : Segment) (s : State) : (putSegment sh y s).scratch = s.scratch := by
  obtain ⟨_, _, _, _, _, h⟩ := putSegment_only sh y s; rw [h]
@[simp] theorem putSegment_lens (sh : Bool) (y : Segment) (s : State) : (putSegment sh y s).lens = s.lens := by
  obtain ⟨_, _, _, _, _, h⟩ := putSegment_only sh y s; rw [h]
@[simp] theorem putSegment_ctl (sh : Bool) (y : Segment) (s : State) : (putSegment sh y s).ctl = s.ctl := by
  obtain ⟨_, _, _, _, _, h⟩ := putSegment_only sh y s; rw [h]
@[simp] theorem putSegment_host (sh : Bool) (y : Segment) (s : State) : (putSegment sh y s).host = s.host := by
  obtain ⟨_, _, _, _, _, h⟩ := putSegment_only sh y s; rw [h]
@[simp] theorem putSegment_wr (sh : Bool) (y : Segment) (s : State) : (putSegment sh y s).wr = s.wr := by
  obtain ⟨_, _, _, _, _, h⟩ := putSegment_only sh y s; rw [h]
@[simp] theorem putSegment_rd (sh : Bool) (y : Segment) (s : State) : (putSegment sh y s).rd = s.rd := by
  obtain ⟨_, _, _, _, _, h⟩ := putSegment_only sh y s; rw [h]
@[simp] theorem putSegment_sml (sh : Bool) (y : Segment) (s : State) : (putSegment sh y s).sml = s.sml := by
  obtain ⟨_, _, _, _, _, h⟩ := putSegment_only sh y s; rw [h]
@[simp] theorem putSegment_hup (sh : Bool) (y : Segment) (s : State) : (putSegment sh y s).hup = s.hup := by
  obtain ⟨_, _, _, _, _, h⟩ := putSegment_only sh y s; rw [h]
@[simp] theorem putSegment_repl (sh : Bool) (y : Segment) (s : State) : (putSegment sh y s).repl = s.repl := by
  obtain ⟨_, _, _, _, _, h⟩ := putSegment_only sh y s; rw [h]
@[simp] theorem putSegment_eng (sh : Bool) (y : Segment) (s : State) : (putSegment sh y s).eng = s.eng := by
  obtain ⟨_, _, _, _, _, h⟩ := putSegment_only sh y s; rw [h]
@[simp] theorem putSegment_kpr (sh : Bool) (y : Segment) (s : State) : (putSegment sh y s).kpr = s.kpr := by
  obtain ⟨_, _, _, _, _, h⟩ := putSegment_only sh y s; rw [h]
@[simp] theorem putSegment_sig (sh : Bool) (y : Segment) (s : State) : (putSegment sh y s).sig = s.sig := by
  obtain ⟨_, _, _, _, _, h⟩ := putSegment_only sh y s; rw [h]
@[simp] theorem putSegment_boot (sh : Bool) (y : Segment) (s : State) : (putSegment sh y s).boot = s.boot := by
  obtain ⟨_, _, _, _, _, h⟩ := putSegment_only sh y s; rw [h]
@[simp] theorem putSegment_env (sh : Bool) (y : Segment) (s : State) : (putSegment sh y s).env = s.env := by
  obtain ⟨_, _, _, _, _, h⟩ := putSegment_only sh y s; rw [h]
@[simp] theorem putSegment_free (sh : Bool) (y : Segment) (s : State) : (putSegment sh y s).free = s.free := by
  obtain ⟨_, _, _, _, _, h⟩ := putSegment_only sh y s; rw [h]

@[simp] theorem sealSegment_pending (sh : Bool) (y : Segment) (s : State) : (sealSegment sh y s).pending = s.pending := by
  obtain ⟨_, _, _, _, _, h⟩ := sealSegment_only sh y s; rw [h]
@[simp] theorem sealSegment_now (sh : Bool) (y : Segment) (s : State) : (sealSegment sh y s).now = s.now := by
  obtain ⟨_, _, _, _, _, h⟩ := sealSegment_only sh y s; rw [h]
@[simp] theorem sealSegment_regs (sh : Bool) (y : Segment) (s : State) : (sealSegment sh y s).regs = s.regs := by
  obtain ⟨_, _, _, _, _, h⟩ := sealSegment_only sh y s; rw [h]
@[simp] theorem sealSegment_scratch (sh : Bool) (y : Segment) (s : State) : (sealSegment sh y s).scratch = s.scratch := by
  obtain ⟨_, _, _, _, _, h⟩ := sealSegment_only sh y s; rw [h]
@[simp] theorem sealSegment_lens (sh : Bool) (y : Segment) (s : State) : (sealSegment sh y s).lens = s.lens := by
  obtain ⟨_, _, _, _, _, h⟩ := sealSegment_only sh y s; rw [h]
@[simp] theorem sealSegment_ctl (sh : Bool) (y : Segment) (s : State) : (sealSegment sh y s).ctl = s.ctl := by
  obtain ⟨_, _, _, _, _, h⟩ := sealSegment_only sh y s; rw [h]
@[simp] theorem sealSegment_host (sh : Bool) (y : Segment) (s : State) : (sealSegment sh y s).host = s.host := by
  obtain ⟨_, _, _, _, _, h⟩ := sealSegment_only sh y s; rw [h]
@[simp] theorem sealSegment_wr (sh : Bool) (y : Segment) (s : State) : (sealSegment sh y s).wr = s.wr := by
  obtain ⟨_, _, _, _, _, h⟩ := sealSegment_only sh y s; rw [h]
@[simp] theorem sealSegment_rd (sh : Bool) (y : Segment) (s : State) : (sealSegment sh y s).rd = s.rd := by
  obtain ⟨_, _, _, _, _, h⟩ := sealSegment_only sh y s; rw [h]
@[simp] theorem sealSegment_sml (sh : Bool) (y : Segment) (s : State) : (sealSegment sh y s).sml = s.sml := by
  obtain ⟨_, _, _, _, _, h⟩ := sealSegment_only sh y s; rw [h]
@[simp] theorem sealSegment_hup (sh : Bool) (y : Segment) (s : State) : (sealSegment sh y s).hup = s.hup := by
  obtain ⟨_, _, _, _, _, h⟩ := sealSegment_only sh y s; rw [h]
@[simp] theorem sealSegment_repl (sh : Bool) (y : Segment) (s : State) : (sealSegment sh y s).repl = s.repl := by
  obtain ⟨_, _, _, _, _, h⟩ := sealSegment_only sh y s; rw [h]
@[simp] theorem sealSegment_eng (sh : Bool) (y : Segment) (s : State) : (sealSegment sh y s).eng = s.eng := by
  obtain ⟨_, _, _, _, _, h⟩ := sealSegment_only sh y s; rw [h]
@[simp] theorem sealSegment_kpr (sh : Bool) (y : Segment) (s : State) : (sealSegment sh y s).kpr = s.kpr := by
  obtain ⟨_, _, _, _, _, h⟩ := sealSegment_only sh y s; rw [h]
@[simp] theorem sealSegment_sig (sh : Bool) (y : Segment) (s : State) : (sealSegment sh y s).sig = s.sig := by
  obtain ⟨_, _, _, _, _, h⟩ := sealSegment_only sh y s; rw [h]
@[simp] theorem sealSegment_boot (sh : Bool) (y : Segment) (s : State) : (sealSegment sh y s).boot = s.boot := by
  obtain ⟨_, _, _, _, _, h⟩ := sealSegment_only sh y s; rw [h]
@[simp] theorem sealSegment_env (sh : Bool) (y : Segment) (s : State) : (sealSegment sh y s).env = s.env := by
  obtain ⟨_, _, _, _, _, h⟩ := sealSegment_only sh y s; rw [h]
@[simp] theorem sealSegment_free (sh : Bool) (y : Segment) (s : State) : (sealSegment sh y s).free = s.free := by
  obtain ⟨_, _, _, _, _, h⟩ := sealSegment_only sh y s; rw [h]

/-- Putting a grain on the loss list concerns neither commands nor rows nor reads. -/
theorem loseGrain_keeps (g c : Nat) (s : State) :
    (loseGrain g c s).wr = s.wr ∧ (loseGrain g c s).rd = s.rd ∧ (loseGrain g c s).host = s.host ∧ (loseGrain g c s).ctl = s.ctl := by
  unfold loseGrain
  split
  · exact ⟨rfl, rfl, rfl, rfl⟩
  · split
    · exact ⟨rfl, rfl, rfl, rfl⟩
    · rename_i e _ _
      obtain ⟨a, b, h0⟩ := addAt_only (Tx.start s) (s.grainShadow g) (.dirSet { e with st := .lost, lostMask := 0 })
      have hc : ∀ (t : Tx), (∃ a b, t.s = { s with md := { s.md with store := a, shadow := b } }) → ∀ i f,
          (onModule i f t.commit).wr = s.wr ∧ (onModule i f t.commit).rd = s.rd ∧ (onModule i f t.commit).host = s.host ∧ (onModule i f t.commit).ctl = s.ctl := by
        intro t ht i f
        obtain ⟨a, b, ht⟩ := ht
        simp [ht]
      simp only
      split
      · split
        · exact hc _ ⟨a, b, h0⟩ _ _
        · obtain ⟨r, k, g', o, h⟩ := raiseFog_only 8 _ 0 0
          rw [h]
          exact hc _ ⟨a, b, h0⟩ _ _
      · obtain ⟨r, g', o, h⟩ := fire_only 146 _ 0 g
        rw [h]
        refine hc _ ?_ _ _
        obtain ⟨a', b', h1⟩ := addAt_only ((Tx.start s).addAt (s.grainShadow g) (.dirSet { e with st := .lost, lostMask := 0 })) (s.grainShadow g)
          (.lossAdd { grain := g, cause := c, member := e.member, segment := e.segment, page := e.addr.page, codeword := e.addr.codeword })
        exact ⟨a', b', by rw [h1, h0]; rfl⟩

/-! ## A row that has programmed (07 R172) -/

theorem noteSegment_wr (x : Segment) (s : State) : (noteSegment x s).wr = s.wr := rfl

theorem markMoves_wr (gs : List PackedGrain) (n : Nat) (s : State) : (markMoves gs n s).wr = s.wr := by
  refine foldl_keep (fun s : State => s.wr) _ (fun s a => ?_) _ s
  split <;> rfl

theorem endRepairs_wr (gs : List PackedGrain) (s : State) : (endRepairs gs s).wr = s.wr := by
  refine foldl_keep (fun s : State => s.wr) _ (fun s a => ?_) _ s
  dsimp only
  split <;> rfl

theorem placeGrain_wr (x : Segment) (row : Nat) (p : PackedGrain) (t : Tx) : (placeGrain x row p t).s.wr = t.s.wr := by
  unfold placeGrain
  split
  · rfl
  · simp only
    split <;> split <;> first | rfl | exact addAt_wr _ _ _

/-- A row counts as written: it leaves the rows in flight, and no record waits for its grains any more. -/
theorem rowWritten_wr (r : OpenRow) (s : State) (sh : Bool) (x : Segment) (hx : s.segment r.segment = some (sh, x)) :
    (rowWritten r s).wr.rows = s.wr.rows.erase r ∧
    (rowWritten r s).wr.ring = s.wr.ring.map fun e => { e with pendingIds := e.pendingIds.filter fun g =>
      !(((r.grains.filter (·.jseq.isSome)).map fun p => p.hdr.grainId).contains g) } := by
  unfold rowWritten
  simp only [hx]
  have hw : ∀ u : State, u.wr = { s.wr with rows := s.wr.rows.erase r } → ∀ n,
      (endRepairs r.grains (markMoves r.grains n u)).wr = { s.wr with rows := s.wr.rows.erase r } := by
    intro u hu n
    rw [endRepairs_wr, markMoves_wr, hu]
  have hf := foldl_keep (fun t : Tx => t.s.wr) (fun t p => placeGrain x r.row p t) (fun t p => placeGrain_wr x r.row p t) r.grains
    ((Tx.start ({ s with wr := { s.wr with rows := s.wr.rows.erase r } } : State)).add sh (.segSet { x with rows := max x.rows (r.row + 1) }))
  have h0 : ((Tx.start ({ s with wr := { s.wr with rows := s.wr.rows.erase r } } : State)).add sh (.segSet { x with rows := max x.rows (r.row + 1) })).s.wr
      = { s.wr with rows := s.wr.rows.erase r } := by
    unfold Tx.add State.putStore
    rfl
  dsimp only at hf
  rw [h0] at hf
  have hcm := hw (Tx.commit (List.foldl (fun t p => placeGrain x r.row p t)
    ((Tx.start ({ s with wr := { s.wr with rows := s.wr.rows.erase r } } : State)).add sh (.segSet { x with rows := max x.rows (r.row + 1) })) r.grains)) (by rw [commit_wr]; exact hf) s.md.txn
  split
  · split
    · rw [sealSegment_wr]
      dsimp only
      rw [hcm]
      exact ⟨rfl, rfl⟩
    · dsimp only
      rw [hcm]
      exact ⟨rfl, rfl⟩
  · dsimp only
    rw [hcm]
    exact ⟨rfl, rfl⟩

/-! ## The end of a read (06 R149, R150) -/

/-- The last fetch of the one read in flight brings its grain: the sectors go to the host, the command completes, its context is free. -/
theorem endFetch_last (x : HostCmd) (f : Fetch) (ss : List Sector) (s : State) (hx : s.host.cmds = [x]) (hk : x.kind = .read) (hf : x.fwdTag = none)
    (hfe : x.fetches = [f]) (hxf : x.failed = none) (hd : x.differs = false) (hdm : s.hup.dumping = false) (hch : s.peer.changes = []) :
    ∃ t, endFetch x f (some ss) s = t ∧ t.host.cmds = [] ∧
      t.outputs = [Output.completion x.cntlid x.qid x.cid .success 0,
        .hostData x.cntlid x.qid x.cid f.key (f.pick.map fun p => (p.1, (ss[p.2]?).getD 0))] ++ s.outputs ∧
      t.md = s.md ∧ t.rd.recons = s.rd.recons ∧ t.rd.repairs = s.rd.repairs ∧ t.wr = s.wr ∧ t.media = s.media ∧ t.peer = s.peer := by
  refine ⟨_, rfl, ?_⟩
  have c0 : s.cmdOf x = x := cmdOf_new s [] x x hf (by rfl) ⟨rfl, rfl, rfl, hf⟩ (by simpa using hx)
  unfold endFetch
  simp only [c0, hfe, Option.isSome_some, hk, beq_self_eq_true, Bool.and_self, if_true, hxf]
  have hfil : ([f].filter fun y => y.no != f.no) = [] := by simp
  simp only [hfil]
  obtain ⟨z, hz⟩ : ∃ z, z = ({ x with fetches := [], failed := none, phase := .sending } : HostCmd) := ⟨_, rfl⟩
  rw [show ({ cntlid := x.cntlid, qid := x.qid, cid := x.cid, kind := HostCmdKind.read, nsid := x.nsid, slba := x.slba, nblk := x.nblk, ranges := x.ranges, data := x.data, phase := HostCmdPhase.sending, jseqs := x.jseqs, missing := x.missing, fwdTag := x.fwdTag, host := x.host, rsv := x.rsv, pt := x.pt, fetches := [], failed := none, differs := x.differs } : HostCmd) = z by rw [hz, ← hk]]
  have hzp : z.cntlid = x.cntlid ∧ z.qid = x.qid ∧ z.cid = x.cid ∧ z.fwdTag = none := by subst hz; exact ⟨rfl, rfl, rfl, hf⟩
  have key : ∀ u : State, u.host.cmds = [x] → u.hup.dumping = false → u.peer.changes = [] → u.outputs = s.outputs → u.md = s.md → u.rd.recons = s.rd.recons →
      u.rd.repairs = s.rd.repairs → u.wr = s.wr → u.media = s.media → u.peer = s.peer →
      let t := endRead ((deliverSectors z f.key (f.pick.map fun p => (p.1, (ss[p.2]?).getD 0)) (u.putCmd z)).cmdOf x)
        (deliverSectors z f.key (f.pick.map fun p => (p.1, (ss[p.2]?).getD 0)) (u.putCmd z))
      t.host.cmds = [] ∧ t.outputs = [Output.completion x.cntlid x.qid x.cid .success 0,
        .hostData x.cntlid x.qid x.cid f.key (f.pick.map fun p => (p.1, (ss[p.2]?).getD 0))] ++ s.outputs ∧
      t.md = s.md ∧ t.rd.recons = s.rd.recons ∧ t.rd.repairs = s.rd.repairs ∧ t.wr = s.wr ∧ t.media = s.media ∧ t.peer = s.peer := by
    intro u h1 h2 h3 h4 h5 h6 h7 h8 h9 h10
    have hc : (u.putCmd z).host.cmds = [z] := by
      show updateIf _ _ u.host.cmds = _
      rw [h1]
      exact updateIf_new [] x z hf rfl hzp
    have kz : (z.kind == HostCmdKind.compare) = false := by subst hz; simp [hk]
    unfold deliverSectors
    rw [if_neg (by simp [kz])]
    simp only [hzp.2.2.2]
    rw [send_emit _ _ rfl]
    have c2 : ∀ o, ((u.putCmd z).emit o).cmdOf x = z := fun o => cmdOf_new _ [] z x hzp.2.2.2 rfl ⟨hzp.1.symm, hzp.2.1.symm, hzp.2.2.1.symm, hf⟩ (by simpa using hc)
    rw [c2]
    have e1 : z.fetches = [] := by subst hz; rfl
    have e2 : z.failed = none := by subst hz; rfl
    have e3 : z.differs = false := by subst hz; exact hd
    unfold endRead
    rw [if_neg (by simp [e1])]
    simp only [e2, e3, Bool.false_eq_true, if_false]
    rw [complete_calm _ _ _ _ (by exact h2) (by exact h3) hzp.2.2.2]
    refine ⟨?_, ?_, h5, h6, h7, h8, h9, h10⟩
    · show (u.putCmd z).host.cmds.filter _ = []
      rw [hc]
      simp [HostCmd.is]
    · show Output.completion z.cntlid z.qid z.cid .success 0 :: Output.hostData z.cntlid z.qid z.cid _ _ :: u.outputs = _
      rw [hzp.1, hzp.2.1, hzp.2.2.1, h4]
      rfl
  cases hs : f.segment with
  | none => exact key s hx hdm hch rfl rfl rfl rfl rfl rfl rfl
  | some g => exact key (unpinSegment g s) hx hdm hch rfl rfl rfl rfl rfl rfl rfl

end Sys2Proof.Machine
end

