-- ==== Sys2Proof/Laws/Journal.lean ====
section
/-!
SUPPORT. The journal: what appending and reclaiming change (05 R112 to R118).
-/
namespace Sys2Proof.Machine

/-- The high-water mark concerns its own flag and the Signal controller. -/
theorem settleHwm_only (s : State) :
    ∃ b r g o, settleHwm s = { s with wr := { s.wr with aboveHwm := b }, regs := r, sig := g, outputs := o } := by
  unfold settleHwm
  simp only
  split
  · exact ⟨s.wr.aboveHwm, s.regs, s.sig, s.outputs, rfl⟩
  · obtain ⟨r, g, o, h⟩ := fire_only 137 { s with wr := { s.wr with aboveHwm := decide (s.fld Reg.fPTL_JRING_CFG_HWM_PCT < ringFill s) } } 0 0
    exact ⟨_, r, g, o, h⟩

/-- The record that a head appends, before anything has been heard of it. -/
def freshEntry (n : Namespace) (fwd : Bool) (k : JKind) (slba nblk src : Nat) (gs : List JGrain) (hits : Bool) (reserved : Nat) (s : State) : RingEntry :=
  { rec_ := { jseq := s.wr.jseqNext, stamp := s.now, nsid := n.nsid, group := n.group, head := s.peer.head, fwd := fwd, kind := k,
              slba := slba, nblk := nblk, grains := gs, ownerGen := s.peer.ownGen, srcSlba := src },
    mirrored := false, vaulted := 0, posted := false, mapped := [], pendingIds := [], logged := false,
    retired := false, reserved := reserved, syncWait := false, hitsOnly := hits, cfg := n.cfg, deltas := [], remotes := [] }

/-- Appending with no partner to mirror to, no vaulting mode and no sync stream is the ring's growth by one record. -/
theorem appendRecord_plain (n : Namespace) (fwd : Bool) (k : JKind) (slba nblk src : Nat) (gs : List JGrain) (hits : Bool) (reserved : Nat) (s : State)
    (hm : s.mirrors = false) (ha : s.wr.ackMode ≠ 1 ∧ s.wr.ackMode ≠ 2) (hs : syncStream s n.nsid = none) :
    appendRecord n fwd k slba nblk src gs hits reserved s = (s.wr.jseqNext,
      { s with wr := { s.wr with ring := s.wr.ring ++ [freshEntry n fwd k slba nblk src gs hits reserved s], jseqNext := s.wr.jseqNext + 1 } }) := by
  have hm' : ∀ w : WriteState, State.mirrors { s with wr := w } = false := fun w => hm
  have hs' : ∀ w : WriteState, syncStream { s with wr := w } n.nsid = none := fun w => hs
  unfold appendRecord
  simp only [hm', Bool.false_and, Bool.false_eq_true, if_false]
  have hv : ∀ (r : JRecord) (w : WriteState), w.ackMode = s.wr.ackMode → vaultRecord r { s with wr := w } = { s with wr := w } := by
    intro r w hw
    unfold vaultRecord
    rw [if_neg]
    rw [hw]
    simp [ha]
  rw [hv _ _ (by rfl)]
  unfold syncHook
  rw [hs']
  rfl

theorem reclaim_one (e : RingEntry) (s : State) (hring : s.wr.ring = [e]) (hr : e.retired = true) (ho : ownRecord s e = true) (hm : s.mirrors = false)
    (hw : s.wr.ringWait = []) :
    ∃ b r g o, reclaimRing s = { s with wr := { s.wr with ring := [], jseqRetired := s.wr.jseqNext, aboveHwm := b }, hup := { s.hup with stream := s.hup.stream.filter fun r => s.wr.jseqNext ≤ r.jseq }, regs := r, sig := g, outputs := o } := by
  have hm' : ∀ (w : WriteState) (h : HupState), State.mirrors { s with wr := w, hup := h } = false := fun w h => hm
  have e1 : ([e].filter (ownRecord s)).dropWhile (·.retired) = [] := by simp [ho, hr]
  have e2 : ([e].filter fun e => if ownRecord s e then ([] : List RingEntry).any fun x => x.rec_.jseq == e.rec_.jseq else !e.retired) = [] := by simp [ho]
  unfold reclaimRing
  simp only [hring, e1, e2, List.length_nil, List.length_cons, List.head?_nil, hm', Bool.false_eq_true, if_false, hw, List.foldl_nil]
  rw [if_neg (by simp)]
  obtain ⟨b, r, g, o, h⟩ := settleHwm_only ({ s with wr := { s.wr with ring := [], jseqRetired := s.wr.jseqNext }, hup := { s.hup with stream := s.hup.stream.filter fun r => s.wr.jseqNext ≤ r.jseq } } : State)
  refine ⟨b, r, g, o, ?_⟩
  first
    | exact h
    | (simp only [hw] at h; exact h)

end Sys2Proof.Machine
end

