-- ==== Sys2Proof/Laws/Moves.lean ====
section
/-!
SUPPORT. Media that rest stay as they are; what opening and erasing segments leave (07 R169 to R178, 08 R191 to R196).
-/
namespace Sys2Proof.Machine

theorem mediaCalm_parts (s : State) (h : mediaCalm s = true) :
    (∀ m ∈ s.media.modules, m.st ≠ .retiring) ∧ (∀ x ∈ allSegments s, x.claim = .none) ∧ s.wr.unpacked = [] := by
  unfold mediaCalm at h
  simp only [Bool.and_eq_true, List.all_eq_true, bne_iff_ne, beq_iff_eq, List.isEmpty_iff] at h
  exact ⟨h.1.1, h.1.2, h.2⟩

theorem segment_mem (s : State) (i : Nat) (sh : Bool) (x : Segment) (h : s.segment i = some (sh, x)) : x ∈ allSegments s := by
  unfold State.segment at h
  unfold allSegments
  split at h
  · rename_i y hy
    cases h
    exact List.mem_append_left _ (List.mem_of_find?_eq_some hy)
  · cases hy : s.md.shadow.segments.find? (·.id == i) with
    | none => rw [hy] at h; cases h
    | some y =>
      rw [hy] at h
      cases h
      exact List.mem_append_right _ (List.mem_of_find?_eq_some hy)

theorem mySegments_sub (s : State) (x : Segment) (h : x ∈ mySegments s) : x ∈ allSegments s := by
  unfold mySegments at h
  unfold allSegments
  rcases List.mem_append.1 h with h | h
  · exact List.mem_append_left _ h
  · split at h
    · exact List.mem_append_right _ h
    · cases h

/-- No segment claimed: no move to finish. -/
theorem finishMoves_calm (s : State) (h : ∀ x ∈ allSegments s, x.claim = .none) : finishMoves s = s := by
  unfold finishMoves
  have key : ∀ l : List Segment, l.foldl (fun s y => match s.segment y.id with
    | some (sh, x) =>
      if x.claim != .none && x.st != .retired && !x.metadata && (entriesOn s x.id).isEmpty &&
          !(s.media.rebuilds.any (·.segment == x.id)) && (x.lastMove == 0 || txnDurable s (x.lastMove - 1))
      then retireSegment sh x s else s
    | none => s) s = s := by
    intro l
    induction l with
    | nil => rfl
    | cons y t ih =>
      rw [List.foldl_cons]
      cases hx : s.segment y.id with
      | none => exact ih
      | some p =>
        obtain ⟨sh, x⟩ := p
        have hc := h x (segment_mem s y.id sh x hx)
        simp only [hc, bne_self_eq_false, Bool.false_and, Bool.false_eq_true, if_false]
        exact ih
  exact key _

/-- No module retiring: none leaves. -/
theorem settleRetires_calm (s : State) (h : ∀ m ∈ s.media.modules, m.st ≠ .retiring) : settleRetires s = s := by
  unfold settleRetires
  rw [List.filter_eq_nil_iff.2]
  · rfl
  · intro m hm
    simp [h m hm]

/-- Nothing waits for a block: nothing is packed. -/
theorem packWaiting_calm (s : State) (h : s.wr.unpacked = []) : packWaiting s = s := by
  unfold packWaiting
  rw [h]
  simp only [List.foldl_nil]
  rw [← h]

/-- The read-only states leave code, stall and collection of every domain alone. -/
theorem settleMetaRo_media (s : State) : (settleMetaRo s).media = s.media := by
  obtain ⟨_, _, _, _, h⟩ := settleMetaRo_only s
  rw [h]

theorem domain_of_media (s t : State) (h : t.media = s.media) (d : Nat) : t.domain d = s.domain d := by
  unfold State.domain
  rw [h]

theorem settleRo_domain (s : State) (d : Nat) : ∃ b, (settleRo s).domain d = { s.domain d with readOnly := b } := by
  unfold settleRo
  have h0 : (settleMetaRo s).domain d = s.domain d := domain_of_media s (settleMetaRo s) (settleMetaRo_media s) d
  have key : ∀ (l : List Nat) (u : State), (∃ b, u.domain d = { s.domain d with readOnly := b }) →
      ∃ b, (l.foldl (fun s d =>
        let ro := (s.domain d).code.isSome && domainRO s d
        if ro == (s.domain d).readOnly then s
        else
          let s := fire 148 (s.putDomain d { s.domain d with readOnly := ro })
          if ro then raiseFog 7 s (arg := d) else s) u).domain d = { s.domain d with readOnly := b } := by
    intro l
    induction l with
    | nil => intro u hu; exact hu
    | cons n t ih =>
      intro u hu
      rw [List.foldl_cons]
      apply ih
      simp only
      split
      · exact hu
      · have hd : ∀ v : State, v.media = (u.putDomain n { u.domain n with readOnly := (u.domain n).code.isSome && domainRO u n }).media →
            ∃ b, v.domain d = { s.domain d with readOnly := b } := by
          intro v hv
          rw [domain_of_media _ _ hv, State.domain_putDomain]
          obtain ⟨b, hb⟩ := hu
          split
          · rename_i e
            rw [← e, hb]
            exact ⟨_, rfl⟩
          · exact ⟨b, hb⟩
        obtain ⟨r1, g1, o1, h1⟩ := fire_only 148 (u.putDomain n { u.domain n with readOnly := (u.domain n).code.isSome && domainRO u n }) 0 0
        rw [h1]
        split
        · obtain ⟨r2, k2, g2, o2, h2⟩ := raiseFog_only 7 { u.putDomain n { u.domain n with readOnly := (u.domain n).code.isSome && domainRO u n } with regs := r1, sig := g1, outputs := o1 } n 0
          rw [h2]
          exact hd _ rfl
        · exact hd _ rfl
  exact key _ _ ⟨_, h0⟩

/-- A task command that takes a job record and does more with it. -/
theorem taskCmd_jobWith (P : State → Prop) (t : TaskSpec) (m : List (Nat × Nat)) (r : TaskReq) (body : State → TaskOut) (s : State) (op n : Nat)
    (p : JobPlan) (k : Nat → State → State) (h : goes t m r s = true) (hn : freeRecord r.window s = some n)
    (hb : body (taken t r s) = startJob op r p (taken t r s) k)
    (hp : ∀ x g o, P { k n (withJob op r p (taken t r s) n) with regs := x, sig := g, outputs := o }) :
    ∃ x, taskCmd t m r body s = .next x ∧ answered r cACCEPTED 0 [handleOf (plannedJob op r p s n)] x ∧ P x := by
  have e : plannedJob op r p (taken t r s) n = plannedJob op r p s n := by unfold plannedJob; rw [taken_ctl]
  have hn' : freeRecord r.window (taken t r s) = some n := by rw [freeRecord_of_ctl _ s _ (taken_ctl t r s), hn]
  rw [startJob_free _ _ _ _ _ n hn', e] at hb
  exact taskCmd_post P t m r body s _ _ _ h (by simp) ⟨_, hb, hp⟩

end Sys2Proof.Machine
end

