-- ==== Sys2Proof/Laws/Links.lean ====
section
/-!
SUPPORT. Media links: one frame replayed, flags beside flags of a register (09 R217, R220).
-/
namespace Sys2Proof.Machine

/-- A flag set leaves the other fields of its register alone. -/
theorem State.fld_setFlag_apart (s : State) (f g : Fld) (b : Bool) (i j i' j' : Nat) (h : f.ok = true) (ha : g.hi < f.lo ∨ f.hi < g.lo) :
    (s.setFlag f b i j).fld g i' j' = s.fld g i' j' := State.fld_setFld_apart _ _ _ _ _ _ _ _ h ha

theorem State.flag_setFlag_apart (s : State) (f g : Fld) (b : Bool) (i j i' j' : Nat) (h : f.ok = true) (ha : g.hi < f.lo ∨ f.hi < g.lo) :
    (s.setFlag f b i j).flag g i' j' = s.flag g i' j' := State.flag_setFld_apart _ _ _ _ _ _ _ _ h ha

theorem mem_putBy {α : Type} (key : α → Nat) (x y : α) (l : List α) (h : y ∈ putBy key x l) : y = x ∨ y ∈ l := by
  induction l with
  | nil => exact .inl (by simpa [putBy] using h)
  | cons z t ih =>
    unfold putBy at h
    split at h
    · rcases List.mem_cons.1 h with h | h
      · exact .inl h
      · exact .inr (List.mem_cons_of_mem _ h)
    · rcases List.mem_cons.1 h with h | h
      · exact .inr (h ▸ List.mem_cons_self)
      · exact (ih h).imp id (List.mem_cons_of_mem _)

/-- One uncovered frame is sent again, and the replay counts (09 R220). -/
theorem replayPort_one (p : Nat) (s : State) (f : SmlFrame) (hf : (s.mport p).unacked = [f]) (hr : (s.mport p).replays < 7) (hp : (s.mport p).port = p) :
    let t := replayPort p s
    t.outputs = .sml p f :: s.outputs ∧ (t.mport p).replays = (s.mport p).replays + 1 ∧ (t.mport p).unacked = [f] ∧
      t.md = s.md ∧ t.wr = s.wr ∧ t.host = s.host := by
  have e : ¬ 8 ≤ (s.mport p).replays + 1 := by omega
  obtain ⟨x, hx⟩ : ∃ x, x = s.mport p := ⟨_, rfl⟩
  rw [← hx] at hf hr hp e ⊢
  unfold replayPort
  simp only [← hx, hf, List.isEmpty_cons, Bool.false_eq_true, if_false, e, List.map_cons, List.map_nil]
  have hs : s.sendAll [Output.sml p f] = s.emit (.sml p f) := by
    unfold State.sendAll
    rw [List.foldl_cons, List.foldl_nil, send_emit _ _ rfl]
  rw [hs]
  have hm : ∀ (u : State) (y : MediaPort), y.port = p → (u.putMport y).mport p = y := by
    intro u y hy
    rw [← hy]; exact State.mport_putMport u y
  rw [hm _ _ (by exact hp)]
  exact ⟨rfl, rfl, rfl, rfl, rfl, rfl⟩

theorem mport_put (s : State) (p : Nat) (x : MediaPort) (h : x.port = p) : (s.putMport x).mport p = x := by
  rw [← h]; exact State.mport_putMport s x

theorem mport_of_sml (s t : State) (h : t.sml = s.sml) (p : Nat) : t.mport p = s.mport p := by
  unfold State.mport; rw [h]

/-! ## Task commands: jobs that do more, the metadata as a task command finds it -/


/-- A task command ends in a state that only its window differs from. -/
theorem taskCmd_op (t : TaskSpec) (m : List (Nat × Nat)) (r : TaskReq) (body : State → TaskOut) (s u : State) (c d : Nat) (res : List Word)
    (h : goes t m r s = true) (hl : res.length ≤ 30) (hb : body (taken t r s) = .done u c d res) :
    ∃ x, taskCmd t m r body s = .next x ∧ answered r c d res x ∧ windowOnly u x :=
  taskCmd_answered t m r body s u u c d res h hb hl (windowOnly_refl u)

/-- A task command takes a job record and does `k` with it. -/
theorem taskCmd_jobOp (t : TaskSpec) (m : List (Nat × Nat)) (r : TaskReq) (body : State → TaskOut) (s : State) (op n : Nat)
    (p : JobPlan) (k : Nat → State → State) (h : goes t m r s = true) (hn : freeRecord r.window s = some n)
    (hb : body (taken t r s) = startJob op r p (taken t r s) k) :
    ∃ x, taskCmd t m r body s = .next x ∧ answered r cACCEPTED 0 [handleOf (plannedJob op r p s n)] x ∧
      windowOnly (k n (withJob op r p (taken t r s) n)) x := by
  have e : plannedJob op r p (taken t r s) n = plannedJob op r p s n := by unfold plannedJob; rw [taken_ctl]
  have hn' : freeRecord r.window (taken t r s) = some n := by rw [freeRecord_of_ctl _ s _ (taken_ctl t r s), hn]
  rw [startJob_free _ _ _ _ _ n hn', e] at hb
  exact taskCmd_op t m r body s _ _ _ _ h (by simp) hb

theorem taken_ns (t : TaskSpec) (r : TaskReq) (s : State) (n : Nat) : (taken t r s).ns n = s.ns n := by
  unfold State.ns; simp

theorem taken_snap (t : TaskSpec) (r : TaskReq) (s : State) (n : Nat) : (taken t r s).snap n = s.snap n := by
  unfold State.snap; simp

theorem taken_owns (t : TaskSpec) (r : TaskReq) (s : State) (n : Nat) : (taken t r s).owns n = s.owns n := by
  unfold State.owns State.owner; simp

theorem taken_module (t : TaskSpec) (r : TaskReq) (s : State) (n : Nat) : (taken t r s).module n = s.module n := by
  unfold State.module; simp

/-- One delta to this head's store. -/
theorem oneDelta_own (d : Delta) (s : State) : (oneDelta false d s).md.store = applyDelta s.peer.head d s.md.store :=
  oneDelta_store false d s (Or.inl rfl)

theorem oneDelta_shadow (d : Delta) (s : State) : (oneDelta false d s).md.shadow = s.md.shadow := by
  unfold oneDelta
  rw [commit_md_shadow]
  rfl

/-! ## Contexts, key slots, engine jobs -/

theorem slot_putSlot (s : State) (k : KeySlot) : (s.putSlot k).slot k.slot = k := by
  unfold State.slot State.putSlot
  simp only [find_putBy_same]
  rfl

/-- What a freed context keeps: its index, owner and serial. -/
theorem freeCtx_ctxs (c : Ctx) (s : State) (h : c.pin = none) :
    (freeCtx c s).eng.ctxs = putBy Ctx.index { c with st := .free, data := [], result := [], code := 0, mode := 0, cut := none, early := false } s.eng.ctxs := by
  unfold freeCtx
  simp only [h]
  rw [← h]
  rfl

theorem jobOf_putJob (s : State) (j : EngJob) (b c : Nat) (h1 : j.block = b) (h2 : j.channel = c) : jobOf (putJob j s) b c = some j := by
  unfold jobOf putJob putJobs
  show List.find? _ (_ ++ [j]) = _
  rw [List.find?_append]
  have : List.find? (fun x : EngJob => x.block == b && x.channel == c) (s.eng.jobs.filter fun x => !(x.block == j.block && x.channel == j.channel)) = none := by
    rw [List.find?_eq_none]
    intro x hx
    have := (List.mem_filter.1 hx).2
    rw [h1, h2] at this
    simp only [Bool.not_eq_true', Bool.not_eq_true] at this ⊢
    exact this
  rw [this]
  simp [h1, h2]

theorem jobOf_dropJob (b c : Nat) (s : State) : jobOf (dropJob b c s) b c = none := by
  unfold jobOf dropJob putJobs
  show List.find? _ _ = _
  rw [List.find?_eq_none]
  intro x hx
  have := (List.mem_filter.1 hx).2
  simp only [Bool.not_eq_true', Bool.not_eq_true] at this ⊢
  exact this

/-! ## Cache slices -/

/-- A change of a slice's STATE beside its ENABLE. -/
theorem setSlice_flag (k st : Nat) (b : Bool) (s : State) (h : sliceState s k ≠ st) (hs : st < 4) (hb : s.flag Reg.fMCC_CTRL_ENABLE k = b) :
    sliceState (setSlice k st s) k = st ∧ (setSlice k st s).flag Reg.fMCC_CTRL_ENABLE k = b ∧ (setSlice k st s).eng = s.eng ∧ (setSlice k st s).md = s.md := by
  have e : (sliceState s k == st) = false := by simpa using h
  unfold setSlice
  simp only [e, Bool.false_eq_true, if_false]
  have hne : Reg.fMCC_CTRL_STATE.off k 0 ≠ sigStatus := by show 0x901000 + 8 * k + 0 * 0 ≠ 0x040108; omega
  have hne' : Reg.fMCC_CTRL_ENABLE.off k 0 ≠ sigStatus := by show 0x901000 + 8 * k + 0 * 0 ≠ 0x040108; omega
  refine ⟨?_, ?_, by simp, by simp⟩
  · unfold sliceState
    rw [fld_fire _ _ _ _ _ _ _ hne, State.fld_setFld_same _ _ _ _ _ (by decide)]
    have : Reg.fMCC_CTRL_STATE.hi + 1 - Reg.fMCC_CTRL_STATE.lo = 2 := by decide
    rw [this]; omega
  · rw [flag_fire _ _ _ _ _ _ _ hne', State.flag_setFld_apart _ _ _ _ _ _ _ _ (by decide) (by decide)]
    exact hb

/-- A line put into a slice concerns neither its misses nor what waits. -/
theorem install_keeps (l : CacheLine) (w p : Nat) (x : Slice) :
    (install l w p x).waiting = x.waiting ∧ (install l w p x).miss = x.miss ∧ (install l w p x).index = x.index := by
  unfold install
  simp only
  split
  · exact ⟨rfl, rfl, rfl⟩
  · split
    · exact ⟨rfl, rfl, rfl⟩
    · split
      · exact ⟨rfl, rfl, rfl⟩
      · split
        · split <;> exact ⟨rfl, rfl, rfl⟩
        · exact ⟨rfl, rfl, rfl⟩

theorem slice_put (s : State) (x : Slice) (k : Nat) (h : x.index = k) : (s.putSlice x).slice k = x := by
  rw [← h]
  unfold State.slice State.putSlice
  simp only [find_putBy_same]
  rfl

end Sys2Proof.Machine
end

