-- ==== Sys2Proof/Laws/Keeper.lean ====
section
/-!
SUPPORT. The Keeper's pairs, Fog causes, the Keeper's Log: what a restart, a raise and a flush do to the registers they show (17 R410 to R422, 20 R483).
-/
namespace Sys2Proof.Machine

/-! ## Registers that an ended job or message leaves alone -/

theorem word_endJob (n c d p : Nat) (l : List Word) (s : State) (h : p ≠ sigStatus) : (endJob n c d l s).word p = s.word p := by
  unfold endJob
  split
  · rfl
  · split
    · rfl
    · simp only
      split
      · rw [word_fire _ _ _ _ _ h]; rfl
      · rfl

theorem word_zeroise (k : KeySlot) (d p : Nat) (s : State) (h : p ≠ sigStatus) : (zeroise k d s).word p = s.word p := by
  unfold zeroise
  simp only
  split
  · rw [word_endJob _ _ _ _ _ _ h]; rfl
  · rfl

theorem word_settleSlot (n p : Nat) (s : State) (h : p ≠ sigStatus) : (settleSlot n s).word p = s.word p := by
  unfold settleSlot
  simp only
  split <;> split <;> (try split) <;> (try rw [word_zeroise _ _ _ _ h]) <;> rfl

theorem word_freeCtx (c : Ctx) (p : Nat) (s : State) (h : p ≠ sigStatus) : (freeCtx c s).word p = s.word p := by
  unfold freeCtx
  split
  · rw [word_settleSlot _ _ _ h]; rfl
  · rfl

theorem word_failChannel (ch p : Nat) (s : State) (h : p ≠ sigStatus) : (failChannel ch s).word p = s.word p :=
  foldl_keep (fun s : State => s.word p) _ (fun s c => word_freeCtx c p s h) _ s

theorem word_endKeeperJobs (p : Nat) (s : State) (h : p ≠ sigStatus) : (endKeeperJobs s).word p = s.word p :=
  foldl_keep (fun s : State => s.word p) _ (fun s (j : Job) => word_endJob j.slot cHW_FAULT 1 p [] s h) _ s

/-! ## Fog (20 R483) -/

/-- The registers of a raise before its source fires. -/
theorem raiseFog_eq (n a c : Nat) (s : State) : ∃ u k, raiseFog n s a c = fire 688 { u with kpr := k } c (n + 256 * (a % 2 ^ 56)) ∧
    u = ((s.setFld Reg.fGLB_FOG_CAUSE_CAUSE (s.fld Reg.fGLB_FOG_CAUSE_CAUSE ||| 2 ^ n)).bump Reg.fGLB_FOG_STATUS_RAISES).setFlag Reg.fGLB_FOG_STATUS_DRIVEN true :=
  ⟨_, _, rfl, rfl⟩

theorem word_raiseFog (n p a c : Nat) (s : State) (h : p ≠ sigStatus) (h1 : p ≠ Reg.GLB_FOG_CAUSE.base) (h2 : p ≠ Reg.GLB_FOG_STATUS.base) :
    (raiseFog n s a c).word p = s.word p := by
  obtain ⟨u, k, e, hu⟩ := raiseFog_eq n a c s
  rw [e, word_fire _ _ _ _ _ h]
  show u.word p = _
  rw [hu]
  unfold State.setFlag State.bump
  rw [State.word_setFld_ne _ _ _ _ _ _ (by exact h2), State.word_setFld_ne _ _ _ _ _ _ (by exact h2), State.word_setFld_ne _ _ _ _ _ _ (by exact h1)]

/-- A raise latches its cause and keeps the others. -/
theorem fog_raiseFog (n m a c : Nat) (s : State) (hn : n < 22) : (raiseFog n s a c).fog m = (decide (n = m) || s.fog m) := by
  have hc : (raiseFog n s a c).fld Reg.fGLB_FOG_CAUSE_CAUSE = s.fld Reg.fGLB_FOG_CAUSE_CAUSE ||| 2 ^ n := by
    obtain ⟨u, k, e, hu⟩ := raiseFog_eq n a c s
    rw [e, fld_fire _ _ _ _ _ _ _ (by decide)]
    show u.fld _ = _
    rw [hu]
    unfold State.setFlag State.bump
    rw [State.fld_setFld_off _ _ _ _ _ _ _ _ (by decide), State.fld_setFld_off _ _ _ _ _ _ _ _ (by decide), State.fld_setFld_same _ _ _ _ _ (by decide)]
    refine Nat.mod_eq_of_lt ?_
    refine Nat.or_lt_two_pow (bits_lt _ _ _) ?_
    exact Nat.pow_lt_pow_right (by decide) hn
  unfold State.fog
  rw [hc, Nat.testBit_or, Nat.testBit_two_pow, Bool.or_comm]

/-- FOG_N is driven after a raise. -/
theorem driven_raiseFog (n a c : Nat) (s : State) : (raiseFog n s a c).flag Reg.fGLB_FOG_STATUS_DRIVEN = true := by
  obtain ⟨u, k, e, hu⟩ := raiseFog_eq n a c s
  rw [e, flag_fire _ _ _ _ _ _ _ (by decide)]
  show u.flag _ = _
  rw [hu]
  exact State.flag_setFlag_same _ _ _ _ 0 (by decide) (by decide)

/-! ## Pairs (17 R410) -/

theorem pair_of_word (s t : State) (p : Nat) (h : t.word 0x80100 = s.word 0x80100) : t.pair p = s.pair p := by
  unfold State.pair State.fld
  split <;> exact congrArg (fun w => bits w _ _) h

theorem pair_setPair_same (s : State) (p v : Nat) (hp : p < 2) (hv : v < 16) : (s.setPair p v).pair p = v := by
  unfold State.setPair
  split
  · rename_i h; simpa using h
  · rw [pair_of_word _ _ p (word_fire _ _ _ _ _ (by decide))]
    unfold State.pair
    split
    · rw [State.fld_setFld_same _ _ _ _ _ (by decide)]; exact Nat.mod_eq_of_lt hv
    · rw [State.fld_setFld_same _ _ _ _ _ (by decide)]; exact Nat.mod_eq_of_lt hv

theorem pair_setPair_ne (s : State) (p q v : Nat) (hq : q < 2) (hp : p < 2) (hn : q ≠ p) : (s.setPair p v).pair q = s.pair q := by
  unfold State.setPair
  split
  · rfl
  · rw [pair_of_word _ _ q (word_fire _ _ _ _ _ (by decide))]
    unfold State.pair
    have : (p = 0 ∧ q = 1) ∨ (p = 1 ∧ q = 0) := by omega
    rcases this with ⟨rfl, rfl⟩ | ⟨rfl, rfl⟩
    · exact State.fld_setFld_apart _ _ _ _ _ _ _ _ (by decide) (by decide)
    · exact State.fld_setFld_apart _ _ _ _ _ _ _ _ (by decide) (by decide)

theorem word_setPair (s : State) (p v o : Nat) (h : o ≠ sigStatus) (h' : o ≠ 0x80100) : (s.setPair p v).word o = s.word o := by
  unfold State.setPair
  split
  · rfl
  · rw [word_fire _ _ _ _ _ h]
    split
    · exact State.word_setFld_ne _ _ _ _ _ _ (by exact h')
    · exact State.word_setFld_ne _ _ _ _ _ _ (by exact h')

theorem takeOver_pair (p : Nat) (s : State) (hp : p < 2) :
    (takeOver p s).pair p = s.pair p ∧ (takeOver p s).pair (1 - p) = if s.pair (1 - p) = 0 then 3 else s.pair (1 - p) := by
  have h2 : 1 - p < 2 := by omega
  have hn : p ≠ 1 - p := by omega
  unfold takeOver
  by_cases h : s.pair (1 - p) = 0
  · simp only [h, beq_self_eq_true, if_true]
    exact ⟨pair_setPair_ne _ _ _ _ hp h2 hn, pair_setPair_same _ _ _ h2 (by decide)⟩
  · have e : (s.pair (1 - p) == 0) = false := by simpa using h
    simp only [e, Bool.false_eq_true, if_false, h]
    exact ⟨trivial, trivial⟩

theorem word_takeOver (p o : Nat) (s : State) (h : o ≠ sigStatus) (h' : o ≠ 0x80100) : (takeOver p s).word o = s.word o := by
  unfold takeOver
  split
  · exact word_setPair _ _ _ _ h h'
  · rfl

/-- A pair that restarts is RESTARTING and the other carries its duties (17 R410). -/
theorem restartPair_pairs (p : Nat) (s : State) (hp : p < 2) (h1 : s.pair p ≠ 1) (h2 : s.pair p ≠ 2) (h3 : s.pair (1 - p) ≠ 1) :
    (restartPair p s).pair p = 1 ∧ (restartPair p s).pair (1 - p) = (if s.pair (1 - p) = 0 then 3 else s.pair (1 - p)) ∧
    ∀ o, o ≠ sigStatus → o ≠ 0x80100 → (restartPair p s).word o = s.word o := by
  have e1 : (s.pair p == 2 || s.pair p == 1) = false := by simp [h1, h2]
  have e3 : (s.pair (1 - p) == 1) = false := by simpa using h3
  have hq : 1 - p < 2 := by omega
  have hn : 1 - p ≠ p := by omega
  obtain ⟨u, hu⟩ : ∃ u, u = (if p = 0 then s.bump Reg.fKPR_STATE_A_RESTARTS else s.bump Reg.fKPR_STATE_B_RESTARTS) := ⟨_, rfl⟩
  have hup : ∀ q, u.pair q = s.pair q := by
    intro q
    rw [hu]
    unfold State.pair State.bump
    split <;> split <;> exact State.fld_setFld_apart _ _ _ _ _ _ _ _ (by decide) (by decide)
  have huw : ∀ o, o ≠ 0x80100 → u.word o = s.word o := by
    intro o ho
    rw [hu]
    unfold State.bump
    split <;> exact State.word_setFld_ne _ _ _ _ _ _ (by exact ho)
  have key : ∀ t : State, (∀ o, o ≠ sigStatus → t.word o = (takeOver p (u.setPair p 1)).word o) →
      t.pair p = 1 ∧ t.pair (1 - p) = (if s.pair (1 - p) = 0 then 3 else s.pair (1 - p)) ∧
      ∀ o, o ≠ sigStatus → o ≠ 0x80100 → t.word o = s.word o := by
    intro t ht
    have hto := takeOver_pair p (u.setPair p 1) hp
    refine ⟨?_, ?_, ?_⟩
    · rw [pair_of_word _ t p (ht _ (by decide)), hto.1, pair_setPair_same _ _ _ hp (by decide)]
    · rw [pair_of_word _ t _ (ht _ (by decide)), hto.2, pair_setPair_ne _ _ _ _ hq hp hn, hup]
    · intro o h h'
      rw [ht o h, word_takeOver _ _ _ h h', word_setPair _ _ _ _ h h', huw o h']
  unfold restartPair
  simp only [e1, e3, Bool.false_eq_true, if_false, ← hu]
  refine key _ ?_
  intro o ho
  split <;> split <;> (try rw [word_endKeeperJobs _ _ ho]) <;> (try rw [word_failChannel _ _ _ ho]) <;> exact word_failChannel _ _ _ ho

/-- Of the Keeper's own part, time passing moves operating time alone. -/
theorem reach_kpr (s : State) (T : Nat) : (s.reach T).kpr = { s.kpr with opNs := (s.reach T).kpr.opNs } := by
  unfold State.reach
  simp only
  split <;> rfl

theorem reachOp_kpr (s : State) (n : Nat) : (s.reachOp n).kpr = { s.kpr with opNs := (s.reachOp n).kpr.opNs } := reach_kpr s _

/-! ## The Keeper's Log (17 R421, R422) -/

/-- A flush with room queues the period's record and starts a new period. -/
theorem flushLog_stored (tr : Nat) (s : State) (h : s.logRecords < 16384) :
    (flushLog tr s).kpr = { s.kpr with flashQ := (queueFlash (.logRecord (periodRecord s.logRecords tr s)) s (tr == 3)).kpr.flashQ, period := (flushLog tr s).kpr.period } ∧
    (flushLog tr s).fld Reg.fKPR_LOG_STATUS_PERIOD_H = s.kpr.periodNext % 256 := by
  unfold flushLog
  simp only [h, if_true]
  refine ⟨rfl, ?_⟩
  exact State.fld_setFld_same _ _ _ _ _ (by decide)

end Sys2Proof.Machine
end

