-- ==== Sys2Proof/Laws/Signal.lean ====
section
/-!
SUPPORT. The Signal controller: pending bits after an event, a vector that is sent (18 R431 to R439).
-/
namespace Sys2Proof.Machine

theorem mem_insertNat (n m : Nat) (l : List Nat) : m ∈ insertNat n l ↔ m = n ∨ m ∈ l := by
  induction l with
  | nil => simp [insertNat]
  | cons a t ih =>
    unfold insertNat
    split
    · simp
    · split
      · rename_i h; simp [h]
      · simp only [List.mem_cons, ih]
        constructor
        · rintro (h | h | h)
          · exact .inr (.inl h)
          · exact .inl h
          · exact .inr (.inr h)
        · rintro (h | h | h)
          · exact .inr (.inl h)
          · exact .inl h
          · exact .inr (.inr h)

theorem sendVector_pend (v : Nat) (s : State) : (sendVector v s).sig.pend = s.sig.pend := by
  unfold sendVector
  simp only
  split
  · rfl
  · show (State.send _ _).sig.pend = _
    rw [send_sig]; rfl

theorem routeSource_pend (n : Nat) (s : State) : (routeSource n s).sig.pend = s.sig.pend := by
  unfold routeSource
  split
  · unfold countVector
    simp only
    split
    · exact sendVector_pend _ _
    · split
      · rw [sendVector_pend]; rfl
      · rfl
  · rfl

theorem writeRecord_pend (n c d : Nat) (s : State) : (writeRecord n c d s).sig.pend = s.sig.pend := by
  unfold writeRecord
  split
  · simp only
    split
    · rfl
    · split <;> simp
  · rfl

/-- An event sets its source's pending bit and keeps the others (18 R431). -/
theorem pendSource_pend (n m : Nat) (s : State) : m ∈ (pendSource n s).sig.pend ↔ m = n ∨ m ∈ s.sig.pend := by
  unfold pendSource
  split
  · rename_i h
    constructor
    · exact .inr
    · rintro (rfl | h')
      · exact h
      · exact h'
  · rw [routeSource_pend]
    exact mem_insertNat n m _

theorem fire_pend (n m c d : Nat) (s : State) (h : assignedSource n = true) : m ∈ (fire n s c d).sig.pend ↔ m = n ∨ m ∈ s.sig.pend := by
  unfold fire
  rw [if_pos h, pendSource_pend]
  split
  · rw [writeRecord_pend]
  · rfl

theorem foldl_pendSource (l : List Nat) (m : Nat) : ∀ s : State, m ∈ (l.foldl (fun s n => pendSource n s) s).sig.pend ↔ m ∈ l ∨ m ∈ s.sig.pend := by
  induction l with
  | nil => intro s; simp
  | cons a t ih =>
    intro s
    rw [List.foldl_cons, ih, pendSource_pend, List.mem_cons]
    constructor
    · rintro (h | h | h)
      · exact .inl (.inr h)
      · exact .inl (.inl h)
      · exact .inr h
    · rintro ((h | h) | h)
      · exact .inr (.inl h)
      · exact .inl h
      · exact .inr (.inr h)

theorem vector_setVector (s : State) (x : Vector_) (v : Nat) (h : x.index = v) : (s.setVector x).vector v = x := by
  subst h
  unfold State.vector State.setVector
  simp only [find_putBy_same, Option.getD_some]

/-- A vector that may be sent leaves as its MSI-X write and counts from zero (18 R437). -/
theorem sendVector_sent (v : Nat) (s : State) (h1 : (s.vector v).masked = false) (h2 : s.ctl.msixMask = false) (h3 : s.ctl.msixEnable = true)
    (hi : (s.vector v).index = v) :
    (sendVector v s).outputs = .msix v (s.vector v).addr (s.vector v).data :: s.outputs ∧
    (sendVector v s).vector v = { s.vector v with count := 0, pba := false } ∧ (sendVector v s).regs = s.regs ∧ (sendVector v s).ctl = s.ctl := by
  obtain ⟨x, hx⟩ : ∃ x, x = s.vector v := ⟨_, rfl⟩
  unfold sendVector
  rw [← hx] at h1 hi ⊢
  have e : (x.masked || s.ctl.msixMask || !s.ctl.msixEnable) = false := by rw [h1, h2, h3]; rfl
  simp only [e, Bool.false_eq_true, if_false]
  rw [send_emit _ _ rfl]
  refine ⟨rfl, ?_, rfl, rfl⟩
  exact vector_setVector s { x with count := 0, pba := false } v hi

/-- The index a vector is found under is its own. -/
theorem vector_index (v : Nat) (s : State) : (s.vector v).index = v := by
  unfold State.vector
  cases h : s.sig.vectors.find? (·.index == v) with
  | none => rfl
  | some x => simpa using List.find?_some h

end Sys2Proof.Machine
end

