-- ==== Sys2Proof/Laws/Boot.lean ====
section
/-!
SUPPORT. The Boot Ledger's record, a reverted set, a confirmed set (19 R453, R462, R468).
-/
namespace Sys2Proof.Machine

/-- The state a new record leaves before it is stored. -/
theorem makeRecord_eq (k : Nat) (s : State) : ∃ r : LedgerRecord, r.kind = k ∧ r.bootCount = s.boot.bootCount + 1 ∧
    makeRecord k s = (let u : State := { s with boot := { s.boot with bootCount := s.boot.bootCount + 1, current := some r } }
      if 65536 ≤ u.boot.ledger.length || noFlash u then raiseFog 15 u else { u with boot := { u.boot with ledger := u.boot.ledger ++ [r] } }) :=
  ⟨_, rfl, rfl, rfl⟩

/-- A new record is the current one (19 R453). -/
theorem makeRecord_current (k : Nat) (s : State) : ∃ r : LedgerRecord, (makeRecord k s).boot.current = some r ∧ r.kind = k ∧ (makeRecord k s).boot.bootCount = r.bootCount := by
  obtain ⟨r, h1, h2, h3⟩ := makeRecord_eq k s
  refine ⟨r, ?_, h1, ?_⟩
  · rw [h3]; simp only; split
    · rw [raiseFog_boot]
    · rfl
  · rw [h3]; simp only; split
    · rw [raiseFog_boot, h2]
    · exact h2.symm

theorem makeRecord_count (k : Nat) (s : State) : (makeRecord k s).boot.bootCount = s.boot.bootCount + 1 := by
  obtain ⟨r, h1, h2, h3⟩ := makeRecord_eq k s
  rw [h3]; simp only; split
  · rw [raiseFog_boot]
  · rfl

theorem makeRecord_jtag (k : Nat) (s : State) : (makeRecord k s).boot.jtagUntil = s.boot.jtagUntil := by
  obtain ⟨r, h1, h2, h3⟩ := makeRecord_eq k s
  rw [h3]; simp only; split
  · rw [raiseFog_boot]
  · rfl

theorem makeRecord_md (k : Nat) (s : State) : (makeRecord k s).md = s.md := by
  obtain ⟨r, h1, h2, h3⟩ := makeRecord_eq k s
  rw [h3]; simp only; split
  · rw [raiseFog_md]
  · rfl

theorem putBootSlot_ptr (s : State) (k : Nat) (x : BootSlot) : (s.putBootSlot k x).boot.ptr = s.boot.ptr := by
  unfold State.putBootSlot; split <;> rfl

/-- A reverted set: no trial, no attempts, the old slot active, Fog cause 19 (19 R462, R466). -/
theorem revertSet_ptr (s : State) : (startReload true (revertSet s)).boot.ptr.trial = false ∧ (startReload true (revertSet s)).boot.ptr.attempts = 0 ∧
    (startReload true (revertSet s)).boot.ptr.active = s.boot.ptr.old.getD s.boot.ptr.active ∧ (startReload true (revertSet s)).fog 19 = true := by
  have key : ∃ u : State, revertSet s = raiseFog 19 u (code := cIMAGE_INCOMPLETE) ∧ u.boot.ptr.trial = false ∧ u.boot.ptr.attempts = 0 ∧
      u.boot.ptr.active = s.boot.ptr.old.getD s.boot.ptr.active := ⟨_, rfl, rfl, rfl, rfl⟩
  obtain ⟨u, h, a, b, c⟩ := key
  have hb : (startReload true (revertSet s)).boot.ptr = u.boot.ptr := by
    show (revertSet s).boot.ptr = _
    rw [h, raiseFog_boot]
  rw [hb]
  refine ⟨a, b, c, ?_⟩
  show (revertSet s).fog 19 = true
  rw [h, fog_raiseFog _ _ _ _ _ (by decide)]
  rfl

/-- Confirmation never lowers an anti-rollback counter (19 R443). -/
theorem confirm_rollback (s : State) (c : Nat) (hc : c < 4) : s.rollback c ≤ (confirm s).rollback c := by
  unfold confirm raiseCounters State.rollback setPtr
  simp only
  have : c = 0 ∨ c = 1 ∨ c = 2 ∨ c = 3 := by omega
  rcases this with rfl | rfl | rfl | rfl <;> simp [List.range, List.range.loop]

end Sys2Proof.Machine
end

