-- ==== Sys2Proof/Laws/Power.lean ====
section
/-!
SUPPORT. Power domains, supply ramps, resets (21 R491 to R495; 12 R310; 22 R514, R516).
-/
namespace Sys2Proof.Machine

/-! ## One domain's state -/

theorem setDomain_frame (d v : Nat) (s : State) : ∃ r g o, setDomain d v s = { s with regs := r, sig := g, outputs := o } := by
  unfold setDomain
  split
  · exact ⟨_, _, _, rfl⟩
  · obtain ⟨r, g, o, h⟩ := fire_only (696 + d) (s.setFld Reg.fPWR_DOMAIN_STATUS_STATE v d) 0 v
    rw [h]
    exact ⟨_, _, _, rfl⟩

theorem domain_ne_status (d : Nat) : Reg.fPWR_DOMAIN_STATUS_STATE.off d 0 ≠ sigStatus := by
  unfold Fld.off sigStatus
  simp only [Reg.fPWR_DOMAIN_STATUS_STATE, Reg.SIG_STATUS]
  omega

theorem setDomain_same (d v : Nat) (s : State) (hv : v < 8) : (setDomain d v s).domainState d = v := by
  unfold setDomain
  split
  · rename_i h; simpa using h
  · unfold State.domainState
    rw [fld_fire _ _ _ _ _ _ _ (domain_ne_status d), State.fld_setFld_same _ _ _ _ _ (by decide)]
    exact Nat.mod_eq_of_lt (Nat.lt_of_lt_of_le hv (by decide))

theorem setDomain_ne (d e v : Nat) (s : State) (h : e ≠ d) : (setDomain d v s).domainState e = s.domainState e := by
  unfold setDomain
  split
  · rfl
  · unfold State.domainState
    rw [fld_fire _ _ _ _ _ _ _ (domain_ne_status e), State.fld_setFld_off]
    unfold Fld.off
    simp only [Reg.fPWR_DOMAIN_STATUS_STATE]
    omega

theorem word_setDomain (d v p : Nat) (s : State) (h : p ≠ sigStatus) (h' : p ≠ Reg.fPWR_DOMAIN_STATUS_STATE.off d 0) :
    (setDomain d v s).word p = s.word p := by
  unfold setDomain
  split
  · rfl
  · rw [word_fire _ _ _ _ _ h, State.word_setFld_ne _ _ _ _ _ _ h']

/-- With no ramp waiting, only the times of recent ramps are kept (21 R495). -/
theorem pumpRamps_idle (s : State) (h : s.env.rampQ = []) : ∃ l, pumpRamps s = { s with env := { s.env with ramps := l } } := by
  unfold pumpRamps
  split
  · exact ⟨_, rfl⟩
  · simp only [h, List.length_nil, Nat.min_zero, List.replicate_zero, List.nil_append, List.take_nil, List.drop_nil, List.foldl_nil]
    refine ⟨recentRamps s, ?_⟩
    rw [← h]

/-! ## Every domain at once -/

theorem domains_foldl (v : Nat) (hv : v < 8) (l : List Nat) (d : Nat) : ∀ s : State,
    (l.foldl (fun s d => s.setFld Reg.fPWR_DOMAIN_STATUS_STATE v d) s).domainState d = if d ∈ l then v else s.domainState d := by
  induction l with
  | nil => intro s; simp
  | cons a t ih =>
    intro s
    rw [List.foldl_cons, ih]
    by_cases ht : d ∈ t
    · simp [ht]
    · by_cases hd : d = a
      · subst hd
        simp only [ht, List.mem_cons_self, if_true, if_false]
        unfold State.domainState
        rw [State.fld_setFld_same _ _ _ _ _ (by decide)]
        exact Nat.mod_eq_of_lt (Nat.lt_of_lt_of_le hv (by decide))
      · simp only [ht, hd, List.mem_cons, or_self, if_false]
        unfold State.domainState
        rw [State.fld_setFld_off]
        unfold Fld.off
        simp only [Reg.fPWR_DOMAIN_STATUS_STATE]
        omega

theorem domains_only (v : Nat) (l : List Nat) : ∀ s : State,
    ∃ r, l.foldl (fun s d => s.setFld Reg.fPWR_DOMAIN_STATUS_STATE v d) s = { s with regs := r } := by
  induction l with
  | nil => intro s; exact ⟨_, rfl⟩
  | cons a t ih =>
    intro s
    rw [List.foldl_cons]
    obtain ⟨r, h⟩ := ih (s.setFld Reg.fPWR_DOMAIN_STATUS_STATE v a)
    exact ⟨r, h⟩

/-- The chip domain leaves reset: nothing else than its flags and the domains' states moves (12 R310). -/
theorem leaveReset_only (s : State) : ∃ r, leaveReset s = { s with regs := r, boot := { s.boot with inReset := false }, hup := { s.hup with shutdown := false, dumpInfo := none } } := by
  unfold leaveReset
  obtain ⟨r, h⟩ := domains_only 0 (List.range 47) ({ s with boot := { s.boot with inReset := false }, hup := { s.hup with shutdown := false, dumpInfo := none } })
  exact ⟨r, h⟩

theorem leaveReset_domains (s : State) (d : Nat) (h : d < 47) : (leaveReset s).domainState d = 0 := by
  unfold leaveReset
  rw [domains_foldl 0 (by decide)]
  simp [h]

/-- What a queued flash write that counts may change. -/
theorem cutFlash_fuses (s : State) : (cutFlash s).boot.fuses = s.boot.fuses ∧ (cutFlash s).md = s.md ∧ (cutFlash s).host = s.host ∧ (cutFlash s).media = s.media ∧ (cutFlash s).boot.ledger = s.boot.ledger := by
  unfold cutFlash
  split
  · exact ⟨rfl, rfl, rfl, rfl, rfl⟩
  · split
    · unfold flashKept
      split
      · exact ⟨rfl, rfl, rfl, rfl, rfl⟩
      · unfold flashDone
        rename_i i hi
        split
        · exact ⟨rfl, rfl, rfl, rfl, rfl⟩
        · exact ⟨rfl, rfl, rfl, rfl, rfl⟩
        · rename_i m h; exact absurd h (hi m)
        · exact ⟨rfl, rfl, rfl, rfl, rfl⟩
        · exact ⟨rfl, rfl, rfl, rfl, rfl⟩
        · exact ⟨rfl, rfl, rfl, rfl, rfl⟩
    · exact ⟨rfl, rfl, rfl, rfl, rfl⟩

theorem cutFlash_more (s : State) : (cutFlash s).pending = s.pending ∧ (cutFlash s).now = s.now ∧ (cutFlash s).hup.image = s.hup.image := by
  unfold cutFlash
  split
  · exact ⟨rfl, rfl, rfl⟩
  · split
    · unfold flashKept
      split
      · exact ⟨rfl, rfl, rfl⟩
      · unfold flashDone
        rename_i i hi
        split
        · exact ⟨rfl, rfl, rfl⟩
        · exact ⟨rfl, rfl, rfl⟩
        · rename_i m h; exact absurd h (hi m)
        · exact ⟨rfl, rfl, rfl⟩
        · exact ⟨rfl, rfl, rfl⟩
        · exact ⟨rfl, rfl, rfl⟩
    · exact ⟨rfl, rfl, rfl⟩

theorem avsTarget_lt (a w : Nat) (h : a < 65536) : avsTarget a w < 65536 := by
  unfold avsTarget
  simp only
  split <;> omega

/-- What a reset of the chip domain keeps: fuses, the Boot Ledger, the access directory, the saved metadata; no command context survives (00 R8). -/
theorem chipReset_keeps (aon : Bool) (s : State) : (chipReset aon s).boot.fuses = s.boot.fuses ∧ (chipReset aon s).boot.ledger = s.boot.ledger ∧
    (chipReset aon s).host.directory = s.host.directory ∧ (chipReset aon s).md.saved = s.md.saved ∧ (chipReset aon s).host.cmds = [] ∧ (chipReset aon s).wr.ring = [] := by
  obtain ⟨a, b, c, d, e⟩ := cutFlash_fuses s
  refine ⟨a, e, ?_, ?_, rfl, rfl⟩
  · show (cutFlash s).host.directory = _; rw [c]
  · show (cutFlash s).md.saved = _; rw [b]

theorem endDump_only (c : Option Nat) (s : State) : ∃ h, endDump c s = { s with hup := h } := by
  unfold endDump
  simp only
  split
  · exact ⟨_, rfl⟩
  · split <;> exact ⟨_, rfl⟩

/-- A shutdown resets the chip domain around the switched domains, which are off (12 R310). -/
theorem shutDown_eq (s : State) : ∃ r, shutDown s = (let w := chipReset false s
    { w with regs := r, boot := { w.boot with inReset := true }, hup := { w.hup with shutdown := true, dumpInfo := s.hup.dumpInfo } }) := by
  obtain ⟨r, ho⟩ := domains_only 3 (List.range 47) (chipReset false s)
  have hoff : domainsOff (chipReset false s) = { chipReset false s with regs := r } := ho
  refine ⟨r, ?_⟩
  unfold shutDown holdReset
  simp only [hoff]

theorem shutDown_domains (s : State) (d : Nat) (h : d < 47) : (shutDown s).domainState d = 3 := by
  have e : (shutDown s).domainState d = (domainsOff (chipReset false s)).domainState d := by
    unfold State.domainState
    refine State.fld_of_regs _ _ ?_ _ _ _
    unfold shutDown holdReset
    simp only
  rw [e]
  unfold domainsOff
  rw [domains_foldl 3 (by decide)]
  simp [h]

end Sys2Proof.Machine
end

