-- ==== Sys2Proof/Laws/Faults.lean ====
section
/-!
SUPPORT. An isolated segment (20 R474).
-/
namespace Sys2Proof.Machine

theorem setHeld_facts (b : Bool) (s : State) : (setHeld b s).fld Reg.fGLB_BOARD_STATUS_ISOLATED = s.fld Reg.fGLB_BOARD_STATUS_ISOLATED ∧ (setHeld b s).env = s.env := by
  unfold setHeld
  split
  · exact ⟨rfl, rfl⟩
  · simp only
    split
    · rw [fld_fire _ _ _ _ _ _ _ (by decide), fire_env]
      exact ⟨State.fld_setFld_off _ _ _ _ _ _ _ _ (by decide), rfl⟩
    · exact ⟨State.fld_setFld_off _ _ _ _ _ _ _ _ (by decide), rfl⟩

/-- A segment that is isolated is tried again in 10 s. -/
theorem isolate_facts (k : Nat) (s : State) (hk : k < 6) :
    ((isolate k s).fld Reg.fGLB_BOARD_STATUS_ISOLATED).testBit k = true ∧ lookupD 0 k (isolate k s).env.segRetry = s.now + 10 * sec := by
  have hf : ((s.setFld Reg.fGLB_BOARD_STATUS_ISOLATED (s.fld Reg.fGLB_BOARD_STATUS_ISOLATED ||| 2 ^ k)).fld Reg.fGLB_BOARD_STATUS_ISOLATED).testBit k = true := by
    rw [State.fld_setFld_same _ _ _ _ _ (by decide)]
    have : (s.fld Reg.fGLB_BOARD_STATUS_ISOLATED ||| 2 ^ k) < 2 ^ 6 :=
      Nat.or_lt_two_pow (bits_lt _ _ _) (Nat.pow_lt_pow_right (by decide) hk)
    rw [show (2 ^ (Reg.fGLB_BOARD_STATUS_ISOLATED.hi + 1 - Reg.fGLB_BOARD_STATUS_ISOLATED.lo)) = 2 ^ 6 from rfl, Nat.mod_eq_of_lt this, Nat.testBit_or, Nat.testBit_two_pow]
    simp
  have hl : lookupD 0 k (setKey k (s.now + 10 * sec) s.env.segRetry) = s.now + 10 * sec := by
    rw [lookupD_setKey]; simp
  unfold isolate
  simp only
  split
  · obtain ⟨a, b⟩ := setHeld_facts true ({ s.setFld Reg.fGLB_BOARD_STATUS_ISOLATED (s.fld Reg.fGLB_BOARD_STATUS_ISOLATED ||| 2 ^ k) with
      env := { s.env with segRetry := setKey k (s.now + 10 * sec) s.env.segRetry } })
    exact ⟨(congrArg (fun n : Nat => n.testBit k) a).trans hf, (congrArg (fun e : EnvState => lookupD 0 k e.segRetry) b).trans hl⟩
  · exact ⟨hf, hl⟩

end Sys2Proof.Machine
end

