-- ==== Sys2Proof/Laws/Pair.lean ====
section
/-!
SUPPORT. The head pair: groups, heartbeats, DEGRADED (11 R270 to R280).
-/
namespace Sys2Proof.Machine

theorem group_of_peer (s t : State) (h : t.peer = s.peer) (g : Nat) : t.group g = s.group g := by
  unfold State.group; rw [h]

theorem group_put (s : State) (g : Nat) (x : UbGroup) : (s.putGroup g x).group g = x := by
  rw [State.group_putGroup, if_pos rfl]

theorem group_put_ne (s : State) (g h : Nat) (x : UbGroup) (hn : h ≠ g) : (s.putGroup g x).group h = s.group h := by
  rw [State.group_putGroup, if_neg hn]

/-- With nothing that waits, pumping transmits nothing. -/
theorem pumpPeer_nil (s : State) (h : s.ubQueue = []) : pumpPeer s = s := by
  unfold pumpPeer
  rw [h]
  simp only [List.filter_nil]
  have : ((List.range' 2 6).flatMap fun _ => ([] : List (Nat × Output))) = [] := by decide
  rw [this, List.foldl_nil, ← h]

/-- A group that comes up while nothing waits. -/
theorem groupUp_eq (g : Nat) (s : State) (h : s.ubQueue = []) :
    groupUp g s = s.putGroup g { s.group g with up := true, width := groupWidth (s.group g).badLanes, replays := 0, progressAt := s.now, credits := (List.range' 2 6).map fun c => (c, 64) } := by
  unfold groupUp
  exact pumpPeer_nil _ h

/-- DEGRADED is settled; the rest of the pair stays. -/
theorem settleDegraded_peer (s : State) :
    (settleDegraded s).peer = { s.peer with degraded := s.peer.st == .paired && !((s.group 0).heard && (s.group 1).heard && s.peer.pinsHeard) } := by
  unfold settleDegraded
  simp only
  split
  · rename_i h
    have h := eq_of_beq h
    rw [h]
  · rw [fire_peer]

theorem settleDegraded_keeps (s : State) :
    (settleDegraded s).md = s.md ∧ (settleDegraded s).wr = s.wr ∧ (settleDegraded s).host = s.host ∧ (settleDegraded s).now = s.now ∧ (settleDegraded s).ubQueue = s.ubQueue ∧
    ∀ f i, f.off i 0 ≠ sigStatus → (settleDegraded s).flag f i = s.flag f i := by
  unfold settleDegraded
  simp only
  split
  · exact ⟨rfl, rfl, rfl, rfl, rfl, fun _ _ _ => rfl⟩
  · refine ⟨by rw [fire_md], by rw [fire_wr], by rw [fire_host], by rw [fire_now], by rw [fire_ubQueue], fun f i h => ?_⟩
    rw [flag_fire _ _ _ _ _ _ _ h]; rfl

end Sys2Proof.Machine
end

