-- ==== Sys2Proof/Laws/Remote.lean ====
section
/-!
SUPPORT. Replication: a good frame reaches what it names (13 R318 to R320).
-/
namespace Sys2Proof.Machine

theorem onFrame_good (h : RrHead) (clear : Bool) (k : ReplConn → State → State) (c d : ReplConn) (s u : State) (hf : frameIn h clear c d s u) :
    onFrame h clear k s = k d u := by
  obtain ⟨_, hc, hi, hq, hg, hd, hu⟩ := hf
  unfold onFrame
  simp only [hc, hi, Bool.not_true, Bool.false_or]
  have e : (h.fseq != c.rxSeq || h.gen != (if clear = true then 0xFFFF else c.rxGen)) = false := by rw [hq, hg]; simp
  rw [e, hu, hd]
  rfl

theorem onProved_good (h : RrHead) (k : ReplConn → State → State) (c d : ReplConn) (s u : State) (hf : frameIn h false c d s u) (hp : c.proved = true) :
    onProved h k s = .next (k d u) := by
  unfold onProved
  rw [act_up _ s hf.1, onFrame_good h false _ c d s u hf]
  have : d.proved = true := by rw [hf.2.2.2.2.2.1]; exact hp
  simp only [this, if_true]

theorem onSource_good (h : RrHead) (k : Stream → State → State) (x : Stream) (s u : State) (hs : sourceFrame h x s u) : onSource h k s = .next (k x u) := by
  obtain ⟨c, d, hf, hp, hx, hj⟩ := hs
  unfold onSource
  rw [onProved_good h _ c d s u hf hp]
  have e : settleCancel x u = (false, u) := by unfold settleCancel; rw [hj]; rfl
  simp only [hx, e, Bool.false_eq_true, if_false]

theorem onTarget_good (h : RrHead) (k : Stream → Bool × Namespace → State → State) (x : Stream) (sh : Bool) (n : Namespace) (s u : State)
    (ht : targetFrame h x sh n s u) : onTarget h k s = .next (postWrites (settleIngest (k x (sh, n) u))) := by
  obtain ⟨c, d, hf, hp, hs, hr, hx, hn⟩ := ht
  unfold onTarget
  rw [if_neg (by simp [hs]; omega), onProved_good h _ c d s u hf hp]
  simp only [hx, hn, Option.bind_some, Option.map_some]

end Sys2Proof.Machine
end

