-- ==== Sys2Proof/Tests/Slice0.lean ====
section
/-!
SUPPORT. The model's own tests: ill-formed terms are refused.
-/
namespace Sys2Proof.Tests
open Machine

/-- A task command of window `n` over the PCIe path. -/
def req (n : Fin 4) (args : List Word) : TaskReq :=
  { window := n, path := .bar0, notify := false, args := args, bulkAddr := 0, bulkCtrl := 0, frags := [], bulkFault := none,
    token := { nonce := 0, opcode := 0, digestOk := true, sigOk := true }, nonce := 0, resume := false }

/-- A capsule for namespace 1 on queue 1 of controller 1. -/
def cap (slba nblk : Nat) : IoCapsule := { cntlid := 1, qid := 1, cid := 1, nsid := 1, slba := slba, nblk := nblk }

theorem test_wf_good : Instr.wf (.nop (req 0 [])) = true := by decide
theorem test_wf_too_many_arguments : Instr.wf (.nop (req 0 (List.replicate 32 0))) = false := by decide
theorem test_wf_token_opcode : Instr.wf (.nop { req 0 [] with token := { nonce := 0, opcode := 65536, digestOk := true, sigOk := true } }) = false := by decide
theorem test_wf_capsule_cntlid : Instr.wf (.flush { cap 0 1 with cntlid := 65536 }) = false := by decide
theorem test_wf_capsule_qid : Instr.wf (.flush { cap 0 1 with qid := 65536 }) = false := by decide
theorem test_wf_capsule_cid : Instr.wf (.flush { cap 0 1 with cid := 65536 }) = false := by decide
theorem test_wf_capsule_nsid : Instr.wf (.flush { cap 0 1 with nsid := 2 ^ 32 }) = false := by decide
theorem test_wf_capsule_blocks : Instr.wf (.flush (cap 0 65537)) = false := by decide
theorem test_wf_selects_upd_arm : Instr.wf (.updArm (req 1 [2])) = false := by decide
theorem test_wf_selects_stop : Instr.wf (.replStop (req 1 [0, 1])) = false := by decide
theorem test_wf_bar2 : Instr.wf (.bar2ScratchWrite 67108863 [0, 0]) = false := by decide

end Sys2Proof.Tests
end

/-!
SUPPORT. Stage sets under LNS_SET_CTRL and under their task commands, and the start of a Sector re-lens (02 R38, R39, R44, R45, R524, R525): the rules of the operations, then the statements.
-/
namespace Sys2Proof.Machine

/-! ## What a window and a job record leave alone -/

theorem lens_of_windowOnly (u t : State) (h : windowOnly u t) : t.lens = u.lens := by rw [h.1]

theorem now_of_windowOnly (u t : State) (h : windowOnly u t) : t.now = u.now := by rw [h.1]

theorem job_of_windowOnly (u t : State) (h : windowOnly u t) (k : Nat) : t.job k = u.job k := by
  unfold State.job; rw [h.1]

@[simp] theorem set_taken (t : TaskSpec) (r : TaskReq) (s : State) (n : Nat) : (taken t r s).set n = s.set n :=
  State.set_of_lens s _ (taken_lens t r s) n

@[simp] theorem withJob_lens (op : Nat) (r : TaskReq) (p : JobPlan) (s : State) (k : Nat) : (withJob op r p s k).lens = s.lens := rfl

@[simp] theorem withJob_now (op : Nat) (r : TaskReq) (p : JobPlan) (s : State) (k : Nat) : (withJob op r p s k).now = s.now := rfl

@[simp] theorem set_withJob (op : Nat) (r : TaskReq) (p : JobPlan) (s : State) (k n : Nat) : (withJob op r p s k).set n = s.set n := rfl

@[simp] theorem domainState_withJob (op : Nat) (r : TaskReq) (p : JobPlan) (s : State) (k d : Nat) :
    (withJob op r p s k).domainState d = s.domainState d := rfl

theorem domainState_taken (t : TaskSpec) (r : TaskReq) (s : State) (d : Nat) : (taken t r s).domainState d = s.domainState d :=
  fld_taken t r s _ _ _ (by simp [Fld.off, Reg.fPWR_DOMAIN_STATUS_STATE]; omega)

/-- A command that takes a job record and does `k` with it, seen past its window as `u`. -/
theorem taskCmd_startsJob (t : TaskSpec) (m : List (Nat × Nat)) (r : TaskReq) (body : State → TaskOut) (s u : State) (op n : Nat)
    (p : JobPlan) (k : Nat → State → State) (h : goes t m r s = true) (hn : freeRecord r.window s = some n)
    (hb : body (taken t r s) = startJob op r p (taken t r s) k)
    (hu : windowOnly u (k n (withJob op r p (taken t r s) n))) :
    ∃ x, taskCmd t m r body s = .next x ∧ answered r cACCEPTED 0 [handleOf (plannedJob op r p s n)] x ∧ windowOnly u x := by
  obtain ⟨x, hx, ha, hw⟩ := taskCmd_jobOp t m r body s op n p k h hn hb
  exact ⟨x, hx, ha, windowOnly_trans _ _ _ hu hw⟩

/-! ## Storing, opening and freeing a set -/

theorem State.set_putSet_ne (s : State) (n m : Nat) (x : StageSet) (h : m ≠ n) : (s.putSet n x).set m = s.set m := by
  simp [State.set_putSet, h]

theorem job_putSet (s : State) (n k : Nat) (x : StageSet) : (s.putSet n x).job k = s.job k := by
  unfold State.job; rw [State.putSet_ctl]

@[simp] theorem StageSet.freed_st (x : StageSet) (c d : Nat) : (x.freed c d).st = .free := rfl
@[simp] theorem StageSet.freed_code (x : StageSet) (c d : Nat) : (x.freed c d).code = c := rfl
@[simp] theorem StageSet.freed_empty (x : StageSet) (c d : Nat) : (x.freed c d).empty = true := rfl

@[simp] theorem calm_putSet (s : State) (n : Nat) (x : StageSet) : calm (s.putSet n x) = calm s := by
  unfold calm; simp

theorem canDiscard_of_open (n : Nat) (s : State) (h : (s.set n).st = .staging ∨ (s.set n).st = .checked) : canDiscard n s = true := by
  unfold canDiscard
  rcases h with h | h <;> simp [h]

/-- While nothing waits for a set, freeing one starts nothing (20 R481). -/
theorem settleSubs_putSet_calm (s : State) (n : Nat) (x : StageSet) (h : calm s = true) : settleSubs (s.putSet n x) = s.putSet n x :=
  settleSubs_calm _ (by simpa using h)

theorem freeSet_eq_some (s : State) (n : Nat) (hn : n < 8) (hf : (s.set n).st = .free) (hl : ∀ m < n, (s.set m).st ≠ .free) :
    freeSet s = some n := by
  unfold freeSet
  rw [List.find?_range_eq_some]
  exact ⟨by simp [hf], List.mem_range.2 hn, fun m hm => by simp [hl m hm]⟩

/-! ## The check -/

theorem checkRefused_none (n : Nat) (s : State) (hs : (s.set n).st = .staging) (he : (s.set n).empty = false) : checkRefused n s = none := by
  simp [checkRefused, hs, he]

/-- A check stores the set anew with its shadows, CHECKED at the live generation where every test passes, else STAGING (02 Table 2.6). -/
theorem runCheck_stores (n : Nat) (s : State) : ∃ x, runCheck n s = s.putSet n x ∧
    ((x.st = .checked ∧ x.code = cOK ∧ x.checkedGen = s.lens.liveGen) ∨ (x.st = .staging ∧ x.checkedGen = (s.set n).checkedGen)) ∧
    x.writes = (s.set n).writes ∧ x.items = (s.set n).items := by
  unfold runCheck
  split
  · exact ⟨_, rfl, .inl ⟨rfl, rfl, rfl⟩, rfl, rfl⟩
  · exact ⟨_, rfl, .inr ⟨rfl, rfl⟩, rfl, rfl⟩

/-! ## The commit -/

theorem commitFault_none (n lead : Nat) (s : State) (hs : (s.set n).st = .checked) (ho : (s.set n).owners = [])
    (h1 : 5000 ≤ lead) (h2 : lead ≤ 10000000) : commitFault n lead s = none := by
  simp [commitFault, commitRefused, hs, ho, h1, h2]

theorem commitSet_of_live (n lead : Nat) (kind : CommitKind) (s : State) (hg : (s.set n).checkedGen = s.lens.liveGen) :
    commitSet n lead kind s = sendPrepare n lead kind s := by
  simp [commitSet, hg]

/-- A commit without ownership changes at the generation of its check sends its prepare at once (02 R39, R42). -/
theorem commit_of_live (n lead : Nat) (s : State) (hg : (s.set n).checkedGen = s.lens.liveGen) (ho : (s.set n).owners = []) :
    commit n lead s = sendPrepare n lead .plain s := by
  simp [commit, ho, commitSet_of_live _ _ _ _ hg]

@[simp] theorem set_sendPrepare (n lead : Nat) (kind : CommitKind) (s : State) : (sendPrepare n lead kind s).set n =
    { s.set n with st := .preparing, switchT := s.now + lead, kind := kind, code := cOK, detail := 0 } := by
  simp [sendPrepare]

theorem set_sendPrepare_ne (n m lead : Nat) (kind : CommitKind) (s : State) (h : m ≠ n) : (sendPrepare n lead kind s).set m = s.set m :=
  State.set_putSet_ne _ _ _ _ h

theorem windowOnly_sendPrepare (n lead : Nat) (kind : CommitKind) (u t : State) (h : windowOnly u t) :
    windowOnly (sendPrepare n lead kind u) (sendPrepare n lead kind t) := by
  unfold sendPrepare
  rw [set_of_windowOnly u t h, now_of_windowOnly u t h]
  exact windowOnly_putSet n _ u t h

/-! ## LNS_SET_CTRL -/

/-- The state with LEAD_NS and FORCE of a set written. -/
def ctrlWritten (n lead : Nat) (force : Bool) (s : State) : State :=
  (s.setFld Reg.fLNS_SET_CTRL_LEAD_NS lead n).setFlag Reg.fLNS_SET_CTRL_FORCE force n

@[simp] theorem ctrlWritten_lens (n lead : Nat) (force : Bool) (s : State) : (ctrlWritten n lead force s).lens = s.lens := rfl
@[simp] theorem ctrlWritten_now (n lead : Nat) (force : Bool) (s : State) : (ctrlWritten n lead force s).now = s.now := rfl
@[simp] theorem ctrlWritten_host (n lead : Nat) (force : Bool) (s : State) : (ctrlWritten n lead force s).host = s.host := rfl
@[simp] theorem ctrlWritten_md (n lead : Nat) (force : Bool) (s : State) : (ctrlWritten n lead force s).md = s.md := rfl
@[simp] theorem set_ctrlWritten (n lead m : Nat) (force : Bool) (s : State) : (ctrlWritten n lead force s).set m = s.set m := rfl
@[simp] theorem calm_ctrlWritten (n lead : Nat) (force : Bool) (s : State) : calm (ctrlWritten n lead force s) = calm s := rfl

theorem lead_ctrlWritten (n lead : Nat) (force : Bool) (s : State) (h : lead < 2 ^ 32) :
    (ctrlWritten n lead force s).fld Reg.fLNS_SET_CTRL_LEAD_NS n = lead := by
  unfold ctrlWritten State.setFlag
  rw [State.fld_setFld_apart _ _ _ _ _ _ _ _ (by decide) (by decide), State.fld_setFld_same _ _ _ _ _ (by decide)]
  exact Nat.mod_eq_of_lt h

theorem force_ctrlWritten (n lead : Nat) (force : Bool) (s : State) :
    (ctrlWritten n lead force s).flag Reg.fLNS_SET_CTRL_FORCE n = force :=
  State.flag_setFlag_same _ _ _ _ _ (by decide) (by decide)

/-- A write of LNS_SET_CTRL with a lead that R39 allows stores LEAD_NS and FORCE, then runs its operation. -/
theorem act_setCtrl (n lead : Nat) (force : Bool) (k : State → State) (s : State) (hup : s.up = true) (h1 : 5000 ≤ lead)
    (h2 : lead ≤ 10000000) : act (setCtrl n lead force k) s = .next (k (ctrlWritten n lead force s)) := by
  rw [act_up _ _ hup]
  unfold setCtrl
  rw [if_neg (by simp; omega)]
  rfl

section SetCtrl

variable (n : Fin 8) (lead : BitVec 32) (force : Bool) (s : State) (hup : s.up = true) (h1 : 5000 ≤ lead.toNat) (h2 : lead.toNat ≤ 10000000)
include hup h1 h2

theorem lnsSetOpen_of_free (hs : (s.set n).st = .free) :
    exec (.lnsSetOpen n lead force) s = .next (openSet n (ctrlWritten n lead.toNat force s)) := by
  show act (setCtrl _ _ _ _) s = _
  simp [act_setCtrl _ _ _ _ _ hup h1 h2, hs]

theorem lnsSetOpen_of_open (hs : (s.set n).st ≠ .free) :
    exec (.lnsSetOpen n lead force) s = .next ((ctrlWritten n lead.toNat force s).setResult n cSTATE_CONFLICT 0) := by
  show act (setCtrl _ _ _ _) s = _
  simp [act_setCtrl _ _ _ _ _ hup h1 h2, hs]

theorem lnsSetCheck_of_staging (hs : (s.set n).st = .staging) (he : (s.set n).empty = false) :
    exec (.lnsSetCheck n lead force) s = .next (runCheck n (ctrlWritten n lead.toNat force s)) := by
  show act (setCtrl _ _ _ _) s = _
  simp only [act_setCtrl _ _ _ _ _ hup h1 h2]
  rw [checkRefused_none _ _ (by simpa using hs) (by simpa using he)]

theorem lnsSetCommit_of_checked (hs : (s.set n).st = .checked) (hg : (s.set n).checkedGen = s.lens.liveGen) (ho : (s.set n).owners = []) :
    exec (.lnsSetCommit n lead force) s = .next (sendPrepare n lead.toNat .plain (ctrlWritten n lead.toNat force s)) := by
  show act (setCtrl _ _ _ _) s = _
  simp only [act_setCtrl _ _ _ _ _ hup h1 h2]
  rw [commitFault_none _ _ _ (by simpa using hs) (by simpa using ho) h1 h2]
  simp only
  rw [commit_of_live _ _ _ (by simpa using hg) (by simpa using ho)]

theorem lnsSetDiscard_of_open (hs : (s.set n).st = .staging ∨ (s.set n).st = .checked) (hc : calm s = true) :
    exec (.lnsSetDiscard n lead force) s =
      .next ((ctrlWritten n lead.toNat force s).putSet n ((s.set n).freed cOK 0)) := by
  show act (setCtrl _ _ _ _) s = _
  simp only [act_setCtrl _ _ _ _ _ hup h1 h2]
  rw [if_pos (canDiscard_of_open _ _ (by simpa using hs)), settleSubs_putSet_calm _ _ _ (by simpa using hc), set_ctrlWritten]

theorem lnsSetNoOperation_writes :
    exec (.lnsSetNoOperation n lead force) s = .next (ctrlWritten n lead.toNat force s) :=
  act_setCtrl _ _ _ id _ hup h1 h2

end SetCtrl

/-- Settles O11: every operation is one write of LEAD_NS and FORCE and one store of its set. -/
theorem stageSetsMoveAsTheirTableSays : Obligations.StageSetsMoveAsTheirTableSays := by
  unfold Obligations.StageSetsMoveAsTheirTableSays
  refine ⟨?opened, ?inUse, ?check, ?commit, ?discard, ?noOperation⟩
  case opened =>
    intro n lead force s hup h1 h2 hs
    exact ⟨_, lnsSetOpen_of_free n lead force s hup h1 h2 hs, by simp [openSet], by simp [openSet],
      fun m hm => State.set_putSet_ne _ _ _ _ hm, by simp [openSet], by simp [openSet]⟩
  case inUse =>
    intro n lead force s hup h1 h2 hs
    exact ⟨_, lnsSetOpen_of_open n lead force s hup h1 h2 hs, by simp [State.setResult], fun m hm => State.set_putSet_ne _ _ _ _ hm⟩
  case check =>
    intro n lead force s hup h1 h2 hs he
    obtain ⟨x, hx, hst, hw, hi⟩ := runCheck_stores n (ctrlWritten n lead.toNat force s)
    refine ⟨_, lnsSetCheck_of_staging n lead force s hup h1 h2 hs he, ?_⟩
    rw [hx, State.set_putSet_same]
    exact ⟨hst, hw, hi, fun m hm => State.set_putSet_ne _ _ _ _ hm⟩
  case commit =>
    intro n lead force s hup h1 h2 hs hg ho
    refine ⟨_, lnsSetCommit_of_checked n lead force s hup h1 h2 hs hg ho, ?_⟩
    rw [set_sendPrepare]
    exact ⟨rfl, rfl, rfl, rfl, fun m hm => set_sendPrepare_ne _ _ _ _ _ hm⟩
  case discard =>
    intro n lead force s hup h1 h2 hs hc
    refine ⟨_, lnsSetDiscard_of_open n lead force s hup h1 h2 hs hc, ?_⟩
    rw [State.set_putSet_same]
    exact ⟨rfl, rfl, rfl, fun m hm => State.set_putSet_ne _ _ _ _ hm⟩
  case noOperation =>
    intro n lead force s hup h1 h2
    exact ⟨_, lnsSetNoOperation_writes n lead force s hup h1 h2, rfl, lead_ctrlWritten _ _ _ _ lead.isLt, force_ctrlWritten _ _ _ _⟩

/-! ## The task commands of a set -/

theorem stageOpen_answers (r : TaskReq) (s : State) (n : Nat) (h : goes { opcode := 0x0101, windows := [0, 1] } [] r s = true)
    (hn : freeSet s = some n) :
    ∃ t, exec (.stageOpen r) s = .next t ∧ answered r cOK 0 [BitVec.ofNat 64 n] t ∧
      windowOnly (s.putSet n { (s.set n).freed cOK 0 with st := .staging }) t := by
  have hn' : freeSet (taken { opcode := 0x0101, windows := [0, 1] } r s) = some n := by rw [← hn]; unfold freeSet; simp
  refine taskCmd_answered _ _ r _ s _ _ _ _ _ h (by simp only [hn']; rfl) (by simp) ?_
  unfold openSet
  rw [set_taken]
  exact windowOnly_putSet n _ _ _ (windowOnly_taken _ r s)

theorem stageLens_starts (r : TaskReq) (img : LensImage) (s : State) (k : Nat)
    (h : goes { opcode := 0x0102, windows := [0, 1], bulk := .take (some (r.argBits 2 31 0)) } [(1, mask 2 0), (2, mask 31 0)] r s = true)
    (hs : (s.set (r.arg 1)).st = .staging ∨ (s.set (r.arg 1)).st = .checked) (hl : r.arg 2 ≤ 8 * 1048576) (hb : r.bulkFault = none)
    (hk : freeRecord r.window s = some k) :
    ∃ t, exec (.stageLens r img) s = .next t ∧
      answered r cACCEPTED 0 [handleOf (plannedJob 0x0102 r { cancellable := true, work := .takeLens (r.arg 1) img } s k)] t ∧
      windowOnly (withJob 0x0102 r { cancellable := true, work := .takeLens (r.arg 1) img } s k) t := by
  have hfits : ¬ (if img.kind == 0 then 96 else 8) * 1048576 < r.arg 2 := by split <;> omega
  have hopen : (!((s.set (r.arg 1)).st == .staging || (s.set (r.arg 1)).st == .checked)) = false := by
    rcases hs with hs | hs <;> simp [hs]
  refine taskCmd_job _ _ r _ s _ k _ h hk ?_
  simp only [set_taken, hopen, Bool.false_eq_true, if_false, if_neg hfits, moved, hb]

theorem stageCheck_starts (r : TaskReq) (s : State) (k : Nat) (h : goes { opcode := 0x0103, windows := [0, 1] } [(1, mask 2 0)] r s = true)
    (hs : (s.set (r.arg 1)).st = .staging) (he : (s.set (r.arg 1)).empty = false) (hk : freeRecord r.window s = some k) :
    ∃ t, exec (.stageCheck r) s = .next t ∧
      answered r cACCEPTED 0 [handleOf (plannedJob 0x0103 r { cancellable := true, work := .check (r.arg 1) } s k)] t ∧
      windowOnly ((withJob 0x0103 r { cancellable := true, work := .check (r.arg 1) } s k).putSet (r.arg 1)
        { s.set (r.arg 1) with st := .checking }) t := by
  refine taskCmd_startsJob _ _ r _ s _ _ k _ (fun _ s => s.putSet (r.arg 1) { s.set (r.arg 1) with st := .checking }) h hk ?_ ?_
  · simp only
    rw [checkRefused_none _ _ (by simpa using hs) (by simpa using he)]
  · simp only [set_withJob, set_taken]
    exact windowOnly_putSet _ _ _ _ (windowOnly_withJob _ _ _ _ _ _ (windowOnly_taken _ r s))

/-- What STAGE_COMMIT does with its job record `k`: the set commits and keeps the job, which ends at once with a commit that fails (02 R525). -/
def commitForJob (n lead k : Nat) (s : State) : State :=
  let s := commit n lead s
  if (s.set n).st == .preparing then s.putSet n { s.set n with job := some k } else endJob k (s.set n).code (s.set n).detail [] s

theorem commitForJob_of_live (n lead k : Nat) (s : State) (hg : (s.set n).checkedGen = s.lens.liveGen) (ho : (s.set n).owners = []) :
    commitForJob n lead k s = (sendPrepare n lead .plain s).putSet n { (sendPrepare n lead .plain s).set n with job := some k } := by
  simp [commitForJob, commit_of_live n lead s hg ho]

theorem stageCommit_starts (r : TaskReq) (s : State) (k : Nat)
    (h : goes { opcode := 0x0104, windows := [0, 1] } [(1, mask 2 0), (2, mask 31 0)] r s = true)
    (hs : (s.set (r.arg 1)).st = .checked) (hg : (s.set (r.arg 1)).checkedGen = s.lens.liveGen) (ho : (s.set (r.arg 1)).owners = [])
    (h1 : 5000 ≤ r.arg 2) (h2 : r.arg 2 ≤ 10000000) (hk : freeRecord r.window s = some k) :
    ∃ t, exec (.stageCommit r) s = .next t ∧ answered r cACCEPTED 0 [handleOf (plannedJob 0x0104 r {} s k)] t ∧
      windowOnly ((sendPrepare (r.arg 1) (r.arg 2) .plain (withJob 0x0104 r {} s k)).putSet (r.arg 1)
        { s.set (r.arg 1) with st := .preparing, switchT := s.now + r.arg 2, kind := .plain, code := cOK, detail := 0, job := some k }) t := by
  refine taskCmd_startsJob _ _ r _ s _ 0x0104 k {} (commitForJob (r.arg 1) (r.arg 2)) h hk ?_ ?_
  · simp only
    rw [commitFault_none _ _ _ (by simpa using hs) (by simpa using ho) h1 h2]
    rfl
  · rw [commitForJob_of_live _ _ _ _ (by simpa using hg) (by simpa using ho)]
    simp only [set_sendPrepare, set_withJob, set_taken, withJob_now, taken_now]
    exact windowOnly_putSet _ _ _ _ (windowOnly_sendPrepare _ _ _ _ _ (windowOnly_withJob _ _ _ _ _ _ (windowOnly_taken _ r s)))

theorem stageDiscard_frees (r : TaskReq) (s : State) (h : goes { opcode := 0x0105, windows := [0, 1] } [(1, mask 2 0)] r s = true)
    (hs : (s.set (r.arg 1)).st = .staging ∨ (s.set (r.arg 1)).st = .checked) (hc : calm s = true) :
    ∃ t, exec (.stageDiscard r) s = .next t ∧ answered r cOK 0 [] t ∧
      windowOnly (s.putSet (r.arg 1) ((s.set (r.arg 1)).freed cOK 0)) t := by
  refine taskCmd_answered _ _ r _ s _ _ _ _ _ h ?_ (by simp)
    (windowOnly_putSet _ _ _ _ (windowOnly_taken { opcode := 0x0105, windows := [0, 1] } r s))
  simp only
  rw [if_pos (canDiscard_of_open _ _ (by simpa using hs)), settleSubs_putSet_calm _ _ _ (by simpa [calm] using hc), set_taken]

/-! ## SECTOR_RELENS -/

theorem wakeParked_idle (s : State) (h : ∀ d, s.domainState d ≠ 1) : wakeParked s = s :=
  List.foldl_fixed' (fun d => by simp [h d]) _

theorem relensFault_taken (t : TaskSpec) (r : TaskReq) (s : State) (n : Nat) (l : List Nat) (f : Bool) :
    relensFault (taken t r s) n l f = relensFault s n l f := by
  obtain ⟨x, hx⟩ := taken_only t r s
  rw [hx]; rfl

theorem relensFault_busy (s : State) (n : Nat) (l : List Nat) (f : Bool) (x : Relens) (h : s.lens.relens = some x) :
    relensFault s n l f = some cSECTOR_BUSY := by
  simp [relensFault, h]

theorem windowOnly_putRelens (x : Option Relens) (u t : State) (h : windowOnly u t) : windowOnly (putRelens x u) (putRelens x t) :=
  windowOnly_map (putRelens x) u t h (fun _ _ _ => rfl) rfl

@[simp] theorem set_putRelens (x : Option Relens) (s : State) (n : Nat) : (putRelens x s).set n = s.set n := rfl

/-- The re-lens that a set `n` starts with job record `k`: the units it changes drain (02 R45). -/
def drainingRelens (n sector k : Nat) (changed : List Nat) (s : State) : Relens :=
  { subs := [], sector := sector, phase := .draining, set := n, jobs := [k], changed := changed, waiting := [], failed := [],
    epoch := true, previous := s.lens.live, drainT := s.now }

/-- What SECTOR_RELENS does with its job record `k`: the drain epoch is committed, and a commit that fails ends the job (02 R45). -/
def drainForJob (n sector : Nat) (changed : List Nat) (k : Nat) (s : State) : State :=
  let x := drainingRelens n sector k changed s
  let s := commitSet n defaultLead .drain (wakeParked s)
  if (s.set n).st == .preparing then putRelens (some x) s else endJob k (s.set n).code (s.set n).detail [] s

theorem drainForJob_of_live (n sector k : Nat) (changed : List Nat) (s : State) (hg : (s.set n).checkedGen = s.lens.liveGen)
    (hd : ∀ d, s.domainState d ≠ 1) : drainForJob n sector changed k s =
      putRelens (some (drainingRelens n sector k changed s)) (sendPrepare n defaultLead .drain s) := by
  simp [drainForJob, wakeParked_idle s hd, commitSet_of_live _ _ _ _ hg]

section SectorRelens

variable (r : TaskReq) (s : State) (h : goes { opcode := 0x0106, windows := [0] } [(1, mask 2 0 ||| mask 8 8)] r s = true)
include h

theorem sectorRelens_of_unchecked (hs : (s.set (r.argBits 1 2 0)).st ≠ .checked) :
    ∃ t, exec (.sectorRelens r) s = .next t ∧ answered r cSTATE_CONFLICT 0 [] t ∧ windowOnly s t := by
  refine taskCmd_refused _ _ r _ s _ _ _ h ?_ (by simp)
  simp [hs]

variable (img : LensImage) (hs : (s.set (r.argBits 1 2 0)).st = .checked) (hi : (s.set (r.argBits 1 2 0)).lens = some img)
  (hkind : img.kind = 1)
include hs hi hkind

/-- A bar of Table 2.8 is the answer, and nothing else changes. -/
theorem sectorRelens_of_barred (c : Nat) (hf : relensFault s img.sector (changedIslands img s.lens.live) (r.argBits 1 8 8 == 1) = some c) :
    ∃ t, exec (.sectorRelens r) s = .next t ∧ answered r c 0 [] t ∧ windowOnly s t := by
  refine taskCmd_refused _ _ r _ s _ _ _ h ?_ (by simp)
  simp [hs, hi, hkind, relensFault_taken, hf]

theorem sectorRelens_starts (k : Nat) (hg : (s.set (r.argBits 1 2 0)).checkedGen = s.lens.liveGen)
    (hf : relensFault s img.sector (changedIslands img s.lens.live) (r.argBits 1 8 8 == 1) = none)
    (hd : ∀ d, s.domainState d ≠ 1) (hk : freeRecord r.window s = some k) :
    ∃ t, exec (.sectorRelens r) s = .next t ∧ answered r cACCEPTED 0 [handleOf (plannedJob 0x0106 r {} s k)] t ∧
      windowOnly (putRelens (some (drainingRelens (r.argBits 1 2 0) img.sector k (changedIslands img s.lens.live) s))
        (sendPrepare (r.argBits 1 2 0) defaultLead .drain (withJob 0x0106 r {} s k))) t := by
  refine taskCmd_startsJob _ _ r _ s _ 0x0106 k {} (drainForJob (r.argBits 1 2 0) img.sector (changedIslands img s.lens.live)) h hk ?_ ?_
  · simp only [set_taken, taken_lens, hs, hi, hkind, relensFault_taken, hf, beq_self_eq_true, bne_self_eq_false, Bool.false_eq_true, if_false]
    rfl
  · rw [drainForJob_of_live _ _ _ _ _ (by simpa using hg) (fun d => by simpa [domainState_taken] using hd d)]
    simp only [drainingRelens, withJob_lens, withJob_now, taken_lens, taken_now]
    exact windowOnly_putRelens _ _ _ (windowOnly_sendPrepare _ _ _ _ _ (windowOnly_withJob _ _ _ _ _ _ (windowOnly_taken _ r s)))

end SectorRelens

/-- Settles O8: the re-lens under way is the first bar of `relensFault`, whose code is the answer. -/
theorem oneSectorRelensAtATime : Obligations.OneSectorRelensAtATime := by
  unfold Obligations.OneSectorRelensAtATime
  intro r s img x h hs hi hkind hx
  obtain ⟨t, he, ha, hw⟩ := sectorRelens_of_barred r s h img hs hi hkind _ (relensFault_busy s _ _ _ x hx)
  exact ⟨t, he, ha, hw, by rw [lens_of_windowOnly s t hw, hx]⟩

/-- Settles O12: past its window each command is one store of its set, with the record of the job it starts. -/
theorem stageTaskCommandsMoveTheirSet : Obligations.StageTaskCommandsMoveTheirSet := by
  unfold Obligations.StageTaskCommandsMoveTheirSet
  refine ⟨?opened, fun r img s k => stageLens_starts r img s k, ?check, ?commit, ?discard, sectorRelens_of_unchecked, ?relens⟩
  case opened =>
    intro r s n h hn hf hl
    obtain ⟨t, he, ha, hw⟩ := stageOpen_answers r s n h (freeSet_eq_some s n hn hf hl)
    refine ⟨t, he, ha, ?_⟩
    simp only [set_of_windowOnly _ t hw, State.set_putSet_same, true_and]
    exact fun m hm => State.set_putSet_ne _ _ _ _ hm
  case check =>
    intro r s k h hs he hk
    obtain ⟨t, hn, ha, hw⟩ := stageCheck_starts r s k h hs he hk
    refine ⟨t, hn, ha, ?_⟩
    simp only [set_of_windowOnly _ t hw, job_of_windowOnly _ t hw, State.set_putSet_same, true_and]
    refine ⟨?_, fun m hm => State.set_putSet_ne _ _ _ _ hm⟩
    rw [job_putSet, withJob_job _ _ _ _ _ (freeRecord_free _ _ _ hk)]
  case commit =>
    intro r s k h hs hg ho h1 h2 hk
    obtain ⟨t, hn, ha, hw⟩ := stageCommit_starts r s k h hs hg ho h1 h2 hk
    refine ⟨t, hn, ha, ?_⟩
    simp only [set_of_windowOnly _ t hw, State.set_putSet_same, true_and]
    exact fun m hm => by rw [State.set_putSet_ne _ _ _ _ hm, set_sendPrepare_ne _ _ _ _ _ hm, set_withJob]
  case discard =>
    intro r s h hs hc
    obtain ⟨t, hn, ha, hw⟩ := stageDiscard_frees r s h hs hc
    refine ⟨t, hn, ha, ?_⟩
    simp only [set_of_windowOnly _ t hw, State.set_putSet_same, StageSet.freed_st, true_and]
    exact fun m hm => State.set_putSet_ne _ _ _ _ hm
  case relens =>
    intro r s img k h hs hi hkind hg hf hd hk
    obtain ⟨t, hn, ha, hw⟩ := sectorRelens_starts r s h img hs hi hkind k hg hf hd hk
    refine ⟨t, hn, ha, ?_⟩
    simp only [set_of_windowOnly _ t hw, lens_of_windowOnly _ t hw, set_putRelens, set_sendPrepare, withJob_now, true_and]
    exact ⟨_, rfl, rfl, rfl, rfl, rfl⟩

/-! ## The hypotheses are met -/

/-- The last offset of a register definition. -/
def RegDef.top (d : RegDef) : Nat := d.base + (d.count - 1) * d.stride + (d.count2 - 1) * d.stride2

theorem RegDef.le_top_of_holds (d : RegDef) (off : Nat) (h : d.holds off = true) : off ≤ d.top := by
  simp only [RegDef.holds, Bool.and_eq_true, decide_eq_true_eq] at h
  obtain ⟨⟨⟨hb, hi⟩, hj⟩, he⟩ := h
  have h1 := Nat.mul_le_mul_right d.stride (Nat.le_sub_one_of_lt hi)
  have h2 := Nat.mul_le_mul_right d.stride2 (Nat.le_sub_one_of_lt hj)
  unfold RegDef.top
  omega

/-- PWR_DOMAIN_STATUS and what lies above it reset to zero. -/
theorem resetWord_above_domains (off : Nat) (h : Reg.PWR_DOMAIN_STATUS.base ≤ off) : resetWord off = 0 := by
  have key : (Reg.table.all fun d => decide (d.top < Reg.PWR_DOMAIN_STATUS.base) || d.reset == 0) = true := by decide
  unfold resetWord regAt
  cases hf : Reg.table.find? (·.holds off) with
  | none => rfl
  | some d =>
    have hle := d.le_top_of_holds off (by simpa using List.find?_some hf)
    have hd := List.all_eq_true.1 key d (List.mem_of_find?_eq_some hf)
    simp only [Bool.or_eq_true, decide_eq_true_eq, beq_iff_eq] at hd
    have h0 : d.reset = 0 := hd.resolve_left (by omega)
    simp [h0]

theorem domainState_reset (d : Nat) : State.reset.domainState d = 0 := by
  have h : State.reset.word (Reg.fPWR_DOMAIN_STATUS_STATE.off d 0) = 0 :=
    resetWord_above_domains _ (by simp [Fld.off, Reg.fPWR_DOMAIN_STATUS_STATE, Reg.PWR_DOMAIN_STATUS])
  unfold State.domainState State.fld
  rw [h]
  rfl

theorem freeRecord_of_no_jobs (w : Nat) (s : State) (h : s.ctl.jobs = []) : freeRecord w s = some 0 := by
  unfold freeRecord
  rw [h, if_neg (by simp), List.find?_range_eq_some]
  simp

/-- A Sector Lens of Sector 0 that changes no island. -/
def witnessLens : LensImage :=
  { magic := 0, format := 0, hdrLen := 0, kind := 1, sector := 0, sections := [], sectionCount := 0, flags := 0, secVersion := 0,
    stepping := 0, lensId := 1, toolVer := 0, imageLen := 0, powerMw := 0, coreMa := 0, ifaceTag := 0, rsvdZero := true, keyIndex := 0,
    ownerPresent := 0, sigOk := true, ownerSigOk := true, crcOk := true }

/-- A SECTOR_RELENS of set 0, by the PCIe path. -/
def witnessRelens : TaskReq :=
  { window := 0, path := .bar0, notify := false, args := [0], bulkAddr := 0, bulkCtrl := 0, frags := [], bulkFault := none,
    token := { nonce := 0, opcode := 0, digestOk := true, sigOk := true }, nonce := 0, resume := false }

/-- A new board whose set 0 is CHECKED and holds that Lens, with re-lens `x` under way or none. -/
def witnessChecked (x : Option Relens) : State :=
  putRelens x { State.reset with lens := { LensState.reset with
    sets := putNth .free { StageSet.free with st := .checked, items := [.lens witnessLens] } 0 LensState.reset.sets } }

/-- Neither the keepers, the window nor the arguments stand in the way of it. -/
theorem witnessRelens_goes (x : Option Relens) :
    goes { opcode := 0x0106, windows := [0] } [(1, mask 2 0 ||| mask 8 8)] witnessRelens (witnessChecked x) = true := by
  have hk : (witnessChecked x).keeperA = some true := by
    show (witnessChecked none).keeperA = some true
    decide
  have hbusy : (witnessChecked x).busy 0 = false := by
    show (witnessChecked none).busy 0 = false
    decide
  exact (goes_iff _ _ _ _).2 ⟨rfl, rfl, rfl, rfl, hbusy, hk, by decide, rfl, rfl, by decide⟩

/-- SECTOR_RELENS starts a re-lens on that board. -/
theorem sectorRelens_starts_witness :
    ∃ t, exec (.sectorRelens witnessRelens) (witnessChecked none) = .next t ∧
      t.lens.relens = some (drainingRelens 0 0 0 [] (witnessChecked none)) := by
  obtain ⟨t, he, _, hw⟩ := sectorRelens_starts witnessRelens (witnessChecked none) (witnessRelens_goes none) witnessLens rfl rfl rfl 0 rfl
    (by decide) (fun d => by show State.reset.domainState d ≠ 1; simp [domainState_reset]) (freeRecord_of_no_jobs 0 _ rfl)
  exact ⟨t, he, by rw [lens_of_windowOnly _ t hw]; rfl⟩

/-- While that re-lens runs, the same command ends with SECTOR_BUSY. -/
theorem oneSectorRelensAtATime_witness :
    ∃ t, exec (.sectorRelens witnessRelens) (witnessChecked (some (drainingRelens 0 0 0 [] State.reset))) = .next t ∧
      answered witnessRelens cSECTOR_BUSY 0 [] t := by
  obtain ⟨t, he, ha, _⟩ := oneSectorRelensAtATime witnessRelens (witnessChecked (some (drainingRelens 0 0 0 [] State.reset))) witnessLens _
    (witnessRelens_goes _) rfl rfl rfl rfl
  exact ⟨t, he, ha⟩

/-- At the shortest lead of R39, LNS_SET_CTRL prepares that set for 5,000 ns. -/
theorem lnsSetCommit_witness :
    ∃ t, exec (.lnsSetCommit 0 5000 false) (witnessChecked none) = .next t ∧ (t.set 0).st = .preparing ∧ (t.set 0).switchT = 5000 := by
  refine ⟨_, lnsSetCommit_of_checked 0 5000 false (witnessChecked none) rfl (by decide) (by decide) rfl rfl rfl, ?_⟩
  show ((sendPrepare 0 5000 .plain _).set 0).st = .preparing ∧ ((sendPrepare 0 5000 .plain _).set 0).switchT = 5000
  rw [set_sendPrepare]
  exact ⟨rfl, rfl⟩

end Sys2Proof.Machine

/-!
SUPPORT. The control interface: what a task window, a BAR0 write and a BAR2 write do with what reaches them (03 R51 to R73, 02 R524).
-/
namespace Sys2Proof.Machine

/-! ## GO on a window that does not take it -/

/-- A GO by a path that may not write the window reaches no command (03 Table 3.1, R52). -/
theorem taskCmd_barred (t : TaskSpec) (m : List (Nat × Nat)) (r : TaskReq) (body : State → TaskOut) (s : State) (hup : s.up = true)
    (hrec : s.boot.recovery = false) (hres : r.resume = false) (hpath : pathOpen r s = false) :
    taskCmd t m r body s =
      .next (if r.path == .bar0 then captureErr cNOT_PERMITTED (winBase r.window + 0x100) s else s) := by
  unfold taskCmd
  rw [act_up _ _ hup]
  simp [runTask, hres, hpath, hrec]

/-- A GO on a busy window reaches no command (03 R55). -/
theorem taskCmd_busy (t : TaskSpec) (m : List (Nat × Nat)) (r : TaskReq) (body : State → TaskOut) (s : State) (hup : s.up = true)
    (hrec : s.boot.recovery = false) (hres : r.resume = false) (hpath : pathOpen r s = true) (hbusy : s.busy r.window = true) :
    taskCmd t m r body s =
      .next (if r.path == .bar0 then captureErr cSTATE_CONFLICT (winBase r.window + 0x100) s else s) := by
  unfold taskCmd
  rw [act_up _ _ hup]
  simp [runTask, hres, hpath, hrec, hbusy]

/-- Every row with a GO is a task command of its own opcode, windows and argument masks; no other row has a request (03 Table 3.4). -/
theorem exec_of_goOf (c : Instr) (r : TaskReq) (h : goOf c = some r) : ∃ t m body, exec c = taskCmd t m r body := by
  cases c with
  | nop | identify | jobStatus | jobResult | jobCancel | stageOpen | stageLens | stageCheck | stageCommit | stageDiscard | sectorRelens
  | nsCreate | nsDelete | nsModify | hostAdd | hostRemove | nsAccessGrant | nsAccessRevoke | dictLoad
  | snapCreate | snapDelete | cloneCreate | snapLock | snapList | anaStage | peerStatus | beaconConfig | peerAdmit
  | keyLoad | keyErase | keyStatus | updPiece | updStatus | updVerify | updActivate | updArm | updRevert | updConfirm | updFetch
  | ledgerExport | fuseEnrolOwnerKey | fuseRaiseCounter | fuseRevokeHedavyKey | fuseBlowJtagDisabled
  | replPartnerAdd | replPartnerRemove | replStart | replStop | replPromote | replStatus
  | moduleList | moduleAdmit | moduleRetire | portRebind | layoutSet | scrubRange | bucketConfig
  | healthRead | logRead | logConfig | sensorRead | holdupTest | fogClear | sigRouteStage
  | unitFence | unitFenceClear | unitSubstitute | unitSubstituteRestore | diagInject | diagTrace | diagPeek =>
    cases h
    exact ⟨_, _, _, rfl⟩
  | _ => cases h

/-- Settles O4: the window's gate discards the GO before the command's own part is reached. -/
theorem busyWindowTakesNoCommand : Obligations.BusyWindowTakesNoCommand := by
  unfold Obligations.BusyWindowTakesNoCommand
  refine ⟨?busy, ?barred⟩
  case busy =>
    intro c r s hc hup hrec hres hpath hbusy
    obtain ⟨t, m, body, he⟩ := exec_of_goOf c r hc
    rw [he, taskCmd_busy t m r body s hup hrec hres hpath hbusy]
  case barred =>
    intro c r s hc hup hrec hres hpath
    obtain ⟨t, m, body, he⟩ := exec_of_goOf c r hc
    rw [he, taskCmd_barred t m r body s hup hrec hres hpath]

/-! ## Every command answers -/

/-- From every state the command answers a next state. -/
def Answers (k : State → Host.Outcome State Fault Refusal) : Prop := ∀ s, ∃ t, k s = .next t

theorem act_answers (f : State → State) : Answers (act f) := fun _ => ⟨_, rfl⟩

theorem actPipe_answers (f : State → State) : Answers (actPipe f) := fun _ => ⟨_, rfl⟩

theorem actIO_answers (f : State → State) : Answers (actIO f) := fun _ => ⟨_, rfl⟩

/-- A target's frame waits where the datapath does not run or the journal has no room (13 R320). -/
theorem onTarget_answers (h : RrHead) (k : Stream → Bool × Namespace → State → State) : Answers (onTarget h k) := by
  intro s
  unfold onTarget
  split
  · exact ⟨_, rfl⟩
  · exact act_answers _ s

/-- Every command but the two register writes answers: its arm is `act`, or one of the gates that are built of it. -/
theorem exec_answers (c : Instr) (hw : ∀ o b w, c ≠ .registerWrite o b w) (hs : ∀ o w, c ≠ .stagedRegisterWrite o w) :
    Answers (exec c) := by
  cases c with
  | registerWrite o b w => exact absurd rfl (hw o b w)
  | stagedRegisterWrite o w => exact absurd rfl (hs o w)
  | grainFingerprint | repairInPlace | rowProgramSuccess | rowProgramFail | codewordReadEscalation | segmentOpen | rebuildSegment
  | rebuildTransactionDurable | freeSpaceChange | fold | garbageCollection | relocationErase | blockEraseComplete
  | staticWearLevelling | readDisturbRefresh | checkpoint | checkpointDurable | checkpointOverdue | metadataPageRead | metadataRestart =>
    exact actPipe_answers _
  | journalAppend | grainVerify | grainReconstruction | journalFetch | nvmeWrite | nvmeRead | writeZeroes | datasetManagement
  | compare | copy | flush | reservationRegister | reservationAcquire | reservationRelease | reservationReport
  | capsuleContextAdmit | h2cDataPdu | rdmaReadCompletion | fwdCmd =>
    exact actIO_answers _
  | fpBatch | data | mapRun | syncRec => exact onTarget_answers _ _
  | streamOpen h m fps =>
    cases m with
    | inl ids => exact act_answers _
    | inr cursor => exact act_answers _
  | diffEnd h m =>
    cases m with
    | inl n => exact onTarget_answers h _
    | inr n => exact act_answers _
  | shutdownExit | porstNAssert | porstNRelease | vddAonLoss | thermalAutoStart | perstN => exact fun _ => ⟨_, rfl⟩
  | _ => exact act_answers _

/-- A register write that starts no task command is one write of BAR0 (03 R64). -/
theorem busWrite_plain (off : Nat) (whole : Bool) (w : Word) (s : State)
    (h : startsTask off w s = false ∨ writeFault off whole w s ≠ none) : busWrite off whole w s = act (writeReg off whole w) s := by
  unfold busWrite
  rw [if_neg]
  rcases h with h | h <;> simp [h]

theorem busWrite_answers (off : Nat) (whole : Bool) (w : Word) (s : State)
    (h : startsTask off w s = false ∨ writeFault off whole w s ≠ none) : ∃ t, busWrite off whole w s = .next t := by
  rw [busWrite_plain off whole w s h]
  exact act_answers _ s

/-- Settles O5: a register write that starts no task command is one write of BAR0, and every other row answers. -/
theorem everyCommandAnswersNext : Obligations.EveryCommandAnswersNext := by
  unfold Obligations.EveryCommandAnswersNext
  refine ⟨fun c s h h' => exec_answers c h h' s, fun o b w s h => ⟨busWrite_answers o b w s h, ?_⟩⟩
  rintro rfl
  exact busWrite_answers o true w s h


/-! ## Discarded writes -/

/-- The blocks do not meet: an offset in the range of the k-th lies in no range before it (03 Table 3.9). -/
theorem blockOf_of_mem (b : Nat × Nat) (off : Nat) (hb : b ∈ blocks) (h1 : b.1 ≤ off) (h2 : off < b.1 + b.2) :
    blockBase (blockOf off) = b.1 := by
  have apart : ∀ c ∈ blocks, ∀ d ∈ blocks, c = d ∨ c.1 + c.2 ≤ d.1 ∨ d.1 + d.2 ≤ c.1 := by decide
  have hin : (blocks.findIdx? fun c => c.1 ≤ off && off < c.1 + c.2).isSome := by
    rw [List.findIdx?_isSome, List.any_eq_true]
    exact ⟨b, hb, by simp [h1, h2]⟩
  obtain ⟨k, hk⟩ := Option.isSome_iff_exists.1 hin
  obtain ⟨hlt, hp, -⟩ := List.findIdx?_eq_some_iff_getElem.1 hk
  simp only [Bool.and_eq_true, decide_eq_true_eq] at hp
  have hc : blocks[k] = b := by
    rcases apart _ (List.getElem_mem hlt) b hb with h | h | h
    · exact h
    · omega
    · omega
  simp [blockBase, blockOf, hk, hlt, hc]

/-- An offset of no block is GLB's (03 R67). -/
theorem blockBase_of_none (off : Nat) (h : ∀ b ∈ blocks, ¬ (b.1 ≤ off ∧ off < b.1 + b.2)) : blockBase (blockOf off) = 0 := by
  have hn : (blocks.findIdx? fun c => c.1 ≤ off && off < c.1 + c.2) = none := by
    rw [List.findIdx?_eq_none_iff]
    intro b hb
    simpa using h b hb
  unfold blockBase blockOf
  rw [hn]
  rfl

/-- No block keeps its ERR_CAPTURE where GLB_ERR_SUMMARY stands. -/
theorem capture_ne_summary (off : Nat) : blockBase (blockOf off) + 0x18 ≠ Reg.GLB_ERR_SUMMARY.base := by
  have h : ∀ b ∈ blocks, b.1 + 0x18 ≠ Reg.GLB_ERR_SUMMARY.base := by decide
  unfold blockBase
  cases hb : blocks[blockOf off]? with
  | none => decide
  | some b => exact h b (List.mem_of_getElem? hb)

/-- While the capture is VALID a discarded write only counts as LOST (03 R65). -/
theorem captureErr_of_valid (code off : Nat) (s : State) (hv : bits (s.word (blockBase (blockOf off) + 0x18)) 63 63 = 1) :
    captureErr code off s = s.bump Reg.fGLB_ERR_SUMMARY_LOST := by
  simp [captureErr, fillCapture, hv]

/-- What a capture holds of a discarded access: VALID, the code and the offset (03 R64). -/
def filledCapture (code off : Nat) : Word := setBits (setBits (setBits 0 63 63 1) 47 32 code) 25 0 off

/-- An idle capture takes VALID, the code and the offset (03 R64). -/
theorem word_captureErr_of_idle (code off : Nat) (s : State) (hv : bits (s.word (blockBase (blockOf off) + 0x18)) 63 63 = 0) :
    (captureErr code off s).word (blockBase (blockOf off) + 0x18) = filledCapture code off := by
  unfold captureErr fillCapture
  rw [if_neg (by omega)]
  exact (word_fire _ _ _ _ _ (capture_ne_sigStatus off)).trans (State.word_setWord_same _ _ _)

/-- A discard moves no register but the block's ERR_CAPTURE, GLB_ERR_SUMMARY and SIG_STATUS. -/
theorem word_captureErr (code off p : Nat) (s : State) (hc : p ≠ blockBase (blockOf off) + 0x18) (hl : p ≠ Reg.GLB_ERR_SUMMARY.base)
    (hs : p ≠ sigStatus) : (captureErr code off s).word p = s.word p := by
  unfold captureErr fillCapture
  split
  · exact State.word_setFld_ne _ _ _ _ _ _ hl
  · exact (word_fire _ _ _ _ _ hs).trans (State.word_setWord_ne _ _ _ _ hc)

/-- A write that fails a check is discarded and nothing of it is done (03 R64). -/
theorem registerWrite_discarded (off : Fin 67108864) (whole : Bool) (w : Word) (s : State) (c : Nat) (hup : s.up = true)
    (hf : writeFault off whole w s = some c) : exec (.registerWrite off whole w) s = .next (captureErr c off s) := by
  show busWrite off whole w s = _
  rw [busWrite_plain _ _ _ _ (.inr (by simp [hf])), act_up _ _ hup]
  unfold writeReg
  rw [hf]

theorem writeFault_reserved (off : Nat) (w : Word) (s : State) (ha : off % 8 = 0) (hr : regAt off = none) :
    writeFault off true w s = some cBAD_FIELD := by
  simp [writeFault, ha, hr]

/-- Settles O6: a reserved offset is a fault of the write, and `cap` is the capture of its block. -/
theorem reservedOffsetWriteIsDiscarded : Obligations.ReservedOffsetWriteIsDiscarded := by
  unfold Obligations.ReservedOffsetWriteIsDiscarded
  intro off w s cap hup ha hr hcap
  have hc : cap = blockBase (blockOf off) + 0x18 := by
    rcases hcap with ⟨b, hb, h1, h2, rfl⟩ | ⟨hn, rfl⟩
    · rw [blockOf_of_mem b off hb h1 h2]
    · rw [blockBase_of_none off hn]; rfl
  subst hc
  refine ⟨_, registerWrite_discarded off true w s _ hup (writeFault_reserved off w s ha hr), ?_,
    fun p => word_captureErr _ _ p s, word_captureErr_of_idle _ _ s⟩
  obtain ⟨x, g, o, h⟩ := captureErr_only cBAD_FIELD off s
  rw [h]

/-! ## VALID -/

/-- A counting field holds what it counted, up to its largest value. -/
theorem State.fld_bump (s : State) (f : Fld) (n i j : Nat) (h : f.ok = true) :
    (s.bump f n i j).fld f i j = min (2 ^ (f.hi + 1 - f.lo) - 1) (s.fld f i j + n) := by
  unfold State.bump satAdd
  rw [State.fld_setFld_same _ _ _ _ _ h, Nat.mod_eq_of_lt]
  have := Nat.two_pow_pos (f.hi + 1 - f.lo)
  omega

/-- Each block's ERR_CAPTURE is a register of its own that is not staged (03 R65). -/
theorem regAt_capture : ∀ b ∈ blocks, ((regAt (b.1 + 0x18)).map RegDef.staged) = some false := by decide

/-- No ERR_CAPTURE has behaviour of its own. -/
theorem ownWrite_capture (b : Nat × Nat) (hb : b ∈ blocks) (w : Word) (s : State) : ownWrite (b.1 + 0x18) w s = none := by
  have h : ∀ b ∈ blocks, ∀ d ∈ [Reg.SIG_PEND_SET, Reg.SIG_PEND_CLR, Reg.SIG_HOST_SLEEP, Reg.SIG_EVQ_CTRL, Reg.MCC_CTRL, Reg.LNS_SET_CTRL,
      Reg.KPR_MBOX_CTRL, Reg.TMB_WALL_OFFSET, Reg.DIG_CTX_CTRL, Reg.PAT_LOAD_CTRL, Reg.TSK_GO], d.holds (b.1 + 0x18) = false := by decide
  have hd := h b hb
  simp only [List.forall_mem_cons] at hd
  simp [ownWrite, hd]

theorem startsTask_capture (b : Nat × Nat) (hb : b ∈ blocks) (w : Word) (s : State) : startsTask (b.1 + 0x18) w s = false := by
  have h : ∀ b ∈ blocks, Reg.TSK_GO.holds (b.1 + 0x18) = false := by decide
  simp [startsTask, h b hb]

theorem isCapture_capture (b : Nat × Nat) (hb : b ∈ blocks) : isCapture (b.1 + 0x18) = true := by
  have h : blocks.any (fun c => b.1 + 0x18 == c.1 + 0x18) = true := List.any_eq_true.2 ⟨b, hb, by simp⟩
  simp only [isCapture, h, Bool.or_true]

/-- A write that passes the checks reaches its register, or the selected set's shadow (02 R524). -/
theorem registerWrite_passed (off : Fin 67108864) (w : Word) (s : State) (d : RegDef) (hup : s.up = true)
    (hf : writeFault off true w s = none) (ht : startsTask off w s = false) (hd : regAt off = some d) :
    exec (.registerWrite off true w) s =
      .next (if d.staged && s.flag Reg.fLNS_STAGE_SELECT_EN then stageWrite off w s else liveWrite d off w s) := by
  show busWrite off true w s = _
  rw [busWrite_plain _ _ _ _ (.inl ht), act_up _ _ hup]
  unfold writeReg
  rw [hf, hd]

/-- A legal write of VALID to an ERR_CAPTURE clears the register whole (03 R65). -/
theorem registerWrite_clears_capture (b : Nat × Nat) (off : Fin 67108864) (w : Word) (s : State) (hb : b ∈ blocks) (ho : off.val = b.1 + 0x18)
    (hup : s.up = true) (hf : writeFault off true w s = none) (hw : bits w 63 63 = 1) :
    exec (.registerWrite off true w) s = .next (s.setWord off 0) := by
  obtain ⟨d, hd, hst⟩ := Option.map_eq_some_iff.1 (regAt_capture b hb)
  rw [registerWrite_passed off w s d hup hf (by rw [ho]; exact startsTask_capture b hb w s) (by rw [ho]; exact hd), hst, ho]
  simp [liveWrite, ownWrite_capture b hb, plainWrite, isCapture_capture b hb, hw]

/-- Settles O7: a VALID capture turns a discard into one count of LOST, and a write of VALID is the capture's own rule. -/
theorem capturedErrorStandsUntilCleared : Obligations.CapturedErrorStandsUntilCleared := by
  unfold Obligations.CapturedErrorStandsUntilCleared
  refine ⟨?stands, registerWrite_discarded, registerWrite_clears_capture⟩
  rintro code off s _ rfl hv
  rw [captureErr_of_valid code off s hv]
  exact ⟨State.word_setFld_ne _ _ _ _ _ _ (capture_ne_summary off), State.fld_bump _ _ _ _ _ (by decide)⟩


/-! ## The common task commands -/

@[simp] theorem handleJob_taken (t : TaskSpec) (r : TaskReq) (s : State) (h : Nat) : handleJob h (taken t r s) = handleJob h s := by
  unfold handleJob; rw [taken_ctl]

theorem length_identity (s : State) : (identity s).length = 19 := by
  unfold identity
  simp only
  split <;> simp

/-- Outside boot recovery IDENTIFY names the running set, its level `l`, the live generation and the live Lenses (03 Table 3.10). -/
theorem identity_serving (s : State) (h : s.boot.recovery = false) :
    ∃ l, identity s = s.boot.running.package :: l :: BitVec.ofNat 64 s.lens.liveGen :: s.lens.live.baseId ::
      (List.range 15).map fun k => lookupD 0 k s.lens.live.sectorIds := by
  simp [identity, h]

theorem identity_taken (t : TaskSpec) (r : TaskReq) (s : State) : identity (taken t r s) = identity s := by
  simp [identity]

/-- RES1 of IDENTIFY outside boot recovery: what the part is, and which head. -/
def partId (s : State) : Nat := 0x1F6D + 0x9256 * 2 ^ 16 + 0x3142 * 2 ^ 32 + if s.peer.head = 0 then 0 else 2 ^ 48

theorem identify_answers (r : TaskReq) (s : State) (h : goes { opcode := 0x0002, windows := [0, 1, 2, 3] } [] r s = true) :
    ∃ t, exec (.identify r) s = .next t ∧ answered r cOK 0 (BitVec.ofNat 64 (partId s) :: identity s) t ∧ windowOnly s t := by
  obtain ⟨-, -, -, hrec, -⟩ := (goes_iff _ _ _ _).1 h
  refine taskCmd_read _ _ r _ s _ _ _ h (by simp [length_identity]) ?_
  simp [identity_taken, hrec, partId]

theorem jobStatus_of_ended (r : TaskReq) (s : State) (j : Job) (h : goes { opcode := 0x0003, windows := [0, 1, 2, 3] } [(1, mask64)] r s = true)
    (hj : handleJob (r.arg 1) s = some j) (he : j.ended = true) :
    ∃ t, exec (.jobStatus r) s = .next t ∧
      answered r cOK 0 [BitVec.ofNat 64 (2 + j.opcode * 2 ^ 16), BitVec.ofNat 64 j.code, BitVec.ofNat 64 j.detail, 1000] t ∧ windowOnly s t :=
  taskCmd_read _ _ r _ s _ _ _ h (by simp) (by simp [hj, he])

/-- The state without a job's record. -/
def withoutJob (j : Job) (s : State) : State := { s with ctl := { s.ctl with jobs := s.ctl.jobs.filter (·.slot != j.slot) } }

theorem jobResult_of_ended (r : TaskReq) (s : State) (j : Job) (h : goes { opcode := 0x0004, windows := [0, 1, 2, 3] } [(1, mask64)] r s = true)
    (hj : handleJob (r.arg 1) s = some j) (hw : j.window = r.window.val) (he : j.ended = true) :
    ∃ t, exec (.jobResult r) s = .next t ∧ answered r j.code j.detail ((j.results ++ List.replicate 29 0).take 29 ++ [1]) t ∧
      windowOnly (withoutJob j s) t :=
  taskCmd_effect (withoutJob j) _ _ r _ s _ _ _ h (by simp) (fun _ _ _ => rfl) rfl (by simp [hj, hw, he, withoutJob])

theorem jobCancel_of_running (r : TaskReq) (s : State) (j : Job) (h : goes { opcode := 0x0005, windows := [0, 1, 3] } [(1, mask64)] r s = true)
    (hj : handleJob (r.arg 1) s = some j) (hw : j.window = r.window.val) (he : j.ended = false) (hc : j.cancellable = true) :
    ∃ t, exec (.jobCancel r) s = .next t ∧ answered r cOK 0 [0] t ∧ windowOnly (s.setJob { j with stopping := true }) t :=
  taskCmd_effect (State.setJob · { j with stopping := true }) _ _ r _ s _ _ _ h (by simp) (fun _ _ _ => rfl) rfl (by simp [hj, hw, he, hc])

/-- Settles O14: each command's own part is one answer, with its effect on one job record where it has one. -/
theorem commonTaskCommandsAnswer : Obligations.CommonTaskCommandsAnswer := by
  unfold Obligations.CommonTaskCommandsAnswer
  refine ⟨?nop, ?identify, jobStatus_of_ended, jobResult_of_ended, jobCancel_of_running⟩
  case nop =>
    intro r s h
    exact taskCmd_read _ _ r _ s _ _ _ h (by simp) rfl
  case identify =>
    intro r s h
    obtain ⟨-, -, -, hrec, -⟩ := (goes_iff _ _ _ _).1 h
    obtain ⟨l, hid⟩ := identity_serving s hrec
    obtain ⟨t, ht, ⟨hst, hres⟩, hw⟩ := identify_answers r s h
    rw [hid] at hres
    exact ⟨t, ht, hw, hst, hres 0 (by decide), hres 1 (by decide), hres 3 (by decide), hres 4 (by decide)⟩


/-! ## Fields of a register -/

/-- The field's place is one a 64-bit word has. -/
def RegField.ok (f : RegField) : Bool := decide (f.lo ≤ f.hi) && decide (f.hi < 64)

/-- Two fields share no bit. -/
def RegField.apart (f g : RegField) : Bool := decide (f.hi < g.lo) || decide (g.hi < f.lo)

theorem RegField.apart_comm (f g : RegField) : f.apart g = g.apart f := by
  unfold apart
  exact Bool.or_comm _ _

/-- The fields of a register lie in its word and share no bit. -/
def RegDef.fieldsApart (d : RegDef) : Bool := d.fields.all RegField.ok && decide (d.fields.Pairwise fun f g => f.apart g)

/-- The register map keeps the fields of each register apart (00 Table 0.2). -/
theorem table_fieldsApart : (Reg.table.all RegDef.fieldsApart) = true := by decide

theorem fieldsApart_of_regAt (off : Nat) (d : RegDef) (h : regAt off = some d) :
    (∀ f ∈ d.fields, f.ok = true) ∧ d.fields.Pairwise fun f g => f.apart g := by
  have hd := List.all_eq_true.1 table_fieldsApart d (List.mem_of_find?_eq_some h)
  simpa [RegDef.fieldsApart] using hd

/-- `o` with field `f` taken from `w`, if `p` selects it. -/
def takeField (p : RegField → Bool) (w o : Word) (f : RegField) : Word := if p f then setBits o f.hi f.lo (bits w f.hi f.lo) else o

theorem bits_takeField_same (p : RegField → Bool) (w o : Word) (f : RegField) (h : f.ok = true) :
    bits (takeField p w o f) f.hi f.lo = if p f then bits w f.hi f.lo else bits o f.hi f.lo := by
  simp only [RegField.ok, Bool.and_eq_true, decide_eq_true_eq] at h
  unfold takeField
  split
  · rw [bits_setBits_same _ _ _ _ h.1 h.2, Nat.mod_eq_of_lt (bits_lt _ _ _)]
  · rfl

theorem bits_takeField_apart (p : RegField → Bool) (w o : Word) (f g : RegField) (h : g.ok = true) (ha : g.apart f = true) :
    bits (takeField p w o g) f.hi f.lo = bits o f.hi f.lo := by
  simp only [RegField.ok, RegField.apart, Bool.and_eq_true, Bool.or_eq_true, decide_eq_true_eq] at h ha
  unfold takeField
  split
  · exact bits_setBits_apart _ _ _ _ _ _ h.1 h.2 ha.symm
  · rfl

/-- `o` with the fields that `p` selects taken from `w`. -/
def takeFields (p : RegField → Bool) (w : Word) (fs : List RegField) (o : Word) : Word := fs.foldl (takeField p w) o

theorem bits_takeFields_apart (p : RegField → Bool) (w : Word) (f : RegField) (fs : List RegField) : ∀ o : Word,
    (∀ g ∈ fs, g.ok = true) → (∀ g ∈ fs, g.apart f = true) → bits (takeFields p w fs o) f.hi f.lo = bits o f.hi f.lo := by
  induction fs with
  | nil => intro o _ _; rfl
  | cons g t ih =>
    intro o hok ha
    rw [List.forall_mem_cons] at hok ha
    exact (ih _ hok.2 ha.2).trans (bits_takeField_apart p w o f g hok.1 ha.1)

/-- Of fields that share no bit, a selected one reads as in `w` and any other as before. -/
theorem bits_takeFields (p : RegField → Bool) (w : Word) (f : RegField) (fs : List RegField) : ∀ o : Word,
    (∀ g ∈ fs, g.ok = true) → (fs.Pairwise fun f g => f.apart g) → f ∈ fs →
    bits (takeFields p w fs o) f.hi f.lo = if p f then bits w f.hi f.lo else bits o f.hi f.lo := by
  induction fs with
  | nil => intro o _ _ hf; cases hf
  | cons g t ih =>
    intro o hok hap hf
    rw [List.forall_mem_cons] at hok
    rw [List.pairwise_cons] at hap
    rcases List.mem_cons.1 hf with rfl | hf
    · have hsym : ∀ g ∈ t, g.apart f = true := fun g hg => by rw [RegField.apart_comm]; exact hap.1 g hg
      exact (bits_takeFields_apart p w f t _ hok.2 hsym).trans (bits_takeField_same p w o f hok.1)
    · refine (ih _ hok.2 hap.2 hf).trans ?_
      rw [bits_takeField_apart p w o f g hok.1 (hap.1 f hf)]

/-- Clearing bits of which a field has none leaves the field alone. -/
theorem bits_and_not (a c : Word) (hi lo : Nat) (hhi : hi < 64) (h : bits c hi lo = 0) : bits (a &&& ~~~c) hi lo = bits a hi lo := by
  apply Nat.eq_of_testBit_eq
  intro k
  have hk := congrArg (Nat.testBit · k) h
  simp only [bits, Nat.testBit_mod_two_pow, Nat.testBit_shiftRight, BitVec.testBit_toNat, Nat.zero_testBit] at hk ⊢
  by_cases hlt : k < hi + 1 - lo
  · simp only [hlt, decide_true, Bool.true_and] at hk
    have : lo + k < 64 := by omega
    simp only [BitVec.getLsbD_and, BitVec.getLsbD_not, hk, this, decide_true, Bool.not_false, Bool.and_true]
  · simp [hlt]

/-- A plain write stores its read-write fields and leaves its read-only ones (00 Table 0.2). -/
theorem bits_storedWord (off : Nat) (d : RegDef) (old w : Word) (f : RegField) (hd : regAt off = some d) (hf : f ∈ d.fields) :
    (f.acc = .rw → bits (storedWord d old w) f.hi f.lo = bits w f.hi f.lo) ∧
    (f.acc = .ro → bits (storedWord d old w) f.hi f.lo = bits old f.hi f.lo) := by
  obtain ⟨hok, hap⟩ := fieldsApart_of_regAt off d hd
  have read := fun p (src o : Word) => bits_takeFields p src f d.fields o hok hap hf
  have hhi : f.hi < 64 := by
    have := hok f hf
    simp only [RegField.ok, Bool.and_eq_true, decide_eq_true_eq] at this
    exact this.2
  have hs : storedWord d old w = takeFields (·.acc == .wo) w d.fields (takeFields (·.acc == .rw) w d.fields old) &&&
      ~~~takeFields (·.acc == .w1c) w d.fields 0 := rfl
  have hclear : f.acc ≠ .w1c → bits (takeFields (·.acc == .w1c) w d.fields 0) f.hi f.lo = 0 := by
    intro h
    rw [read, if_neg (by simpa using h)]
    simp [bits]
  constructor
  · intro h
    rw [hs, bits_and_not _ _ _ _ hhi (hclear (by simp [h])), read, if_neg (by simp [h]), read, if_pos (by simp [h])]
  · intro h
    rw [hs, bits_and_not _ _ _ _ hhi (hclear (by simp [h])), read, if_neg (by simp [h]), read, if_neg (by simp [h])]

/-! ## Plain and staged writes -/

/-- The sources a cleared flag fires move no register but SIG_STATUS. -/
theorem word_clearFires (off : Nat) (gone : Word) (p : Nat) (s : State) (h : p ≠ sigStatus) : (clearFires off gone s).word p = s.word p := by
  unfold clearFires
  split
  · rfl
  split
  · exact word_fire _ _ _ _ _ h
  split
  · exact word_fire _ _ _ _ _ h
  split
  · simp only
    split <;> split <;> simp [word_fire _ _ _ _ _ h]
  · rfl

/-- SIG_STATUS has no flags whose clearing fires. -/
theorem clearFires_sigStatus (gone : Word) (s : State) : clearFires sigStatus gone s = s := by
  have h : ∀ d ∈ [Reg.SML_PORT_STATUS, Reg.UBL_GROUP_STATUS, Reg.UBL_PEER_STATE], d.holds sigStatus = false := by decide
  simp only [List.forall_mem_cons] at h
  simp [clearFires, h]

/-- A register that is not staged and has no rule of its own stores the word. -/
theorem word_plainWrite (d : RegDef) (off : Nat) (w : Word) (s : State) (hst : d.staged = false) (hc : isCapture off = false)
    (hb : Reg.TSK_BULK_CTRL.holds off = false) : (plainWrite d off w s).word off = storedWord d (s.word off) w := by
  simp only [plainWrite, hst, hc, hb, Bool.false_eq_true, if_false]
  by_cases hs : off = sigStatus
  · rw [hs, clearFires_sigStatus, State.word_setWord_same]
  · rw [word_clearFires _ _ _ _ hs, State.word_setWord_same]

theorem stagedRegisterWrite_staged (off : Fin 67108864) (w : Word) (s : State) (d : RegDef) (hup : s.up = true)
    (hf : writeFault off true w s = none) (ht : startsTask off w s = false) (hd : regAt off = some d) (hst : d.staged = true)
    (hen : s.flag Reg.fLNS_STAGE_SELECT_EN = true) (hcan : canStage (s.fld Reg.fLNS_STAGE_SELECT_SET) s (regClaims off) = true) :
    exec (.stagedRegisterWrite off w) s = .next (stageReg (s.fld Reg.fLNS_STAGE_SELECT_SET) off w s) := by
  refine (registerWrite_passed off w s d hup hf ht hd).trans ?_
  simp [hst, hen, stageWrite, hcan]

/-- A staging write stores the shadow in its set and moves no register (02 R524). -/
theorem stageReg_stores (n off : Nat) (w : Word) (s : State) :
    lookupD 0 off ((stageReg n off w s).set n).writes = w ∧ ((stageReg n off w s).set n).st = .staging ∧
    ∀ p, p ≠ sigStatus → (stageReg n off w s).word p = s.word p := by
  unfold stageReg
  rw [State.set_putSet_same]
  exact ⟨by simp [lookupD_setKey], rfl, fun p hp => State.word_putSet _ _ _ _ hp⟩

/-! ## BAR2 -/

/-- Storing bytes from `a` up changes their addresses and no other. -/
theorem memRead_memWriteAll (vs : List Byte) : ∀ (a b : Nat) (m : List Host.Cell),
    memRead b (memWriteAll a vs m) = if a ≤ b ∧ b < a + vs.length then (vs[b - a]?).getD 0 else memRead b m := by
  induction vs with
  | nil =>
    intro a b m
    rw [if_neg (by simp)]
    rfl
  | cons v vs ih =>
    intro a b m
    unfold memWriteAll
    rw [ih, memRead_memWrite]
    simp only [List.length_cons]
    by_cases hb : b = a
    · subst hb
      simp
    · by_cases hin : a + 1 ≤ b ∧ b < a + 1 + vs.length
      · have hidx : b - a = (b - (a + 1)) + 1 := by omega
        rw [if_pos hin, if_pos (by omega), hidx, List.getElem?_cons_succ]
      · rw [if_neg hin, if_neg hb, if_neg (by omega)]

theorem bits_filledCapture (code off : Nat) (hc : code < 2 ^ 16) (ho : off < 2 ^ 26) :
    bits (filledCapture code off) 63 63 = 1 ∧ bits (filledCapture code off) 47 32 = code ∧ bits (filledCapture code off) 25 0 = off := by
  unfold filledCapture
  refine ⟨?_, ?_, ?_⟩
  · rw [bits_setBits_apart _ _ _ _ _ _ (by decide) (by decide) (by decide),
      bits_setBits_apart _ _ _ _ _ _ (by decide) (by decide) (by decide), bits_setBits_same _ _ _ _ (by decide) (by decide)]
    rfl
  · rw [bits_setBits_apart _ _ _ _ _ _ (by decide) (by decide) (by decide), bits_setBits_same _ _ _ _ (by decide) (by decide)]
    exact Nat.mod_eq_of_lt hc
  · rw [bits_setBits_same _ _ _ _ (by decide) (by decide)]
    exact Nat.mod_eq_of_lt ho

theorem bar2ScratchWrite_inside (off : Fin 67108864) (bytes : List Byte) (s : State) (hup : s.up = true)
    (h : off.val + bytes.length ≤ 4 * 2 ^ 20 * s.lens.live.scratchWays) :
    exec (.bar2ScratchWrite off bytes) s = .next { s with scratch := memWriteAll off bytes s.scratch } := by
  show execBar2ScratchWrite off bytes s = _
  unfold execBar2ScratchWrite
  rw [act_up _ _ hup, if_pos h]

theorem bar2ScratchWrite_beyond (off : Fin 67108864) (bytes : List Byte) (s : State) (hup : s.up = true)
    (h : 4 * 2 ^ 20 * s.lens.live.scratchWays < off.val + bytes.length) (hv : bits (s.word Reg.GLB_BAR2_ERR.base) 63 63 = 0) :
    exec (.bar2ScratchWrite off bytes) s =
      .next (s.setWord Reg.GLB_BAR2_ERR.base (filledCapture cNOT_PERMITTED off)) := by
  show execBar2ScratchWrite off bytes s = _
  unfold execBar2ScratchWrite
  rw [act_up _ _ hup, if_neg (by omega)]
  simp [fillCapture, filledCapture, hv]

/-- Settles O17: a plain write stores field by field, a staged one is one store of its set, a BAR2 write one of scratch or of its capture. -/
theorem legalWritesReachRegisterShadowOrScratch : Obligations.LegalWritesReachRegisterShadowOrScratch := by
  unfold Obligations.LegalWritesReachRegisterShadowOrScratch
  refine ⟨?plain, ?staged, ?inside, ?beyond⟩
  case plain =>
    intro off w s d f hup hf ht hd hst how hc hb hmem
    refine ⟨_, registerWrite_passed off w s d hup hf ht hd, ?_⟩
    simp only [hst, Bool.false_and, Bool.false_eq_true, if_false, liveWrite, how, Option.getD_none, word_plainWrite d off w s hst hc hb]
    exact bits_storedWord off d _ w f hd hmem
  case staged =>
    rintro off w s d _ hup hf ht hd hst hen rfl - - hcan
    exact ⟨_, stagedRegisterWrite_staged off w s d hup hf ht hd hst hen hcan, stageReg_stores _ _ _ _⟩
  case inside =>
    intro off bytes s hup h
    exact ⟨_, bar2ScratchWrite_inside off bytes s hup h, rfl, fun a => memRead_memWriteAll bytes off a s.scratch⟩
  case beyond =>
    intro off bytes s hup h hv
    refine ⟨_, bar2ScratchWrite_beyond off bytes s hup h hv, rfl, ?_⟩
    rw [State.word_setWord_same]
    exact bits_filledCapture cNOT_PERMITTED off (by decide) off.isLt


/-! ## The hypotheses are met -/

/-- A new board whose window 0 is BUSY. -/
def busyBoard : State := State.reset.setWord 0x11108 (BitVec.ofNat 64 (2 ^ 63))

/-- A GO through BAR0 on the busy window is recorded, and nothing of SECTOR_RELENS is done. -/
theorem busyWindow_witness :
    exec (.sectorRelens witnessRelens) busyBoard = .next (captureErr cSTATE_CONFLICT (winBase 0 + 0x100) busyBoard) := by
  have hbusy : busyBoard.busy 0 = true := by decide
  exact (busyWindowTakesNoCommand.1 (.sectorRelens witnessRelens) _ busyBoard rfl rfl rfl rfl rfl hbusy).trans
    (congrArg _ (if_pos (by decide)))

/-- Window 0 is not the management controller's: its GO there leaves a new board as it is. -/
theorem barredPath_witness :
    exec (.sectorRelens { witnessRelens with path := .mctp }) State.reset = .next State.reset :=
  busyWindowTakesNoCommand.2 (.sectorRelens { witnessRelens with path := .mctp }) _ State.reset rfl rfl rfl rfl rfl

/-- A register write of half a register answers from reset. -/
theorem registerWrite_answers_witness : ∃ t, exec (.registerWrite 0x18 false 0) State.reset = .next t :=
  (everyCommandAnswersNext.2 0x18 false 0 State.reset (.inr (by decide))).1

/-- A write beyond the last block is GLB's: its capture takes BAD_FIELD and the offset. -/
theorem reservedOffset_witness :
    ∃ t, exec (.registerWrite 0x3FFFFF8 true 0) State.reset = .next t ∧
      t.word 0x18 = filledCapture cBAD_FIELD 0x3FFFFF8 := by
  obtain ⟨t, he, -, -, hc⟩ := reservedOffsetWriteIsDiscarded 0x3FFFFF8 0 State.reset Reg.GLB_ERR_CAPTURE.base rfl (by decide) (by decide)
    (.inr ⟨by decide, rfl⟩)
  exact ⟨t, he, hc (by decide)⟩

/-- A new board whose GLB_ERR_CAPTURE is VALID. -/
def validBoard : State := State.reset.setWord 0x18 (BitVec.ofNat 64 (2 ^ 63))

/-- A further discard counts, and writing VALID clears the capture. -/
theorem validCapture_witness :
    (captureErr cBAD_FIELD 0x8 validBoard).word 0x18 = BitVec.ofNat 64 (2 ^ 63) ∧
    (captureErr cBAD_FIELD 0x8 validBoard).fld Reg.fGLB_ERR_SUMMARY_LOST = 1 ∧
    exec (.registerWrite 0x18 true (BitVec.ofNat 64 (2 ^ 63))) validBoard = .next (validBoard.setWord 0x18 0) := by
  obtain ⟨hkeep, hlost⟩ := capturedErrorStandsUntilCleared.1 cBAD_FIELD 0x8 validBoard 0x18 rfl (by decide)
  refine ⟨hkeep, hlost.trans (by decide), ?_⟩
  exact capturedErrorStandsUntilCleared.2.2 (0x000000, 0x10000) 0x18 _ validBoard (by decide) rfl rfl (by decide) (by decide)

/-- A job of window 0 that runs and can be cancelled. -/
def witnessJob : Job :=
  plannedJob 0x0901 witnessRelens { cancellable := true } State.reset 0

/-- A new board on which that job runs. -/
def jobBoard : State := State.reset.setJob witnessJob

/-- A request of window 0 that names the job. -/
def witnessHandle : TaskReq := { witnessRelens with args := [handleOf witnessJob] }

theorem witnessHandle_goes : goes { opcode := 0x0005, windows := [0, 1, 3] } [(1, mask64)] witnessHandle jobBoard = true :=
  (goes_iff _ _ _ _).2 ⟨rfl, rfl, rfl, rfl, by decide, by decide, by decide, rfl, rfl, by decide⟩

/-- JOB_CANCEL of the job asks it to stop. -/
theorem jobCancel_witness : ∃ t, exec (.jobCancel witnessHandle) jobBoard = .next t ∧ t.job 0 = some { witnessJob with stopping := true } := by
  obtain ⟨t, he, -, hw⟩ := commonTaskCommandsAnswer.2.2.2.2 witnessHandle jobBoard witnessJob witnessHandle_goes (by decide) rfl rfl rfl
  exact ⟨t, he, by rw [job_of_windowOnly _ t hw]; exact State.job_setJob _ _⟩

/-- A write of GLB_ERR_SUMMARY sets LOST and leaves VALID_MAP. -/
theorem plainWrite_witness :
    ∃ t, exec (.registerWrite 0x20 true (BitVec.ofNat 64 (5 * 2 ^ 56))) State.reset = .next t ∧ bits (t.word 0x20) 63 56 = 5 := by
  obtain ⟨t, he, hrw, -⟩ := legalWritesReachRegisterShadowOrScratch.1 0x20 (BitVec.ofNat 64 (5 * 2 ^ 56)) State.reset Reg.GLB_ERR_SUMMARY
    ⟨63, 56, .rw, 0, 0, 255⟩ rfl (by decide) (by decide) (by decide) rfl (by decide) (by decide) (by decide) (by decide)
  exact ⟨t, he, hrw rfl⟩

/-- A new board that stages register writes to set 0. -/
def stagingBoard : State := (openSet 0 State.reset).setWord 0x20000 0x80

/-- A staged write of CRY_CFG stands in the set's shadow. -/
theorem stagedWrite_witness :
    ∃ t, exec (.stagedRegisterWrite 0xA00100 (BitVec.ofNat 64 (600 * 2 ^ 32 + 10))) stagingBoard = .next t ∧
      lookupD 0 0xA00100 (t.set 0).writes = BitVec.ofNat 64 (600 * 2 ^ 32 + 10) := by
  obtain ⟨t, he, hw, -⟩ := legalWritesReachRegisterShadowOrScratch.2.1 0xA00100 (BitVec.ofNat 64 (600 * 2 ^ 32 + 10)) stagingBoard Reg.CRY_CFG 0
    rfl (by decide) (by decide) (by decide) rfl (by decide) (by decide) (by decide) (by decide) (by decide)
  exact ⟨t, he, hw⟩

/-- A new board whose Lens makes one scratch way live. -/
def scratchBoard : State := { State.reset with lens := { State.reset.lens with live := { State.reset.lens.live with scratchWays := 1 } } }

/-- The last byte of the window is written, the one behind it is not. -/
theorem bar2Boundary_witness :
    (∃ t, exec (.bar2ScratchWrite 0x3FFFFF [7]) scratchBoard = .next t ∧ memRead 0x3FFFFF t.scratch = 7) ∧
    ∃ t, exec (.bar2ScratchWrite 0x400000 [7]) scratchBoard = .next t ∧ t.scratch = [] ∧ bits (t.word Reg.GLB_BAR2_ERR.base) 25 0 = 0x400000 := by
  constructor
  · obtain ⟨t, he, -, hm⟩ := legalWritesReachRegisterShadowOrScratch.2.2.1 0x3FFFFF [7] scratchBoard rfl (by decide)
    exact ⟨t, he, (hm _).trans (by decide)⟩
  · obtain ⟨t, he, hs, -, -, ho⟩ := legalWritesReachRegisterShadowOrScratch.2.2.2 0x400000 [7] scratchBoard rfl (by decide) (by decide)
    exact ⟨t, he, by rw [hs]; rfl, ho⟩

end Sys2Proof.Machine

/-!
SUPPORT. The host front end: lanes, ports, frames, flows and PTP (04 R75 to R80, R108).
-/
namespace Sys2Proof.Machine

/-! ## Lanes and ports (04 R75 to R77, R108) -/

theorem self_mem_putBy {α : Type} (key : α → Nat) (x : α) (l : List α) : x ∈ putBy key x l :=
  List.mem_of_find?_eq_some (find_putBy_same key x l)

/-- A register above SIG_STATUS is not SIG_STATUS. -/
theorem off_ne_sigStatus (f : Fld) (i j : Nat) (h : sigStatus < f.base) : f.off i j ≠ sigStatus := by
  unfold Fld.off
  omega

theorem portOfLane_of_lens (s t : State) (h : t.lens = s.lens) (l : Nat) : portOfLane t l = portOfLane s l := by
  unfold portOfLane portLanes quadMode
  rw [h]

/-- A fault of a lane that no port uses sets its flag, fires its source and starts its re-test clock (04 R77). -/
theorem laneFault_unused (l : Nat) (f : Fld) (s : State) (h : portOfLane s l = none) :
    laneFault l f s = { fire (64 + l) (s.setFlag f true l) with
      host := { s.host with laneFaults := putBy LaneFault.lane { lane := l, at_ := s.now } s.host.laneFaults } } := by
  unfold laneFault
  dsimp only
  rw [portOfLane_of_lens s _ (by simp), h]
  simp

/-- A lane's flag stands after its fault, whose clock starts now; associations and metadata stay. -/
theorem laneFault_unused_facts (l : Nat) (f : Fld) (s : State) (h : portOfLane s l = none) (hf : f.ok = true) (h1 : f.hi = f.lo)
    (hb : sigStatus < f.base) :
    (laneFault l f s).flag f l = true ∧ (∃ x ∈ (laneFault l f s).host.laneFaults, x.lane = l ∧ x.at_ = s.now) ∧
      (laneFault l f s).host.assocs = s.host.assocs ∧ (laneFault l f s).md = s.md := by
  rw [laneFault_unused l f s h]
  refine ⟨?_, ⟨{ lane := l, at_ := s.now }, self_mem_putBy LaneFault.lane _ _, rfl, rfl⟩, rfl, fire_md _ _ _ _⟩
  exact (flag_fire _ _ _ l 0 f _ (off_ne_sigStatus f l 0 hb)).trans (State.flag_setFlag_same s f true l 0 hf h1)

theorem hostLaneOpen_faults (l : Fin 32) (s : State) (hup : s.up = true) :
    exec (.hostLaneOpen l) s = .next (laneFault l Reg.fHFE_LANE_STATUS_OPEN s) := act_up _ s hup

theorem hostLaneShort_faults (l : Fin 32) (s : State) (hup : s.up = true) :
    exec (.hostLaneShort l) s = .next (laneFault l Reg.fHFE_LANE_STATUS_SHORT s) := act_up _ s hup

/-- A port that was up loses UP and its lanes, and fires its source (04 R108). -/
theorem hostPortLinkDown_up (p : Fin 32) (s : State) (hup : s.up = true) (h : s.flag Reg.fHFE_PORT_STATUS_UP p = true) :
    exec (.hostPortLinkDown p) s =
      .next (fire (96 + p) ((s.setFlag Reg.fHFE_PORT_STATUS_UP false p).setFld Reg.fHFE_PORT_STATUS_LANES 0 p)) := by
  refine (act_up (hostPortDown p) s hup).trans ?_
  rw [hostPortDown, if_pos h]

/-- A good re-test, 10 s after the last, ends the lane's fault (04 R77). -/
theorem hostLaneRetest_good (l : Fin 32) (s : State) (f : LaneFault) (hup : s.up = true)
    (hf : s.host.laneFaults.find? (·.lane == l.val) = some f) :
    exec (.hostLaneRetest l true) s = .next { s.reach (f.at_ + 10 * sec) with
      host := { s.host with laneFaults := s.host.laneFaults.filter (·.lane != l.val) } } := by
  show execHostLaneRetest l true s = _
  unfold execHostLaneRetest
  rw [act_up _ _ hup]
  simp only [hf, if_true, State.reach_host]

/-- The status that training writes of a port: its lanes, its quad's mode and UP (04 R75). -/
def trained (p : Nat) (s : State) : State :=
  ((s.setFld Reg.fHFE_PORT_STATUS_LANES (portLanes s p).length p).setFld Reg.fHFE_PORT_STATUS_TYPE (quadMode s (p / 4)) p).setFlag
    Reg.fHFE_PORT_STATUS_UP true p

theorem trained_up (p : Nat) (s : State) : (trained p s).flag Reg.fHFE_PORT_STATUS_UP p = true :=
  State.flag_setFlag_same _ _ _ _ _ (by decide) (by decide)

/-- With nothing to correct, training writes the port's status alone and fires the source of a port that was down (04 R75, R76). -/
theorem hostPortTraining_healthy (p : Fin 32) (s : State) (hup : s.up = true) (hl : portLanes s p ≠ [])
    (hf : ∀ l ∈ portLanes s p, s.host.laneFaults.any (·.lane == l) = false) (hq : s.isFenced (iHQ + p / 4) = false) :
    exec (.hostPortTraining p []) s = .next (if s.flag Reg.fHFE_PORT_STATUS_UP p then trained p s else fire (96 + p) (trained p s)) := by
  have hbar : ((portLanes s p).isEmpty || (portLanes s p).any (fun l => s.host.laneFaults.any (·.lane == l)) || s.isFenced (iHQ + p / 4)) = false := by
    rw [Bool.or_eq_false_iff, Bool.or_eq_false_iff, List.any_eq_false]
    exact ⟨⟨by simpa using hl, fun l h => by simp [hf l h]⟩, hq⟩
  show execHostPortTraining p [] s = _
  unfold execHostPortTraining
  rw [act_up _ _ hup]
  simp only [hbar, Bool.false_eq_true, if_false, List.find?_nil, List.foldl_fixed]
  rfl

/-! ## Frames (04 R78) -/

/-- A frame for no interface of its port is dropped and counted. -/
theorem hostFrameReceive_unmatched (p : Fin 32) (addr : BitVec 128) (vlan : Nat) (s : State) (hup : s.up = true)
    (hp : s.flag Reg.fHFE_PORT_STATUS_UP p = true)
    (h : ∀ i < 16, ¬ ((ifEntry s p i).1 = true ∧ (ifEntry s p i).2.1 = vlan ∧ (ifEntry s p i).2.2 = addr)) :
    exec (.hostFrameReceive p addr vlan) s =
      .next { s with host := { s.host with dropped := setKey p (lookupD 0 p s.host.dropped + 1) s.host.dropped } } := by
  have hit : ((List.range 16).any fun i => (ifEntry s p i).1 && (ifEntry s p i).2.1 == vlan && (ifEntry s p i).2.2 == addr) = false := by
    rw [List.any_eq_false]
    intro i hi
    simpa [and_assoc] using h i (List.mem_range.1 hi)
  show execHostFrameReceive p addr vlan s = _
  unfold execHostFrameReceive
  rw [act_up _ _ hup]
  simp only [hp, hit, Bool.not_true, Bool.or_self, Bool.false_eq_true, if_false]

/-! ## Flows (04 R79) -/

/-- A stored flow is found under its queue pair. -/
theorem flow_putFlow (s : State) (f : Flow) (k : Nat) (h : f.flow = k) : (s.putFlow f).host.flows.find? (·.flow == k) = some f := by
  subst h
  exact find_putBy_same Flow.flow f _

/-- A notification cuts the rate by CC_CUT in 1/256 and starts the recovery timer. -/
theorem congestionNotification_cuts (c q : Nat) (s : State) (f : Flow) (hup : s.up = true)
    (hf : s.host.flows.find? (·.flow == 256 * c + q) = some f) (hecn : s.flag Reg.fHFE_QOS_CFG_ECN_EN f.port = true) :
    exec (.congestionNotification c q) s = .next (s.putFlow
      { f with rate := f.rate - f.rate * s.fld Reg.fHFE_QOS_CFG_CC_CUT f.port / 256, target := max f.target f.rate,
               timer := some (s.now + s.fld Reg.fHFE_QOS_CFG_CC_RECOVER_US f.port * us) }) := by
  show execCongestionNotification c q s = _
  unfold execCongestionNotification
  rw [act_up _ _ hup]
  simp only [hf, hecn, Bool.not_true, Bool.false_eq_true, if_false]

/-- The rate that a free value gives lies between the flow's rate and its target (log 18). -/
theorem recoveredRate_between (f : Flow) (w : Word) (h : f.rate ≤ f.target) :
    f.rate ≤ f.rate + w.toNat % (f.target - f.rate + 1) ∧ f.rate + w.toNat % (f.target - f.rate + 1) ≤ f.target := by
  have := Nat.mod_lt w.toNat (y := f.target - f.rate + 1) (by omega)
  omega

/-- The recovery timer raises the rate by a free value; below the target it starts anew. -/
theorem rateRecoveryTimer_recovers (c q : Nat) (s : State) (f : Flow) (T : Nat) (hup : s.up = true)
    (hf : s.host.flows.find? (·.flow == 256 * c + q) = some f) (ht : f.timer = some T) :
    ∃ x, exec (.rateRecoveryTimer c q) s = .next ((s.reach T).draw.2.putFlow
      { f with rate := f.rate + (Config.freeWord s.free).toNat % (f.target - f.rate + 1), timer := x }) := by
  show ∃ x, execRateRecoveryTimer c q s = _
  unfold execRateRecoveryTimer
  rw [act_up _ _ hup]
  simp only [hf, ht, State.draw_fst, State.reach_free]
  exact ⟨_, rfl⟩

/-! ## PTP (04 R80) -/

/-- What an event message writes of the timebase: the wall-clock offset, the rate within 100 ppm, WALL_KNOWN and PTP_LOCKED (21 R502, R503). -/
def ptpSet (off ppb : Int) (s : State) : State :=
  ((((s.setFld Reg.fTMB_WALL_OFFSET_OFFSET (unsigned 64 off)).setFld Reg.fTMB_RATE_PPB (unsigned 32 (max (-100000) (min 100000 ppb)))).setFlag
    Reg.fTMB_STATUS_WALL_KNOWN true).setFlag Reg.fTMB_STATUS_PTP_LOCKED true)

/-- An event message on the selected port and domain is stamped and sets the wall-clock; news of it fires source 747. -/
theorem ptpEventMessage_selected (p : Fin 32) (d : Nat) (off ppb : Int) (s : State) (hup : s.up = true)
    (hp : s.flag Reg.fHFE_PORT_STATUS_UP p = true) (hen : s.flag Reg.fHFE_PTP_CFG_EN = true) (hport : s.fld Reg.fHFE_PTP_CFG_PORT = p.val)
    (hdom : s.fld Reg.fHFE_PTP_CFG_DOMAIN = d) :
    ∃ b : Bool, exec (.ptpEventMessage p d off ppb) s =
      .next (if b then fire 747 (ptpSet off ppb (s.emit (.ptpStamp p s.now))) else ptpSet off ppb (s.emit (.ptpStamp p s.now))) := by
  have hsel : (State.flag (s.emit (.ptpStamp p s.now)) Reg.fHFE_PTP_CFG_EN && State.fld (s.emit (.ptpStamp p s.now)) Reg.fHFE_PTP_CFG_PORT == p.val &&
      State.fld (s.emit (.ptpStamp p s.now)) Reg.fHFE_PTP_CFG_DOMAIN == d) = true := by
    show (s.flag Reg.fHFE_PTP_CFG_EN && s.fld Reg.fHFE_PTP_CFG_PORT == p.val && s.fld Reg.fHFE_PTP_CFG_DOMAIN == d) = true
    simp [hen, hport, hdom]
  show ∃ b : Bool, execPtpEventMessage p d off ppb s = _
  unfold execPtpEventMessage
  rw [act_up _ _ hup]
  simp only [hp, Bool.not_true, Bool.false_eq_true, if_false]
  rw [send_emit _ _ rfl, if_pos hsel]
  exact ⟨_, rfl⟩

theorem unsigned_lt (w : Nat) (i : Int) : unsigned w i < 2 ^ w := by
  unfold unsigned
  have h1 := Int.emod_nonneg i (b := ((2 ^ w : Nat) : Int)) (by positivity)
  have h2 := Int.emod_lt_of_pos i (b := ((2 ^ w : Nat) : Int)) (by positivity)
  omega

theorem ptpSet_reads (off ppb : Int) (s : State) :
    (ptpSet off ppb s).fld Reg.fTMB_WALL_OFFSET_OFFSET = unsigned 64 off ∧ (ptpSet off ppb s).flag Reg.fTMB_STATUS_WALL_KNOWN = true ∧
      (ptpSet off ppb s).flag Reg.fTMB_STATUS_PTP_LOCKED = true := by
  refine ⟨?_, ?_, State.flag_setFlag_same _ _ _ _ _ (by decide) (by decide)⟩
  · unfold ptpSet State.setFlag
    rw [State.fld_setFld_off _ _ _ _ _ _ _ _ (by decide), State.fld_setFld_off _ _ _ _ _ _ _ _ (by decide),
      State.fld_setFld_off _ _ _ _ _ _ _ _ (by decide), State.fld_setFld_same _ _ _ _ _ (by decide)]
    exact Nat.mod_eq_of_lt (unsigned_lt 64 off)
  · exact (State.flag_setFld_apart _ _ _ _ _ _ _ _ (by decide) (by decide)).trans (State.flag_setFlag_same _ _ _ _ _ (by decide) (by decide))

/-- Settles O18: each row is one equation of `exec`, read field by field. -/
theorem hostLanesPortsAndFlows : Obligations.HostLanesPortsAndFlows := by
  unfold Obligations.HostLanesPortsAndFlows
  refine ⟨?opened, ?short, ?down, ?retest, ?training, ?frame, ?cut, ?recovery, ?ptp⟩
  case opened =>
    intro l s hup h
    exact ⟨_, hostLaneOpen_faults l s hup, laneFault_unused_facts l _ s h (by decide) (by decide) (by decide)⟩
  case short =>
    intro l s hup h
    exact ⟨_, hostLaneShort_faults l s hup, laneFault_unused_facts l _ s h (by decide) (by decide) (by decide)⟩
  case down =>
    intro p s hup h
    refine ⟨_, hostPortLinkDown_up p s hup h, ?_, ?_, by simp⟩
    · rw [flag_fire _ _ _ _ _ _ _ (off_ne_sigStatus _ _ _ (by decide)), State.flag_setFld_apart _ _ _ _ _ _ _ _ (by decide) (by decide)]
      exact State.flag_setFlag_same _ _ _ _ _ (by decide) (by decide)
    · rw [fld_fire _ _ _ _ _ _ _ (off_ne_sigStatus _ _ _ (by decide))]
      exact State.fld_setFld_same _ _ _ _ _ (by decide)
  case retest =>
    intro l s f hup hf
    exact ⟨_, hostLaneRetest_good l s f hup hf, reach_now _ _, rfl⟩
  case training =>
    intro p s hup hl hf hq
    refine ⟨_, hostPortTraining_healthy p s hup hl hf hq, ?_⟩
    split
    · exact ⟨trained_up p s, rfl, rfl⟩
    · rw [flag_fire _ _ _ _ _ _ _ (off_ne_sigStatus _ _ _ (by decide)), fire_host, fire_lens]
      exact ⟨trained_up p s, rfl, rfl⟩
  case frame =>
    intro p addr vlan s hup hp h
    refine ⟨_, hostFrameReceive_unmatched p addr vlan s hup hp h, ?_, ?_, rfl⟩
    · rw [lookupD_setKey, if_pos rfl]
    · intro q hq
      rw [lookupD_setKey, if_neg hq]
  case cut =>
    intro c q s f hup hf hecn
    have hflow : f.flow = 256 * c + q := by simpa using List.find?_some hf
    exact ⟨_, _, congestionNotification_cuts c q s f hup hf hecn, flow_putFlow _ _ _ hflow, rfl, rfl, rfl⟩
  case recovery =>
    intro c q s f T hup hf ht hle
    have hflow : f.flow = 256 * c + q := by simpa using List.find?_some hf
    obtain ⟨x, hx⟩ := rateRecoveryTimer_recovers c q s f T hup hf ht
    obtain ⟨hlo, hhi⟩ := recoveredRate_between f (Config.freeWord s.free) hle
    exact ⟨_, _, hx, flow_putFlow _ _ _ hflow, hlo, hhi, rfl, reach_now s T⟩
  case ptp =>
    intro p d off ppb s hup hp hen hport hdom
    obtain ⟨b, hb⟩ := ptpEventMessage_selected p d off ppb s hup hp hen hport hdom
    obtain ⟨hoff, hknown, hlocked⟩ := ptpSet_reads off ppb (s.emit (.ptpStamp p s.now))
    refine ⟨_, hb, ?_⟩
    cases b with
    | true =>
      rw [if_pos rfl, fld_fire _ _ _ _ _ _ _ (by decide), flag_fire _ _ _ _ _ _ _ (by decide), flag_fire _ _ _ _ _ _ _ (by decide), fire_host]
      exact ⟨hoff, hknown, hlocked, rfl⟩
    | false => exact ⟨hoff, hknown, hlocked, rfl⟩

end Sys2Proof.Machine

/-!
SUPPORT. The access directory: HOST_ADD, HOST_REMOVE and NS_ACCESS (04 R88, R89, R103, R107, Table 4.2).
-/
namespace Sys2Proof.Machine

theorem host_of_windowOnly (u t : State) (h : windowOnly u t) : t.host = u.host := by rw [h.1]

/-! ## HOST_ADD -/

/-- A transfer that does not fail leaves the command to its own part (03 R60). -/
theorem moved_whole (r : TaskReq) (k : TaskOut) (h : r.bulkFault = none) : moved r k = k := by
  simp [moved, h]

/-- The lowest directory index that no identity holds. -/
def freeIndex (s : State) : Nat :=
  let used := s.host.directory.map (·.index)
  ((List.range (used.length + 1)).find? fun i => !used.contains i).getD 0

theorem ident_freeIndex (s : State) : s.ident (freeIndex s) = none := by
  obtain ⟨i, hi, hni⟩ := free_index (s.host.directory.map (·.index))
  have hf : freeIndex s = i := congrArg (Option.getD · 0) hi
  unfold State.ident
  rw [hf, List.find?_eq_none]
  intro h hm hx
  exact hni (List.mem_map.2 ⟨h, hm, by simpa using hx⟩)

/-- The identity that HOST_ADD enters: the arguments' host ID, hash and rights, the bulk data's names and secrets, no grant (04 Table 4.2). -/
def newIdent (r : TaskReq) (nqn : String) (secret psk : Option Nat) (s : State) : HostIdent :=
  { index := freeIndex s, nqn := nqn, hostId := BitVec.ofNat 128 (r.arg 2 + 2 ^ 64 * r.arg 3), secret := secret, psk := psk, hash := r.argBits 1 10 8,
    authReq := r.argBits 1 0 0 == 1, nsMgmt := r.argBits 1 1 1 == 1, fwUpd := r.argBits 1 2 2 == 1, grants := [] }

theorem hostAdd_enters (r : TaskReq) (nqn : String) (secret psk : Option Nat) (s : State)
    (h : goes { opcode := 0x0204, windows := [0], bulk := .take none } [(1, mask 2 0 ||| mask 10 8), (2, mask64), (3, mask64)] r s = true)
    (hb : r.bulkFault = none) (h0 : 0 < nqn.utf8ByteSize) (h1 : nqn.utf8ByteSize ≤ 223) (hn : ∀ x ∈ s.host.directory, x.nqn ≠ nqn)
    (hl : s.host.directory.length < 262144) :
    ∃ t, exec (.hostAdd r nqn secret psk true) s = .next t ∧ answered r cOK 0 [BitVec.ofNat 64 (freeIndex s)] t ∧
      windowOnly (s.putIdent (newIdent r nqn secret psk s)) t := by
  have hnew : s.host.directory.any (·.nqn == nqn) = false := by
    rw [List.any_eq_false]
    exact fun x hx => by simpa using hn x hx
  have hlen : (nqn.utf8ByteSize == 0 || decide (223 < nqn.utf8ByteSize)) = false := by
    rw [Bool.or_eq_false_iff, beq_eq_false_iff_ne, decide_eq_false_iff_not]
    omega
  refine taskCmd_effect (fun u => u.putIdent (newIdent r nqn secret psk s)) _ _ r _ s _ _ _ h (by simp) (fun _ _ _ => rfl) rfl ?_
  dsimp only
  rw [taken_host, hlen, hnew, if_neg Bool.false_ne_true, if_neg Bool.false_ne_true, if_neg (by omega)]
  exact moved_whole r _ hb

/-! ## HOST_REMOVE -/

theorem endAssocs_directory (l : List Assoc) (s : State) : (l.foldl (fun s a => endAssoc a.cntlid s) s).host.directory = s.host.directory :=
  foldl_keep (fun s : State => s.host.directory) _ (fun s a => endAssoc_directory a.cntlid s) l s

/-- Identities and namespaces do not stand in the window. -/
theorem ident_taken (t : TaskSpec) (r : TaskReq) (s : State) (i : Nat) : (taken t r s).ident i = s.ident i := by
  unfold State.ident
  rw [taken_host]

theorem ns_taken (t : TaskSpec) (r : TaskReq) (s : State) (i : Nat) : (taken t r s).ns i = s.ns i := by
  unfold State.ns
  rw [taken_md]

theorem hostRemove_removes (r : TaskReq) (s : State) (h : HostIdent) (hg : goes { opcode := 0x0205, windows := [0] } [(1, mask64)] r s = true)
    (hi : s.ident (r.arg 1) = some h) :
    ∃ t, exec (.hostRemove r) s = .next t ∧ answered r cOK 0 [] t ∧ t.host.directory = s.host.directory.filter (·.index != h.index) := by
  refine taskCmd_post (fun t => t.host.directory = s.host.directory.filter (·.index != h.index)) _ _ r _ s cOK 0 [] hg (by simp) ?_
  simp only [ident_taken, hi]
  refine ⟨_, rfl, fun _ _ _ => ?_⟩
  dsimp only
  rw [endAssocs_directory, taken_host]

/-! ## NS_ACCESS -/

theorem accessFault_none (s : State) (r : TaskReq) (h : HostIdent) (hi : s.ident (r.arg 1) = some h) (hn : (s.ns (r.argBits 2 31 0)).isSome = true) :
    accessFault s r = none := by
  simp [accessFault, hi, Option.isSome_iff_ne_none.1 hn]

theorem accessFault_taken (t : TaskSpec) (r : TaskReq) (s : State) : accessFault (taken t r s) r = accessFault s r := by
  unfold accessFault
  rw [ident_taken, ns_taken]

/-- The namespace joins the host's grants (04 R89). -/
theorem nsAccessGrant_grants (r : TaskReq) (s : State) (h : HostIdent) (hg : goes { opcode := 0x0206, windows := [0] } [(1, mask64), (2, mask 32 0)] r s = true)
    (hi : s.ident (r.arg 1) = some h) (hn : (s.ns (r.argBits 2 31 0)).isSome = true) :
    ∃ t, exec (.nsAccessGrant r) s = .next t ∧ answered r cOK 0 [] t ∧ windowOnly (s.putIdent { h with grants := insertNat (r.argBits 2 31 0) h.grants }) t := by
  refine taskCmd_effect (fun u => u.putIdent { h with grants := insertNat (r.argBits 2 31 0) h.grants }) _ _ r _ s _ _ _ hg (by simp)
    (fun _ _ _ => rfl) rfl ?_
  simp only [accessFault_taken, accessFault_none s r h hi hn, ident_taken, hi]

theorem assocsOf_putIdent (s : State) (x : HostIdent) (i : Nat) : assocsOf (s.putIdent x) i = assocsOf s i := rfl

/-- With no association of the host, no controller has the change to note. -/
theorem noteChanged_unassociated (h n : Nat) (s : State) (ha : assocsOf s h = []) : noteChanged h n s = s := by
  unfold noteChanged
  rw [ha]
  rfl

/-- The namespace leaves the grants of a host with no association, whose commands and controllers are none (04 R107). -/
theorem nsAccessRevoke_revokes (r : TaskReq) (s : State) (h : HostIdent) (hg : goes { opcode := 0x0206, windows := [0] } [(1, mask64), (2, mask 32 0)] r s = true)
    (hi : s.ident (r.arg 1) = some h) (hn : (s.ns (r.argBits 2 31 0)).isSome = true) (ha : assocsOf s h.index = []) :
    ∃ t, exec (.nsAccessRevoke r) s = .next t ∧ answered r cOK 0 [] t ∧ windowOnly (s.putIdent { h with grants := h.grants.filter (· != r.argBits 2 31 0) }) t := by
  refine taskCmd_effect (fun u => u.putIdent { h with grants := h.grants.filter (· != r.argBits 2 31 0) }) _ _ r _ s _ _ _ hg (by simp)
    (fun _ _ _ => rfl) rfl ?_
  have hat : ∀ t : TaskSpec, assocsOf (taken t r s) h.index = [] := fun t => by
    unfold assocsOf
    rw [taken_host]
    exact ha
  simp only [accessFault_taken, accessFault_none s r h hi hn, ident_taken, hi, hat, List.map_nil, List.contains_nil, Bool.and_false, Bool.false_and,
    List.filter_false, List.foldl_nil]
  rw [noteChanged_unassociated _ _ _ ((assocsOf_putIdent _ _ _).trans (hat _))]

/-- Settles O19: each command is one store of the directory, seen past its window. -/
theorem accessDirectoryCommands : Obligations.AccessDirectoryCommands := by
  unfold Obligations.AccessDirectoryCommands
  refine ⟨?add, hostRemove_removes, nsAccessGrant_grants, nsAccessRevoke_revokes⟩
  intro r nqn secret psk s h hb h0 h1 hn hl
  obtain ⟨t, he, ha, hw⟩ := hostAdd_enters r nqn secret psk s h hb h0 h1 hn hl
  exact ⟨t, newIdent r nqn secret psk s, he, ident_freeIndex s, ha, hw, rfl, rfl, rfl, rfl, rfl, rfl, rfl⟩

end Sys2Proof.Machine

/-!
SUPPORT. Associations: properties, keep alive, events, features, logs, namespace management and the end of an association
(04 R87 to R93, R99, R103, Table 4.3; 08 R211).
-/
namespace Sys2Proof.Machine

/-! ## Admin commands of an authenticated association -/

/-- An admin command of an authenticated association is its own part. -/
theorem act_admin (c i : Nat) (k : Assoc → State → State) (s : State) (a : Assoc) (hup : s.up = true) (ha : s.assoc c = some a)
    (hd : a.auth = .done) : act (admin c i k) s = .next (k a s) := by
  rw [act_up _ _ hup, admin_done c i k s a ha hd]

/-- Data of an admin command leaves the part before its completion. -/
theorem answer_data (c q i : Nat) (d : AdminData) (s : State) (v : Nat) (hd : s.hup.dumping = false) :
    answer c q i .success (s.send (.adminData c i d)) v = (s.emit (.adminData c i d)).emit (.completion c q i .success v) := by
  rw [send_emit _ _ rfl]
  exact answer_emit _ _ _ _ _ _ hd

/-- A changed association is found under the controller ID it had. -/
theorem assoc_putAssoc_of (s : State) (c : Nat) (a b : Assoc) (ha : s.assoc c = some a) (hb : b.cntlid = a.cntlid) : (s.putAssoc b).assoc c = some b := by
  rw [← assoc_cntlid s c a ha, ← hb]
  exact State.assoc_putAssoc s b

section Admin

variable (c i : Nat) (s : State) (a : Assoc) (hup : s.up = true) (ha : s.assoc c = some a) (hau : a.auth = .done)
include hup ha hau

/-! ## Properties, keep alive, events (04 R93) -/

/-- CC.EN cleared on an enabled controller is answered and ends the association (04 R103). -/
theorem propertySet_disables (he : a.enabled = true) :
    exec (.propertySet c i false) s = .next (endAssoc c (answer c 0 i .success s)) := by
  refine (act_admin c i _ s a hup ha hau).trans ?_
  simp only [he, Bool.false_eq_true, if_false, if_true]

/-- A request finds no event and room among the eight: it is held. -/
theorem asynchronousEventRequest_held (he : a.events = []) (hl : a.aers.length < 8) :
    exec (.asynchronousEventRequest c i) s = .next (s.putAssoc { a with aers := a.aers ++ [i] }) := by
  refine (act_admin c i _ s a hup ha hau).trans ?_
  simp only [he]
  rw [if_neg (by omega)]

variable (hd : s.hup.dumping = false)
include hd

theorem propertySet_enables :
    exec (.propertySet c i true) s = .next ((s.putAssoc { a with enabled := true }).emit (.completion c 0 i .success 0)) :=
  (act_admin c i _ s a hup ha hau).trans (congrArg _ (answer_emit _ _ _ _ _ _ hd))

/-- VS is NVMe 2.0 (log 16). -/
theorem propertyGet_version :
    exec (.propertyGet c i 8) s = .next ((s.emit (.adminData c i (.value 0x20000))).emit (.completion c 0 i .success 0)) :=
  (act_admin c i _ s a hup ha hau).trans (congrArg _ (answer_data _ _ _ _ _ _ hd))

/-- CC.EN follows the controller. -/
theorem propertyGet_configuration :
    exec (.propertyGet c i 20) s =
      .next ((s.emit (.adminData c i (.value (if a.enabled then 1 else 0)))).emit (.completion c 0 i .success 0)) :=
  (act_admin c i _ s a hup ha hau).trans (congrArg _ (answer_data _ _ _ _ _ _ hd))

theorem keepAlive_restarts :
    exec (.keepAlive c i) s = .next ((s.putAssoc { a with katoAt := s.now + a.kato * sec }).emit (.completion c 0 i .success 0)) :=
  (act_admin c i _ s a hup ha hau).trans (congrArg _ (answer_emit _ _ _ _ _ _ hd))

/-- A request takes the oldest event that waits. -/
theorem asynchronousEventRequest_takes (e : Nat) (l : List Nat) (he : a.events = e :: l) :
    exec (.asynchronousEventRequest c i) s = .next ((s.putAssoc { a with events := l }).emit (.completion c 0 i .success e)) := by
  refine (act_admin c i _ s a hup ha hau).trans ?_
  simp only [he]
  exact congrArg _ (answer_emit _ _ _ _ _ _ hd)

/-! ## Features (04 R90, R93, R99) -/

theorem setFeatures_powerState (v n : Nat) (hv : v % 32 ≤ 2) :
    exec (.setFeatures c i 0x02 v n []) s =
      .next ((s.putAssoc { a with psSet := v % 32, psNow := v % 32 }).emit (.completion c 0 i .success 0)) := by
  refine (act_admin c i _ s a hup ha hau).trans ?_
  simp only
  rw [if_neg (by omega)]
  exact congrArg _ (answer_emit _ _ _ _ _ _ hd)

/-- Number of Queues is granted up to 128 and to what the other associations leave of the pool (04 R90). -/
theorem setFeatures_queues (v n g : Nat)
    (hg : g = min (min (v % 65536) (v / 65536) + 1) (min 128 (131072 - ((s.host.assocs.filter (·.cntlid != c)).map (·.granted)).sum))) :
    exec (.setFeatures c i 0x07 v n []) s =
      .next ((s.putAssoc { a with granted := g }).emit (.completion c 0 i .success ((g - 1) * 65537))) := by
  subst hg
  exact (act_admin c i _ s a hup ha hau).trans (congrArg _ (answer_emit _ _ _ _ _ _ hd))

theorem setFeatures_events (v n : Nat) :
    exec (.setFeatures c i 0x0B v n []) s =
      .next ((s.putAssoc { a with aenMask := BitVec.ofNat 32 v }).emit (.completion c 0 i .success 0)) :=
  (act_admin c i _ s a hup ha hau).trans (congrArg _ (answer_emit _ _ _ _ _ _ hd))

theorem getFeatures_powerState (n : Nat) : exec (.getFeatures c i 0x02 n) s = .next (s.emit (.completion c 0 i .success a.psSet)) :=
  (act_admin c i _ s a hup ha hau).trans (congrArg _ (answer_emit _ _ _ _ _ _ hd))

theorem getFeatures_queues (n : Nat) :
    exec (.getFeatures c i 0x07 n) s = .next (s.emit (.completion c 0 i .success ((a.granted - 1) * 65537))) :=
  (act_admin c i _ s a hup ha hau).trans (congrArg _ (answer_emit _ _ _ _ _ _ hd))

/-! ## Identify and logs (04 R93, Table 4.3; 08 R211) -/

theorem nvmeIdentify_space (nsid : Nat) (sh : Bool) (n : Namespace) (hn : s.ns nsid = some (sh, n)) (hv : (visible s a).contains nsid = true) :
    exec (.nvmeIdentify c i 0 nsid) s = .next ((s.emit (.adminData c i
      (.space nsid n.size (if n.small then 512 else 4096) (if n.small then 2047 else 255) n.group))).emit (.completion c 0 i .success 0)) := by
  refine (act_admin c i _ s a hup ha hau).trans ?_
  simp only [hn, hv, if_true]
  exact congrArg _ (answer_data _ _ _ _ _ _ hd)

theorem getLogPage_smart :
    exec (.getLogPage c i 0x02) s = .next ((s.emit (.adminData c i (.smart (smartLog s)))).emit (.completion c 0 i .success 0)) :=
  (act_admin c i _ s a hup ha hau).trans (congrArg _ (answer_data _ _ _ _ _ _ hd))

/-- Reading the Changed Namespace List clears it (04 R89). -/
theorem getLogPage_changed :
    exec (.getLogPage c i 0x04) s =
      .next (((s.putAssoc { a with changedNs := [] }).emit (.adminData c i (.spaces a.changedNs))).emit (.completion c 0 i .success 0)) :=
  (act_admin c i _ s a hup ha hau).trans (congrArg _ (answer_data _ _ _ _ _ _ hd))

/-! ## Namespace management (04 R93) -/

/-- A host with NSMGMT creates the next free namespace, with profile 0 and key domain 0 (log 17). -/
theorem namespaceManagement_creates (nsid size g id : Nat) (sm : Bool) (hm : (s.ident a.host).any (·.nsMgmt) = true) (hg : 0 < g) (hg' : g ≤ 512)
    (hid : ((List.range' 1 65536).find? fun k => (s.ns k).isNone) = some id) (hf : createFault s (freshNamespace id sm g size 0 0) = none) :
    exec (.namespaceManagement c i true nsid size g sm) s =
      .next ((addNamespace (freshNamespace id sm g size 0 0) s).emit (.completion c 0 i .success id)) := by
  have hpos : 1 ≤ id := (List.mem_range'_1.1 (List.mem_of_find?_eq_some hid)).1
  have h0 : (id == 0) = false := by simp; omega
  have hg0 : (g == 0) = false := by simp; omega
  refine (act_admin c i _ s a hup ha hau).trans ?_
  simp only [hm, hid, hf, h0, hg0, Option.getD_some, Bool.not_true, Bool.false_eq_true, if_false, if_true]
  rw [if_neg (by omega), answer_emit]
  exact (congrArg HupState.dumping (oneDelta_hup _ _ s)).trans hd

theorem namespaceAttachment_denied (at_ : Bool) (nsid : Nat) (l : List Nat) (hm : (s.ident a.host).any (·.nsMgmt) = false) :
    exec (.namespaceAttachment c i at_ nsid l) s = .next (s.emit (.completion c 0 i .operationDenied 0)) := by
  refine (act_admin c i _ s a hup ha hau).trans ?_
  simp only [hm, Bool.not_false, if_true]
  exact congrArg _ (answer_emit _ _ _ _ _ _ hd)

/-- Attaching one controller grants the namespace to its host, whose controllers note the change. -/
theorem namespaceAttachment_attaches (nsid : Nat) (b : Assoc) (h : HostIdent) (hm : (s.ident a.host).any (·.nsMgmt) = true)
    (hn : (s.ns nsid).isSome = true) (hb : s.assoc b.cntlid = some b) (hi : s.ident b.host = some h) :
    exec (.namespaceAttachment c i true nsid [b.cntlid]) s =
      .next ((noteChanged b.host nsid (s.putIdent { h with grants := insertNat nsid h.grants })).emit (.completion c 0 i .success 0)) := by
  have hn' : (s.ns nsid).isNone = false := by rw [Option.isNone_eq_false_iff]; exact hn
  refine (act_admin c i _ s a hup ha hau).trans ?_
  simp only [hm, hn', hb, hi, List.any_cons, List.any_nil, List.filterMap_cons, List.filterMap_nil, Option.map_some, Option.isNone_some, Bool.or_self,
    Bool.not_true, Bool.false_eq_true, if_false, if_true, List.eraseDups_cons, List.filter_nil, List.eraseDups_nil, List.foldl_cons, List.foldl_nil]
  refine congrArg _ (answer_emit _ _ _ _ _ _ ?_)
  rw [noteChanged_hup]
  exact hd

end Admin

/-- A namespace of a group this head owns enters its own store; front end and partner's store stay. -/
theorem addNamespace_owned (n : Namespace) (s : State) (ho : s.owns n.group = true) :
    (addNamespace n s).md.store.ns n.nsid = some n ∧ (addNamespace n s).host = s.host ∧ (addNamespace n s).md.shadow = s.md.shadow := by
  have e : addNamespace n s = oneDelta false (.nsSet n) s := by
    unfold addNamespace
    rw [ho]
    rfl
  rw [e]
  refine ⟨?_, oneDelta_host _ _ _, commit_md_shadow _ _⟩
  exact (congrArg (Store.ns · n.nsid) (oneDelta_store false _ s (.inl rfl))).trans (applyDelta_nsSet _ n _)

/-! ## Opcodes, timers and lost connections (04 R93, R99, R103) -/

theorem unsupportedOpcode_answered (c q i : Nat) (s : State) (a : Assoc) (hup : s.up = true) (hd : s.hup.dumping = false) (ha : s.assoc c = some a) :
    exec (.unsupportedOpcode c q i) s = .next (s.emit (.completion c q i .invalidOpcode 0)) := by
  show execUnsupportedOpcode c q i s = _
  unfold execUnsupportedOpcode
  rw [act_up _ _ hup, ha, Option.isSome_some, if_pos rfl, answer_emit _ _ _ _ _ _ hd]

/-- A keep-alive that runs out ends the association at its time. -/
theorem keepAliveExpiry_ends (c : Nat) (s : State) (a : Assoc) (hup : s.up = true) (ha : s.assoc c = some a) (hk : a.kato ≠ 0) :
    exec (.keepAliveExpiry c) s = .next (endAssoc c (s.reach a.katoAt)) := by
  show execKeepAliveExpiry c s = _
  unfold execKeepAliveExpiry
  rw [act_up _ _ hup, ha]
  simp only
  rw [if_neg (by simpa using hk)]

/-- The end of an association leaves every other and the directory. -/
theorem endAssoc_ends (c : Nat) (s : State) :
    (endAssoc c s).host.assocs = s.host.assocs.filter (·.cntlid != c) ∧ (endAssoc c s).assoc c = none ∧
      (endAssoc c s).host.directory = s.host.directory :=
  ⟨endAssoc_assocs c s, endAssoc_gone c s, endAssoc_directory c s⟩

/-- An idle association's APST entry moves its demand after its idle time (04 R99). -/
theorem apstIdleTimer_moves (c : Nat) (s : State) (a : Assoc) (e : ApstEntry) (hup : s.up = true) (ha : s.assoc c = some a) (hc : contextsOf s c = 0)
    (he : a.apst.find? (·.fromPs == a.psNow) = some e) (hi : e.idleMs ≠ 0) :
    exec (.apstIdleTimer c) s = .next ((s.reach (s.now + e.idleMs * ms)).putAssoc { a with psNow := e.toPs }) := by
  show execApstIdleTimer c s = _
  unfold execApstIdleTimer
  rw [act_up _ _ hup, ha]
  simp only [hc, he]
  rw [if_neg (by omega), if_neg (by simpa using hi)]

/-- Settles O21: each row is one equation of `exec`; what an association's end and a new namespace leave is said once. -/
theorem associationAndAdminCommands : Obligations.AssociationAndAdminCommands := by
  unfold Obligations.AssociationAndAdminCommands
  refine ⟨?enable, ?disable, ?get, ?keepAlive, ?expiry, ?loss, ?held, ?takes, unsupportedOpcode_answered, ?set, ?feature, ?apst, ?identify, ?log, ?create, ?attach⟩
  case enable =>
    intro c i s a hup hd ha hau
    exact ⟨_, propertySet_enables c i s a hup ha hau hd, assoc_putAssoc_of s c a _ ha rfl, rfl⟩
  case disable =>
    intro c i s a hup ha hau he
    obtain ⟨has, -, hdir⟩ := endAssoc_ends c (answer c 0 i .success s)
    rw [answer_eq_host] at has hdir
    exact ⟨_, propertySet_disables c i s a hup ha hau he, has, hdir⟩
  case get =>
    intro c i s a hup hd ha hau
    exact ⟨propertyGet_version c i s a hup ha hau hd, propertyGet_configuration c i s a hup ha hau hd⟩
  case keepAlive =>
    intro c i s a hup hd ha hau
    exact keepAlive_restarts c i s a hup ha hau hd
  case expiry =>
    intro c s a hup ha hk
    obtain ⟨has, hgone, hdir⟩ := endAssoc_ends c (s.reach a.katoAt)
    rw [State.reach_host] at has hdir
    exact ⟨_, keepAliveExpiry_ends c s a hup ha hk, has, hgone, hdir⟩
  case loss =>
    intro c s hup
    exact ⟨_, act_up (endAssoc c) s hup, endAssoc_ends c s⟩
  case held =>
    intro c i s a hup ha hau
    exact asynchronousEventRequest_held c i s a hup ha hau
  case takes =>
    intro c i s a e l hup hd ha hau
    exact asynchronousEventRequest_takes c i s a hup ha hau hd e l
  case set =>
    intro c i v n s a hup hd ha hau
    refine ⟨setFeatures_powerState c i s a hup ha hau hd v n, ⟨_, _, setFeatures_queues c i s a hup ha hau hd v n _ rfl,
      assoc_putAssoc_of s c a _ ha rfl, ?_, Nat.min_le_left _ _⟩, setFeatures_events c i s a hup ha hau hd v n⟩
    exact (Nat.min_le_right _ _).trans (Nat.min_le_left _ _)
  case feature =>
    intro c i n s a hup hd ha hau
    exact ⟨getFeatures_powerState c i s a hup ha hau hd n, getFeatures_queues c i s a hup ha hau hd n⟩
  case apst =>
    intro c s a e hup ha hc he hi
    have hr : (s.reach (s.now + e.idleMs * ms)).assoc c = some a := by
      unfold State.assoc
      rw [State.reach_host]
      exact ha
    refine ⟨_, apstIdleTimer_moves c s a e hup ha hc he hi, assoc_putAssoc_of _ c a _ hr rfl, ?_, State.reach_outputs _ _⟩
    exact (reach_now _ _).trans (Nat.max_eq_right (Nat.le_add_right _ _))
  case identify =>
    intro c i nsid s a sh n hup hd ha hau
    exact nvmeIdentify_space c i s a hup ha hau hd nsid sh n
  case log =>
    intro c i s a hup hd ha hau
    exact ⟨getLogPage_smart c i s a hup ha hau hd, getLogPage_changed c i s a hup ha hau hd⟩
  case create =>
    intro c i nsid size g sm s a hup hd ha hau hm hg hg' ho id hid hf
    obtain ⟨hns, hhost, hshadow⟩ := addNamespace_owned (freshNamespace id sm g size 0 0) s ho
    exact ⟨_, namespaceManagement_creates c i s a hup ha hau hd nsid size g id sm hm hg hg' hid hf, hns, rfl, hhost, hshadow⟩
  case attach =>
    intro c i at_ nsid l s a hup hd ha hau
    refine ⟨namespaceAttachment_denied c i s a hup ha hau hd at_ nsid l, fun hm hn b h hb hi => ?_⟩
    exact ⟨_, namespaceAttachment_attaches c i s a hup ha hau hd nsid b h hm hn hb hi, rfl, noteChanged_directory _ _ _⟩

end Sys2Proof.Machine

/-!
SUPPORT. Host I/O: capsules that are taken in, data that arrives, commands at their owner, Abort (04 R89 to R95, R101, R102, R106; 06 R144; 11 R276).
-/
namespace Sys2Proof.Machine

/-! ## A capsule that waits for its data (04 R91, R106) -/

theorem sectorsPerBlock_pos (n : Namespace) : 0 < sectorsPerBlock n := by
  unfold sectorsPerBlock
  split <;> decide

/-- A ready Write or Compare without data takes a context and solicits every byte. -/
theorem submit_solicits (c : IoCapsule) (kind : HostCmdKind) (sgl pt : Nat) (b : List Nat) (s : State) (sh : Bool) (n : Namespace)
    (hk : (kind == .write || kind == .compare) = true) (h : ioReady c s = true) (hn : s.ns c.nsid = some (sh, n)) (h0 : 0 < c.nblk)
    (hr : c.slba + c.nblk ≤ n.size) (h1 : c.nblk * sectorsPerBlock n ≤ 4096) (h2 : 512 * (c.nblk * sectorsPerBlock n) ≤ sgl) :
    ∃ t i, submit c kind [] none (some sgl) [] pt b s =
      { s with host := { s.host with cmds := s.host.cmds ++ [newCmd c kind [] none [] pt (c.nblk * sectorsPerBlock n) (c.nblk * sectorsPerBlock n) i] },
               media := { s.media with traffic := t },
               outputs := .solicit c.cntlid c.qid c.cid (512 * (c.nblk * sectorsPerBlock n)) :: s.outputs } := by
  have hm : c.nblk * sectorsPerBlock n ≠ 0 := (Nat.mul_pos h0 (sectorsPerBlock_pos n)).ne'
  obtain ⟨_, i, -, -, e⟩ := submit_ok c kind [] none (some sgl) [] pt b s sh n h hn hr (by simp) (.inr h1)
    (fun x hx => by rw [← Option.some.inj hx]; exact h2)
  rw [hk, if_pos rfl, List.take_nil, List.length_nil, Nat.sub_zero, takeContext_wait b _ s sh n hn hm] at e
  obtain ⟨t, ht⟩ := countTraffic_only (newCmd c kind [] none [] pt (c.nblk * sectorsPerBlock n) (c.nblk * sectorsPerBlock n) i) n
    { s with host := { s.host with cmds := s.host.cmds ++ [newCmd c kind [] none [] pt (c.nblk * sectorsPerBlock n) (c.nblk * sectorsPerBlock n) i] } }
  exact ⟨t, i, by rw [e, ht]; rfl⟩

theorem HostCmd.is_self (x : HostCmd) : x.is x.cntlid x.qid x.cid = true := by
  simp [HostCmd.is]

theorem nvmeWrite_submits (c : IoCapsule) (sgl : Nat) (s : State) (h : s.serves = true) :
    exec (.nvmeWrite c sgl []) s = .next (submit c .write [] none (some sgl) [] 0 [] s) := by
  show execNvmeWrite c sgl [] s = _
  unfold execNvmeWrite
  rw [actIO_on _ _ h, if_neg (by simp)]

theorem compare_submits (c : IoCapsule) (sgl : Nat) (pt : Fin 66) (b : List Nat) (s : State) (h : s.serves = true) :
    exec (.compare c sgl [] pt b) s = .next (submit c .compare [] none (some sgl) [] pt b s) := by
  show execCompare c sgl [] pt b s = _
  unfold execCompare
  rw [actIO_on _ _ h, if_neg (by simp)]

/-! ## Data that arrives (04 R82, R106) -/

theorem hostCmd_names (s : State) (c q i : Nat) (x : HostCmd) (h : s.hostCmd c q i = some x) :
    x.cntlid = c ∧ x.qid = q ∧ x.cid = i ∧ x.fwdTag = none := by
  simpa [HostCmd.is, and_assoc] using List.find?_some h

/-- Part of the data solicited joins the command in order. -/
theorem h2cDataPdu_joins (c q i : Nat) (data : List Sector) (b : List Nat) (s : State) (x : HostCmd) (h : s.serves = true)
    (hx : s.hostCmd c q i = some x) (hp : x.phase = .receiving) (hl : data.length < x.missing) :
    exec (.h2cDataPdu c q i data true b) s = .next (s.putCmd { x with data := x.data ++ data, missing := x.missing - data.length }) := by
  have hm : (x.missing - data.length == 0) = false := by simp; omega
  have hbar : (!true || x.phase != .receiving || decide (x.missing < data.length)) = false := by simp [hp]; omega
  show execH2cDataPdu c q i data true b s = _
  unfold execH2cDataPdu
  rw [actIO_on _ _ h]
  simp only [hx, hbar, hm, Bool.false_eq_true, if_false]

/-- Part of the data that RDMA READ fetches joins the command in order. -/
theorem rdmaReadCompletion_joins (c q i : Nat) (data : List Sector) (b : List Nat) (s : State) (x : HostCmd) (h : s.serves = true)
    (hx : s.hostCmd c q i = some x) (hp : x.phase = .receiving) (hl : data.length < x.missing) :
    exec (.rdmaReadCompletion c q i true data b) s = .next (s.putCmd { x with data := x.data ++ data, missing := x.missing - data.length }) := by
  have hm : (x.missing - data.length == 0) = false := by simp; omega
  have hbar : (x.phase != .receiving) = false := by simp [hp]
  show execRdmaReadCompletion c q i true data b s = _
  unfold execRdmaReadCompletion
  rw [actIO_on _ _ h]
  simp only [hx, hbar, hm, List.take_of_length_le hl.le, Bool.not_true, Bool.false_eq_true, if_false]

/-- A transfer that fails ends the command with Data Transfer Error, and nothing of it is journaled. -/
theorem rdmaReadCompletion_fails (c q i : Nat) (data : List Sector) (b : List Nat) (s : State) (x : HostCmd) (h : s.serves = true)
    (hc : s.peer.changes = []) (hx : s.hostCmd c q i = some x) (hp : x.phase = .receiving) :
    exec (.rdmaReadCompletion c q i false data b) s = .next ((s.dropCmd x).emit (.completion c q i .dataTransferError 0)) := by
  obtain ⟨-, hd, -⟩ := serves_parts s h
  obtain ⟨hcn, hq, hi, hf⟩ := hostCmd_names s c q i x hx
  have hbar : (x.phase != .receiving) = false := by simp [hp]
  show execRdmaReadCompletion c q i false data b s = _
  unfold execRdmaReadCompletion
  rw [actIO_on _ _ h]
  simp only [hx, hbar, Bool.not_false, Bool.false_eq_true, if_false, if_true]
  rw [complete_calm _ _ _ _ hd hc hf, hcn, hq, hi]

/-! ## A command that changes data, at its owner (05 R112) -/

/-- A command that changes data and moves none is taken in, and ready for the journal at once. -/
theorem submit_ready (c : IoCapsule) (kind : HostCmdKind) (ranges : List (Nat × Nat × Nat)) (s : State) (sh : Bool) (n : Namespace)
    (hk : isWrite kind = true) (hm : (kind == .write || kind == .compare) = false) (h : ioReady c s = true) (hs : servesHere s c.nsid sh n)
    (hr : c.slba + c.nblk ≤ n.size) (hb : ∀ r ∈ ranges, r.1 + r.2.1 ≤ n.size) :
    ∃ t i, submit c kind ranges none none [] 0 [] s =
      { s with host := { s.host with cmds := s.host.cmds ++ [{ newCmd c kind ranges none [] 0 (c.nblk * sectorsPerBlock n) 0 i with phase := .ready }] },
               media := { s.media with traffic := t } } := by
  obtain ⟨_, i, -, -, e⟩ := submit_ok c kind ranges none none [] 0 [] s sh n h hs.1 hr hb (.inl rfl) (by simp)
  rw [hm, if_neg Bool.false_ne_true, takeContext_route [] _ s sh n hs.1 rfl] at e
  obtain ⟨t, ht⟩ := countTraffic_only (newCmd c kind ranges none [] 0 (c.nblk * sectorsPerBlock n) 0 i) n
    { s with host := { s.host with cmds := s.host.cmds ++ [newCmd c kind ranges none [] 0 (c.nblk * sectorsPerBlock n) 0 i] } }
  rw [ht, route_here [] _ _ sh n (servesHere_cmds s _ t c.nsid sh n hs), serveLocal_write [] _ _ sh n (servesHere_cmds s _ t c.nsid sh n hs) hk] at e
  refine ⟨t, i, e.trans ?_⟩
  unfold State.putCmd
  dsimp only
  rw [updateIf_new s.host.cmds (newCmd c kind ranges none [] 0 (c.nblk * sectorsPerBlock n) 0 i)
    { newCmd c kind ranges none [] 0 (c.nblk * sectorsPerBlock n) 0 i with phase := .ready } rfl (ioReady_fresh c s h) ⟨rfl, rfl, rfl, rfl⟩]

theorem writeZeroes_submits (c : IoCapsule) (s : State) (h : s.serves = true) :
    exec (.writeZeroes c) s = .next (submit c .writeZeroes [] none none [] 0 [] s) := actIO_on _ s h

theorem datasetManagement_submits (c : IoCapsule) (rs : List (Nat × Nat)) (s : State) (h : s.serves = true) (hl : rs.length ≤ 256) :
    exec (.datasetManagement c true rs) s =
      .next (submit { c with slba := 0, nblk := 0 } .deallocate (rs.map fun r => (r.1, r.2, 0)) none none [] 0 [] s) := by
  show execDatasetManagement c true rs s = _
  unfold execDatasetManagement
  rw [actIO_on _ _ h, if_neg (by omega)]
  rfl

/-- A Copy within its limits, whose source ranges lie in the namespace, is taken in as its destination ranges (10 R262). -/
theorem copy_submits (c : IoCapsule) (rs : List (Nat × Nat)) (s : State) (sh : Bool) (n : Namespace) (h : s.serves = true)
    (hn : s.ns c.nsid = some (sh, n)) (hl : rs.length ≤ 128) (hr : ∀ r ∈ rs, r.2 ≤ 65536 ∧ r.1 + r.2 ≤ n.size)
    (ht : (rs.map Prod.snd).sum ≤ 1048576) :
    exec (.copy c rs) s =
      .next (submit { c with nblk := (rs.map Prod.snd).sum } .copy (copyRanges c.slba rs) none none [] 0 [] s) := by
  have h1 : (decide (128 < rs.length) || rs.any (fun r => decide (65536 < r.2)) || decide (1048576 < (rs.map Prod.snd).sum)) = false := by
    rw [Bool.or_eq_false_iff, Bool.or_eq_false_iff, List.any_eq_false, decide_eq_false_iff_not, decide_eq_false_iff_not]
    exact ⟨⟨by omega, fun r hm => by simpa using (hr r hm).1⟩, by omega⟩
  have h2 : (rs.any fun r => decide (n.size < r.1 + r.2)) = false := by
    rw [List.any_eq_false]
    exact fun r hm => by simpa using (hr r hm).2
  show execCopy c rs s = _
  unfold execCopy
  rw [actIO_on _ _ h]
  simp only [h1, hn, h2, Option.any_some, Bool.false_eq_true, if_false]

/-! ## A read at the owner (06 R144) -/

/-- With no reservation the owner starts a read at once. -/
theorem serveLocal_read (b : List Nat) (x : HostCmd) (s : State) (sh : Bool) (n : Namespace) (h : servesHere s x.nsid sh n) (hk : x.kind = .read) :
    serveLocal b x s = startRead b x s := by
  obtain ⟨hn, -, -, hr, -⟩ := h
  unfold serveLocal
  simp [hn, hk, isWrite, mayRead, hr]

/-- A read of one unmapped 4 KiB block at its owner gives eight zero sectors and completes; its context is free again (06 Table 6.1). -/
theorem submit_readsZeros (c : IoCapsule) (sgl pt : Nat) (b : List Nat) (s : State) (sh : Bool) (n : Namespace) (h : ioReady c s = true)
    (hs : servesHere s c.nsid sh n) (hsm : n.small = false) (h1 : c.nblk = 1) (hr : c.slba < n.size) (hsgl : 4096 ≤ sgl)
    (hm : (s.store sh).mapGet n.root n.height c.slba = .unmapped) (hl : pageLost s sh n c.slba = false)
    (hring : ∀ e ∈ s.wr.ring, e.rec_.nsid ≠ c.nsid) (hch : s.peer.changes = []) :
    (submit c .read [] none (some sgl) [] pt b s).host.cmds = s.host.cmds ∧ (submit c .read [] none (some sgl) [] pt b s).md = s.md ∧
      (submit c .read [] none (some sgl) [] pt b s).outputs = [.completion c.cntlid c.qid c.cid .success 0,
        .hostData c.cntlid c.qid c.cid c.slba [(0, 0), (1, 0), (2, 0), (3, 0), (4, 0), (5, 0), (6, 0), (7, 0)]] ++ s.outputs := by
  have hneed : c.nblk * sectorsPerBlock n = 8 := by simp [h1, sectorsPerBlock, hsm]
  obtain ⟨-, hd, -⟩ := serves_parts s (ioReady_serves c s h)
  obtain ⟨_, i, -, -, e⟩ := submit_ok c .read [] none (some sgl) [] pt b s sh n h hs.1 (by omega) (by simp) (.inr (by omega))
    (fun x hx => by rw [← Option.some.inj hx]; omega)
  rw [hneed, if_neg (by decide), takeContext_route b _ s sh n hs.1 rfl] at e
  obtain ⟨t, ht⟩ := countTraffic_only (newCmd c .read [] none [] pt 8 0 i) n
    { s with host := { s.host with cmds := s.host.cmds ++ [newCmd c .read [] none [] pt 8 0 i] } }
  have hs' := servesHere_cmds s (s.host.cmds ++ [newCmd c .read [] none [] pt 8 0 i]) t c.nsid sh n hs
  rw [ht, route_here b _ _ sh n hs', serveLocal_read b _ _ sh n hs' rfl] at e
  obtain ⟨u, hu, hcmds, hout, hmd⟩ := startRead_unmapped b (newCmd c .read [] none [] pt 8 0 i) s.host.cmds _ sh n hs'.1 hsm h1 hm hl hring rfl rfl rfl
    rfl rfl rfl (ioReady_fresh c s h) hd hch
  rw [e, hu]
  exact ⟨hcmds, hmd, hout⟩

theorem nvmeRead_submits (c : IoCapsule) (sgl : Nat) (pt : Fin 66) (b : List Nat) (s : State) (h : s.serves = true) :
    exec (.nvmeRead c sgl pt b) s = .next (submit c .read [] none (some sgl) [] pt b s) := actIO_on _ s h

/-! ## Flush and Reservation Report (04 R93, R102) -/

/-- Every write completed before is journaled already. -/
theorem flush_all (c : IoCapsule) (s : State) (a : Assoc) (h : s.serves = true) (hn : c.nsid = 0xFFFFFFFF) (ha : s.assoc c.cntlid = some a)
    (hp : s.peer.st ≠ .fenced) : exec (.flush c) s = .next (s.emit (.completion c.cntlid c.qid c.cid .success 0)) := by
  obtain ⟨-, hd, -⟩ := serves_parts s h
  have hp' : (s.peer.st == .fenced) = false := by simpa using hp
  show execFlush c s = _
  unfold execFlush
  rw [actIO_on _ _ h]
  simp only [hn, ha, hp', beq_self_eq_true, if_true, Option.isNone_some, Bool.false_eq_true, if_false]
  rw [answer_emit _ _ _ _ _ _ hd]

theorem reservationReport_returns (c : IoCapsule) (s : State) (a : Assoc) (sh : Bool) (n : Namespace) (h : s.serves = true)
    (ha : s.assoc c.cntlid = some a) (hn : s.ns c.nsid = some (sh, n)) (hv : (visible s a).contains c.nsid = true) :
    exec (.reservationReport c) s =
      .next ((s.emit (.adminData c.cntlid c.cid (.reservations n.rsv))).emit (.completion c.cntlid c.qid c.cid .success 0)) := by
  obtain ⟨-, hd, -⟩ := serves_parts s h
  show execReservationReport c s = _
  unfold execReservationReport
  rw [actIO_on _ _ h]
  simp only [ha, hn, hv, if_true]
  exact congrArg _ (answer_data _ _ _ _ _ _ hd)

/-! ## A capsule that waited (04 R91) -/

/-- The lone capsule that waits takes its context and solicits its data. -/
theorem capsuleContextAdmit_lone (w : WaitingCapsule) (s : State) (sh : Bool) (n : Namespace) (h : s.serves = true) (hw : s.host.waiting = [w])
    (hc : contextFree s w.cntlid = true) (hn : s.ns w.cmd.nsid = some (sh, n)) (hm : w.cmd.missing ≠ 0) :
    ∃ t, exec .capsuleContextAdmit s =
      .next { s with host := { s.host with cmds := s.host.cmds ++ [w.cmd], waiting := [], lastServed := w.cntlid }, media := { s.media with traffic := t },
                     outputs := .solicit w.cmd.cntlid w.cmd.qid w.cmd.cid (512 * w.cmd.missing) :: s.outputs } := by
  obtain ⟨t, ht⟩ := countTraffic_only w.cmd n
    { s with host := { s.host with cmds := s.host.cmds ++ [w.cmd], waiting := [], lastServed := w.cntlid } }
  refine ⟨t, ?_⟩
  show execCapsuleContextAdmit s = _
  unfold execCapsuleContextAdmit
  rw [actIO_on _ _ h]
  simp only [hw, List.filter_cons, hc, if_true, List.filter_nil, leastBy, List.erase_cons_head]
  rw [takeContext_wait [] w.cmd _ sh n (by exact hn) hm, ht]
  rfl

/-! ## Abort (04 R101) -/

/-- A command that is ready and not journaled ends with Abort Requested, then the Abort completes. -/
theorem abort_ready (c i q k : Nat) (s : State) (a : Assoc) (x : HostCmd) (hup : s.up = true) (hd : s.hup.dumping = false)
    (hch : s.peer.changes = []) (ha : s.assoc c = some a) (hau : a.auth = .done) (hab : a.aborts < 4) (hx : s.hostCmd c q k = some x)
    (hp : x.phase = .ready) (hf : x.fetches = []) :
    exec (.abort c i q k) s = .next ((({ s with wr := { s.wr with ringWait := s.wr.ringWait.filter (· != (c, q, k)) } }.dropCmd x).emit
      (.completion c q k .abortRequested 0)).emit (.completion c 0 i .success 0)) := by
  obtain ⟨hcn, hq, hk, hfw⟩ := hostCmd_names s c q k x hx
  have habort : abortCmd x s = ({ s with wr := { s.wr with ringWait := s.wr.ringWait.filter (· != (c, q, k)) } }.dropCmd x).emit
      (.completion c q k .abortRequested 0) := by
    unfold abortCmd
    simp only [hf, List.filterMap_nil, List.foldl_nil, hcn, hq, hk]
    rw [complete_calm _ _ _ _ (by exact hd) (by exact hch) hfw, hcn, hq, hk]
  have hph : (x.phase == .forwarded) = false := by simp [hp]
  have hable : abortable x = true := by simp [abortable, hp]
  refine (act_admin c i _ s a hup ha hau).trans ?_
  simp only [hx, hph, hable, habort, Bool.false_eq_true, if_false, if_true]
  rw [if_neg (by omega), answer_emit _ _ _ _ _ _ (by exact hd)]

/-- Settles O22: a capsule is taken in by one of two lemmas, for data that is awaited and for a change that is ready; every other row is one equation of `exec`. -/
theorem hostReadsAndWritesAreServed : Obligations.HostReadsAndWritesAreServed := by
  unfold Obligations.HostReadsAndWritesAreServed
  refine ⟨?write, ?compare, h2cDataPdu_joins, rdmaReadCompletion_joins, ?failed, ?zeroes, ?deallocate, ?copy, ?read, flush_all, ?register, ?acquire, ?release,
    reservationReport_returns, ?admission, ?abort⟩
  case write =>
    intro c sgl s sh n h hn h0 hr h1 h2
    obtain ⟨t, i, e⟩ := submit_solicits c .write sgl 0 [] s sh n rfl h hn h0 hr h1 h2
    exact ⟨_, _, (nvmeWrite_submits c sgl s (ioReady_serves c s h)).trans (congrArg _ e), rfl, HostCmd.is_self _, rfl, rfl, List.take_nil, rfl, rfl, rfl, rfl⟩
  case compare =>
    intro c sgl pt b s sh n h hn h0 hr h1 h2
    obtain ⟨t, i, e⟩ := submit_solicits c .compare sgl pt b s sh n rfl h hn h0 hr h1 h2
    exact ⟨_, _, (compare_submits c sgl pt b s (ioReady_serves c s h)).trans (congrArg _ e), rfl, HostCmd.is_self _, rfl, rfl, rfl, rfl, rfl, rfl⟩
  case failed =>
    intro c q i data b s x h hch hx hp
    exact ⟨_, rdmaReadCompletion_fails c q i data b s x h hch hx hp, rfl, rfl, rfl, rfl⟩
  case zeroes =>
    intro c s sh n h hs hr
    obtain ⟨t, i, e⟩ := submit_ready c .writeZeroes [] s sh n rfl rfl h hs hr (by simp)
    exact ⟨_, _, (writeZeroes_submits c s (ioReady_serves c s h)).trans (congrArg _ e), rfl, HostCmd.is_self _, rfl, rfl, rfl, rfl, rfl, rfl, rfl⟩
  case deallocate =>
    intro c rs s sh n h hs hl hr
    have hb : ∀ r ∈ rs.map (fun r => (r.1, r.2, 0)), r.1 + r.2.1 ≤ n.size := by
      intro r hm
      obtain ⟨q, hq, rfl⟩ := List.mem_map.1 hm
      exact hr q hq
    obtain ⟨t, i, e⟩ := submit_ready { c with slba := 0, nblk := 0 } .deallocate _ s sh n rfl rfl h hs (by simp) hb
    exact ⟨_, _, (datasetManagement_submits c rs s (ioReady_serves c s h) hl).trans (congrArg _ e), rfl, HostCmd.is_self _, rfl, rfl, rfl, rfl, rfl, rfl⟩
  case copy =>
    intro c rs s sh n h hs hl hr ht hd hb
    obtain ⟨t, i, e⟩ := submit_ready { c with nblk := (rs.map Prod.snd).sum } .copy _ s sh n rfl rfl h hs hd hb
    exact ⟨_, _, (copy_submits c rs s sh n (ioReady_serves c s h) hs.1 hl hr ht).trans (congrArg _ e), rfl, HostCmd.is_self _, rfl, rfl, rfl, rfl, rfl, rfl⟩
  case read =>
    intro c sgl pt b s sh n h hs hsm h1 hr hsgl hm hl hring hch
    exact ⟨_, nvmeRead_submits c sgl pt b s (ioReady_serves c s h), submit_readsZeros c sgl pt b s sh n h hs hsm h1 hr hsgl hm hl hring hch⟩
  case register =>
    intro c act cur new ie cp s sh n a i r
    exact reserve_ok c (.register act cur new ie cp) s sh n a i r
  case acquire =>
    intro c act cur prev ty s sh n a i r
    exact reserve_ok c (.acquire act cur prev ty) s sh n a i r
  case release =>
    intro c act cur ty s sh n a i r
    exact reserve_ok c (.release act cur ty) s sh n a i r
  case admission =>
    intro w s sh n h hw hc hn hm
    obtain ⟨t, e⟩ := capsuleContextAdmit_lone w s sh n h hw hc hn hm
    exact ⟨_, e, rfl, rfl, rfl, rfl⟩
  case abort =>
    intro c i q k s a x hup hd hch ha hau hab hx hp hf
    exact ⟨_, abort_ready c i q k s a x hup hd hch ha hau hab hx hp hf, rfl, rfl, rfl⟩

end Sys2Proof.Machine

/-!
SUPPORT. The hypotheses of the host front end's statements are met: boards on which its rows act, at the bounds where a clause has one.
-/
namespace Sys2Proof.Machine

/-! ## Lanes, ports, flows, PTP -/

/-- No port uses a lane of a new board: the last lane's open flag stands and its clock starts. -/
theorem hostLaneOpen_witness :
    ∃ t, exec (.hostLaneOpen 31) State.reset = .next t ∧ t.flag Reg.fHFE_LANE_STATUS_OPEN 31 = true ∧ ∃ f ∈ t.host.laneFaults, f.lane = 31 ∧ f.at_ = 0 := by
  obtain ⟨hflag, hclock, -⟩ := laneFault_unused_facts 31 Reg.fHFE_LANE_STATUS_OPEN State.reset (by decide) (by decide) (by decide) (by decide)
  exact ⟨_, hostLaneOpen_faults 31 State.reset rfl, hflag, hclock⟩

/-- A flow of controller 1, queue 1 on port 28, at the rate of a 400 Gb/s port. -/
def witnessFlow : Flow := { flow := 257, port := 28, rate := 400000, target := 400000, timer := none }

/-- A board whose last quad is one port of four lanes, port 28, which is UP with that flow, ECN at the deepest cut and PTP of domain 24. -/
def frontBoard : State :=
  { (((((State.reset.setFlag Reg.fHFE_PORT_STATUS_UP true 28).setWord (Reg.fHFE_QOS_CFG_CC_CUT.off 28 0) 0xAFF010000#64).setFlag Reg.fHFE_PTP_CFG_EN true).setFld
      Reg.fHFE_PTP_CFG_PORT 28).setFld Reg.fHFE_PTP_CFG_DOMAIN 24) with
    host := { HostState.reset with flows := [witnessFlow], laneFaults := [{ lane := 27, at_ := 5 }] },
    lens := { LensState.reset with live := { LensState.reset.live with quadMode := [(7, 2)] } } }

/-- A fault of a lane of another quad does not stop port 28 from training. -/
theorem hostPortTraining_witness : ∃ t, exec (.hostPortTraining 28 []) frontBoard = .next t ∧ t = trained 28 frontBoard :=
  ⟨_, hostPortTraining_healthy 28 frontBoard rfl (by decide) (by decide) (by decide), if_pos (by decide)⟩

/-- Its link goes down: no lane is left. -/
theorem hostPortLinkDown_witness :
    exec (.hostPortLinkDown 28) frontBoard =
      .next (fire 124 ((frontBoard.setFlag Reg.fHFE_PORT_STATUS_UP false 28).setFld Reg.fHFE_PORT_STATUS_LANES 0 28)) :=
  hostPortLinkDown_up 28 frontBoard rfl (by decide)

/-- The faulty lane's good re-test comes 10 s after its fault. -/
theorem hostLaneRetest_witness : ∃ t, exec (.hostLaneRetest 27 true) frontBoard = .next t ∧ t.now = 10000000005 ∧ t.host.laneFaults = [] :=
  ⟨_, hostLaneRetest_good 27 frontBoard { lane := 27, at_ := 5 } rfl (by decide), reach_now _ _, by decide⟩

/-- No interface of the port is valid: the frame is its first one dropped. -/
theorem hostFrameReceive_witness : ∃ t, exec (.hostFrameReceive 28 1 4095) frontBoard = .next t ∧ t.host.dropped = [(28, 1)] :=
  ⟨_, hostFrameReceive_unmatched 28 1 4095 frontBoard rfl (by decide) (by decide), rfl⟩

/-- A cut by 255/256 leaves 1,563 Mbit/s, and the recovery timer stands at 10 µs. -/
theorem congestionNotification_witness :
    ∃ t, exec (.congestionNotification 1 1) frontBoard = .next t ∧ t.host.flows = [{ witnessFlow with rate := 1563, timer := some 10000 }] :=
  ⟨_, congestionNotification_cuts 1 1 frontBoard witnessFlow rfl (by decide) (by decide), by decide⟩

/-- On the selected port and domain a wall-clock 1 ns behind the timebase is all ones. -/
theorem ptpEventMessage_witness : ∃ t, exec (.ptpEventMessage 28 24 (-1) 0) frontBoard = .next t ∧ t.fld Reg.fTMB_WALL_OFFSET_OFFSET = 2 ^ 64 - 1 := by
  obtain ⟨t, ht, hoff, -⟩ := hostLanesPortsAndFlows.2.2.2.2.2.2.2.2 28 24 (-1) 0 frontBoard rfl (by decide) (by decide) (by decide) (by decide)
  exact ⟨t, ht, hoff.trans (by decide)⟩

/-! ## Hosts and associations -/

/-- A host with NSMGMT and a grant of namespace 1. -/
def witnessHost : HostIdent :=
  { index := 0, nqn := "h", hostId := 7, secret := none, psk := none, hash := 0, authReq := false, nsMgmt := true, fwUpd := false, grants := [1] }

/-- An association of that host, with seven Asynchronous Event Requests held and one I/O queue. -/
def witnessAssoc : Assoc :=
  { cntlid := 1, host := 0, port := 28, kind := .roce, auth := .done, queues := [(1, 1024)], granted := 128, enabled := true, psSet := 0,
    apst := [{ fromPs := 0, toPs := 1, idleMs := 50 }], psNow := 0, kato := 600, katoAt := 600000000000, aers := [0, 1, 2, 3, 4, 5, 6], aenMask := 0,
    events := [], aborts := 3, changedNs := [1], features := [], errors := [] }

/-- Namespace 1: 512 blocks of 4 KiB, 2 MiB in all, in group 1. -/
def witnessSpace : Namespace := freshNamespace 1 false 1 512 0 0

/-- A board that serves that host on its namespace, with the commands `cs` under way. -/
def hostBoard (cs : List HostCmd) : State :=
  { State.reset with
    host := { HostState.reset with directory := [witnessHost], assocs := [witnessAssoc], cmds := cs },
    media := { MediaState.reset with ioAdmitted := true },
    md := { MetaState.reset with store := { MetaState.reset.store with nss := [witnessSpace] } } }

/-- A window 0 request with these arguments and this bulk length. -/
def witnessRequest (args : List Word) (bulk : Nat) : TaskReq := { witnessRelens with args := args, bulkCtrl := BitVec.ofNat 64 bulk }

/-- HOST_ADD of a second host with AUTH_REQUIRED takes index 1. -/
theorem hostAdd_witness :
    ∃ t, exec (.hostAdd (witnessRequest [1] 64) "g" (some 3) none true) (hostBoard []) = .next t ∧
      t.host.directory = [witnessHost, newIdent (witnessRequest [1] 64) "g" (some 3) none (hostBoard [])] ∧ freeIndex (hostBoard []) = 1 := by
  obtain ⟨t, ht, -, hw⟩ := hostAdd_enters (witnessRequest [1] 64) "g" (some 3) none (hostBoard [])
    ((goes_iff _ _ _ _).2 ⟨rfl, rfl, rfl, rfl, by decide, by decide, by decide, rfl, by decide, by decide⟩) rfl (by decide) (by decide) (by decide) (by decide)
  exact ⟨t, ht, by rw [host_of_windowOnly _ t hw]; decide, by decide⟩

/-- HOST_REMOVE of the host empties the directory. -/
theorem hostRemove_witness : ∃ t, exec (.hostRemove (witnessRequest [0] 0)) (hostBoard []) = .next t ∧ t.host.directory = [] := by
  obtain ⟨t, ht, -, hd⟩ := hostRemove_removes (witnessRequest [0] 0) (hostBoard []) witnessHost
    ((goes_iff _ _ _ _).2 ⟨rfl, rfl, rfl, rfl, by decide, by decide, by decide, rfl, by decide, by decide⟩) rfl
  exact ⟨t, ht, hd⟩

/-- A grant of namespace 1 that stands already is kept once. -/
theorem nsAccessGrant_witness :
    ∃ t, exec (.nsAccessGrant (witnessRequest [0, 0x100000001] 0)) (hostBoard []) = .next t ∧ t.host.directory = [witnessHost] := by
  obtain ⟨t, ht, -, hw⟩ := nsAccessGrant_grants (witnessRequest [0, 0x100000001] 0) (hostBoard []) witnessHost
    ((goes_iff _ _ _ _).2 ⟨rfl, rfl, rfl, rfl, by decide, by decide, by decide, rfl, by decide, by decide⟩) rfl (by decide)
  exact ⟨t, ht, by rw [host_of_windowOnly _ t hw]; decide⟩

/-- The same board before its host connects. -/
def unconnectedBoard : State := { hostBoard [] with host := { HostState.reset with directory := [witnessHost] } }

/-- NS_ACCESS with bit 32 clear takes the namespace from the host that has not connected. -/
theorem nsAccessRevoke_witness :
    ∃ t, exec (.nsAccessRevoke (witnessRequest [0, 1] 0)) unconnectedBoard = .next t ∧ t.host.directory = [{ witnessHost with grants := [] }] := by
  obtain ⟨t, ht, -, hw⟩ := nsAccessRevoke_revokes (witnessRequest [0, 1] 0) unconnectedBoard witnessHost
    ((goes_iff _ _ _ _).2 ⟨rfl, rfl, rfl, rfl, by decide, by decide, by decide, rfl, by decide, by decide⟩) rfl (by decide) rfl
  exact ⟨t, ht, by rw [host_of_windowOnly _ t hw]; decide⟩

/-- An eighth request is held. -/
theorem asynchronousEventRequest_witness :
    exec (.asynchronousEventRequest 1 7) (hostBoard []) = .next ((hostBoard []).putAssoc { witnessAssoc with aers := [0, 1, 2, 3, 4, 5, 6, 7] }) :=
  asynchronousEventRequest_held 1 7 (hostBoard []) witnessAssoc rfl rfl rfl rfl (by decide)

/-- A request of every queue is granted 128. -/
theorem setFeatures_queues_witness :
    exec (.setFeatures 1 9 0x07 0xFFFFFFFF 0 []) (hostBoard []) =
      .next (((hostBoard []).putAssoc { witnessAssoc with granted := 128 }).emit (.completion 1 0 9 .success (127 * 65537))) :=
  setFeatures_queues 1 9 (hostBoard []) witnessAssoc rfl rfl rfl rfl 0xFFFFFFFF 0 128 (by decide)

/-- After 50 ms the idle association demands state 1. -/
theorem apstIdleTimer_witness :
    ∃ t, exec (.apstIdleTimer 1) (hostBoard []) = .next t ∧ t.now = 50000000 ∧ t.host.assocs = [{ witnessAssoc with psNow := 1 }] :=
  ⟨_, apstIdleTimer_moves 1 (hostBoard []) witnessAssoc { fromPs := 0, toPs := 1, idleMs := 50 } rfl rfl rfl rfl (by decide), by decide, by decide⟩

/-- Namespace 2 is the next free one. -/
theorem namespaceManagement_witness :
    ∃ t, exec (.namespaceManagement 1 9 true 0 4 512 true) (hostBoard []) = .next t ∧ t.md.store.ns 2 = some (freshNamespace 2 true 512 4 0 0) :=
  ⟨_, namespaceManagement_creates 1 9 (hostBoard []) witnessAssoc rfl rfl rfl rfl 0 4 512 2 true (by decide) (by decide) (by decide) (by decide) (by decide),
    (addNamespace_owned _ (hostBoard []) (by decide)).1⟩

/-! ## Host I/O -/

/-- A capsule of that association on its I/O queue. -/
def witnessCapsule (slba nblk : Nat) : IoCapsule := { cntlid := 1, qid := 1, cid := 5, nsid := 1, slba := slba, nblk := nblk }

theorem witnessCapsule_ready (slba nblk : Nat) : ioReady (witnessCapsule slba nblk) (hostBoard []) = true := by
  show ioReady (witnessCapsule 0 0) (hostBoard []) = true
  decide

theorem hostBoard_serves (cs : List HostCmd) : servesHere (hostBoard cs) 1 false witnessSpace := ⟨rfl, rfl, rfl, rfl, rfl⟩

/-- A Write of the whole namespace, 2 MiB, solicits all of it. -/
theorem nvmeWrite_witness :
    ∃ t, exec (.nvmeWrite (witnessCapsule 0 512) (2 ^ 21) []) (hostBoard []) = .next t ∧ t.outputs = [.solicit 1 1 5 (2 ^ 21)] := by
  obtain ⟨t, _, e⟩ := submit_solicits (witnessCapsule 0 512) .write (2 ^ 21) 0 [] (hostBoard []) false witnessSpace rfl (witnessCapsule_ready 0 512) rfl
    (by decide) (by decide) (by decide) (by decide)
  exact ⟨_, (nvmeWrite_submits _ _ _ rfl).trans (congrArg _ e), rfl⟩

/-- A Write Zeroes of the last block is ready for the journal. -/
theorem writeZeroes_witness :
    ∃ t, exec (.writeZeroes (witnessCapsule 511 1)) (hostBoard []) = .next t ∧ t.host.cmds.map (·.phase) = [.ready] := by
  obtain ⟨t, _, e⟩ := submit_ready (witnessCapsule 511 1) .writeZeroes [] (hostBoard []) false witnessSpace rfl rfl (witnessCapsule_ready 511 1)
    (hostBoard_serves []) (by decide) (by simp)
  exact ⟨_, (writeZeroes_submits _ _ rfl).trans (congrArg _ e), rfl⟩

/-- A Read of the last block, never written, completes with zeros. -/
theorem nvmeRead_witness :
    ∃ t, exec (.nvmeRead (witnessCapsule 511 1) 4096 65 []) (hostBoard []) = .next t ∧ t.host.cmds = [] ∧ t.outputs.head? = some (.completion 1 1 5 .success 0) := by
  obtain ⟨hcmds, -, hout⟩ := submit_readsZeros (witnessCapsule 511 1) 4096 65 [] (hostBoard []) false witnessSpace (witnessCapsule_ready 511 1)
    (hostBoard_serves []) rfl rfl (by decide) (by decide) (by decide) (by decide) (by decide) rfl
  exact ⟨_, nvmeRead_submits _ _ 65 _ _ rfl, hcmds, congrArg List.head? hout⟩

/-- A Write of one block under way on that queue. -/
def witnessCmd (phase : HostCmdPhase) (missing : Nat) : HostCmd :=
  { newCmd (witnessCapsule 0 1) .write [] none [] 0 8 missing witnessHost with phase := phase }

/-- Seven of eight sectors arrive: one is still awaited. -/
theorem h2cDataPdu_witness :
    exec (.h2cDataPdu 1 1 5 (List.replicate 7 0) true []) (hostBoard [witnessCmd .receiving 8]) =
      .next ((hostBoard [witnessCmd .receiving 8]).putCmd { witnessCmd .receiving 1 with data := List.replicate 7 0 }) :=
  h2cDataPdu_joins 1 1 5 _ [] (hostBoard [witnessCmd .receiving 8]) (witnessCmd .receiving 8) rfl rfl rfl (by decide)

/-- The fourth outstanding Abort still ends the command it names. -/
theorem abort_witness :
    ∃ t, exec (.abort 1 9 1 5) (hostBoard [witnessCmd .ready 0]) = .next t ∧ t.host.cmds = [] ∧
      t.outputs = [.completion 1 0 9 .success 0, .completion 1 1 5 .abortRequested 0] :=
  ⟨_, abort_ready 1 9 1 5 (hostBoard [witnessCmd .ready 0]) witnessAssoc (witnessCmd .ready 0) rfl rfl rfl rfl rfl (by decide) rfl rfl rfl, by decide, rfl⟩

/-- The host's first registration is stored with its key. -/
theorem reservationRegister_witness :
    ∃ t, exec (.reservationRegister (witnessCapsule 0 0) 0 0 9 false 0) (hostBoard []) = .next t ∧
      (t.store false).ns 1 = some { witnessSpace with rsv := { gen := 1, typ := .none, holder := none, regs := [(7, 9)], ptpl := false } } := by
  obtain ⟨t, ht, hns, -⟩ := reserve_ok (witnessCapsule 0 0) (.register 0 0 9 false 0) (hostBoard []) false witnessSpace witnessAssoc witnessHost _
    (witnessCapsule_ready 0 0) rfl rfl rfl (.inl rfl) (by decide) rfl rfl rfl rfl (by decide)
  exact ⟨t, ht, hns⟩

end Sys2Proof.Machine

/-!
SUPPORT. The write path: appending a Write Zeroes, vault pages, the map update of a zero grain, rows, retirement, the guard's window (05 R110 to R118, R121, R135, R140).
-/
namespace Sys2Proof.Machine

/-! ## Appending a Write Zeroes (05 R110, R112, R118) -/

/-- A range of at most one piece is one piece. -/
theorem pieces_one (per fuel slba nblk src : Nat) (h0 : 0 < nblk) (h1 : nblk ≤ per) : pieces per (fuel + 1) slba nblk src = [(slba, nblk, src)] := by
  unfold pieces
  rw [if_neg (by omega), if_pos h1]

/-- A Write Zeroes of at most 1 MiB becomes one record without grains. -/
theorem planRecords_zeroes (n : Namespace) (x : HostCmd) (hk : x.kind = .writeZeroes) (h0 : 0 < x.nblk) (h1 : x.nblk ≤ blocksPerMiB n) :
    planRecords n x = [(.writeZeroes, x.slba, x.nblk, 0, [])] := by
  unfold planRecords
  simp only [hk, pieces_one _ _ _ _ _ h0 h1, List.map_cons, List.map_nil]

/-- While the head does not acknowledge, nothing is posted (05 Table 5.2). -/
theorem postWrites_unacknowledged (s : State) (h : s.wr.ackMode = 3) : postWrites s = s := by
  simp [postWrites, h]

/-- The state with the record of a command without payload at the end of the ring, and the command journaled. -/
def zeroesAppended (n : Namespace) (x : HostCmd) (s : State) : State :=
  { s with
    wr := { s.wr with ring := s.wr.ring ++ [freshEntry n x.fwdTag.isSome .writeZeroes x.slba x.nblk 0 [] false 0 s], jseqNext := s.wr.jseqNext + 1,
                      ringWait := s.wr.ringWait.filter (· != (x.cntlid, x.qid, x.cid)) },
    host := (s.putCmd { x with phase := .journaled, jseqs := [s.wr.jseqNext], data := [] }).host }

/-- A Write Zeroes reserves no space: with ring room for its 128 bytes it is appended, and only the high-water mark follows. -/
theorem appendCmd_zeroes (x : HostCmd) (olds : List (Nat × OldGrain)) (resident : Bool) (s : State) (sh : Bool) (n : Namespace)
    (hn : s.ns x.nsid = some (sh, n)) (hk : x.kind = .writeZeroes) (h0 : 0 < x.nblk) (h1 : x.nblk ≤ blocksPerMiB n) (hs : syncStream s n.nsid = none)
    (hr : ringBytes s + 128 ≤ ringCapacity s) (ha : s.wr.ackMode = 3) (hm : s.mirrors = false) :
    appendCmd x olds resident s = settleHwm (zeroesAppended n x s) := by
  have hgrains : ([(JKind.writeZeroes, x.slba, x.nblk, 0, ([] : List JGrain))].flatMap fun p => p.2.2.2.2) = [] := rfl
  have hneed : dataGrains [] = 0 := rfl
  have happend := appendRecord_plain n x.fwdTag.isSome .writeZeroes x.slba x.nblk 0 [] false 0 s hm (by omega) hs
  have hmode : (settleHwm (zeroesAppended n x s)).wr.ackMode = 3 := by
    obtain ⟨b, r, g, o, h⟩ := settleHwm_only (zeroesAppended n x s)
    rw [h]
    exact ha
  unfold appendCmd
  simp only [hn, planRecords_zeroes n x hk h0 h1, hgrains, hneed, Nat.zero_mul, Nat.lt_irrefl, decide_false, Bool.false_and, Bool.false_eq_true,
    if_false, List.map_cons, List.map_nil, List.length_nil, List.sum_cons, List.sum_nil, List.foldl_cons, List.foldl_nil, happend]
  rw [if_neg (by omega)]
  exact postWrites_unacknowledged _ hmode

/-- Without a sync stream no strict one bars the write, and a command that is ready is appended (05 R112). -/
theorem journalAppend_ready (c q i : Nat) (f : Option Nat) (fa : GrainFacts) (s : State) (x : HostCmd) (h : s.serves = true)
    (hx : s.host.cmds.find? (fun x => x.is c q i && x.fwdTag == f) = some x) (hp : x.phase = .ready) (hs : syncStream s x.nsid = none) :
    exec (.journalAppend c q i f fa) s = .next (appendCmd x fa.olds fa.resident s) := by
  show execJournalAppend c q i f fa s = _
  unfold execJournalAppend
  rw [actIO_on _ _ h]
  simp [hx, hp, strictFractured, hs]

/-! ## Vault pages (05 R116) -/

theorem vaultPageTimer_sends (s : State) (p : VaultPage) (hup : s.up = true) (hp : s.wr.pages.find? (!·.sent) = some p) :
    exec .vaultPageTimer s = .next { s.reach (p.since + 4000) with
      wr := { s.wr with pages := updateIf (!·.sent) (fun p => { p with sent := true }) s.wr.pages } } := by
  show execVaultPageTimer s = _
  unfold execVaultPageTimer
  rw [act_up _ _ hup]
  simp only [hp, us, Nat.reduceMul, State.reach_wr]

theorem vaultPageProgrammed_first (s : State) (p : VaultPage) (l : List VaultPage) (hup : s.up = true) (hp : s.wr.pages = p :: l) (hs : p.sent = true)
    (hc : p.copies = 0) : exec .vaultPageProgrammed s = .next { s with wr := { s.wr with pages := { p with copies := 1 } :: l } } := by
  show execVaultPageProgrammed s = _
  unfold execVaultPageProgrammed
  rw [act_up _ _ hup]
  simp [hp, hs, hc]

/-! ## The map update of a zero grain (05 R110, R121) -/

/-- What the state finds of a namespace stands in the store it names. -/
theorem ns_store (s : State) (i : Nat) (sh : Bool) (n : Namespace) (h : s.ns i = some (sh, n)) : (s.store sh).ns i = some n := by
  unfold State.ns at h
  split at h
  · rename_i m hm
    cases h
    exact hm
  · obtain ⟨m, hm, e⟩ := Option.map_eq_some_iff.1 h
    cases e
    exact hm

/-- In a tree with no root nothing is copied and no grain displaced: a map entry is one delta (10 R253). -/
theorem setMap_unrooted (t : Tx) (sh : Bool) (nsid key : Nat) (e : MapEntry) (n : Namespace) (hn : (t.s.store sh).ns nsid = some n) (hr : n.root = none) :
    t.setMap sh nsid key e none = t.add sh (.mapSet nsid key e) := by
  unfold Tx.setMap
  simp only [hn, hr, Option.bind_some, Store.mapGet, Option.bind_none]

@[simp] theorem store_putStore (s : State) (sh : Bool) (st : Store) : (s.putStore sh st).store sh = st := by
  cases sh <;> rfl

/-- An entry stored in the ring is found under the JSEQ of the one it replaced. -/
theorem ringEntry_putRing (e e' : RingEntry) (s : State) (h : ringEntry s e'.rec_.jseq = some e) :
    ringEntry (putRing e' s) e'.rec_.jseq = some e' := by
  have hkey : ∀ x : RingEntry, ((if (x.rec_.jseq == e'.rec_.jseq) = true then e' else x).rec_.jseq == e'.rec_.jseq) = (x.rec_.jseq == e'.rec_.jseq) := by
    intro x
    split
    · rename_i hx
      rw [hx, beq_self_eq_true]
    · rfl
  unfold ringEntry at h ⊢
  unfold putRing updateIf
  rw [List.find?_map]
  simp only [Function.comp_def, hkey, h, Option.map_some]
  rw [if_pos (by simpa using List.find?_some h)]

/-- The entry of a record when step `i` has been mapped in transaction `t`. -/
def stepMapped (e : RingEntry) (i : Nat) (t : Tx) : RingEntry :=
  { e with mapped := e.mapped ++ [i], deltas := t.local_ ++ e.deltas, remotes := t.remote ++ e.remotes }

/-- A step that is not the last leaves the transaction open in the record's entry (10 R251). -/
theorem recordMapped_part (j i : Nat) (t : Tx) (e : RingEntry) (he : ringEntry t.s j = some e) (hl : e.mapped.length + 1 ≠ recordSteps e.rec_) :
    recordMapped j i t = putRing (stepMapped e i t) t.s := by
  unfold recordMapped
  simp only [he, List.length_append, List.length_cons, List.length_nil]
  rw [if_neg (by simpa using hl)]
  rfl

/-- The transaction that maps a zero grain of a namespace. -/
def zeroMapped (sh : Bool) (nsid key : Nat) (s : State) : Tx := (Tx.start s).add sh (.mapSet nsid key .zero)

/-- A record in order maps its next zero grain without lookup or packing (05 R110). -/
theorem grainFingerprint_zero (j idx : Nat) (pt : Fin 66) (f : GrainFacts) (s : State) (e : RingEntry) (g : JGrain) (sh : Bool) (n : Namespace)
    (hp : s.pipes = true) (he : ringEntry s j = some e) (hn : s.ns e.rec_.nsid = some (sh, n)) (ho : inOrder s e = true) (hi : idx = e.mapped.length)
    (hk : e.rec_.kind = .data) (hg : e.rec_.grains[idx]? = some g) (hz : g.zero = true) (hl : e.mapped.length + 1 < e.rec_.grains.length)
    (hr : n.root = none) :
    exec (.grainFingerprint j idx pt f) s = .next (putRing
      (stepMapped e idx (zeroMapped sh e.rec_.nsid (e.rec_.slba * sectorsPerBlock n / 8 + idx) s))
      (zeroMapped sh e.rec_.nsid (e.rec_.slba * sectorsPerBlock n / 8 + idx) s).s) := by
  have hsteps : recordSteps e.rec_ = e.rec_.grains.length := by simp [recordSteps, hk]
  have hidx : ¬ e.rec_.grains.length ≤ idx := by omega
  have hpart := recordMapped_part j idx (zeroMapped sh e.rec_.nsid (e.rec_.slba * sectorsPerBlock n / 8 + idx) s) e he (by omega)
  rw [zeroMapped, ← setMap_unrooted _ _ _ _ _ n (ns_store _ _ _ _ hn) hr] at hpart ⊢
  rw [← hpart]
  show execGrainFingerprint j idx pt f s = _
  unfold execGrainFingerprint
  rw [actPipe_on _ _ hp]
  simp only [he, hn, ho, ← hi, hsteps, hidx, hk, hg, hz, bne_self_eq_false, Bool.not_true, Bool.or_self, decide_false, Bool.false_eq_true,
    beq_self_eq_true, if_true, if_false]
  rfl

/-! ## Rows and retirement (05 R114, R118, R135) -/

theorem rowSealTimer_seals (pt : Fin 68) (d : Fin 8) (s : State) (r : OpenRow) (hup : s.up = true) (hr : openRow s pt d = some r) :
    exec (.rowSealTimer pt d) s = .next (sealRow pt d (s.reach (r.lastAt + 5000000))) := by
  show execRowSealTimer pt d s = _
  unfold execRowSealTimer
  rw [act_up _ _ hup]
  simp only [hr, ms, Nat.reduceMul]

/-- A record that has passed every step retires, and the ring is reclaimed. -/
theorem journalRecordRetire_retires (j : Nat) (s : State) (e : RingEntry) (hup : s.up = true) (he : ringEntry s j = some e) (hm : mayRetire s e = true) :
    exec (.journalRecordRetire j) s = .next (reclaimRing (putRing { e with retired := true } s)) := by
  show execJournalRecordRetire j s = _
  unfold execJournalRecordRetire
  rw [act_up _ _ hup]
  simp only [he, hm, if_true]

/-! ## The guard's window (05 R140) -/

theorem guardOf_nsid (s : State) (i : Nat) : (guardOf s i).nsid = i := by
  unfold guardOf
  cases h : s.wr.stats.find? (·.nsid == i) with
  | none => rfl
  | some g => simpa using List.find?_some h

theorem guardOf_putGuard (s : State) (g : GuardStats) (i : Nat) (h : g.nsid = i) : guardOf (putGuard g s) i = g := by
  subst h
  unfold guardOf putGuard
  rw [find_putBy_same GuardStats.nsid g]
  rfl

/-- The window of a namespace a second on: an empty second in front, ten seconds in all. -/
def secondOn (g : GuardStats) : GuardStats := { g with window := List.replicate 16 0 :: g.window.take 9, hits := 0 :: g.hits.take 9 }

/-- Whatever the score does, the tick of a namespace ends by moving its window on. -/
theorem guardTick_ends (sh : Bool) (n : Namespace) (s : State) : ∃ u, guardTick sh n s = putGuard (secondOn (guardOf u n.nsid)) u := ⟨_, rfl⟩

theorem guardOf_guardTick (sh : Bool) (n : Namespace) (s : State) : ∃ u, guardOf (guardTick sh n s) n.nsid = secondOn (guardOf u n.nsid) := by
  obtain ⟨u, hu⟩ := guardTick_ends sh n s
  exact ⟨u, by rw [hu]; exact guardOf_putGuard u _ _ (guardOf_nsid u n.nsid)⟩

theorem anomalyScoreTick_one (s : State) (n : Namespace) (sh : Bool) (m : Namespace) (hup : s.up = true) (hl : s.namespaces = [n])
    (hn : s.ns n.nsid = some (sh, m)) (ho : s.owns m.group = true) :
    exec .anomalyScoreTick s = .next (guardTick sh m (s.reach ((s.now / sec + 1) * sec))) := by
  have hl' : ∀ T, (s.reach T).namespaces = [n] := fun T => by unfold State.namespaces; rw [State.reach_md]; exact hl
  have hn' : ∀ T, (s.reach T).ns n.nsid = some (sh, m) := fun T => by unfold State.ns; rw [State.reach_md]; exact hn
  have ho' : ∀ T, (s.reach T).owns m.group = true := fun T => by unfold State.owns State.owner; rw [State.reach_peer]; exact ho
  show execAnomalyScoreTick s = _
  unfold execAnomalyScoreTick
  rw [act_up _ _ hup]
  simp only [hl', List.foldl_cons, List.foldl_nil, hn', ho', if_true]

/-- Settles O23: each row is one equation of `exec`; the record of an append, the delta of a zero grain and the reclaimed ring are read off it. -/
theorem journalAndVaultPages : Obligations.JournalAndVaultPages := by
  unfold Obligations.JournalAndVaultPages
  refine ⟨?append, ?timer, vaultPageProgrammed_first, ?map, ?sealed, ?retire, ?tick⟩
  case append =>
    intro c q i f fa s x sh n h hx hp hk hn h0 h1 hsn hsx hr ha hm
    obtain ⟨b, r, g, o, hw⟩ := settleHwm_only (zeroesAppended n x s)
    refine ⟨_, freshEntry n x.fwdTag.isSome .writeZeroes x.slba x.nblk 0 [] false 0 s, journalAppend_ready c q i f fa s x h hx hp hsx, ?_⟩
    rw [appendCmd_zeroes x _ _ s sh n hn hk h0 h1 hsn hr ha hm, hw]
    exact ⟨rfl, rfl, rfl, rfl, rfl, rfl, rfl, rfl, rfl, rfl, rfl, rfl⟩
  case timer =>
    intro s p hup hp
    exact ⟨_, vaultPageTimer_sends s p hup hp, reach_now _ _, rfl, State.reach_hup _ _, State.reach_md _ _⟩
  case map =>
    intro j idx pt f s e g sh n hp he hj hn ho hi hk hg hz hl hr
    subst hj
    exact ⟨_, _, grainFingerprint_zero _ idx pt f s e g sh n hp he hn ho hi hk hg hz hl hr, ringEntry_putRing e (stepMapped e idx _) _ he, rfl,
      store_putStore _ _ _, rfl⟩
  case sealed =>
    intro pt d s r hup hr
    exact ⟨_, rowSealTimer_seals pt d s r hup hr, reach_now _ _, by rw [sealRow, State.reach_wr], State.reach_md _ _⟩
  case retire =>
    intro s e hup hring hm ho hmir hw
    have he : ringEntry s e.rec_.jseq = some e := by simp [ringEntry, hring]
    have hring' : (putRing { e with retired := true } s).wr.ring = [{ e with retired := true }] := by simp [putRing, updateIf, hring]
    obtain ⟨b, r, g, o, h⟩ := reclaim_one { e with retired := true } (putRing { e with retired := true } s) hring' rfl (beq_iff_eq.2 ho) hmir hw
    refine ⟨_, journalRecordRetire_retires _ s e hup he hm, ?_⟩
    rw [h]
    exact ⟨rfl, rfl, rfl, rfl, rfl, rfl⟩
  case tick =>
    intro s n sh m hup hl hn ho
    obtain ⟨u, hu⟩ := guardOf_guardTick sh m (s.reach ((s.now / sec + 1) * sec))
    refine ⟨_, anomalyScoreTick_one s n sh m hup hl hn ho, ?_⟩
    rw [hu]
    refine ⟨rfl, rfl, ?_⟩
    simp only [secondOn, List.length_cons, List.length_take]
    omega

end Sys2Proof.Machine

/-!
SUPPORT. Namespaces, dictionaries, snapshots, clones and locks: each command's transaction on this head's store (04 Table 4.2; 05 R131, R138; 10 R243, R264 to R268).
-/
namespace Sys2Proof.Machine

/-! ## Transactions on this head's own store (10 R243, R250) -/

/-- Deltas of this head's store as one transaction, in order. -/
def ownTx (ds : List Delta) (s : State) : State := (ds.foldl (fun t d => t.add false d) (Tx.start s)).commit

/-- A store after deltas of a head, in order. -/
def applyDeltas (head : Nat) (ds : List Delta) (st : Store) : Store := ds.foldl (fun st d => applyDelta head d st) st

theorem foldl_add_own (ds : List Delta) : ∀ t : Tx,
    (ds.foldl (fun t d => t.add false d) t).s = { t.s with md := { t.s.md with store := applyDeltas t.s.peer.head ds t.s.md.store } } := by
  induction ds with
  | nil => intro t; rfl
  | cons d ds ih => intro t; rw [List.foldl_cons, ih]; rfl

/-- One delta of its own is a transaction of one. -/
theorem oneDelta_ownTx (d : Delta) (s : State) : oneDelta false d s = ownTx [d] s := rfl

theorem ownTx_two (d e : Delta) (s : State) : ownTx [d, e] s = (((Tx.start s).add false d).add false e).commit := rfl

@[simp] theorem ownTx_store (ds : List Delta) (s : State) : (ownTx ds s).md.store = applyDeltas s.peer.head ds s.md.store := by
  rw [ownTx, commit_md_store, foldl_add_own]; rfl
@[simp] theorem ownTx_shadow (ds : List Delta) (s : State) : (ownTx ds s).md.shadow = s.md.shadow := by
  rw [ownTx, commit_md_shadow, foldl_add_own]; rfl
@[simp] theorem ownTx_wr (ds : List Delta) (s : State) : (ownTx ds s).wr = s.wr := by
  rw [ownTx, commit_wr, foldl_add_own]; rfl
@[simp] theorem ownTx_host (ds : List Delta) (s : State) : (ownTx ds s).host = s.host := by
  rw [ownTx, commit_host, foldl_add_own]; rfl
@[simp] theorem ownTx_repl (ds : List Delta) (s : State) : (ownTx ds s).repl = s.repl := by
  rw [ownTx, commit_repl, foldl_add_own]; rfl

/-! ## A task command that is one such transaction -/

theorem md_of_windowOnly (u t : State) (h : windowOnly u t) : t.md = u.md := by rw [h.1]

theorem wr_of_windowOnly (u t : State) (h : windowOnly u t) : t.wr = u.wr := by rw [h.1]

theorem ctl_of_windowOnly (u t : State) (h : windowOnly u t) : t.ctl = u.ctl := by rw [h.1]

/-- `t` has the deltas in this head's store, on top of store `st`, and neither the partner's store, the write path nor the front end of `s` changed. -/
def ownStored (ds : List Delta) (st : Store) (s t : State) : Prop :=
  t.md.store = applyDeltas s.peer.head ds st ∧ t.md.shadow = s.md.shadow ∧ t.wr = s.wr ∧ t.host = s.host

/-- A command that ends in a transaction on this head's store, as its window answers and its store shows. -/
theorem taskCmd_ownTx (t : TaskSpec) (m : List (Nat × Nat)) (r : TaskReq) (body : State → TaskOut) (s : State) (ds : List Delta) (st : Store)
    (c d : Nat) (res : List Word) (h : goes t m r s = true) (hl : res.length ≤ 30)
    (hb : body (taken t r s) = .done (ownTx ds ((taken t r s).putStore false st)) c d res) :
    ∃ x, taskCmd t m r body s = .next x ∧ answered r c d res x ∧ ownStored ds st s x := by
  obtain ⟨x, hx, ha, hw⟩ := taskCmd_op t m r body s _ c d res h hl hb
  refine ⟨x, hx, ha, ?_⟩
  unfold ownStored
  rw [md_of_windowOnly _ x hw, wr_of_windowOnly _ x hw, host_of_windowOnly _ x hw]
  simp [State.putStore]

/-- The same on the store as the command finds it. -/
theorem taskCmd_ownTx_found (t : TaskSpec) (m : List (Nat × Nat)) (r : TaskReq) (body : State → TaskOut) (s : State) (ds : List Delta)
    (c d : Nat) (res : List Word) (h : goes t m r s = true) (hl : res.length ≤ 30)
    (hb : body (taken t r s) = .done (ownTx ds (taken t r s)) c d res) :
    ∃ x, taskCmd t m r body s = .next x ∧ answered r c d res x ∧ ownStored ds s.md.store s x := by
  refine taskCmd_ownTx t m r body s ds s.md.store c d res h hl (hb.trans ?_)
  rw [← taken_md t r s]
  rfl

/-! ## NS_CREATE, NS_MODIFY, DICT_LOAD (04 Table 4.2; 05 R131, R138) -/

theorem nsCreate_creates (r : TaskReq) (s : State) (n : Namespace)
    (h : goes { opcode := 0x0201, windows := [0] } [(1, mask 32 0 ||| mask 49 40), (2, mask64), (3, mask 2 0), (4, mask 11 0)] r s = true)
    (hn : n = freshNamespace (r.argBits 1 31 0) (r.argBits 1 32 32 == 1) (r.argBits 1 49 40) (r.arg 2) (r.arg 3) (r.arg 4))
    (hi : 0 < r.argBits 1 31 0) (hi' : r.argBits 1 31 0 ≤ 65536) (hg : 0 < r.argBits 1 49 40) (hg' : r.argBits 1 49 40 ≤ 512)
    (ho : s.owns (r.argBits 1 49 40) = true) (hf : createFault (taken { opcode := 0x0201, windows := [0] } r s) n = none) :
    ∃ t, exec (.nsCreate r) s = .next t ∧ answered r cOK 0 [BitVec.ofNat 64 (r.argBits 1 31 0)] t ∧ ownStored [.nsSet n] s.md.store s t := by
  have hbad : (r.argBits 1 31 0 == 0 || decide (65536 < r.argBits 1 31 0) || r.argBits 1 49 40 == 0 || decide (512 < r.argBits 1 49 40)) = false := by
    simp only [Bool.or_eq_false_iff, beq_eq_false_iff_ne, decide_eq_false_iff_not]
    omega
  have hadd : ∀ u : State, u.owns n.group = true → addNamespace n u = ownTx [.nsSet n] u := fun u hu => by rw [addNamespace, hu]; rfl
  have hown : (taken { opcode := 0x0201, windows := [0] } r s).owns n.group = true := by rw [taken_owns, hn]; exact ho
  refine taskCmd_ownTx_found _ _ r _ s _ cOK 0 _ h (by simp) ?_
  simp only [hbad, Bool.false_eq_true, if_false, ← hn, hf, hadd _ hown]

/-- With the level alone selected, every other setting stays (05 Table 5.5). -/
theorem modified_level (r : TaskReq) (n : Namespace) (h : r.arg 2 = 2) : modified r n = { n with level := r.argBits 3 11 8 } := by
  have hb : ∀ b, (2 : Nat).testBit b = decide (b = 1) := fun b => by simpa [eq_comm] using Nat.testBit_two_pow (n := 1) (m := b)
  simp [modified, h, hb]

theorem nsModify_level (r : TaskReq) (s : State) (n : Namespace)
    (h : goes { opcode := 0x0203, windows := [0] }
       [(1, mask 31 0), (2, mask 6 0), (3, mask 2 0 ||| mask 12 8 ||| mask 19 16 ||| mask 29 20 ||| mask 36 32), (4, mask64)] r s = true)
    (hn : s.ns (r.arg 1) = some (false, n)) (ho : s.owns n.group = true) (hsel : r.arg 2 = 2) (h1 : 1 ≤ r.argBits 3 11 8) (h12 : r.argBits 3 11 8 ≤ 12) :
    ∃ t, exec (.nsModify r) s = .next t ∧ answered r cOK 0 [] t ∧ ownStored [.nsSet { n with level := r.argBits 3 11 8 }] s.md.store s t := by
  have hb : ∀ b, (2 : Nat).testBit b = decide (b = 1) := fun b => by simpa [eq_comm] using Nat.testBit_two_pow (n := 1) (m := b)
  have hlevel : (r.argBits 3 11 8 == 0 || decide (12 < r.argBits 3 11 8)) = false := by
    rw [Bool.or_eq_false_iff, beq_eq_false_iff_ne, decide_eq_false_iff_not]
    omega
  refine taskCmd_ownTx_found _ _ r _ s _ cOK 0 _ h (by simp) ?_
  simp [taken_ns, hn, taken_owns, ho, hsel, hb, modified_level r n hsel, hlevel, oneDelta_ownTx]

/-- Where every dictionary is still named, none is dropped. -/
theorem dropDicts_named (s : State) : dropDicts [] s = s := by
  simp [dropDicts, Tx.commit, Tx.start]

/-- The ID that the next dictionary of this head takes: bit 30 is the head (log 39). -/
def nextDict (s : State) : Nat := s.peer.head * 2 ^ 30 + s.md.store.dictNext

/-- The job of DICT_LOAD: bulk data, the dictionary's ID as its result. -/
def dictPlan (s : State) : JobPlan := { bulk := true, results := [BitVec.ofNat 64 (nextDict s)] }

@[simp] theorem putStore_peer (s : State) (sh : Bool) (st : Store) : (s.putStore sh st).peer = s.peer := rfl

/-- What that job leaves: the dictionary stored under its ID, and current in the namespace (05 R131). -/
def dictTaken (n : Namespace) (b : List Byte) (id : Nat) (s : State) : State :=
  ownTx [.dictSet { id := id, data := b }, .nsSet { n with dict := id }] (s.putStore false { s.md.store with dictNext := s.md.store.dictNext + 1 })

/-- The row of DICT_LOAD: it takes the bytes that ARG2 declares (05 Table 5.5). -/
def dictSpec (r : TaskReq) : TaskSpec :=
  { opcode := 0x0207, windows := [0], bulk := .take (if 1 ≤ r.arg 2 && r.arg 2 ≤ 65536 then some (r.arg 2) else none) }

theorem dictLoad_loads (r : TaskReq) (b : List Byte) (s : State) (n : Namespace) (k : Nat) (h : goes (dictSpec r) [(1, mask64), (2, mask64)] r s = true)
    (hn : s.ns (r.arg 1) = some (false, n)) (ho : s.owns n.group = true) (h1 : 1 ≤ r.arg 2) (h2 : r.arg 2 ≤ 65536)
    (hd : s.md.store.dicts.length + s.md.shadow.dicts.length < 4096) (hf : r.bulkFault = none) (hk : freeRecord r.window s = some k) :
    ∃ t, exec (.dictLoad r b true []) s = .next t ∧ answered r cACCEPTED 0 [handleOf (plannedJob 0x0207 r (dictPlan s) s k)] t ∧
      windowOnly (dictTaken n b (nextDict s) (withJob 0x0207 r (dictPlan s) (taken (dictSpec r) r s) k)) t := by
  have hlen : (r.arg 2 == 0 || decide (65536 < r.arg 2)) = false := by
    rw [Bool.or_eq_false_iff, beq_eq_false_iff_ne, decide_eq_false_iff_not]
    omega
  refine taskCmd_jobOp (dictSpec r) _ r _ s 0x0207 k (dictPlan s) (fun _ u => dictTaken n b (nextDict s) u) h hk ?_
  simp only [dropDicts_named, taken_ns, hn, taken_owns, ho, hlen, taken_md, taken_peer, Bool.not_true, Bool.false_eq_true, if_false]
  rw [if_neg (by omega), moved_whole r _ hf]
  simp only [dictPlan, dictTaken, nextDict, ownTx_two]

/-! ## Snapshots, clones and locks (10 R264 to R268) -/

theorem nextSnap_taken (t : TaskSpec) (r : TaskReq) (s : State) : nextSnap (taken t r s) = nextSnap s := by
  unfold nextSnap; rw [taken_md, taken_peer]

theorem snapCount_taken (t : TaskSpec) (r : TaskReq) (s : State) : snapCount (taken t r s) = snapCount s := by
  unfold snapCount State.namespaces; rw [taken_md]

theorem snapsFull_taken (t : TaskSpec) (r : TaskReq) (s : State) (n : Namespace) : snapsFull (taken t r s) n = snapsFull s n := by
  unfold snapsFull; rw [snapCount_taken]

/-- The snapshot that SNAP_CREATE takes of a namespace: no root yet, its CUT the next JSEQ (10 R265). -/
def newSnap (n : Namespace) (wall : Nat) (s : State) : Snapshot :=
  { id := nextSnap s, nsid := n.nsid, cut := s.wr.jseqNext, wall := wall, lock := .none, root := none, size := n.size, guard := false, st := .cutting,
    clones := 0 }

theorem takeSnapshot_own (n : Namespace) (s : State) :
    takeSnapshot false n false .none s = (nextSnap s, ownTx [.snapSet (newSnap n (s.wall.getD 0) s), .nsSet { n with snaps := n.snaps + 1 }]
      (s.putStore false { s.md.store with snapNext := nextSnap s % 2 ^ 31 + 1 })) := by
  simp only [takeSnapshot, newSnap, ownTx_two]

theorem snapCreate_takes (r : TaskReq) (s : State) (n : Namespace) (h : goes { opcode := 0x0301, windows := [0] } [(1, mask 31 0)] r s = true)
    (hn : s.ns (r.arg 1) = some (false, n)) (ho : s.owns n.group = true) (hd : n.deleting = false) (hf : snapsFull s n = false) :
    ∃ t, exec (.snapCreate r) s = .next t ∧ answered r cOK 0 [BitVec.ofNat 64 (nextSnap s), BitVec.ofNat 64 s.wr.jseqNext] t ∧
      ownStored [.snapSet (newSnap n ((taken { opcode := 0x0301, windows := [0] } r s).wall.getD 0) s), .nsSet { n with snaps := n.snaps + 1 }]
        { s.md.store with snapNext := nextSnap s % 2 ^ 31 + 1 } s t := by
  refine taskCmd_ownTx _ _ r _ s _ _ cOK 0 _ h (by simp) ?_
  simp only [taken_ns, hn, taken_owns, ho, hd, snapsFull_taken, hf, Bool.not_true, Bool.false_eq_true, if_false, takeSnapshot_own, newSnap,
    nextSnap_taken, taken_wr, taken_md]

/-- With no clone that waits for it, a snapshot whose CUT is reached takes its namespace's root in one delta (10 R265). -/
theorem snapReady_roots (id : Nat) (s : State) (x : Snapshot) (hx : s.snap id = some (false, x)) (hst : x.st = .cutting)
    (hc : reachedCut s x.nsid x.cut = true) (hn : ∀ n ∈ s.md.store.nss, n.clone = false) :
    snapReady id s = ownTx [.snapSet { x with root := (s.md.store.ns x.nsid).bind (·.root), st := .ready }] s := by
  have hclones : (s.md.store.nss.filter fun n => n.clone && n.origin == id && n.root.isNone) = [] :=
    List.filter_eq_nil_iff.2 fun n hm => by simp [hn n hm]
  unfold snapReady
  simp only [hx, hst, hc, State.store, Bool.false_eq_true, if_false, hclones, List.foldl_nil, bne_self_eq_false, Bool.not_true, Bool.or_self]
  rfl

theorem snapshotReady_roots (id : Nat) (fps : List (Nat × BitVec 256)) (s : State) (x : Snapshot) (hup : s.up = true) (hx : s.snap id = some (false, x))
    (hst : x.st = .cutting) (hc : reachedCut s x.nsid x.cut = true) (hn : ∀ n ∈ s.md.store.nss, n.clone = false) (hr : s.repl.streams = []) :
    exec (.snapshotReady id fps) s = .next (ownTx [.snapSet { x with root := (s.md.store.ns x.nsid).bind (·.root), st := .ready }] s) := by
  have hstreams : (snapReady id s).repl.streams = [] := by rw [snapReady_roots id s x hx hst hc hn, ownTx_repl, hr]
  rw [← snapReady_roots id s x hx hst hc hn]
  show execSnapshotReady id fps s = _
  unfold execSnapshotReady
  rw [act_up _ _ hup]
  generalize snapReady id s = u at hstreams ⊢
  simp only [hstreams, List.filter_nil, List.foldl_nil, ite_self]

/-- A snapshot on its way out, for the job in record `k` (10 R267). -/
def snapLeaves (k : Nat) (x : Snapshot) (s : State) : State :=
  let u := oneDelta false (.snapSet { x with st := .deleting }) s
  settleDeletes { u with md := { u.md with deletes := u.md.deletes ++ [(k, 0, x.id)] } }

theorem snapDelete_begins (r : TaskReq) (s : State) (x : Snapshot) (k : Nat) (h : goes { opcode := 0x0302, windows := [0] } [(1, mask64)] r s = true)
    (hx : s.snap (r.arg 1) = some (false, x)) (hl : locked (taken { opcode := 0x0302, windows := [0] } r s) x.lock = false) (hst : x.st ≠ .deleting)
    (hk : freeRecord r.window s = some k) :
    ∃ t, exec (.snapDelete r) s = .next t ∧ answered r cACCEPTED 0 [handleOf (plannedJob 0x0302 r {} s k)] t ∧
      windowOnly (snapLeaves k x (withJob 0x0302 r {} (taken { opcode := 0x0302, windows := [0] } r s) k)) t := by
  refine taskCmd_jobOp _ _ r _ s 0x0302 k {} (fun k s => snapLeaves k x s) h hk ?_
  simp only [taken_snap, hx, hl, beq_eq_false_iff_ne.2 hst, Bool.false_and, Bool.false_eq_true, if_false]
  rfl

theorem nsDelete_begins (r : TaskReq) (s : State) (n : Namespace) (k : Nat) (h : goes { opcode := 0x0202, windows := [0] } [(1, mask64)] r s = true)
    (hn : s.ns (r.arg 1) = some (false, n)) (ho : s.owns n.group = true) (hd : n.deleting = false) (hs : s.md.store.snaps = [])
    (hk : freeRecord r.window s = some k) :
    ∃ t, exec (.nsDelete r) s = .next t ∧ answered r cACCEPTED 0 [handleOf (plannedJob 0x0202 r {} s k)] t ∧
      windowOnly (deleteNamespace k false n (withJob 0x0202 r {} (taken { opcode := 0x0202, windows := [0] } r s) k)) t := by
  refine taskCmd_jobOp _ _ r _ s 0x0202 k {} (fun k s => deleteNamespace k false n s) h hk ?_
  simp [taken_ns, hn, taken_owns, ho, hd, State.store, hs]

/-- The namespace that CLONE_CREATE makes of snapshot `x` of namespace `o` (10 R266). -/
def cloneOf (r : TaskReq) (x : Snapshot) (o : Namespace) : Namespace :=
  { o with nsid := r.argBits 2 31 0, clone := true, deleting := false, conflict := false, size := x.size, group := r.argBits 2 49 40, profile := r.arg 3,
           root := x.root, origin := x.id, snaps := 0, rsv := (freshNamespace 0 false 0 0 0 0).rsv }

theorem cloneCreate_clones (r : TaskReq) (s : State) (x : Snapshot) (o n : Namespace)
    (h : goes { opcode := 0x0303, windows := [0] } [(1, mask64), (2, mask 31 0 ||| mask 49 40), (3, mask 2 0)] r s = true)
    (hx : s.snap (r.arg 1) = some (false, x)) (ho : s.md.store.ns x.nsid = some o) (hn : n = cloneOf r x o)
    (hi : 0 < n.nsid) (hi' : n.nsid ≤ 65536) (hg : 0 < n.group) (hg' : n.group ≤ 512) (hoo : s.owns o.group = true) (hon : s.owns n.group = true)
    (hnew : (s.ns n.nsid).isSome = false) (hst : x.st ≠ .deleting)
    (hsc : scopeOf (taken { opcode := 0x0303, windows := [0] } r s) n = scopeOf (taken { opcode := 0x0303, windows := [0] } r s) o)
    (hcode : noCode (taken { opcode := 0x0303, windows := [0] } r s) n.profile = false)
    (hroom : s.namespaces.length < 65536) (hsnaps : snapCount s < 1048576) :
    ∃ t, exec (.cloneCreate r) s = .next t ∧ answered r cOK 0 [BitVec.ofNat 64 n.nsid] t ∧
      ownStored [.nsSet n, .snapSet { x with clones := x.clones + 1 }] s.md.store s t := by
  have hid : n.nsid = r.argBits 2 31 0 := by rw [hn]; rfl
  have hgr : n.group = r.argBits 2 49 40 := by rw [hn]; rfl
  have hprof : n.profile = r.arg 3 := by rw [hn]; rfl
  have hbad : (n.nsid == 0 || decide (65536 < n.nsid) || n.group == 0 || decide (512 < n.group)) = false := by
    simp only [Bool.or_eq_false_iff, beq_eq_false_iff_ne, decide_eq_false_iff_not]
    omega
  have hfull : ∀ u : State, u.md = s.md → (decide (65536 ≤ u.namespaces.length) || decide (1048576 ≤ snapCount u)) = false := by
    intro u hu
    unfold snapCount State.namespaces at *
    rw [hu, Bool.or_eq_false_iff, decide_eq_false_iff_not, decide_eq_false_iff_not]
    omega
  refine taskCmd_ownTx_found _ _ r _ s _ cOK 0 _ h (by simp) ?_
  have hstore : (taken { opcode := 0x0303, windows := [0] } r s).store false = s.md.store := by simp [State.store]
  unfold cloneOf at hn
  simp only [taken_snap, hx, hstore, ho, ← hn]
  simp only [← hid, ← hgr, hbad, taken_owns, hoo, hon, taken_ns, hnew, hsc, ← hprof, hcode, hfull _ (taken_md _ r s),
    Bool.not_true, Bool.or_self, Bool.false_eq_true, if_false, bne_self_eq_false, beq_eq_false_iff_ne.2 hst]
  rfl

theorem snapLock_removes (r : TaskReq) (s : State) (x : Snapshot)
    (h : goes { opcode := 0x0304, windows := [0, 1] } [(1, mask64), (2, mask64)] r s = true) (hw : r.window = 1) (h0 : r.arg 2 = 0)
    (hx : s.snap (r.arg 1) = some (false, x)) (hst : x.st ≠ .deleting) (hl : x.lock ≠ .none) :
    ∃ t, exec (.snapLock r) s = .next t ∧ answered r cOK 0 [0] t ∧ ownStored [.snapSet { x with lock := .none }] s.md.store s t := by
  refine taskCmd_ownTx_found _ _ r _ s _ cOK 0 _ h (by simp) ?_
  simp [taken_snap, hx, hw, h0, hst, hl, lockWord, oneDelta_ownTx]

/-- Where no snapshot is kept the list that leaves the part is empty (10 R263). -/
theorem snapList_empty (r : TaskReq) (s : State) (k : Nat)
    (h : goes { opcode := 0x0305, windows := [0, 3], bulk := .give none } [(1, mask 31 0), (2, mask64)] r s = true)
    (hlen : bits r.bulkCtrl 31 0 % 128 = 0) (hf : r.bulkFault = none) (hs : s.md.store.snaps = []) (hs' : s.md.shadow.snaps = [])
    (hk : freeRecord r.window s = some k) :
    ∃ t, exec (.snapList r) s = .next t ∧ answered r cACCEPTED 0 [handleOf (plannedJob 0x0305 r { bulk := true, results := [0] } s k)] t ∧
      windowOnly ((withJob 0x0305 r { bulk := true, results := [0] } (taken { opcode := 0x0305, windows := [0, 3], bulk := .give none } r s) k).send
        (.bulkSnaps [])) t := by
  refine taskCmd_jobOp _ _ r _ s 0x0305 k { bulk := true, results := [0] } (fun _ u => u.send (.bulkSnaps [])) h hk ?_
  simp only [hlen, taken_md, hs, hs', bne_self_eq_false, Bool.false_eq_true, if_false, moved_whole r _ hf, List.append_nil, List.foldl_nil, List.filter_nil,
    List.filterMap_nil, List.drop_nil, List.take_nil, List.length_nil]
  rfl

theorem withJob_ctl_taken (t : TaskSpec) (op : Nat) (r : TaskReq) (p : JobPlan) (s : State) (k : Nat) :
    (withJob op r p (taken t r s) k).ctl = (withJob op r p s k).ctl := by
  simp [withJob, plannedJob]

/-- Settles O27: each command is one transaction on this head's store, or one job whose effect is seen past its window. -/
theorem namespacesAndSnapshotsAreTransactions : Obligations.NamespacesAndSnapshotsAreTransactions := by
  unfold Obligations.NamespacesAndSnapshotsAreTransactions
  refine ⟨?create, ?modify, ?dict, ?snap, ?ready, ?delete, nsDelete_begins, ?clone, ?lock, ?list⟩
  case create =>
    intro r s n h hn hi hi' hg hg' ho hf
    obtain ⟨t, he, ha, hst, hsh, hwr, hh⟩ := nsCreate_creates r s n h hn hi hi' hg hg' ho hf
    exact ⟨t, he, ha, hst, by rw [hst]; exact applyDelta_nsSet s.peer.head n _, hsh, hh, hwr⟩
  case modify =>
    intro r s n h hn ho hsel h1 h12
    obtain ⟨t, he, ha, hst, hsh, hwr, hh⟩ := nsModify_level r s n h hn ho hsel h1 h12
    exact ⟨t, he, ha, hst, hsh, hh, hwr⟩
  case dict =>
    intro r b s n k h hn ho h1 h2 hd hf hk
    obtain ⟨t, he, ha, hw⟩ := dictLoad_loads r b s n k h hn ho h1 h2 hd hf hk
    have hmd : (withJob 0x0207 r (dictPlan s) (taken (dictSpec r) r s) k).md = s.md := taken_md _ r s
    have hpeer : (withJob 0x0207 r (dictPlan s) (taken (dictSpec r) r s) k).peer = s.peer := taken_peer _ r s
    refine ⟨dictPlan s, t, he, rfl, ha, ?_⟩
    rw [md_of_windowOnly _ t hw, dictTaken, ownTx_store, putStore_peer, hpeer, State.putStore, hmd]
    rfl
  case snap =>
    intro r s n h hn ho hd hf
    obtain ⟨t, he, ha, hst, -, hwr, hh⟩ := snapCreate_takes r s n h hn ho hd hf
    exact ⟨t, he, ha, hst, hwr, hh⟩
  case ready =>
    intro id fps s x hup hx hst hc hn hr
    exact ⟨_, snapshotReady_roots id fps s x hup hx hst hc hn hr, ownTx_store _ _, ownTx_wr _ _, ownTx_host _ _⟩
  case delete =>
    intro r s x k h hx hl hst hk
    obtain ⟨t, ht⟩ := snapDelete_begins r s x k h hx hl hst hk
    exact ⟨_, t, rfl, ht⟩
  case clone =>
    intro r s x o n h hx ho hn hi hi' hg hg' hoo hon hnew hst hsc hcode hroom hsnaps
    obtain ⟨t, he, ha, hst, -, hwr, hh⟩ := cloneCreate_clones r s x o n h hx ho hn hi hi' hg hg' hoo hon hnew hst hsc hcode hroom hsnaps
    exact ⟨t, he, ha, hst, hwr, hh⟩
  case lock =>
    intro r s x h hw h0 hx hst hl
    obtain ⟨t, he, ha, hst, -, hwr, hh⟩ := snapLock_removes r s x h hw h0 hx hst hl
    exact ⟨t, he, ha, hst, hwr, hh⟩
  case list =>
    intro r s k h hlen hf hs hs' hk
    obtain ⟨t, he, ha, hw⟩ := snapList_empty r s k h hlen hf hs hs' hk
    exact ⟨t, he, ha, by rw [ctl_of_windowOnly _ t hw, send_ctl, withJob_ctl_taken], by rw [md_of_windowOnly _ t hw, send_md]; exact taken_md _ r s⟩

end Sys2Proof.Machine

/-!
SUPPORT. The hypotheses of the write path's statements are met: boards on which its rows and its task commands act, at the bounds where a clause has one.
-/
namespace Sys2Proof.Machine

/-! ## Records, vault pages, rows, the guard's window -/

/-- A Write Zeroes of the last 1 MiB of namespace 1, ready for the journal. -/
def witnessZeroes : HostCmd := { newCmd (witnessCapsule 256 256) .writeZeroes [] none [] 0 0 0 witnessHost with phase := .ready }

/-- 1 MiB is one record: its JSEQ is 0 and the next one 1. -/
theorem journalAppend_witness (fa : GrainFacts) :
    ∃ t, exec (.journalAppend 1 1 5 none fa) (hostBoard [witnessZeroes]) = .next t ∧ t.wr.jseqNext = 1 ∧ t.wr.ring.map (·.rec_.nblk) = [256] := by
  obtain ⟨t, e, ht, hring, -, -, -, -, hlen, -, -, -, hnext, -⟩ := journalAndVaultPages.1 1 1 5 none fa (hostBoard [witnessZeroes]) witnessZeroes false
    witnessSpace rfl rfl rfl rfl rfl (by decide) (by decide) rfl rfl (by decide) rfl rfl
  refine ⟨t, ht, hnext, ?_⟩
  rw [hring, List.map_append, List.map_cons, hlen]
  rfl

/-- A vault page of one record, open since 7 ns. -/
def witnessPage : VaultPage := { bytes := 128, records := [(0, true)], since := 7, copies := 0, sent := false }

/-- A row of PT 0 in domain 0, with its last grain at 9 ns. -/
def witnessRow : OpenRow := { pt := 0, domain := 0, segment := 0, row := 1, member := 0, used := 0, grains := [], lastAt := 9, sealed := false, done := [] }

/-- The record of a Write of two zero grains to namespace 1, with `k` of its steps mapped. -/
def witnessRecord (k : Nat) (logged : Bool) : RingEntry :=
  { freshEntry witnessSpace false .data 510 2 0 (List.replicate 2 { crc := 0, mask := 255, zero := true, data := [] }) false 0 State.reset with
    mapped := List.range k, logged := logged }

/-- A board that serves namespace 1 with these pages and rows and this record. -/
def pathBoard (e : RingEntry) (pages : List VaultPage) : State :=
  { hostBoard [] with wr := { WriteState.reset with ring := [e], jseqNext := 1, pages := pages, rows := [witnessRow] } }

/-- The page goes out 4 µs after its first record. -/
theorem vaultPageTimer_witness :
    ∃ t, exec .vaultPageTimer (pathBoard (witnessRecord 0 false) [witnessPage]) = .next t ∧ t.now = 4007 ∧
      t.wr.pages = [{ witnessPage with sent := true }] := by
  refine ⟨_, vaultPageTimer_sends (pathBoard (witnessRecord 0 false) [witnessPage]) witnessPage rfl rfl, (reach_now _ _).trans (by decide), rfl⟩

/-- Its first copy counts. -/
theorem vaultPageProgrammed_witness :
    ∃ t, exec .vaultPageProgrammed (pathBoard (witnessRecord 0 false) [{ witnessPage with sent := true }]) = .next t ∧
      t.wr.pages = [{ witnessPage with sent := true, copies := 1 }] :=
  ⟨_, vaultPageProgrammed_first (pathBoard (witnessRecord 0 false) [{ witnessPage with sent := true }]) _ [] rfl rfl rfl rfl, rfl⟩

/-- The first of two zero grains is mapped at block 510. -/
theorem grainFingerprint_witness (f : GrainFacts) :
    ∃ t, exec (.grainFingerprint 0 0 0 f) (pathBoard (witnessRecord 0 false) []) = .next t ∧ t.wr.ring.map (·.mapped) = [[0]] ∧
      (t.md.store.ns 1).bind (·.root) = some 2 :=
  ⟨_, grainFingerprint_zero 0 0 0 f (pathBoard (witnessRecord 0 false) []) (witnessRecord 0 false) { crc := 0, mask := 255, zero := true, data := [] }
    false witnessSpace rfl rfl rfl (by decide) rfl rfl rfl rfl (by decide) rfl, rfl, by decide⟩

/-- The open row is sealed 5 ms after its last grain. -/
theorem rowSealTimer_witness :
    ∃ t, exec (.rowSealTimer 0 0) (pathBoard (witnessRecord 0 false) []) = .next t ∧ t.now = 5000009 ∧ t.wr.rows = [{ witnessRow with sealed := true }] :=
  ⟨_, rowSealTimer_seals 0 0 (pathBoard (witnessRecord 0 false) []) witnessRow rfl rfl, (reach_now _ _).trans (by decide), rfl⟩

/-- With both steps mapped and logged the record retires: the ring is empty up to JSEQ 1. -/
theorem journalRecordRetire_witness :
    ∃ t, exec (.journalRecordRetire 0) (pathBoard (witnessRecord 2 true) []) = .next t ∧ t.wr.ring = [] ∧ t.wr.jseqRetired = 1 := by
  obtain ⟨t, ht, hring, hret, -⟩ := journalAndVaultPages.2.2.2.2.2.1 (pathBoard (witnessRecord 2 true) []) (witnessRecord 2 true) rfl rfl (by decide) rfl
    rfl rfl
  exact ⟨t, ht, hring, hret⟩

/-- At the first second an empty second enters the window. -/
theorem anomalyScoreTick_witness :
    ∃ t, exec .anomalyScoreTick (hostBoard []) = .next t ∧ (guardOf t 1).window.head? = some (List.replicate 16 0) := by
  obtain ⟨t, ht, hw, -⟩ := journalAndVaultPages.2.2.2.2.2.2 (hostBoard []) witnessSpace false witnessSpace rfl rfl rfl (by decide)
  exact ⟨t, ht, hw⟩

/-! ## Namespaces, snapshots, clones and locks -/

/-- Namespace 65,536 in group 512, of 512-byte blocks. -/
theorem nsCreate_witness :
    ∃ t, exec (.nsCreate (witnessRequest [BitVec.ofNat 64 (65536 + 2 ^ 32 * 0 + 2 ^ 40 * 512), 8, 0, 0] 0)) (hostBoard []) = .next t ∧
      t.md.store.ns 65536 = some (freshNamespace 65536 false 512 8 0 0) := by
  obtain ⟨t, ht, -, -, hns, -⟩ := namespacesAndSnapshotsAreTransactions.1
    (witnessRequest [BitVec.ofNat 64 (65536 + 2 ^ 32 * 0 + 2 ^ 40 * 512), 8, 0, 0] 0) (hostBoard []) (freshNamespace 65536 false 512 8 0 0)
    ((goes_iff _ _ _ _).2 ⟨rfl, rfl, rfl, rfl, by decide, by decide, by decide, rfl, by decide, by decide⟩)
    (by decide) (by decide) (by decide) (by decide) (by decide) (by decide) (by decide)
  exact ⟨t, ht, hns⟩

/-- The level of namespace 1 becomes 12, the highest. -/
theorem nsModify_witness :
    ∃ t, exec (.nsModify (witnessRequest [1, 2, 0xC00, 0] 0)) (hostBoard []) = .next t ∧ t.md.store.ns 1 = some { witnessSpace with level := 12 } := by
  obtain ⟨t, ht, -, hst, -⟩ := nsModify_level (witnessRequest [1, 2, 0xC00, 0] 0) (hostBoard []) witnessSpace
    ((goes_iff _ _ _ _).2 ⟨rfl, rfl, rfl, rfl, by decide, by decide, by decide, rfl, by decide, by decide⟩)
    rfl (by decide) (by decide) (by decide) (by decide)
  exact ⟨t, ht, by rw [hst]; decide⟩

/-- A dictionary of 65,536 bytes is the first of head 0. -/
theorem dictLoad_witness (b : List Byte) :
    ∃ t, exec (.dictLoad (witnessRequest [1, 0x10000] 0x10000) b true []) (hostBoard []) = .next t ∧
      windowOnly (dictTaken witnessSpace b (nextDict (hostBoard [])) (withJob 0x0207 (witnessRequest [1, 0x10000] 0x10000) (dictPlan (hostBoard []))
        (taken (dictSpec (witnessRequest [1, 0x10000] 0x10000)) (witnessRequest [1, 0x10000] 0x10000) (hostBoard [])) 0)) t := by
  obtain ⟨t, ht, -, hw⟩ := dictLoad_loads (witnessRequest [1, 0x10000] 0x10000) b (hostBoard []) witnessSpace 0
    ((goes_iff _ _ _ _).2 ⟨rfl, rfl, rfl, rfl, by decide, by decide, by decide, rfl, by decide, by decide⟩)
    rfl (by decide) (by decide) (by decide) (by decide) rfl (freeRecord_of_no_jobs _ _ rfl)
  exact ⟨t, ht, hw⟩

/-- The first snapshot of namespace 1 counts on it. -/
theorem snapCreate_witness :
    ∃ t, exec (.snapCreate (witnessRequest [1] 0)) (hostBoard []) = .next t ∧ t.md.store.ns 1 = some { witnessSpace with snaps := 1 } := by
  obtain ⟨t, ht, -, hst, -⟩ := snapCreate_takes (witnessRequest [1] 0) (hostBoard []) witnessSpace
    ((goes_iff _ _ _ _).2 ⟨rfl, rfl, rfl, rfl, by decide, by decide, by decide, rfl, by decide, by decide⟩) rfl (by decide) rfl (by decide)
  exact ⟨t, ht, by rw [hst]; decide⟩

/-- Snapshot 3 of namespace 1, in state `st` and under lock `l`. -/
def witnessSnap (st : SnapState) (l : Lock) : Snapshot :=
  { id := 3, nsid := 1, cut := 0, wall := 0, lock := l, root := none, size := 512, guard := false, st := st, clones := 0 }

/-- A board that keeps that snapshot. -/
def snapBoard (st : SnapState) (l : Lock) : State :=
  { hostBoard [] with md := { MetaState.reset with store := { MetaState.reset.store with nss := [witnessSpace], snaps := [witnessSnap st l] } } }

/-- Nothing is left to map before its CUT: the snapshot is READY. -/
theorem snapshotReady_witness :
    ∃ t, exec (.snapshotReady 3 []) (snapBoard .cutting .none) = .next t ∧ t.md.store.snaps = [witnessSnap .ready .none] :=
  ⟨_, snapshotReady_roots 3 [] (snapBoard .cutting .none) (witnessSnap .cutting .none) rfl rfl rfl (by decide) (by decide) rfl,
    (congrArg Store.snaps (ownTx_store _ _)).trans (by decide)⟩

/-- A deletion of the unlocked snapshot takes record 0. -/
theorem snapDelete_witness :
    ∃ t, exec (.snapDelete (witnessRequest [3] 0)) (snapBoard .ready .none) = .next t ∧
      windowOnly (snapLeaves 0 (witnessSnap .ready .none) (withJob 0x0302 (witnessRequest [3] 0) {}
        (taken { opcode := 0x0302, windows := [0] } (witnessRequest [3] 0) (snapBoard .ready .none)) 0)) t := by
  obtain ⟨t, ht, -, hw⟩ := snapDelete_begins (witnessRequest [3] 0) (snapBoard .ready .none) (witnessSnap .ready .none) 0
    ((goes_iff _ _ _ _).2 ⟨rfl, rfl, rfl, rfl, by decide, by decide, by decide, rfl, by decide, by decide⟩) rfl rfl (by decide) (freeRecord_of_no_jobs _ _ rfl)
  exact ⟨t, ht, hw⟩

/-- A deletion of namespace 1, which has no snapshot, takes record 0. -/
theorem nsDelete_witness :
    ∃ t, exec (.nsDelete (witnessRequest [1] 0)) (hostBoard []) = .next t ∧
      windowOnly (deleteNamespace 0 false witnessSpace (withJob 0x0202 (witnessRequest [1] 0) {}
        (taken { opcode := 0x0202, windows := [0] } (witnessRequest [1] 0) (hostBoard [])) 0)) t := by
  obtain ⟨t, ht, -, hw⟩ := nsDelete_begins (witnessRequest [1] 0) (hostBoard []) witnessSpace 0
    ((goes_iff _ _ _ _).2 ⟨rfl, rfl, rfl, rfl, by decide, by decide, by decide, rfl, by decide, by decide⟩) rfl (by decide) rfl rfl (freeRecord_of_no_jobs _ _ rfl)
  exact ⟨t, ht, hw⟩

/-- A clone of the snapshot as namespace 65,536 in group 1. -/
theorem cloneCreate_witness :
    ∃ t, exec (.cloneCreate (witnessRequest [3, 0x10000010000, 0] 0)) (snapBoard .ready .none) = .next t ∧
      t.md.store.ns 65536 = some (cloneOf (witnessRequest [3, 0x10000010000, 0] 0) (witnessSnap .ready .none) witnessSpace) := by
  obtain ⟨t, ht, -, hst, -⟩ := cloneCreate_clones (witnessRequest [3, 0x10000010000, 0] 0) (snapBoard .ready .none) (witnessSnap .ready .none) witnessSpace _
    ((goes_iff _ _ _ _).2 ⟨rfl, rfl, rfl, rfl, by decide, by decide, by decide, rfl, by decide, by decide⟩)
    rfl rfl rfl (by decide) (by decide) (by decide) (by decide) (by decide) (by decide) (by decide) (by decide) (by decide) (by decide) (by decide) (by decide)
  exact ⟨t, ht, by rw [hst]; decide⟩

/-- A request of window 1 by the management session. -/
def sessionRequest (args : List Word) : TaskReq := { witnessRelens with window := 1, path := .session, args := args }

/-- The board that keeps the locked snapshot, with a management session. -/
def lockedBoard : State := { snapBoard .ready (.hours 1) with ctl := { (snapBoard .ready (.hours 1)).ctl with session := true } }

/-- The session removes the lock. -/
theorem snapLock_witness :
    ∃ t, exec (.snapLock (sessionRequest [3, 0])) lockedBoard = .next t ∧ t.md.store.snaps = [witnessSnap .ready .none] := by
  obtain ⟨t, ht, -, hst, -⟩ := snapLock_removes (sessionRequest [3, 0]) lockedBoard (witnessSnap .ready (.hours 1))
    ((goes_iff _ _ _ _).2 ⟨rfl, rfl, rfl, rfl, by decide, by decide, by decide, rfl, by decide, by decide⟩) rfl (by decide) rfl (by decide) (by decide)
  exact ⟨t, ht, by rw [hst]; decide⟩

/-- A list of at most one snapshot, of which there is none. -/
theorem snapList_witness :
    ∃ t, exec (.snapList (witnessRequest [0, 0] (2 ^ 32 + 128))) (hostBoard []) = .next t ∧ t.md = (hostBoard []).md := by
  obtain ⟨t, ht, -, hw⟩ := snapList_empty (witnessRequest [0, 0] (2 ^ 32 + 128)) (hostBoard []) 0
    ((goes_iff _ _ _ _).2 ⟨rfl, rfl, rfl, rfl, by decide, by decide, by decide, rfl, by decide, by decide⟩) (by decide) rfl rfl rfl (freeRecord_of_no_jobs _ _ rfl)
  exact ⟨t, ht, by rw [md_of_windowOnly _ t hw, send_md]; exact taken_md _ _ _⟩

end Sys2Proof.Machine

/-!
SUPPORT. The read path: codewords, verified and reconstructed grains, journal copies, repairs, rows that program (06 R145 to R153; 07 R172, R173; 09 R239).
-/
namespace Sys2Proof.Machine

/-! ## Codewords (09 R239, Table 9.9) -/

/-- Table 9.9 allows a module that has a set at least the attempt at its first one. -/
theorem hardAttempts_pos (s : State) (m : Module) (h : 0 < m.desc.retrySets) : 0 < hardAttempts s m := by
  unfold hardAttempts
  omega

theorem take_hardAttempts_cons (s : State) (m : Module) (h : 0 < m.desc.retrySets) (t : CwAttempt) (l : List CwAttempt) :
    (t :: l).take (hardAttempts s m) = t :: l.take (hardAttempts s m - 1) :=
  List.take_cons (hardAttempts_pos s m h)

theorem codewordReadEscalation_first (a : MediaAddr) (t : CwAttempt) (l : List CwAttempt) (soft : Bool) (s : State) (m : Module) (hp : s.pipes = true)
    (hm : s.module a.module = some m) (hr : 0 < m.desc.retrySets) (he : readsErased t.raw = false) (hok : CwAttempt.ok t a = true) :
    exec (.codewordReadEscalation a (t :: l) soft) s =
      .next (setSticky a (firstSet s a % max 1 m.desc.retrySets) (countReads a 1 0 s)) := by
  have hfirst : (t :: l.take (hardAttempts s m - 1)).findIdx? (CwAttempt.ok · a) = some 0 := by simp [List.findIdx?_cons, hok]
  show execCodewordReadEscalation a (t :: l) soft s = _
  unfold execCodewordReadEscalation
  rw [actPipe_on _ _ hp]
  simp only [hm, take_hardAttempts_cons s m hr, List.head?_cons, he, hfirst, Bool.false_eq_true, if_false, beq_self_eq_true, if_true, Nat.add_zero,
    Nat.zero_add]

/-! ## The grains of a read (06 R145, R147, R150) -/

theorem readCmd_lone (s : State) (x : HostCmd) (hx : s.host.cmds = [x]) (hk : x.kind = .read) (hf : x.fwdTag = none) :
    readCmd s x.cntlid x.qid x.cid none = some x := by
  unfold readCmd
  simp [hx, HostCmd.is_self, hk, hf]

theorem fetchOf_lone (x : HostCmd) (f : Fetch) (h : x.fetches = [f]) : fetchOf x f.no = some f := by
  simp [fetchOf, h]

theorem grainVerify_serves (c q i no : Nat) (fwd : Option Nat) (ss : List Sector) (s : State) (x : HostCmd) (f : Fetch) (h : s.serves = true)
    (hx : readCmd s c q i fwd = some x) (hf : fetchOf x no = some f) (hw : f.wait = .media) :
    exec (.grainVerify c q i fwd no (.verified ss)) s = .next (endFetch x f (some ss) s) := by
  show execGrainVerify c q i fwd no (.verified ss) s = _
  unfold execGrainVerify
  rw [actIO_on _ _ h]
  simp only [hx, hf, hw, bne_self_eq_false, Bool.false_eq_true, if_false]

theorem journalFetch_serves (c q i no j : Nat) (fwd : Option Nat) (ss : List Sector) (s : State) (x : HostCmd) (f : Fetch) (h : s.serves = true)
    (hx : readCmd s c q i fwd = some x) (hf : fetchOf x no = some f) (hw : f.wait = .journal j) (hp : s.peer.st = .paired) :
    exec (.journalFetch c q i fwd no true ss) s = .next (endFetch x f (some ss) s) := by
  have hpp : partnerPresent s = true := by simp [partnerPresent, hp]
  show execJournalFetch c q i fwd no true ss s = _
  unfold execJournalFetch
  rw [actIO_on _ _ h]
  simp only [hx, hf, hw, hpp, Bool.and_self, if_true]

/-! ## Reconstruction (06 R151, R153) -/

/-- One read waits, for one grain: its fetch is all that the reconstruction serves. -/
theorem reconFetches_lone (s : State) (r : Recon) (x : HostCmd) (f : Fetch) (hx : s.host.cmds = [x]) (hfe : x.fetches = [f]) (hw : f.wait = .recon)
    (hg : r.grain = f.grain) (hr : r.waiters = [(x.cntlid, x.qid, x.cid)]) : reconFetches s r = [(x, f)] := by
  unfold reconFetches
  simp [hr, hx, HostCmd.is_self, hfe, hg, hw]

/-- A grain whose member is gone is not repaired in place: the member's rebuild moves it. -/
theorem repairAfter_gone (g : Nat) (s : State) (e : DirEntry) (he : s.dirOf g = some e) (hg : memberGone s e.addr = true) :
    repairAfter g false false s = s := by
  unfold repairAfter
  simp only [he, hg, Bool.not_false, Bool.and_self, if_true, Bool.or_self, Bool.false_eq_true, if_false]

theorem dirOf_congr (s t : State) (hmd : t.md = s.md) (hp : t.peer = s.peer) (g : Nat) : t.dirOf g = s.dirOf g := by
  unfold State.dirOf State.store State.grainShadow
  rw [hmd, hp]

theorem memberGone_of_media (s t : State) (h : t.media = s.media) (a : MediaAddr) : memberGone t a = memberGone s a := by
  unfold memberGone State.module
  rw [h]

/-- The state once a reconstruction has left its PT's table. -/
def tableLeft (r : Recon) (s : State) : State := { s with rd := { s.rd with recons := s.rd.recons.erase r } }

/-- A reconstruction that verifies leaves the table, serves the fetches that wait for it and sees to the repair. -/
theorem grainReconstruction_serves (pt : Fin 66) (g : Nat) (ss : List Sector) (b : Option Nat) (w : Bool) (s : State) (r : Recon) (h : s.serves = true)
    (hr : (s.rd.recons.find? fun r => r.pt == pt.val && r.grain == g) = some r) :
    exec (.grainReconstruction pt g (.verified ss b w)) s =
      .next (repairAfter g r.decoded w ((reconFetches (tableLeft r s) r).foldl
        (fun s p => endFetch p.1 p.2 (some ss) (s.bump Reg.fPTL_VERIFY_STATS_RECONSTRUCTED)) (tableLeft r s))) := by
  show execGrainReconstruction pt g (.verified ss b w) s = _
  unfold execGrainReconstruction
  rw [actIO_on _ _ h]
  simp only [hr, tableLeft]

/-! ## Repair in place (06 R153) -/

theorem repairInPlace_lost (g c : Nat) (s : State) (e : DirEntry) (hp : s.pipes = true) (he : s.dirOf g = some e) (hq : s.rd.repairs.contains g = true)
    (hk : ((s.wr.rows.flatMap (·.grains) ++ s.wr.unpacked.map (·.2.2)).any fun p => p.hdr.grainId == g) = false) (hr : e.refs ≠ 0) :
    exec (.repairInPlace g (.lost c)) s =
      .next (settleRebuild (loseGrain g c { s with rd := { s.rd with repairs := s.rd.repairs.erase g, rewrites := s.rd.rewrites.erase g } })) := by
  have hr' : (e.refs == 0) = false := beq_eq_false_iff_ne.2 hr
  show execRepairInPlace g (.lost c) s = _
  unfold execRepairInPlace
  rw [actPipe_on _ _ hp]
  simp only [he, hq, hk, hr', Bool.true_or, Bool.not_true, Bool.or_self, Bool.false_eq_true, if_false]

/-! ## Rows that program (07 R172, R173) -/

theorem sealedRow_segment (s : State) (seg row : Nat) (r : OpenRow) (h : sealedRow s seg row = some r) : r.segment = seg := by
  have hr := List.find?_some h
  simp only [Bool.and_eq_true, beq_iff_eq] at hr
  exact hr.1.1

theorem rowProgramSuccess_writes (seg row : Nat) (s : State) (r : OpenRow) (hp : s.pipes = true) (hr : sealedRow s seg row = some r) :
    exec (.rowProgramSuccess seg row) s = .next (rowWritten r s) := by
  show execRowProgramSuccess seg row s = _
  unfold execRowProgramSuccess
  rw [actPipe_on _ _ hp]
  simp only [hr]

theorem rowProgramFail_gone (seg row k : Nat) (s : State) (r : OpenRow) (sh : Bool) (x : Segment) (a : MediaAddr) (hp : s.pipes = true)
    (hr : sealedRow s seg row = some r) (hx : s.segment seg = some (sh, x)) (ha : x.members[k]? = some a) (hg : (goneMembers s x).contains k = true) :
    exec (.rowProgramFail seg row k) s = .next (rowWritten r s) := by
  show execRowProgramFail seg row k s = _
  unfold execRowProgramFail
  rw [actPipe_on _ _ hp]
  simp only [hr, hx, ha, hg, if_true]

/-- Settles O24: the lone read's last fetch ends the same way whoever brings the grain (`endFetch_last`), and a row counts as written the same way
whether it programs or its failing member was gone (`rowWritten_wr`). -/
theorem readsAreVerifiedRebuiltAndRepaired : Obligations.ReadsAreVerifiedRebuiltAndRepaired := by
  unfold Obligations.ReadsAreVerifiedRebuiltAndRepaired
  refine ⟨codewordReadEscalation_first, ?verify, ?journal, ?recon, ?repair, ?success, ?fail⟩
  case verify =>
    intro s x f ss h hx hk hf hfe hw hxf hd hch
    obtain ⟨t, ht, hcmds, hout, hmd, -, -, hwr, -⟩ := endFetch_last x f ss s hx hk hf hfe hxf hd (serves_parts s h).2.1 hch
    exact ⟨t, ht ▸ grainVerify_serves _ _ _ _ _ ss s x f h (readCmd_lone s x hx hk hf) (fetchOf_lone x f hfe) hw, hcmds, hmd, hwr, hout⟩
  case journal =>
    intro s x f j ss h hx hk hf hfe hw hxf hd hch hp
    obtain ⟨t, ht, hcmds, hout, hmd, -, -, hwr, -⟩ := endFetch_last x f ss s hx hk hf hfe hxf hd (serves_parts s h).2.1 hch
    exact ⟨t, ht ▸ journalFetch_serves _ _ _ _ j _ ss s x f h (readCmd_lone s x hx hk hf) (fetchOf_lone x f hfe) hw hp, hcmds, hmd, hwr, hout⟩
  case recon =>
    intro pt s x f r e ss b h hx hk hf hfe hw hxf hd hch hrs hpt hg hdec hwait he hgone
    have hfind : (s.rd.recons.find? fun r => r.pt == pt.val && r.grain == f.grain) = some r := by simp [hrs, hpt, hg]
    have hserved : reconFetches (tableLeft r s) r = [(x, f)] := reconFetches_lone (tableLeft r s) r x f hx hfe hw hg hwait
    obtain ⟨t, ht, hcmds, hout, hmd, hrecons, hrepairs, hwr, hmedia, hpeer⟩ :=
      endFetch_last x f ss ((tableLeft r s).bump Reg.fPTL_VERIFY_STATS_RECONSTRUCTED) hx hk hf hfe hxf hd (serves_parts s h).2.1 hch
    have hkept : repairAfter f.grain r.decoded false t = t := by
      rw [hdec]
      exact repairAfter_gone _ t e ((dirOf_congr s t hmd hpeer _).trans he) ((memberGone_of_media s t hmedia _).trans hgone)
    refine ⟨t, ?_, hcmds, hrecons.trans (by simp [tableLeft, hrs]), hrepairs, hmd, hwr, hout⟩
    rw [grainReconstruction_serves pt f.grain ss b false s r h hfind, hserved, List.foldl_cons, List.foldl_nil, ht, hkept]
  case repair =>
    intro g c s e hp he hq hk hr
    obtain ⟨hwr, hrd, hhost, -⟩ := loseGrain_keeps g c { s with rd := { s.rd with repairs := s.rd.repairs.erase g, rewrites := s.rd.rewrites.erase g } }
    exact ⟨_, repairInPlace_lost g c s e hp he hq hk hr, (settleRebuild_rd _).trans hrd, (settleRebuild_wr _).trans hwr, (settleRebuild_host _).trans hhost⟩
  case success =>
    intro seg row s r sh x hp hr hx
    exact ⟨_, rowProgramSuccess_writes seg row s r hp hr, rowWritten_wr r s sh x (sealedRow_segment s seg row r hr ▸ hx)⟩
  case fail =>
    intro seg row k s r sh x a hp hr hx ha hg
    exact ⟨_, rowProgramFail_gone seg row k s r sh x a hp hr hx ha hg, rowWritten_wr r s sh x (sealedRow_segment s seg row r hr ▸ hx)⟩

/-! ## The hypotheses are met -/

/-- A descriptor of one retry set; its other fields are zero. -/
def witnessDescriptor : Descriptor :=
  { format := 0, len := 0, vendor := 0, serial := 0, model := 0, wwid := 0, dies := 0, planes := 0, density := 0, flags := 0, blocks := 0,
    pagesNative := 0, pagesOneBit := 0, pageBytes := 0, spares := 0, endNative := 0, endOneBit := 0, readNative := 0, readOneBit := 0, retNative := 0,
    retOneBit := 0, refTemp := 0, eaMeV := 0, tReadUs := 0, tProgUs := 0, tEraseUs := 0, holdupMs := 0, retrySets := 1, stepMv := 0, rawBytes := 0,
    bbtCount := 0, rsvdZero := true, retryTable := [], crcOk := true }

/-- A codeword of the module with index `m`. -/
def witnessAddr (m : Nat) : MediaAddr := { oneBit := false, module := m, die := 0, plane := 0, block := 0, page := 0, codeword := 0 }

/-- A board with that module as its only one. -/
def moduleBoard : State :=
  { hostBoard [] with media := { (hostBoard []).media with modules := [newModule State.reset 3 0 0 witnessDescriptor []] } }

theorem zeroBits_zero : zeroBits 0 = 36864 := by simp [zeroBits]

theorem readsErased_zero : readsErased 0 = false := by
  rw [readsErased, zeroBits_zero]
  decide

/-- A raw word of zeros is not erased; the decoder's first attempt at it holds, and set 0 stays the die's. -/
theorem codewordReadEscalation_witness :
    ∃ t, exec (.codewordReadEscalation (witnessAddr 3) [{ raw := 0, decoded := true, unsatisfied := 0 }] false) moduleBoard = .next t ∧
      t.sml.sticky = [(3, 0, 0)] :=
  ⟨_, codewordReadEscalation_first (witnessAddr 3) _ [] false moduleBoard (newModule State.reset 3 0 0 witnessDescriptor []) rfl rfl (by decide)
    readsErased_zero (Bool.or_true _), rfl⟩

/-- A Read of one block whose first sector, of grain 5, waits for `w`. -/
def witnessFetch (w : FetchWait) : Fetch := { no := 0, key := 0, grain := 5, segment := none, pick := [(0, 0)], wait := w }

def witnessRead (w : FetchWait) : HostCmd := { newCmd (witnessCapsule 0 1) .read [] none [] 0 8 0 witnessHost with phase := .reading, fetches := [witnessFetch w] }

/-- What leaves the part when that sector comes with content 7. -/
def witnessServed : List Output := [.completion 1 1 5 .success 0, .hostData 1 1 5 0 [(0, 7)]]

theorem grainVerify_witness :
    ∃ t, exec (.grainVerify 1 1 5 none 0 (.verified [7])) (hostBoard [witnessRead .media]) = .next t ∧ t.host.cmds = [] ∧ t.outputs = witnessServed := by
  obtain ⟨t, ht, hcmds, -, -, hout⟩ := readsAreVerifiedRebuiltAndRepaired.2.1 (hostBoard [witnessRead .media]) (witnessRead .media) (witnessFetch .media) [7]
    rfl rfl rfl rfl rfl rfl rfl rfl rfl
  exact ⟨t, ht, hcmds, hout⟩

/-- A paired board with that read waiting for the partner's copy of journal record 9. -/
def pairedReadBoard : State := { hostBoard [witnessRead (.journal 9)] with peer := { PeerState.reset with st := .paired } }

theorem journalFetch_witness :
    ∃ t, exec (.journalFetch 1 1 5 none 0 true [7]) pairedReadBoard = .next t ∧ t.host.cmds = [] ∧ t.outputs = witnessServed := by
  obtain ⟨t, ht, hcmds, -, -, hout⟩ := readsAreVerifiedRebuiltAndRepaired.2.2.1 pairedReadBoard (witnessRead (.journal 9)) (witnessFetch (.journal 9)) 9 [7]
    rfl rfl rfl rfl rfl rfl rfl rfl rfl rfl
  exact ⟨t, ht, hcmds, hout⟩

/-- Grain 5, stored on module 4, which the board does not have. -/
def witnessEntry : DirEntry := { grain := 5, addr := witnessAddr 4, segment := 0, member := 0, lostMask := 0, refs := 1, len16 := 4, off16 := 0, st := .stored }

/-- The reconstruction of grain 5 in PT 65, for that read. -/
def witnessRecon : Recon := { pt := 65, grain := 5, waiters := [(1, 1, 5)], own := false, decoded := false }

/-- A board that keeps grain 5, with the commands `cs` and the read path `rd`. -/
def grainBoard (cs : List HostCmd) (rd : ReadState) : State :=
  { hostBoard cs with md := { MetaState.reset with store := { MetaState.reset.store with dir := [witnessEntry] } }, rd := rd }

theorem grainReconstruction_witness :
    ∃ t, exec (.grainReconstruction 65 5 (.verified [7] none false)) (grainBoard [witnessRead .recon] { ReadState.reset with recons := [witnessRecon] }) = .next t ∧
      t.host.cmds = [] ∧ t.rd.recons = [] ∧ t.outputs = witnessServed := by
  obtain ⟨t, ht, hcmds, hrecons, -, -, -, hout⟩ := readsAreVerifiedRebuiltAndRepaired.2.2.2.1 65
    (grainBoard [witnessRead .recon] { ReadState.reset with recons := [witnessRecon] }) (witnessRead .recon) (witnessFetch .recon) witnessRecon witnessEntry [7] none
    rfl rfl rfl rfl rfl rfl rfl rfl rfl rfl rfl rfl rfl rfl (by decide) (by decide)
  exact ⟨t, ht, hcmds, hrecons, hout⟩

/-- Grain 5, queued for repair behind grain 4, reads lost: grain 4 is still queued. -/
theorem repairInPlace_witness :
    ∃ t, exec (.repairInPlace 5 (.lost 1)) (grainBoard [] { ReadState.reset with repairs := [4, 5], rewrites := [5] }) = .next t ∧
      t.rd = { ReadState.reset with repairs := [4] } := by
  obtain ⟨t, ht, hrd, -⟩ := readsAreVerifiedRebuiltAndRepaired.2.2.2.2.1 5 1 (grainBoard [] { ReadState.reset with repairs := [4, 5], rewrites := [5] }) witnessEntry
    rfl (by decide) (by decide) (by decide) (by decide)
  exact ⟨t, ht, hrd⟩

/-- Segment 0: one member, on module 4, which the board does not have. -/
def witnessSegment : Segment :=
  { id := 0, k := 1, m := 0, oneBit := false, pdom := 0, st := .open_, relocate := false, gen := 1, openStamp := 0, rows := 1, erased := [],
    members := [witnessAddr 4], liveBytes := 0, sealHour := 0, sealAt := 0, badCols := [], claim := .none, lastMove := 0, gone := false, refresh := none,
    metadata := false, use_ := 0 }

/-- A write's grain 5, of journal record 0, as a row holds it. -/
def witnessPacked : PackedGrain :=
  { hdr := { grainId := 5, scope := { ddom := 0, key := 0, clear := true }, storedLen := 0, compressed := false, dictUsed := false, relocated := false,
             dictId := 0, payloadCrc := 0, fp := 0, crcOk := true },
    member := 0, offset := 0, jseq := some 0, data := [], from_ := none }

/-- Row 1 of that segment, sealed, with that grain. -/
def sealedWitnessRow : OpenRow := { witnessRow with sealed := true, grains := [witnessPacked] }

/-- A board with that row in flight, whose record 0 waits for grains 4 and 5. -/
def rowBoard : State :=
  { hostBoard [] with
    wr := { WriteState.reset with ring := [{ witnessRecord 0 false with pendingIds := [4, 5] }], rows := [sealedWitnessRow] },
    md := { MetaState.reset with store := { MetaState.reset.store with dir := [witnessEntry], segments := [witnessSegment] } } }

/-- The row programs: the record waits for grain 4 only. -/
theorem rowProgramSuccess_witness :
    ∃ t, exec (.rowProgramSuccess 0 1) rowBoard = .next t ∧ t.wr.rows = [] ∧ t.wr.ring.map (·.pendingIds) = [[4]] := by
  obtain ⟨t, ht, hrows, hring⟩ := readsAreVerifiedRebuiltAndRepaired.2.2.2.2.2.1 0 1 rowBoard sealedWitnessRow false witnessSegment rfl rfl rfl
  exact ⟨t, ht, hrows, by rw [hring]; rfl⟩

/-- Its only member fails to program, on a module that is not there: the row counts as written all the same. -/
theorem rowProgramFail_witness :
    ∃ t, exec (.rowProgramFail 0 1 0) rowBoard = .next t ∧ t.wr.rows = [] ∧ t.wr.ring.map (·.pendingIds) = [[4]] := by
  obtain ⟨t, ht, hrows, hring⟩ := readsAreVerifiedRebuiltAndRepaired.2.2.2.2.2.2 0 1 0 rowBoard sealedWitnessRow false witnessSegment (witnessAddr 4)
    rfl rfl rfl rfl (by decide)
  exact ⟨t, ht, hrows, by rw [hring]; rfl⟩

end Sys2Proof.Machine

/-!
SUPPORT. The metadata log and its pages, remote deltas, the partner's shadow, release walks, restart, modules that come and go, health (07 R169; 08 R213, Table 8.4; 10 R244, R250 to R260; 11 R275, R276).
-/
namespace Sys2Proof.Machine

/-! ## The log of this head (10 R251, R252) -/

/-- Without transactions no record is covered and no segment is free for erase. -/
theorem coverTxns_nil (s : State) : coverTxns [] s = s := by
  simp [coverTxns, updateIf]

theorem settleIngest_calm (s : State) (h : s.repl.streams = []) : settleIngest s = s := by
  simp [settleIngest, h]

theorem logPageTimer_sends (s : State) (p : LogPage) (hup : s.up = true) (hp : s.md.log.find? (!·.sent) = some p)
    (hroom : (s.md.log.filter fun p => p.sent && !p.durable).length < 32) :
    exec .logPageTimer s = .next (sendLogPage p (s.reach (p.since + 20 * us))) := by
  show execLogPageTimer s = _
  unfold execLogPageTimer
  rw [act_up _ _ hup]
  simp only [hp]
  rw [if_neg (by omega)]

/-- The one page under way is durable; it ends no transaction and no segment waits for it. -/
theorem logDurable_lone (s : State) (p : LogPage) (hl : s.md.log = [p]) (hs : p.sent = true) (hd : p.durable = false) (ht : p.txns = [])
    (hm : mediaCalm s = true) : logDurable p.lpseq s = { s with md := { s.md with log := [{ p with durable := true }] } } := by
  obtain ⟨-, hclaim, -⟩ := mediaCalm_parts s hm
  have hpages : updateIf (·.lpseq == p.lpseq) (fun p => { p with durable := true }) s.md.log = [{ p with durable := true }] := by
    simp [hl, updateIf]
  have hnone : durableTxns { s with md := { s.md with log := [{ p with durable := true }] } } = [] := by simp [durableTxns, ht]
  unfold logDurable
  simp only [hpages, hnone, coverTxns_nil]
  simp only [hl, List.find?_cons, beq_self_eq_true, hs, hd, Bool.not_true, Bool.or_self, Bool.false_eq_true, if_false]
  exact finishMoves_calm _ hclaim

theorem logPageDurable_lone (s : State) (p : LogPage) (hup : s.up = true) (hl : s.md.log = [p]) (hs : p.sent = true) (hd : p.durable = false)
    (ht : p.txns = []) (hm : mediaCalm s = true) (hr : s.repl.streams = []) :
    exec (.logPageDurable p.lpseq) s = .next { s with md := { s.md with log := [{ p with durable := true }] } } := by
  show execLogPageDurable p.lpseq s = _
  unfold execLogPageDurable
  rw [act_up _ _ hup, logDurable_lone s p hl hs hd ht hm]
  exact congrArg _ (settleIngest_calm _ hr)

/-! ## What the partner's log and this head's deltas bring (10 R244; 11 R275, R276) -/

/-- A whole transaction that the shadow does not hold yet enters it, at a head that is no joiner. -/
theorem applyShadow_new (x : Txn) (s : State) (hn : s.md.shadowTxn ≤ x.num) (hj : joiner s = false) :
    applyShadow [x] s = { s with md := { s.md with shadow := applyOwn (1 - s.peer.head) x s.md.shadow, shadowTxn := x.num + 1 } } := by
  simp [applyShadow, hj, Nat.not_lt.2 hn]

theorem logPage_applies (x : Txn) (s : State) (hup : s.up = true) (hsh : s.logShared = true) (hsv : s.peer.survivor = false)
    (hn : s.md.shadowTxn ≤ x.num) (hj : joiner s = false) :
    exec (.logPage [x]) s =
      .next { s with md := { s.md with shadow := applyOwn (1 - s.peer.head) x s.md.shadow, shadowTxn := x.num + 1 } } := by
  show execLogPage [x] s = _
  unfold execLogPage
  rw [act_up _ _ hup, hsh, hsv, applyShadow_new x s hn hj]
  rfl

theorem remoteDelta_logs (a b : Nat) (d : Delta) (s : State) (hup : s.up = true) (hsh : s.logShared = true) :
    exec (.remoteDelta a b d) s = .next ((oneDelta false d s).send (.remoteAck a b)) := by
  show execRemoteDelta a b d s = _
  unfold execRemoteDelta
  rw [act_up _ _ hup, if_pos hsh]

theorem remoteAck_settles (a b : Nat) (s : State) (hup : s.up = true) (hm : mediaCalm s = true) :
    exec (.remoteAck a b) s = .next { s with md := { s.md with remote := s.md.remote.filter fun d => !(d.txn == a && d.index == b) } } := by
  obtain ⟨-, hclaim, -⟩ := mediaCalm_parts s hm
  show execRemoteAck a b s = _
  unfold execRemoteAck
  rw [act_up _ _ hup]
  exact congrArg _ (finishMoves_calm _ hclaim)

theorem pagePull_answers (g : Nat) (s : State) (hup : s.up = true) :
    exec (.pagePull g) s = .next (s.send (.pageRsp g (s.md.store.page g))) :=
  act_up (fun s => s.send (.pageRsp g (s.md.store.page g))) s hup

theorem counters_taken (c : Nat × Nat × Nat × Nat) (s : State) (hup : s.up = true) (hsh : s.logShared = true) :
    exec (.counters c) s = .next ({ s with media := { s.media with partnerTraffic := c } }.send (.counters s.media.traffic)) := by
  show execCounters c s = _
  unfold execCounters
  rw [act_up _ _ hup, if_pos hsh]

/-! ## Release walks and metadata pages (10 R254, R260) -/

theorem settleDeletes_calm (s : State) (h : s.md.deletes = []) : settleDeletes s = s := by
  simp [settleDeletes, h]

/-- The walk's first page stands no more: its mark is one transaction on this head's store (log 44). -/
theorem releaseWalk_marks (s : State) (w : Walk) (l : List Walk) (hup : s.up = true) (hsv : s.peer.survivor = false)
    (hw : s.md.store.walks = w :: l) (hp : s.md.store.page w.page = none) (hd : s.md.deletes = []) :
    exec .releaseWalk s = .next (ownTx [.releaseMark w.object w.page] s) := by
  show execReleaseWalk s = _
  unfold execReleaseWalk
  rw [act_up _ _ hup]
  have hst : s.store false = s.md.store := rfl
  simp only [hsv, Bool.and_false, hst, hw, hp]
  exact congrArg _ (settleDeletes_calm _ (by rw [commit_md_deletes]; exact hd))

theorem metadataPageRead_oneBad (g : Nat) (p : MetaPage) (s : State) (hp : s.pipes = true) :
    exec (.metadataPageRead g p .oneBad) s = .next { s with md := { s.md with dirty := insertNat g s.md.dirty } } :=
  actPipe_on (fun s => { s with md := { s.md with dirty := insertNat g s.md.dirty } }) s hp

/-! ## METADATA_RESTART (08 Table 8.4; 10 R257) -/

theorem metadataRestart_restarts (f : RestartFacts) (s : State) (hp : s.pipes = true) (hm : mayRestart s = true) (hf : f.record = true) :
    exec (.metadataRestart f) s = .next (restart f s) := by
  show execMetadataRestart f s = _
  unfold execMetadataRestart
  rw [actPipe_on _ _ hp]
  simp [hm, hf]

theorem metadataRestart_fenced (f : RestartFacts) (s : State) (hp : s.pipes = true) (hm : mayRestart s = true) (hf : f.record = false)
    (hmod : s.media.modules ≠ []) : exec (.metadataRestart f) s = .next (raiseFog 16 (setPeer .fenced s)) := by
  show execMetadataRestart f s = _
  unfold execMetadataRestart
  rw [actPipe_on _ _ hp]
  simp [hm, hf, hmod]

/-- The high-water mark of the ring is no part of the metadata. -/
theorem settleHwm_md (s : State) : (settleHwm s).md = s.md := by
  obtain ⟨_, _, _, _, h⟩ := settleHwm_only s; rw [h]

/-! ## Modules that come and go (07 R169, Table 7.1) -/

/-- With port, index, WWID, descriptor, domain and lease set in order, the module is admitted under the job's record. -/
theorem moduleAdmit_admits (r : TaskReq) (bad : List (Nat × Nat × Nat)) (s u : State) (p : Nat) (a : Attached) (k : Nat)
    (h : goes { opcode := 0x0802, windows := [0] } [(1, mask 10 0 ||| mask 21 16)] r s = true)
    (hu : u = taken { opcode := 0x0802, windows := [0] } r s) (hp : portOf u (r.argBits 1 7 0) = some p) (hup : u.portUp p = true)
    (hh : (u.mport p).held = false) (ha : (u.mport p).attached = some a) (hi : indexFree u (r.argBits 1 7 0) = true)
    (hw : u.media.modules.any (fun x => x.index != r.argBits 1 7 0 && x.st != .absent && x.desc.wwid == a.wwid) = false)
    (hd : descriptorFault a.desc = none) (hf : fitsDomain u (r.argBits 1 10 8) a.desc = true) (hl : lsetFault u = none)
    (hk : freeRecord r.window s = some k) :
    ∃ t, exec (.moduleAdmit r bad) s = .next t ∧
      answered r cACCEPTED 0 [handleOf (plannedJob 0x0802 r { work := .admitModule (r.argBits 1 7 0) } s k)] t ∧
      windowOnly (admitModule (r.argBits 1 7 0) (r.argBits 1 10 8) (r.argBits 1 21 16) a.desc bad k
        (withJob 0x0802 r { work := .admitModule (r.argBits 1 7 0) } u k)) t := by
  subst hu
  refine taskCmd_jobOp _ _ r _ s 0x0802 k { work := .admitModule (r.argBits 1 7 0) }
    (admitModule (r.argBits 1 7 0) (r.argBits 1 10 8) (r.argBits 1 21 16) a.desc bad) h hk ?_
  simp only [hp, Option.bind_some, hup, hh, ha, hi, hw, hd, hf, hl, Bool.not_false, Bool.not_true, Bool.and_self, Bool.or_self, Bool.false_eq_true,
    if_true, if_false]

/-- What MODULE_RETIRE does with its job record: the module is RETIRING, and what its leaving settles is settled (07 R169). -/
def retireModule (m : Module) (s : State) : State :=
  settleRetires (settleRebuild (settleRo (rejudge (assignVault (s.putModule { m with st := .retiring })))))

theorem moduleRetire_retires (r : TaskReq) (s u : State) (m : Module) (k : Nat) (h : goes { opcode := 0x0803, windows := [0] } [(1, mask 7 0)] r s = true)
    (hu : u = taken { opcode := 0x0803, windows := [0] } r s) (hm : u.module (r.argBits 1 7 0) = some m) (hst : m.st = .active)
    (hw : stillWide u m = true) (hc : contentFits u m = true) (hl : lsetFault u = none) (hk : freeRecord r.window s = some k) :
    ∃ t, exec (.moduleRetire r) s = .next t ∧
      answered r cACCEPTED 0 [handleOf (plannedJob 0x0803 r { cancellable := true, work := .retire m.index } s k)] t ∧
      windowOnly (retireModule m (withJob 0x0803 r { cancellable := true, work := .retire m.index } u k)) t := by
  subst hu
  refine taskCmd_jobOp _ _ r _ s 0x0803 k { cancellable := true, work := .retire m.index } (fun _ s => retireModule m s) h hk ?_
  simp only [hm, Option.filter_some, hst, beq_self_eq_true, Bool.true_or, if_true, hw, hc, hl, Bool.not_true, Bool.false_eq_true, if_false]
  rfl

/-! ## HEALTH_READ (08 R213) -/

theorem healthRead_media (r : TaskReq) (s : State) (h : goes { opcode := 0x0A01, windows := [0, 1, 2, 3] } [(1, mask64)] r s = true) (h0 : r.arg 1 = 0) :
    ∃ t, exec (.healthRead r) s = .next t ∧ answered r cOK 0 (mediaHealth (taken { opcode := 0x0A01, windows := [0, 1, 2, 3] } r s)) t ∧
      windowOnly s t := by
  refine taskCmd_answered _ _ r _ s _ _ _ _ _ h (by simp only [h0]; rfl) (by simp [mediaHealth]) (windowOnly_taken _ r s)

/-- Settles O28: each row is one equation of `exec`; a delta or a release mark is one transaction on this head's store (`oneDelta_own`, `ownTx_store`). -/
theorem metadataLogAndModulesComeAndGo : Obligations.MetadataLogAndModulesComeAndGo := by
  unfold Obligations.MetadataLogAndModulesComeAndGo
  refine ⟨logPageTimer_sends, logPageDurable_lone, logPage_applies, ?delta, remoteAck_settles, ?pull, ?counters, ?walk, metadataPageRead_oneBad,
    metadataRestart_restarts, metadataRestart_fenced, moduleAdmit_admits, ?retire, healthRead_media⟩
  case delta =>
    intro a b d s hup hsh
    exact ⟨_, remoteDelta_logs a b d s hup hsh, rfl, by rw [send_md, oneDelta_own], by rw [send_wr, oneDelta_ownTx, ownTx_wr]⟩
  case pull =>
    intro g s hup
    exact ⟨_, pagePull_answers g s hup, rfl, send_md _ _, send_regs _ _⟩
  case counters =>
    intro c s hup hsh
    exact ⟨_, counters_taken c s hup hsh, send_media _ _, send_md _ _, send_regs _ _⟩
  case walk =>
    intro s w l hup hsv hw hp hd
    exact ⟨_, releaseWalk_marks s w l hup hsv hw hp hd, ownTx_store _ _, ownTx_wr _ _, ownTx_host _ _⟩
  case retire =>
    intro r s u m k h hu hm hst hw hc hl hk
    obtain ⟨t, ht⟩ := moduleRetire_retires r s u m k h hu hm hst hw hc hl hk
    exact ⟨_, t, rfl, ht⟩

/-! ## The hypotheses are met -/

/-- A log page with one delta, open since 7 ns. -/
def witnessLogPage (sent : Bool) : LogPage := { lpseq := 5, txns := [], bytes := 24, since := 7, sent := sent, durable := false }

/-- A paired board whose metadata are `m`. -/
def logBoard (m : MetaState) : State := { State.reset with md := m, peer := { PeerState.reset with st := .paired } }

/-- Thirty-one pages under way, and that page behind them. -/
def witnessLog (sent : Bool) : List LogPage := List.replicate 31 { witnessLogPage true with lpseq := 4 } ++ [witnessLogPage sent]

/-- The thirty-second page goes out 20 µs after its first delta. -/
theorem logPageTimer_witness :
    ∃ t, exec .logPageTimer (logBoard { MetaState.reset with log := witnessLog false }) = .next t ∧ t.now = 20007 ∧ t.md.log = witnessLog true :=
  ⟨_, logPageTimer_sends (logBoard { MetaState.reset with log := witnessLog false }) (witnessLogPage false) rfl (by decide) (by decide), by decide, by decide⟩

theorem logPageDurable_witness :
    ∃ t, exec (.logPageDurable 5) (logBoard { MetaState.reset with log := [witnessLogPage true] }) = .next t ∧
      t.md.log = [{ witnessLogPage true with durable := true }] :=
  ⟨_, logPageDurable_lone (logBoard { MetaState.reset with log := [witnessLogPage true] }) (witnessLogPage true) rfl rfl rfl rfl rfl (by decide) rfl, rfl⟩

/-- Transaction 9 of the partner makes namespace 1. -/
def witnessTxn : Txn := { num := 9, deltas := [(false, .nsSet witnessSpace)], jseq := 0, remote := 0 }

/-- The shadow that waits for transaction 9 takes it, and waits for transaction 10. -/
theorem logPage_witness :
    ∃ t, exec (.logPage [witnessTxn]) (logBoard { MetaState.reset with shadowTxn := 9 }) = .next t ∧ t.md.shadow.ns 1 = some witnessSpace ∧
      t.md.shadowTxn = 10 :=
  ⟨_, logPage_applies witnessTxn (logBoard { MetaState.reset with shadowTxn := 9 }) rfl (by decide) rfl (by decide) (by decide), by decide, rfl⟩

theorem remoteDelta_witness :
    ∃ t, exec (.remoteDelta 9 0 (.nsSet witnessSpace)) (logBoard MetaState.reset) = .next t ∧ t.md.store.ns 1 = some witnessSpace := by
  refine ⟨_, remoteDelta_logs 9 0 (.nsSet witnessSpace) (logBoard MetaState.reset) rfl (by decide), ?_⟩
  rw [send_md, oneDelta_own]
  exact applyDelta_nsSet _ witnessSpace _

/-- Delta `i` of transaction 9, owed to the partner. -/
def witnessOwed (i : Nat) : RemoteDelta := { txn := 9, index := i, delta := .nsSet witnessSpace, jseq := 0 }

/-- The second of two deltas is still owed. -/
theorem remoteAck_witness :
    ∃ t, exec (.remoteAck 9 0) (logBoard { MetaState.reset with remote := [witnessOwed 0, witnessOwed 1] }) = .next t ∧ t.md.remote = [witnessOwed 1] :=
  ⟨_, remoteAck_settles 9 0 (logBoard { MetaState.reset with remote := [witnessOwed 0, witnessOwed 1] }) rfl (by decide), by decide⟩

/-- No group is up: the answer, that there is no such page, waits in its class. -/
theorem pagePull_witness :
    ∃ t, exec (.pagePull 6) (logBoard MetaState.reset) = .next t ∧ t.ubQueue = [(4, .pageRsp 6 none)] :=
  ⟨_, pagePull_answers 6 (logBoard MetaState.reset) rfl, by decide⟩

theorem counters_witness :
    ∃ t, exec (.counters (1, 2, 3, 4)) (logBoard MetaState.reset) = .next t ∧ t.media.partnerTraffic = (1, 2, 3, 4) :=
  ⟨_, counters_taken (1, 2, 3, 4) (logBoard MetaState.reset) rfl (by decide), by rw [send_media]⟩

/-- A walk of object 3 at page `p`. -/
def witnessWalk (p : Nat) : Walk := { object := 3, page := p, job := none }

/-- Of two walks, the one whose page is gone ends. -/
theorem releaseWalk_witness :
    ∃ t, exec .releaseWalk (logBoard { MetaState.reset with store := { Store.empty with walks := [witnessWalk 2, witnessWalk 4] } }) = .next t ∧
      t.md.store.walks = [witnessWalk 4] :=
  ⟨_, releaseWalk_marks (logBoard { MetaState.reset with store := { Store.empty with walks := [witnessWalk 2, witnessWalk 4] } }) (witnessWalk 2)
    [witnessWalk 4] rfl rfl rfl rfl rfl, (congrArg Store.walks (ownTx_store _ _)).trans (by decide)⟩

/-- A page that is marked already is marked once. -/
theorem metadataPageRead_witness :
    ∃ t, exec (.metadataPageRead 6 .map .oneBad) (logBoard { MetaState.reset with dirty := [6, 8] }) = .next t ∧ t.md.dirty = [6, 8] :=
  ⟨_, metadataPageRead_oneBad 6 .map (logBoard { MetaState.reset with dirty := [6, 8] }) rfl, by decide⟩

/-- What a restart finds where nothing was stored: with a checkpoint record or without. -/
def witnessFacts (record : Bool) : RestartFacts :=
  { record := record, vault := false, stream := false, copies := 0, mirror := none, lostLog := none, hits := [], rows := [], rewrites := [], erased := [],
    peer := { base := [], tail := [], scan := [], logged := [] } }

/-- A board with these modules that has booted and knows its lease. -/
def bootedBoard (ms : List Module) : State :=
  { State.reset with boot := { BootState.reset with booted := true }, media := { MediaState.reset with modules := ms },
                     peer := { PeerState.reset with leaseKnown := true }, md := { MetaState.reset with saved := { Store.empty with nss := [witnessSpace] } } }

/-- The namespace of the checkpoint is there again. -/
theorem metadataRestart_witness :
    ∃ t, exec (.metadataRestart (witnessFacts true)) (bootedBoard []) = .next t ∧ t.md.store.ns 1 = some witnessSpace := by
  refine ⟨_, metadataRestart_restarts (witnessFacts true) (bootedBoard []) rfl (by decide) rfl, ?_⟩
  unfold restart
  rw [settleHwm_md, settleRo_md, settleRebuild_md]
  decide

/-- A module of index `m` in domain 0. -/
def witnessModule (m : Nat) : Module := newModule State.reset m 0 0 witnessDescriptor []

/-- The head that finds no record drives Fog. -/
theorem metadataRestart_fenced_witness :
    ∃ t, exec (.metadataRestart (witnessFacts false)) (bootedBoard [witnessModule 3]) = .next t ∧ t.flag Reg.fGLB_FOG_STATUS_DRIVEN = true :=
  ⟨_, metadataRestart_fenced (witnessFacts false) (bootedBoard [witnessModule 3]) rfl (by decide) rfl (by decide), driven_raiseFog _ _ _ _⟩

/-- A descriptor at the lower bounds of its fields. -/
def goodDescriptor : Descriptor :=
  { witnessDescriptor with format := 1, len := 0x200, wwid := 1, dies := 1, planes := 1, density := 2, blocks := 1, pagesNative := 1, pagesOneBit := 1,
                           pageBytes := 18432, eaMeV := 100, holdupMs := 1000, retryTable := [[0]], crcOk := true }

/-- That module, as port 0 holds it. -/
def attachedModule : Attached := { wwid := 1, desc := goodDescriptor, modPort := 0, otherGen := 0, otherFenced := false }

/-- A paired board whose port 0 is up, with that module attached and bound to index 255. -/
def admitBoard : State :=
  { (((logBoard MetaState.reset).setFlag Reg.fSML_PORT_BIND_BOUND true 0).setFld Reg.fSML_PORT_BIND_MODULE 255 0).setFlag Reg.fSML_PORT_STATUS_UP true 0 with
    sml := { SmlState.reset with ports := [{ MediaPort.fresh 0 with attached := some attachedModule }] } }

/-- MODULE_ADMIT of index 255 into placement domain 7 and failure domain 63. -/
def admitRequest : TaskReq := witnessRequest [BitVec.ofNat 64 (255 + 2 ^ 8 * 7 + 2 ^ 16 * 63)] 0

theorem moduleAdmit_witness :
    ∃ t, exec (.moduleAdmit admitRequest []) admitBoard = .next t ∧
      windowOnly (admitModule 255 7 63 goodDescriptor [] 0 (withJob 0x0802 admitRequest { work := .admitModule 255 }
        (taken { opcode := 0x0802, windows := [0] } admitRequest admitBoard) 0)) t := by
  obtain ⟨t, ht, -, hw⟩ := moduleAdmit_admits admitRequest [] admitBoard _ 0 attachedModule 0
    ((goes_iff _ _ _ _).2 ⟨rfl, rfl, rfl, rfl, by decide, by decide, by decide, rfl, by decide, by decide⟩)
    rfl (by decide) (by decide) (by decide) (by decide) (by decide) (by decide) (by decide) (by decide) (by decide) (freeRecord_of_no_jobs _ _ rfl)
  exact ⟨t, ht, hw⟩

/-- A paired board of four modules under code 1+1, one more than the domain must keep. -/
def wideBoard : State :=
  { logBoard MetaState.reset with
    media := { MediaState.reset with modules := [3, 4, 5, 6].map witnessModule, domains := [{ PDomain.reset with code := some (1, 1) }] } }

theorem moduleRetire_witness :
    ∃ t, exec (.moduleRetire (witnessRequest [3] 0)) wideBoard = .next t ∧
      windowOnly (retireModule (witnessModule 3) (withJob 0x0803 (witnessRequest [3] 0) { cancellable := true, work := .retire 3 }
        (taken { opcode := 0x0803, windows := [0] } (witnessRequest [3] 0) wideBoard) 0)) t := by
  obtain ⟨t, ht, -, hw⟩ := moduleRetire_retires (witnessRequest [3] 0) wideBoard _ (witnessModule 3) 0
    ((goes_iff _ _ _ _).2 ⟨rfl, rfl, rfl, rfl, by decide, by decide, by decide, rfl, by decide, by decide⟩)
    rfl (by decide) rfl (by decide) (by decide) (by decide) (freeRecord_of_no_jobs _ _ rfl)
  exact ⟨t, ht, hw⟩

theorem healthRead_witness :
    ∃ t, exec (.healthRead (witnessRequest [0] 0)) wideBoard = .next t ∧ windowOnly wideBoard t := by
  obtain ⟨t, ht, -, hw⟩ := healthRead_media (witnessRequest [0] 0) wideBoard
    ((goes_iff _ _ _ _).2 ⟨rfl, rfl, rfl, rfl, by decide, by decide, by decide, rfl, by decide, by decide⟩) (by decide)
  exact ⟨t, ht, hw⟩

end Sys2Proof.Machine

/-!
SUPPORT. Reset and shutdown: what a part that does not serve does with a waiting command (12 R310; 21 R501; 22 R514 to R516).
-/
namespace Sys2Proof.Machine

/-! ## Commands of a part that does not serve -/

/-- On a state that does not serve the command answers that state. -/
def Idles (k : State → Host.Outcome State Fault Refusal) : Prop := ∀ s, s.up = false → k s = .next s

theorem pipes_of_down (s : State) (h : s.up = false) : s.pipes = false := by simp [State.pipes, h]

theorem serves_of_down (s : State) (h : s.up = false) : s.serves = false := by simp [State.serves, pipes_of_down s h]

theorem act_idles (f : State → State) : Idles (act f) := act_down f

theorem actPipe_idles (f : State → State) : Idles (actPipe f) := fun s h => by simp [actPipe, pipes_of_down s h]

theorem actIO_idles (f : State → State) : Idles (actIO f) := fun s h => by simp [actIO, serves_of_down s h]

theorem onTarget_idles (h : RrHead) (k : Stream → Bool × Namespace → State → State) : Idles (onTarget h k) := fun s hd => by
  simp [onTarget, serves_of_down s hd]

/-- A GO by register write runs its task command only on a chip that serves (03 R64). -/
theorem busWrite_idles (off : Nat) (whole : Bool) (w : Word) : Idles (busWrite off whole w) := fun s h => by
  simp [busWrite, act_down, h]

/-- Every command but the pins, supplies and the thermal start: its arm is `act`, or one of the gates that need a chip that serves. -/
theorem exec_idles (c : Instr) (hc : pinEvent c = false) : Idles (exec c) := by
  cases c with
  | porstNRelease | porstNAssert | vddAonLoss | shutdownExit | thermalAutoStart | perstN => cases hc
  | registerWrite | stagedRegisterWrite => exact busWrite_idles _ _ _
  | grainFingerprint | repairInPlace | rowProgramSuccess | rowProgramFail | codewordReadEscalation | segmentOpen | rebuildSegment
  | rebuildTransactionDurable | freeSpaceChange | fold | garbageCollection | relocationErase | blockEraseComplete
  | staticWearLevelling | readDisturbRefresh | checkpoint | checkpointDurable | checkpointOverdue | metadataPageRead | metadataRestart =>
    exact actPipe_idles _
  | journalAppend | grainVerify | grainReconstruction | journalFetch | nvmeWrite | nvmeRead | writeZeroes | datasetManagement
  | compare | copy | flush | reservationRegister | reservationAcquire | reservationRelease | reservationReport
  | capsuleContextAdmit | h2cDataPdu | rdmaReadCompletion | fwdCmd =>
    exact actIO_idles _
  | fpBatch | data | mapRun | syncRec => exact onTarget_idles _ _
  | streamOpen h m fps =>
    cases m with
    | inl ids => exact act_idles _
    | inr cursor => exact act_idles _
  | diffEnd h m =>
    cases m with
    | inl n => exact onTarget_idles h _
    | inr n => exact act_idles _
  | _ => exact act_idles _

/-- Settles O3: an empty queue idles, and the front command, which is no pin event, idles on the state with the queue's rest. -/
theorem heldInResetOnlyPinsAct : Obligations.HeldInResetOnlyPinsAct := by
  unfold Obligations.HeldInResetOnlyPinsAct
  intro s hup hpins
  have htail : ∀ c ∈ s.pending.tail, pinEvent c = false := fun c hc => hpins c (List.mem_of_mem_tail hc)
  refine ⟨{ s with pending := s.pending.tail }, ?_, rfl, hup, htail⟩
  cases hq : s.pending with
  | nil =>
    have hs : { s with pending := [] } = s := by rw [← hq]
    rw [step, hq]
    exact congrArg _ hs.symm
  | cons c rest =>
    have hc : pinEvent c = false := hpins c (by simp [hq])
    rw [step, hq]
    exact exec_idles c hc _ hup

/-- A Bardar that has shut down, on which a GO of window 3 by register write and PFAIL_N wait in front of a sensor sample. -/
def shutDownBoard : State :=
  { State.reset with hup := { HupState.reset with shutdown := true }, pending := [.registerWrite 0x14100 true 1, .pfailNAsserted, .storeSenseSample 7] }

/-- Three steps empty its queue and change nothing else. -/
theorem heldInReset_witness : core.run 3 shutDownBoard = .next { shutDownBoard with pending := [] } := by
  obtain ⟨t, ht, rfl, hup, hq⟩ := heldInResetOnlyPinsAct shutDownBoard (by decide) (by decide)
  obtain ⟨u, hu, rfl, hup', hq'⟩ := heldInResetOnlyPinsAct _ hup hq
  obtain ⟨v, hv, rfl, -, -⟩ := heldInResetOnlyPinsAct _ hup' hq'
  simp only [Host.Core.run, core, ht, hu, hv]
  rfl

end Sys2Proof.Machine

/-!
SUPPORT. The energy store and the vault: the power-fail sequence, dump and shutdown, probe and capacitance test, vault sets, settings (12 R295 to R313; 20 R475).
-/
namespace Sys2Proof.Machine

/-! ## Power failure, dump, shutdown (12 R308, R310) -/

theorem pfailNAsserted_starts (s : State) (hup : s.up = true) : ∃ u, u = { s with env := { s.env with pfailHigh := false } } ∧
    exec .pfailNAsserted s = .next (if s.flag Reg.fGLB_BOARD_STATUS_PFAIL_STUCK then u else powerFail 1 u) := by
  refine ⟨_, rfl, ?_⟩
  show execPfailNAsserted s = _
  unfold execPfailNAsserted
  rw [act_up _ _ hup]
  rfl

/-- What the end of a dump leaves alone. -/
theorem endDump_keeps (c : Option Nat) (s : State) : (endDump c s).boot = s.boot ∧ (endDump c s).host = s.host := by
  obtain ⟨h, he⟩ := endDump_only c s
  rw [he]
  exact ⟨rfl, rfl⟩

/-- A shutdown keeps what modules, boot flash and fuses hold (12 R310; 00 R8). -/
theorem shutDown_keeps (s : State) : (shutDown s).up = false ∧ (shutDown s).hup.shutdown = true ∧ (shutDown s).hup.dumpInfo = s.hup.dumpInfo ∧
    (shutDown s).hup.image = s.hup.image ∧ (shutDown s).boot.fuses = s.boot.fuses ∧ (shutDown s).host.directory = s.host.directory ∧
    (shutDown s).host.cmds = [] := by
  obtain ⟨r, he⟩ := shutDown_eq s
  obtain ⟨hfuses, -, hdir, -, hcmds, -⟩ := chipReset_keeps false s
  obtain ⟨-, -, himage⟩ := cutFlash_more s
  rw [he]
  exact ⟨by simp [State.up], rfl, rfl, himage, hfuses, hdir, hcmds⟩

theorem vaultDumpCommit_shutsDown (s : State) (c : Option Nat) (hup : s.up = true) (hd : s.hup.dumping = true) :
    ∃ t, exec (.vaultDumpCommit c) s = .next t ∧ t.up = false ∧ t.hup.shutdown = true ∧ t.hup.dumpInfo = (endDump c s).hup.dumpInfo ∧
      (∀ d, d < 47 → t.domainState d = 3) ∧ t.hup.image = (endDump c s).hup.image ∧ t.boot.fuses = s.boot.fuses ∧
      t.host.directory = s.host.directory ∧ t.host.cmds = [] := by
  obtain ⟨hdown, hshut, hinfo, himage, hfuses, hdir, hcmds⟩ := shutDown_keeps (endDump c s)
  obtain ⟨hboot, hhost⟩ := endDump_keeps c s
  refine ⟨shutDown (endDump c s), ?_, hdown, hshut, hinfo, shutDown_domains _, himage, by rw [hfuses, hboot], by rw [hdir, hhost], hcmds⟩
  show execVaultDumpCommit c s = _
  unfold execVaultDumpCommit
  rw [act_up _ _ hup, if_pos hd]

/-- A chip domain that leaves reset serves, with every switched domain on and its metadata as they stood (12 R310). -/
theorem leaveReset_serves (s : State) : (leaveReset s).up = true ∧ (leaveReset s).env = s.env ∧ (leaveReset s).md = s.md := by
  obtain ⟨r, h⟩ := leaveReset_only s
  rw [h]
  exact ⟨by simp [State.up], rfl, rfl⟩

theorem shutdownExit_pfailHigh (s : State) (hshut : s.hup.shutdown = true) (hporst : s.env.porstHigh = true) (haon : s.env.aonLost = false)
    (htrip : ∀ i, s.hup.dumpInfo = some i → i.trip = false) :
    ∃ t, exec (.shutdownExit .pfailHigh) s = .next t ∧ t.up = true ∧ t.env.pfailHigh = true ∧ (∀ d, d < 47 → t.domainState d = 0) ∧ t.md = s.md := by
  have hany : s.hup.dumpInfo.any (·.trip) = false := by
    cases hi : s.hup.dumpInfo with
    | none => rfl
    | some i => exact htrip i hi
  have hex : exec (.shutdownExit .pfailHigh) s = .next (leaveReset { s with env := { s.env with pfailHigh := true } }) := by
    show execShutdownExit .pfailHigh s = _
    unfold execShutdownExit
    simp only [hshut, hporst, haon, hany, Bool.not_false, Bool.and_self, if_true]
  obtain ⟨hup, henv, hmd⟩ := leaveReset_serves { s with env := { s.env with pfailHigh := true } }
  exact ⟨_, hex, hup, by rw [henv], fun d hd => leaveReset_domains _ d hd, hmd⟩

theorem shutdownExit_aonReturn (s : State) (haon : s.env.aonLost = true) (hporst : s.env.porstHigh = true) :
    ∃ t, exec (.shutdownExit .aonReturn) s = .next t ∧ t.up = true ∧ t.env.aonLost = false ∧ (∀ d, d < 47 → t.domainState d = 0) ∧ t.md = s.md := by
  have hex : exec (.shutdownExit .aonReturn) s = .next (leaveReset { s with env := { s.env with aonLost := false } }) := by
    show execShutdownExit .aonReturn s = _
    unfold execShutdownExit
    simp only [haon, hporst, if_true]
  obtain ⟨hup, henv, hmd⟩ := leaveReset_serves { s with env := { s.env with aonLost := false } }
  exact ⟨_, hex, hup, by rw [henv], fun d hd => leaveReset_domains _ d hd, hmd⟩

/-! ## Samples, probes and tests of the store (12 R295 to R303) -/

theorem storeSenseSample_senses (v : Int) (s : State) (hup : s.up = true) (hst : (senseStore v s).flag Reg.fGLB_BOARD_STATUS_PFAIL_STUCK = false) :
    exec (.storeSenseSample v) s = .next (senseStore v s) := by
  show execStoreSenseSample v s = _
  unfold execStoreSenseSample
  rw [act_up _ _ hup]
  simp only [hst, Bool.false_and, Bool.false_eq_true, if_false]

theorem storeProbe_probes (v x : Int) (s : State) (hup : s.up = true) (hcfg : unconfigured s = false) (hb : s.background = true)
    (hst : s.hup.st = .probing) : exec (.storeProbe v x) s = .next (runProbe v x s) := by
  show execStoreProbe v x s = _
  unfold execStoreProbe
  rw [act_up _ _ hup, if_pos (by simp [hst, hcfg, hb])]

theorem storeProbeRepeat_probes (v x : Int) (s : State) (hup : s.up = true) (hcfg : unconfigured s = false) (hb : s.background = true)
    (hst : s.hup.st = .fault) : exec (.storeProbeRepeat v x) s = .next (runProbe v x (s.reach (s.hup.probedAt + 60 * sec))) := by
  show execStoreProbeRepeat v x s = _
  unfold execStoreProbeRepeat
  rw [act_up _ _ hup, if_pos (by simp [hst, hcfg, hb])]

/-- A probe that finds nothing ends 2 s later with the store UNARMED and the charger on (12 R297). -/
theorem runProbe_passes (v x : Int) (s w u : State) (hv : 0 ≤ v) (hw : w = s.reach (s.now + 2 * sec))
    (hu : u = { w with hup := { w.hup with probedAt := w.now } }) (hp : probeFault v x u = none) :
    runProbe v x s = rejudge (setHup .unarmed { u with hup := { u.hup with chg := true, released := true } }) := by
  subst hu hw
  unfold runProbe
  simp only [if_neg (show ¬ v < -200 by omega), hp]

theorem capacitanceTestDue_begins (s u : State) (hup : s.up = true) (hi : s.fld Reg.fHUP_CFG_TEST_INTERVAL_H ≠ 0) (hb : s.background = true)
    (hu : u = s.reach (s.hup.testedAt + s.fld Reg.fHUP_CFG_TEST_INTERVAL_H * hour)) (hc : canTest u = true) :
    exec .capacitanceTestDue s = .next (beginTest none u) := by
  subst hu
  show execCapacitanceTestDue s = _
  unfold execCapacitanceTestDue
  rw [act_up _ _ hup]
  simp only [beq_iff_eq, hi, hb, hc, Bool.not_true, Bool.or_false, if_false, if_true]

theorem capacitanceTestEnd_ends (v : Int) (t : Nat) (s : State) (t0 : Nat) (v0 : Int) (hup : s.up = true)
    (hs : s.hup.testStart = some (t0, v0)) (hst : s.hup.st = .testing) (ht : t ≤ 2 * sec)
    (hd : (s.fld Reg.fHUP_SENSE_CFG_TEST_DROP_MV : Int) ≤ v0 - v ∨ t = 2 * sec) :
    exec (.capacitanceTestEnd v t) s = .next (endTest v t v0 (s.reach (t0 + t))) := by
  have hdue : (decide ((s.fld Reg.fHUP_SENSE_CFG_TEST_DROP_MV : Int) ≤ v0 - v) || decide (2 * sec ≤ t) || !energyAtLeast s (v - 1) 1 1) = true := by
    rcases hd with hd | rfl
    · simp [hd]
    · simp
  show execCapacitanceTestEnd v t s = _
  unfold execCapacitanceTestEnd
  rw [act_up _ _ hup]
  simp only [hs, hdue, hst, beq_self_eq_true, ht, decide_true, Bool.and_self, if_true]

/-! ## Vault sets and settings (12 R299, R304, R313) -/

theorem vaultMemberReplace_replaces (s u : State) (hup : s.up = true) (hu : u = assignVault s) (hc : u.hup.set1 ≠ s.hup.set1 ∨ u.hup.set2 ≠ s.hup.set2) :
    exec .vaultMemberReplace s = .next (rejudge (queueFlash .other u)) := by
  subst hu
  show execVaultMemberReplace s = _
  unfold execVaultMemberReplace
  rw [act_up _ _ hup]
  refine congrArg _ (if_neg ?_)
  simpa only [Bool.and_eq_true, beq_iff_eq, not_and_or] using hc

theorem dumpAreaErase_erases (s : State) (hup : s.up = true) (he : mayEraseDump s = true) :
    exec .dumpAreaErase s = .next (rejudge { s with hup := { s.hup with
      set1 := s.hup.set1.map fun m => { m with erased := true }, set2 := s.hup.set2.map fun m => { m with erased := true }, image := none,
      dumpSeq := if s.hup.image.isSome then s.hup.dumpSeq + 1 else s.hup.dumpSeq } }) := by
  show execDumpAreaErase s = _
  unfold execDumpAreaErase
  rw [act_up _ _ hup, if_pos he]

theorem holdupSettingsWrite_queues (s : State) (hup : s.up = true) (hk : s.keeperA = some true) :
    exec .holdupSettingsWrite s = .next { s with kpr := { s.kpr with
      flashQ := s.kpr.flashQ ++ [{ item := .holdup (s.word Reg.HUP_STORE_CFG.base) (s.word Reg.HUP_SENSE_CFG.base), doneA := false }] } } := by
  show execHoldupSettingsWrite s = _
  unfold execHoldupSettingsWrite
  rw [act_up _ _ hup, hk]
  rfl

/-! ## HOLDUP_TEST (12 R303) -/

theorem hup_of_windowOnly (u t : State) (h : windowOnly u t) : t.hup = u.hup := by rw [h.1]

/-- The plan of HOLDUP_TEST's job. -/
def holdupPlan : JobPlan := { carrier := .keeper, work := .capacitance }

/-- What HOLDUP_TEST does with its job record: the interval, then a probe in FAULT, then the test. -/
def holdupJob (r : TaskReq) (v rise : Int) (n : Nat) (s : State) : State :=
  let s := if r.argBits 1 1 1 == 1 then s.setFld Reg.fHUP_CFG_TEST_INTERVAL_H (r.arg 2) else s
  if !(r.argBits 1 0 0 == 1) then endJob n cOK 0 (testResults s) s
  else if s.hup.st == .fault then
    let s := if unconfigured s then s else runProbe v rise s
    if s.hup.st == .fault then endJob n cHW_FAULT 0 (testResults s) s
    else if canTest s then beginTest (some n) s else endJob n cSTATE_CONFLICT 0 (testResults s) s
  else beginTest (some n) s

/-- With a legal interval, and a test that can start or a store in FAULT where one is asked for, HOLDUP_TEST is a job. -/
theorem holdupTest_starts (r : TaskReq) (v x : Int) (s u : State) (n : Nat) (h : goes { opcode := 0x0A05, windows := [0, 2] } [(1, mask 1 0), (2, mask64)] r s = true)
    (hu : u = taken { opcode := 0x0A05, windows := [0, 2] } r s) (hn : freeRecord r.window s = some n)
    (hset : r.argBits 1 1 1 = 1 → r.arg 2 ≤ 8760) (hrun : r.argBits 1 0 0 = 1 → u.hup.st = .fault ∨ canTest u = true) :
    ∃ t, exec (.holdupTest r v x) s = .next t ∧ answered r cACCEPTED 0 [handleOf (plannedJob 0x0A05 r holdupPlan s n)] t ∧
      windowOnly (holdupJob r v x n (withJob 0x0A05 r holdupPlan u n)) t := by
  subst hu
  refine taskCmd_jobOp _ _ r _ s 0x0A05 n holdupPlan (holdupJob r v x) h hn ?_
  refine (if_neg ?_).trans (if_neg ?_)
  · simpa using hset
  · simp only [Bool.and_eq_true, beq_iff_eq, bne_iff_ne, Bool.not_eq_true', not_and, Bool.not_eq_false, and_imp]
    exact fun hr hf => (hrun hr).resolve_left hf

theorem holdupTest_setsInterval (r : TaskReq) (v x : Int) (s u : State) (n : Nat) (h : goes { opcode := 0x0A05, windows := [0, 2] } [(1, mask 1 0), (2, mask64)] r s = true)
    (hu : u = taken { opcode := 0x0A05, windows := [0, 2] } r s) (hn : freeRecord r.window s = some n)
    (hset : r.argBits 1 1 1 = 1) (hrun : r.argBits 1 0 0 = 0) (ha : r.arg 2 ≤ 8760) :
    ∃ w t, w = (withJob 0x0A05 r holdupPlan u n).setFld Reg.fHUP_CFG_TEST_INTERVAL_H (r.arg 2) ∧ exec (.holdupTest r v x) s = .next t ∧
      answered r cACCEPTED 0 [handleOf (plannedJob 0x0A05 r holdupPlan s n)] t ∧ windowOnly (endJob n cOK 0 (testResults w) w) t := by
  obtain ⟨t, ht, hans, hw⟩ := holdupTest_starts r v x s u n h hu hn (fun _ => ha) (fun hr => by omega)
  have hjob : ∀ w, holdupJob r v x n w = endJob n cOK 0 (testResults (w.setFld Reg.fHUP_CFG_TEST_INTERVAL_H (r.arg 2))) (w.setFld Reg.fHUP_CFG_TEST_INTERVAL_H (r.arg 2)) := by
    intro w
    simp [holdupJob, hset, hrun]
  rw [hjob] at hw
  exact ⟨_, t, rfl, ht, hans, hw⟩

theorem holdupTest_begins (r : TaskReq) (v x : Int) (s u : State) (n : Nat) (h : goes { opcode := 0x0A05, windows := [0, 2] } [(1, mask 1 0), (2, mask64)] r s = true)
    (hu : u = taken { opcode := 0x0A05, windows := [0, 2] } r s) (hn : freeRecord r.window s = some n)
    (hset : r.argBits 1 1 1 = 0) (hrun : r.argBits 1 0 0 = 1) (hst : u.hup.st = .armed) (hc : canTest u = true) :
    ∃ t, exec (.holdupTest r v x) s = .next t ∧ answered r cACCEPTED 0 [handleOf (plannedJob 0x0A05 r holdupPlan s n)] t ∧
      windowOnly (beginTest (some n) (withJob 0x0A05 r holdupPlan u n)) t := by
  obtain ⟨t, ht, hans, hw⟩ := holdupTest_starts r v x s u n h hu hn (fun hs => by omega) (fun _ => .inr hc)
  have hjob : holdupJob r v x n (withJob 0x0A05 r holdupPlan u n) = beginTest (some n) (withJob 0x0A05 r holdupPlan u n) := by
    simp [holdupJob, hset, hrun, withJob, hst]
  rw [hjob] at hw
  exact ⟨t, ht, hans, hw⟩

/-- Settles O32: each row is one equation of `exec`; the shutdown is `shutDown_keeps`, its end `leaveReset_serves`, HOLDUP_TEST `holdupTest_starts`. -/
theorem energyStoreVaultAndShutdown : Obligations.EnergyStoreVaultAndShutdown := by
  unfold Obligations.EnergyStoreVaultAndShutdown
  refine ⟨pfailNAsserted_starts, vaultDumpCommit_shutsDown, fun s => ⟨shutdownExit_pfailHigh s, shutdownExit_aonReturn s⟩, storeSenseSample_senses, ?probe,
    capacitanceTestDue_begins, capacitanceTestEnd_ends, vaultMemberReplace_replaces, dumpAreaErase_erases, holdupSettingsWrite_queues, ?holdup⟩
  case probe =>
    intro v x s hup hcfg hb
    exact ⟨storeProbe_probes v x s hup hcfg hb, storeProbeRepeat_probes v x s hup hcfg hb, runProbe_passes v x s⟩
  case holdup =>
    intro r v x s u n p h hu hn hp
    subst hp
    exact ⟨holdupTest_setsInterval r v x s u n h hu hn, holdupTest_begins r v x s u n h hu hn⟩

/-! ## The hypotheses are met -/

/-- A configured store of 8.82 F between 7.5 V and 12.5 V, full: 441 J, 1.05 times ARM_J. -/
def storeBoard (h : HupState) : State :=
  { ((State.reset.setFld Reg.fHUP_STORE_CFG_C_RATED 882).setFld Reg.fHUP_STORE_CFG_V_MIN_MV 7500).setFld Reg.fHUP_STORE_CFG_V_FULL_MV 12500 with
    hup := { h with vMv := 12500 } }

/-- PFAIL_N low on a new board starts the sequence; a stuck pin is only noted. -/
theorem pfailNAsserted_witness :
    (∃ t, exec .pfailNAsserted (storeBoard HupState.reset) = .next t ∧ t = powerFail 1 { storeBoard HupState.reset with env := { EnvState.reset with pfailHigh := false } }) ∧
    ∃ t, exec .pfailNAsserted (State.reset.setFlag Reg.fGLB_BOARD_STATUS_PFAIL_STUCK true) = .next t ∧ t.hup = HupState.reset := by
  obtain ⟨u, rfl, hu⟩ := pfailNAsserted_starts (storeBoard HupState.reset) rfl
  obtain ⟨v, rfl, hv⟩ := pfailNAsserted_starts (State.reset.setFlag Reg.fGLB_BOARD_STATUS_PFAIL_STUCK true) rfl
  rw [if_neg (by decide)] at hu
  rw [if_pos (by decide)] at hv
  exact ⟨⟨_, hu, rfl⟩, ⟨_, hv, rfl⟩⟩

/-- A dump of DUMP_SEQ 5 that runs on two members with erased areas. -/
def dumpBoard : State :=
  { State.reset with hup := { HupState.reset with
      dumping := true, dumpSeq := 5, dumpInfo := some { cause := 1, stamp := 9, mode := 3, trip := false },
      set1 := [{ module := 3, erased := true }], set2 := [{ module := 255, erased := true }] } }

/-- Cut after its first page, the dump leaves an image that is not whole, and PD 46 off. -/
theorem vaultDumpCommit_witness :
    ∃ t, exec (.vaultDumpCommit (some 1)) dumpBoard = .next t ∧ t.up = false ∧ t.domainState 46 = 3 ∧ t.hup.image.map VaultImage.whole = some false := by
  obtain ⟨t, ht, hdown, -, -, hdom, himage, -⟩ := vaultDumpCommit_shutsDown dumpBoard (some 1) rfl rfl
  exact ⟨t, ht, hdown, hdom 46 (by decide), by rw [himage]; decide⟩

/-- A shutdown after that dump ends with PFAIL_N high, or, with VDD_AON lost, with its return. -/
theorem shutdownExit_witness :
    (∃ t, exec (.shutdownExit .pfailHigh) { dumpBoard with hup := { dumpBoard.hup with shutdown := true } } = .next t ∧ t.up = true) ∧
    ∃ t, exec (.shutdownExit .aonReturn) { dumpBoard with hup := { dumpBoard.hup with shutdown := true }, env := { EnvState.reset with aonLost := true } } = .next t ∧
      t.up = true := by
  obtain ⟨t, ht, htup, -⟩ := shutdownExit_pfailHigh { dumpBoard with hup := { dumpBoard.hup with shutdown := true } } rfl rfl rfl
    (fun i hi => by cases hi; rfl)
  obtain ⟨u, hu, huup, -⟩ := shutdownExit_aonReturn { dumpBoard with hup := { dumpBoard.hup with shutdown := true }, env := { EnvState.reset with aonLost := true } } rfl rfl
  exact ⟨⟨t, ht, htup⟩, ⟨u, hu, huup⟩⟩

theorem storeSenseSample_witness : ∃ t, exec (.storeSenseSample 12500) (storeBoard HupState.reset) = .next t ∧ t.hup.vMv = 12500 :=
  ⟨_, storeSenseSample_senses 12500 (storeBoard HupState.reset) rfl (by decide), by decide⟩

/-- At a rise of 6 mV the store is not short: after 2 s the first probe passes. -/
theorem storeProbe_witness : ∃ t, exec (.storeProbe 0 6) (storeBoard HupState.reset) = .next t ∧ t.hup.st = .unarmed ∧ t.now = 2000000000 := by
  refine ⟨_, storeProbe_probes 0 6 (storeBoard HupState.reset) rfl (by decide) (by decide) rfl, ?_⟩
  rw [runProbe_passes 0 6 (storeBoard HupState.reset) _ _ (by decide) rfl rfl (by decide)]
  decide

/-- At a rise of 226 mV the store is not open: the probe repeated 60 s after a fault passes. -/
theorem storeProbeRepeat_witness :
    ∃ t, exec (.storeProbeRepeat 0 226) (storeBoard { HupState.reset with st := .fault, probedAt := 1 }) = .next t ∧ t.hup.st = .unarmed ∧ t.hup.probedAt = 62000000001 :=
  ⟨_, storeProbeRepeat_probes 0 226 (storeBoard { HupState.reset with st := .fault, probedAt := 1 }) rfl (by decide) (by decide) rfl, by decide⟩

/-- 24 h after the last test the energy is just enough for the next. -/
theorem capacitanceTestDue_witness :
    ∃ t, exec .capacitanceTestDue (storeBoard { HupState.reset with st := .armed, testedAt := 1 }) = .next t ∧ t.hup.st = .testing ∧ t.now = 86400000000001 :=
  ⟨_, capacitanceTestDue_begins (storeBoard { HupState.reset with st := .armed, testedAt := 1 }) _ rfl (by decide) (by decide) rfl (by decide), by decide⟩

/-- 5 A for 1 s at the drop of 200 mV: 25 F. -/
theorem capacitanceTestEnd_witness :
    ∃ t, exec (.capacitanceTestEnd 12300 1000000000) (storeBoard { HupState.reset with st := .testing, testStart := some (0, 12500) }) = .next t ∧
      t.hup.cMeas = some 2500 :=
  ⟨_, capacitanceTestEnd_ends 12300 1000000000 (storeBoard { HupState.reset with st := .testing, testStart := some (0, 12500) }) 0 12500 rfl rfl rfl (by decide)
    (.inl (by decide)), by decide⟩

/-- A member that is no module any more leaves set 1 unassigned. -/
theorem vaultMemberReplace_witness : ∃ t, exec .vaultMemberReplace dumpBoard = .next t ∧ t.hup.set1 = [] :=
  ⟨_, vaultMemberReplace_replaces dumpBoard _ rfl rfl (.inl (by decide)), by decide⟩

/-- The erase of an image arms DUMP_SEQ 6. -/
theorem dumpAreaErase_witness :
    ∃ t, exec .dumpAreaErase { endDump none dumpBoard with media := { MediaState.reset with ioAdmitted := true } } = .next t ∧
      t.hup.dumpSeq = 6 ∧ t.hup.set1 = [{ module := 3, erased := true }] :=
  ⟨_, dumpAreaErase_erases { endDump none dumpBoard with media := { MediaState.reset with ioAdmitted := true } } (by decide) (by decide), by decide, by decide⟩

theorem holdupSettingsWrite_witness : ∃ t, exec .holdupSettingsWrite (storeBoard HupState.reset) = .next t ∧ t.kpr.flashQ.length = 1 :=
  ⟨_, holdupSettingsWrite_queues (storeBoard HupState.reset) rfl (by decide), rfl⟩

/-- The longest interval is set, and a test of an armed store starts, each under record 0. -/
theorem holdupTest_witness :
    (∃ t, exec (.holdupTest (witnessRequest [2, 8760] 0) 0 0) (storeBoard HupState.reset) = .next t ∧ t.fld Reg.fHUP_CFG_TEST_INTERVAL_H = 8760) ∧
    ∃ t, exec (.holdupTest (witnessRequest [1] 0) 0 0) (storeBoard { HupState.reset with st := .armed }) = .next t ∧ t.hup.testJob = some 0 := by
  obtain ⟨w, t, rfl, ht, -, hw⟩ := holdupTest_setsInterval (witnessRequest [2, 8760] 0) 0 0 (storeBoard HupState.reset) _ 0
    ((goes_iff _ _ _ _).2 ⟨rfl, rfl, rfl, rfl, by decide, by decide, by decide, rfl, by decide, by decide⟩) rfl (freeRecord_of_no_jobs _ _ rfl)
    (by decide) (by decide) (by decide)
  obtain ⟨u, hu, -, hv⟩ := holdupTest_begins (witnessRequest [1] 0) 0 0 (storeBoard { HupState.reset with st := .armed }) _ 0
    ((goes_iff _ _ _ _).2 ⟨rfl, rfl, rfl, rfl, by decide, by decide, by decide, rfl, by decide, by decide⟩) rfl (freeRecord_of_no_jobs _ _ rfl)
    (by decide) (by decide) rfl (by decide)
  refine ⟨⟨t, ht, ?_⟩, ⟨u, hu, ?_⟩⟩
  · unfold State.fld
    rw [hw.2 _ (by decide) (by decide)]
    decide
  · rw [hup_of_windowOnly _ u hv]
    decide

end Sys2Proof.Machine

/-!
SUPPORT. Uberuf Remote connections: a frame is taken, proof and keys, keepalive, silence, loss, reconnection (13 R318 to R320, R328).
That a close fires the partner's source, that a FRACTURED stream resumes at a retry, and the clock of a timer row are the model's choice (logs 91, 90, 126).
-/
namespace Sys2Proof.Machine

/-! ## A frame is taken (13 R318, R320) -/

/-- A frame that is cut short, out of FSEQ or of another key generation closes its connection. -/
theorem onFrame_bad (h : RrHead) (clear : Bool) (k : ReplConn → State → State) (s : State) (c : ReplConn) (hc : s.conn h.conn = some c)
    (hb : h.intact = false ∨ h.fseq ≠ c.rxSeq ∨ h.gen ≠ (if clear then 0xFFFF else c.rxGen)) : onFrame h clear k s = closeConn c s := by
  unfold onFrame
  simp only [hc]
  rw [if_pos (by simpa [or_assoc] using hb)]

theorem act_onFrame (h : RrHead) (clear : Bool) (k : ReplConn → State → State) (s u : State) (c d : ReplConn) (hf : frameIn h clear c d s u) :
    act (onFrame h clear k) s = .next (k d u) := by
  rw [act_up _ _ hf.1, onFrame_good h clear k c d s u hf]

/-! ## What is sent on a connection (13 R318) -/

theorem sendConn_conn (c : ReplConn) (st : Nat) (m : RrMsg) (s : State) :
    (sendConn c st m s).conn c.conn = some { c with txSeq := c.txSeq + 1, frames := c.frames + 1, txAt := s.now } :=
  State.conn_putConn s { c with txSeq := c.txSeq + 1, frames := c.frames + 1, txAt := s.now }

/-! ## Connections are proved (13 R319) -/

/-- The connection that a HELLO opens at the side that was called. -/
def calledConn (n p : Nat) (rand mine : BitVec 256) (now : Nat) : ReplConn :=
  { conn := n, partner := p, caller := false, proved := false, mine := mine, theirs := rand, txGen := 0, rxGen := 0,
    txSeq := 1, rxSeq := 2, frames := 0, keyAt := now, txAt := now, rxAt := now }

/-- HELLO of a known partner that holds fewer than 8 connections is answered on the connection it opens. -/
theorem hello_answered (n : Nat) (h : RrHead) (id : BitVec 128) (rand mine : BitVec 256) (s : State) (p : ReplPartner) (hup : s.up = true)
    (hi : h.intact = true) (hg : h.gen = 0xFFFF) (hq : h.fseq = 1) (hc : s.conn n = none)
    (hp : s.repl.partners.find? (·.pairId == id) = some p) (hn : connCount s p.index < 8) :
    exec (.hello n h id rand mine) s = .next (sendConn (calledConn n p.index rand mine s.now) 0
      (.helloAck (pairId s) mine (macFor p id (pairId s) rand mine)) (s.putConn (calledConn n p.index rand mine s.now))) := by
  show execHello n h id rand mine s = _
  unfold execHello
  rw [act_up _ _ hup, if_neg (by simp [hi, hg, hq, hc]), hp]
  exact congrArg _ (if_neg (by omega))

/-- The HMAC of HELLO_ACK proves the partner to the side that called, which answers with PROOF. -/
theorem helloAck_proves (h : RrHead) (id : BitVec 128) (rand : BitVec 256) (mac : BitVec 384) (s u v : State) (c d : ReplConn) (p : ReplPartner)
    (hf : frameIn h true c d s u) (hr : u.replPartner d.partner = some p) (hd : d.proved = false) (hcall : d.caller = true) (hid : p.pairId = id)
    (hm : mac = macFor p (pairId u) id d.mine rand)
    (hv : v = sendConn { d with theirs := rand } 0 (.proof (macFor p (pairId u) id rand d.mine)) (u.putConn { d with theirs := rand })) :
    exec (.helloAck h id rand mac) s = .next (openWaiting p.index (proveConn ((v.conn d.conn).getD { d with theirs := rand }) v)) := by
  subst hv
  show execHelloAck h id rand mac s = _
  unfold execHelloAck
  rw [act_onFrame h true _ s u c d hf, hr]
  exact congrArg _ (if_neg (by simp [hd, hcall, hid, hm]))

/-- The HMAC of PROOF proves the partner to the side that was called. -/
theorem proof_proves (h : RrHead) (mac : BitVec 384) (s u : State) (c d : ReplConn) (p : ReplPartner) (hf : frameIn h false c d s u)
    (hr : u.replPartner d.partner = some p) (hd : d.proved = false) (hcall : d.caller = false)
    (hm : mac = macFor p p.pairId (pairId u) d.mine d.theirs) :
    exec (.proof h mac) s = .next (openWaiting p.index (proveConn d u)) := by
  show execProof h mac s = _
  unfold execProof
  rw [act_onFrame h false _ s u c d hf, hr]
  exact congrArg _ (if_neg (by simp [hd, hcall, hm]))

/-! ## Keys (13 R320) -/

theorem rekey_moves (h : RrHead) (g : Nat) (s u : State) (c d : ReplConn) (hf : frameIn h false c d s u) (hp : c.proved = true)
    (hg : g = c.rxGen + 1) (hlt : g < 0xFFFF) : exec (.rekey h g) s = .next (u.putConn { d with rxGen := g }) := by
  have hd : d.rxGen = c.rxGen := by
    obtain ⟨-, -, -, -, -, rfl, -⟩ := hf
    rfl
  show execRekey h g s = _
  unfold execRekey
  rw [onProved_good h _ c d s u hf hp, if_pos (by simp [hg, hd]; omega)]

/-- After 2^31 frames under one key REKEY goes out, the last frame under it. -/
theorem rekeyLimit_moves (n : Nat) (s : State) (c : ReplConn) (hup : s.up = true) (hc : s.conn n = some c) (hn : c.conn = n) (hp : c.proved = true)
    (hfr : 2 ^ 31 ≤ c.frames) (hg : c.txGen + 1 ≠ 0xFFFF) :
    exec (.rekeyLimit n) s = .next ((sendConn c 0 (.rekey (c.txGen + 1)) s).putConn
      { c with txSeq := c.txSeq + 1, frames := 0, txAt := s.now, txGen := c.txGen + 1, keyAt := s.now }) := by
  subst hn
  show execRekeyLimit c.conn s = _
  unfold execRekeyLimit
  rw [act_up _ _ hup, hc]
  simp only [Option.filter, hp, if_true, if_pos hfr, beq_iff_eq, if_neg hg, sendConn_conn, Option.getD_some]
  rfl

/-! ## Keepalive, silence, loss (13 R320, Table 13.3) -/

theorem keepalive_taken (h : RrHead) (s u : State) (c d : ReplConn) (hf : frameIn h false c d s u) (hp : c.proved = true) :
    exec (.keepalive h) s = .next u :=
  onProved_good h _ c d s u hf hp

theorem keepalive_bad (h : RrHead) (s : State) (c : ReplConn) (hup : s.up = true) (hc : s.conn h.conn = some c)
    (hb : h.intact = false ∨ h.fseq ≠ c.rxSeq ∨ h.gen ≠ c.rxGen) : exec (.keepalive h) s = .next (closeConn c s) := by
  show execKeepalive h s = _
  unfold execKeepalive onProved
  rw [act_up _ _ hup, onFrame_bad h false _ s c hc hb]

theorem keepaliveIdleTimer_sends (n : Nat) (s : State) (c : ReplConn) (hup : s.up = true) (hc : s.conn n = some c) (hp : c.proved = true) :
    exec (.keepaliveIdleTimer n) s = .next (sendConn c 0 .keepAlive (s.reach (c.txAt + sec))) := by
  show execKeepaliveIdleTimer n s = _
  unfold execKeepaliveIdleTimer
  rw [act_up _ _ hup, hc]
  simp only [Option.filter, hp, if_true]

/-- Without streams only the connection goes. -/
theorem dropConn_idle (c : ReplConn) (s : State) (h : s.repl.streams = []) :
    dropConn c s = { s with repl := { s.repl with conns := s.repl.conns.filter (·.conn != c.conn) } } := by
  simp [dropConn, h]

theorem connectionSilenceTimer_closes (n : Nat) (s : State) (c : ReplConn) (hup : s.up = true) (hc : s.conn n = some c) :
    exec (.connectionSilenceTimer n) s = .next (closeConn c (s.reach (c.rxAt + 5 * sec))) := by
  show execConnectionSilenceTimer n s = _
  unfold execConnectionSilenceTimer
  rw [act_up _ _ hup, hc]

theorem replicationConnectionLoss_drops (n : Nat) (s : State) (c : ReplConn) (hup : s.up = true) (hc : s.conn n = some c) :
    exec (.replicationConnectionLoss n) s = .next (dropConn c s) := by
  show execReplicationConnectionLoss n s = _
  unfold execReplicationConnectionLoss
  rw [act_up _ _ hup, hc]

/-- A second after the last retry a partner without a connection is called again for a stream that waits (13 R328). -/
theorem reconnectRetry_calls (p : Fin 256) (n : Nat) (rand : BitVec 256) (s u : State) (q : ReplPartner) (hup : s.up = true)
    (hq : s.replPartner p.val = some q) (hu : u = s.reach ((s.now / sec + 1) * sec)) (hc : s.repl.conns = [])
    (hw : ∃ x ∈ s.repl.streams, x.source = true ∧ x.partner = q.index ∧ runsHere u x = true ∧ (x.st = .opening ∨ x.st = .disconnected ∨ x.st = .fractured)) :
    exec (.reconnectRetry p n rand) s = .next (callPartner q n rand u) := by
  obtain ⟨x, hx, hsrc, hpart, hrun, hst⟩ := hw
  have hwaits : (s.repl.streams.any fun x => x.source && x.partner == q.index && runsHere u x &&
      (x.st == .opening || x.st == .disconnected || x.st == .fractured)) = true :=
    List.any_eq_true.2 ⟨x, hx, by simpa [hsrc, hpart, hrun, or_assoc] using hst⟩
  show execReconnectRetry p n rand s = _
  unfold execReconnectRetry
  rw [act_up _ _ hup, hq]
  subst hu
  simp only [State.reach_repl, hwaits, Bool.not_true, Bool.false_eq_true, if_false, hc, List.any_nil, List.filter_nil, List.foldl_nil]

/-- Settles O33: each row is one equation of `exec`; a frame is taken by `onFrame_good` or closes its connection by `onFrame_bad`. -/
theorem remoteConnectionsProveAndKeepKeys : Obligations.RemoteConnectionsProveAndKeepKeys := by
  unfold Obligations.RemoteConnectionsProveAndKeepKeys
  refine ⟨?hello, ?prove, rekey_moves, ?limit, keepalive_taken, keepalive_bad, keepaliveIdleTimer_sends, ?silence, reconnectRetry_calls⟩
  case hello =>
    intro n h id rand mine s p c hup hi hg hq hc hp hn hcd
    subst hcd
    exact ⟨_, hello_answered n h id rand mine s p hup hi hg hq hc hp hn, sendConn_conn _ _ _ _, rfl, rfl, rfl, rfl⟩
  case prove =>
    intro h id rand mac s u c d p hr hd
    exact ⟨fun hf hcall hid hm => ⟨_, rfl, helloAck_proves h id rand mac s u _ c d p hf hr hd hcall hid hm rfl⟩,
      fun hf hcall hm => proof_proves h mac s u c d p hf hr hd hcall hm⟩
  case limit =>
    intro n s c v hup hc hn hp hfr hg _
    refine ⟨_, rekeyLimit_moves n s c hup hc hn hp hfr hg, ?_, by rw [← hn]; rfl, rfl, rfl, rfl⟩
    rw [← hn]
    exact State.conn_putConn _ _
  case silence =>
    intro n s c hup hc hs
    constructor
    · rw [connectionSilenceTimer_closes n s c hup hc, closeConn, dropConn_idle c _ (by rw [State.reach_repl, hs]), State.reach_repl]
    · rw [replicationConnectionLoss_drops n s c hup hc, dropConn_idle c s hs]

/-! ## The hypotheses are met -/

/-- Partner 4, of PAIR_ID 9. -/
def witnessPartner : ReplPartner := { index := 4, pairId := 9, addrs := [5], roce := false, port := 1, cap := 200, psk := 3 }

/-- Connection `n` to partner 4, each side in key generation `g`, with `frames` sent under it; frame 2 comes next. -/
def witnessConn (n g frames : Nat) (caller proved : Bool) : ReplConn :=
  { conn := n, partner := 4, caller := caller, proved := proved, mine := 6, theirs := 7, txGen := g, rxGen := g, txSeq := 3, rxSeq := 2, frames := frames,
    keyAt := 8, txAt := 9, rxAt := 10 }

/-- A board that knows partner 4 and holds these connections to it. -/
def remoteBoard (cs : List ReplConn) : State := { State.reset with repl := { ReplState.reset with partners := [witnessPartner], conns := cs } }

/-- Frame 2 on connection 2, of key generation `g`. -/
def witnessFrame (stream g : Nat) : RrHead := { conn := 2, stream := stream, fseq := 2, gen := g, intact := true }

/-- The eighth connection of a partner is answered. -/
theorem hello_witness :
    ∃ t, exec (.hello 2 { witnessFrame 0 0xFFFF with fseq := 1 } 9 7 6) (remoteBoard ((List.range' 10 7).map (witnessConn · 0 1 true true))) = .next t ∧
      t.conn 2 = some { calledConn 2 4 7 6 0 with txSeq := 2, frames := 1 } :=
  ⟨_, hello_answered 2 _ 9 7 6 (remoteBoard ((List.range' 10 7).map (witnessConn · 0 1 true true))) witnessPartner rfl rfl rfl rfl (by decide) (by decide) (by decide),
    sendConn_conn _ _ _ _⟩

/-- With the HMAC of R319 the connection is proved at the side that called. -/
theorem helloAck_witness :
    ∃ t, exec (.helloAck (witnessFrame 0 0xFFFF) 9 7 (macFor witnessPartner (pairId (remoteBoard [])) 9 6 7)) (remoteBoard [witnessConn 2 0 1 true false]) = .next t ∧
      t.repl.conns.map (·.proved) = [true] :=
  ⟨_, helloAck_proves _ 9 7 _ (remoteBoard [witnessConn 2 0 1 true false]) _ _ _ _ witnessPartner ⟨rfl, rfl, rfl, rfl, rfl, rfl, rfl⟩ rfl rfl rfl rfl rfl rfl, rfl⟩

/-- And at the side that was called. -/
theorem proof_witness :
    ∃ t, exec (.proof (witnessFrame 0 0) (macFor witnessPartner 9 (pairId (remoteBoard [])) 6 7)) (remoteBoard [witnessConn 2 0 1 false false]) = .next t ∧
      t.repl.conns.map (·.proved) = [true] :=
  ⟨_, proof_proves _ _ (remoteBoard [witnessConn 2 0 1 false false]) _ _ _ witnessPartner ⟨rfl, rfl, rfl, rfl, rfl, rfl, rfl⟩ rfl rfl rfl rfl, rfl⟩

/-- 0xFFFE is the last generation that REKEY moves to. -/
theorem rekey_witness :
    ∃ t, exec (.rekey (witnessFrame 0 0xFFFD) 0xFFFE) (remoteBoard [witnessConn 2 0xFFFD 1 true true]) = .next t ∧ t.repl.conns.map (·.rxGen) = [0xFFFE] :=
  ⟨_, rekey_moves _ 0xFFFE (remoteBoard [witnessConn 2 0xFFFD 1 true true]) _ _ _ ⟨rfl, rfl, rfl, rfl, rfl, rfl, rfl⟩ rfl rfl (by decide), rfl⟩

/-- And the last that the limit moves to, after just 2^31 frames. -/
theorem rekeyLimit_witness :
    ∃ t, exec (.rekeyLimit 2) (remoteBoard [witnessConn 2 0xFFFD (2 ^ 31) true true]) = .next t ∧
      t.conn 2 = some { witnessConn 2 0xFFFE 0 true true with rxGen := 0xFFFD, txSeq := 4, txAt := 0, keyAt := 0 } :=
  ⟨_, rekeyLimit_moves 2 (remoteBoard [witnessConn 2 0xFFFD (2 ^ 31) true true]) _ rfl rfl rfl rfl (by decide) (by decide), rfl⟩

/-- A good KEEPALIVE moves FSEQ on; one that is out of FSEQ closes the connection. -/
theorem keepalive_witness :
    (∃ t, exec (.keepalive (witnessFrame 0 0)) (remoteBoard [witnessConn 2 0 1 true true]) = .next t ∧ t.repl.conns.map (·.rxSeq) = [3]) ∧
    ∃ t, exec (.keepalive { witnessFrame 0 0 with fseq := 3 }) (remoteBoard [witnessConn 2 0 1 true true]) = .next t ∧ t.repl.conns = [] := by
  refine ⟨⟨_, keepalive_taken _ (remoteBoard [witnessConn 2 0 1 true true]) _ _ _ ⟨rfl, rfl, rfl, rfl, rfl, rfl, rfl⟩ rfl, rfl⟩,
    ⟨_, keepalive_bad _ (remoteBoard [witnessConn 2 0 1 true true]) _ rfl rfl (.inr (.inl (by decide))), ?_⟩⟩
  rw [closeConn, fire_repl]
  rfl

theorem keepaliveIdleTimer_witness :
    ∃ t, exec (.keepaliveIdleTimer 2) (remoteBoard [witnessConn 2 0 1 true true]) = .next t ∧ t.outputs = [.remote 2 0 3 0 .keepAlive] ∧ t.now = 1000000009 :=
  ⟨_, keepaliveIdleTimer_sends 2 (remoteBoard [witnessConn 2 0 1 true true]) _ rfl rfl rfl, by decide, by decide⟩

/-- Five seconds after the last frame the connection goes, and source 772 of partner 4 is pending; a loss fires nothing. -/
theorem connectionEnds_witness :
    (∃ t, exec (.connectionSilenceTimer 2) (remoteBoard [witnessConn 2 0 1 true true]) = .next t ∧ t.repl.conns = [] ∧ t.now = 5000000010 ∧ 772 ∈ t.sig.pend) ∧
    ∃ t, exec (.replicationConnectionLoss 2) (remoteBoard [witnessConn 2 0 1 true true]) = .next t ∧ t.repl.conns = [] ∧ t.sig.pend = [] := by
  refine ⟨⟨_, connectionSilenceTimer_closes 2 (remoteBoard [witnessConn 2 0 1 true true]) _ rfl rfl, ?_, ?_, ?_⟩,
    ⟨_, replicationConnectionLoss_drops 2 (remoteBoard [witnessConn 2 0 1 true true]) _ rfl rfl, rfl, rfl⟩⟩
  · rw [closeConn, fire_repl]
    rfl
  · rw [closeConn, fire_now]
    rfl
  · exact (fire_pend 772 772 0 0 _ (by decide)).2 (.inl rfl)

/-- A stream of partner 4 for namespace 1, in this role and state. -/
def witnessStream (role : StreamRole) (st : StreamState) : Stream := { Stream.fresh 1 1 20 4 role with st := st }

/-- A board that serves namespace 1 with this stream and these connections. -/
def streamBoard (x : Stream) (cs : List ReplConn) : State :=
  { hostBoard [] with repl := { ReplState.reset with partners := [witnessPartner], streams := [x], conns := cs } }

/-- One second on HELLO goes out on connection 2. -/
theorem reconnectRetry_witness :
    ∃ t, exec (.reconnectRetry 4 2 6) (streamBoard (witnessStream .asyncSource .disconnected) []) = .next t ∧
      t.outputs = [.remote 2 0 1 0xFFFF (.hello (pairId State.reset) 6)] ∧ t.now = 1000000000 :=
  ⟨_, reconnectRetry_calls 4 2 6 (streamBoard (witnessStream .asyncSource .disconnected) []) _ witnessPartner rfl rfl rfl rfl
    ⟨_, List.mem_singleton_self _, rfl, rfl, rfl, .inr (.inl rfl)⟩, rfl, by decide⟩

end Sys2Proof.Machine

/-!
SUPPORT. Replication streams: opening, cycles, fingerprints, data, runs, cursors, synchronous records and their acknowledgements (13 R321 to R328).
The message of an error run and the order of cursors, closes and ingest are the model's choice (logs 89 and 91), as is the clock of a timer row (log 126).
-/
namespace Sys2Proof.Machine

/-! ## Streams open (13 R318, R328) -/

/-- The stream that REPL_START made here for a STREAM_OPEN of `partner` that names source namespace `a` and target namespace `b`. -/
def opensTarget (u : State) (partner a b : Nat) (x : Stream) : Bool :=
  !x.source && x.partner == partner && x.nsid == b && x.remote == a && x.st != .stopped && runsHere u x

/-- A target stream as STREAM_OPEN leaves it: named by its source, with nothing asked for. -/
def reopened (h : RrHead) (x : Stream) : Stream :=
  { x with peerId := h.stream, st := if x.st == .opening then .diffing else x.st, wanted := [], mismatch := [], ended := false }

theorem streamOpen_refused (h : RrHead) (a b : Nat) (fps : List (Nat × BitVec 256)) (s u : State) (c d : ReplConn) (hf : frameIn h false c d s u)
    (hp : c.proved = true) (hx : u.repl.streams.find? (opensTarget u d.partner a b) = none) :
    exec (.streamOpen h (.inl (a, b)) fps) s = .next (sendConn d h.stream (.close cSTATE_CONFLICT) u) := by
  unfold opensTarget at hx
  refine (onProved_good h _ c d s u hf hp).trans (congrArg _ ?_)
  simp only [hx]

theorem streamOpen_opens (h : RrHead) (a b : Nat) (fps : List (Nat × BitVec 256)) (s u : State) (c d : ReplConn) (x : Stream)
    (hf : frameIn h false c d s u) (hp : c.proved = true) (hx : u.repl.streams.find? (opensTarget u d.partner a b) = some x) :
    exec (.streamOpen h (.inl (a, b)) fps) s = .next (sendStream (reopened h x) (.streamOpened x.durable) (noteStream (reopened h x) u)) := by
  unfold opensTarget at hx
  refine (onProved_good h _ c d s u hf hp).trans (congrArg _ ?_)
  simp only [hx]
  rfl

theorem streamOpen_answered (h : RrHead) (k : Nat) (fps : List (Nat × BitVec 256)) (s u : State) (x : Stream) (hs : sourceFrame h x s u) :
    exec (.streamOpen h (.inr k) fps) s = .next (opened x k fps u) :=
  onSource_good h _ x s u hs

/-! ## Cycles at the source (13 R321, R322, R324) -/

theorem replicationInterval_starts (id : Nat) (s : State) (x : Stream) (hup : s.up = true) (hx : s.stream id = some x) (hrole : x.role = .asyncSource)
    (hst : x.st = .waiting) (hrun : runsHere s x = true) : exec (.replicationInterval id) s = .next (startCycle x.id (s.reach x.dueAt)) := by
  show execReplicationInterval id s = _
  unfold execReplicationInterval
  rw [act_up _ _ hup, hx]
  simp [Option.filter, hrole, hst, hrun]

/-- The answer that asks for nothing counts the whole batch as hits. -/
theorem fpWant_hits (h : RrHead) (q : Nat) (rd : List (Nat × List Sector)) (s u : State) (x : Stream) (b : Nat × List (Nat × BitVec 256))
    (hs : sourceFrame h x s u) (hb : x.wanted.find? (·.1 == q) = some b) (hq : x.answered.contains q = false) :
    exec (.fpWant h q [] rd) s = .next (settleDiff x.id (u.putStream
      { x with answered := insertNat q x.answered, grains := x.grains + 0, hits := x.hits + (b.2.length - 0) })) := by
  show execFpWant h q [] rd s = _
  unfold execFpWant
  rw [onSource_good h _ x s u hs]
  simp only [hb, hq, List.filter_nil, List.filterMap_nil, List.length_nil, Bool.not_false, if_true]
  rfl

/-- Outside a resynchronisation CURSOR moves the cursor alone (13 R324). -/
theorem cursor_moves (h : RrHead) (key : Nat) (fps : List (Nat × BitVec 256)) (s u : State) (x : Stream) (hs : sourceFrame h x s u)
    (hst : x.st ≠ .resyncing) (hp : x.pass = []) :
    exec (.cursor h key fps) s = .next (noteStream { x with cursor := key, durable := key, changed := x.changed, pass := [] } u) := by
  have hkeep : x.changed.filter (fun g => !([] : List Nat).contains g) = x.changed := List.filter_eq_self.2 fun _ _ => rfl
  show execCursor h key fps s = _
  unfold execCursor
  rw [onSource_good h _ x s u hs]
  simp only [hp, List.filter_nil, hkeep, beq_eq_false_iff_ne.2 hst, Bool.false_and, Bool.false_eq_true, if_false]

theorem diffEnd_answered (h : RrHead) (k : Nat) (s u : State) (x : Stream) (hs : sourceFrame h x s u) (hst : x.st = .diffing) (he : x.ended = true) :
    exec (.diffEnd h (.inr k)) s = .next (cycleDone x u) := by
  show execDiffEnd h (.inr k) s = _
  simp only [execDiffEnd]
  rw [onSource_good h _ x s u hs, if_pos (by simp [hst, he])]

/-! ## Records at the source (13 R325, R326) -/

/-- A record's write waits for the target no longer. -/
theorem syncAck_ok (h : RrHead) (j : Nat) (s u : State) (x : Stream) (hs : sourceFrame h x s u) (hj : (x.unacked.any (·.1 == j)) = true) :
    exec (.syncAck h j cOK) s = .next (postWrites { (u.putStream { x with unacked := x.unacked.filter (·.1 != j) }) with
      wr := { u.wr with ring := updateIf (fun e => e.rec_.jseq == j) (fun e => { e with syncWait := false }) u.wr.ring } }) := by
  show execSyncAck h j cOK s = _
  unfold execSyncAck
  rw [onSource_good h _ x s u hs]
  simp only [hj, Bool.not_true, Bool.false_eq_true, if_false, beq_self_eq_true, if_true]
  rfl

theorem syncAck_fractures (h : RrHead) (j code : Nat) (s u : State) (x : Stream) (hs : sourceFrame h x s u) (hj : (x.unacked.any (·.1 == j)) = true)
    (hc : code ≠ cOK) : exec (.syncAck h j code) s = .next (fracture x code u) := by
  show execSyncAck h j code s = _
  unfold execSyncAck
  rw [onSource_good h _ x s u hs]
  simp only [hj, Bool.not_true, Bool.false_eq_true, if_false, beq_iff_eq, if_neg hc]

theorem syncHoldExpiry_fractures (id : Nat) (s : State) (x : Stream) (q : Nat × Nat) (l : List (Nat × Nat)) (hup : s.up = true)
    (hx : s.stream id = some x) (hst : x.st = .sync) (hq : x.unacked = q :: l) :
    exec (.syncHoldExpiry id) s = .next (fracture x cOK (s.reach (q.2 + x.hold * ms))) := by
  show execSyncHoldExpiry id s = _
  unfold execSyncHoldExpiry
  rw [act_up _ _ hup, hx]
  simp [Option.filter, hst, hq]

/-! ## Differences at the target (13 R322 to R324) -/

/-- A target stream that wants all of a batch; the last frame of a batch closes its keys. -/
def wantsBatch (h : RrHead) (last : Bool) (es : List (Nat × BitVec 256)) (x : Stream) : Stream :=
  { x with wanted := x.wanted ++ [(h.fseq, es)], closed := if last then (es.map (·.1 + 1)).foldl max x.closed else x.closed, hits := x.hits }

/-- Where no held grain reads back, no entry of a batch is a hit and every one is asked for (13 R322). -/
theorem fpBatch_wantsAll (h : RrHead) (l : Bool) (es : List (Nat × BitVec 256)) (res : Bool) (s u : State) (x : Stream) (sh : Bool) (n : Namespace)
    (ht : targetFrame h x sh n s u) (he : es ≠ []) :
    exec (.fpBatch h l es res []) s = .next (postWrites (settleIngest
      (sendStream (wantsBatch h l es x) (.fpWant h.fseq (es.map (·.1))) (u.putStream (wantsBatch h l es x))))) := by
  show execFpBatch h l es res [] s = _
  unfold execFpBatch
  rw [onTarget_good h _ x sh n s u ht]
  simp [wantsBatch, he]

/-- A target stream whose grain `k` has come: batch `w` waits for it no longer, and goes once it is empty. -/
def arrived (k : Nat) (w : Nat × List (Nat × BitVec 256)) (x : Stream) : Stream :=
  { x with
    grains := x.grains + 1,
    wanted := (updateIf (fun v => v.1 == w.1) (fun (v : Nat × List (Nat × BitVec 256)) => (v.1, v.2.filter (·.1 != k))) x.wanted).filter
      fun v => !v.2.isEmpty }

/-- A grain that matches its batch's fingerprint is journaled while there is room (13 R323). -/
theorem data_ingests (h : RrHead) (k : Nat) (ss : List Sector) (s u : State) (x : Stream) (sh : Bool) (n : Namespace) (w : Nat × List (Nat × BitVec 256))
    (f : BitVec 256) (ht : targetFrame h x sh n s u) (hx : u.stream x.id = some x) (hst : x.st ≠ .stopped)
    (hw : (x.wanted.find? fun w => w.2.any (·.1 == k)) = some w) (hk : w.2.find? (·.1 == k) = some (k, f)) (hf : Config.sha256 (grainBytes ss) = f)
    (hroom : ingestShort u n 1 = false) :
    exec (.data h [(k, ss)]) s = .next (postWrites (settleIngest (ingestGrain (arrived k w x) n k ss false (u.putStream (arrived k w x))))) := by
  show execData h [(k, ss)] s = _
  unfold execData
  rw [onTarget_good h _ x sh n s u ht]
  simp only [List.foldl_cons, List.foldl_nil, hx, Option.getD_some, hw, beq_iff_eq, hst, if_false, hk, Option.any_some, hf, if_true, hroom,
    Bool.false_eq_true]
  rfl

/-- An error run of grains that nobody waits for marks them LOST (log 89). -/
theorem mapRun_marksLost (h : RrHead) (l : Bool) (k m : Nat) (s u : State) (x : Stream) (sh : Bool) (n : Namespace) (ht : targetFrame h x sh n s u)
    (hw : x.wanted = []) :
    exec (.mapRun h l [(k, m, 2)]) s = .next (postWrites (settleIngest ((List.range' k (min m (grainsOf n - k))).foldl (fun s j => markLost sh n j s)
      (u.putStream { x with closed := if l then max x.closed (k + m) else x.closed, wanted := [] })))) := by
  show execMapRun h l [(k, m, 2)] s = _
  unfold execMapRun
  rw [onTarget_good h _ x sh n s u ht]
  simp [hw]

theorem diffEnd_taken (h : RrHead) (k : Nat) (s u : State) (x : Stream) (sh : Bool) (n : Namespace) (ht : targetFrame h x sh n s u) :
    exec (.diffEnd h (.inl k)) s = .next (postWrites (settleIngest (u.putStream { x with ended := true }))) :=
  onTarget_good h _ x sh n s u ht

/-! ## Records at the target (13 R325) -/

/-- A record in order is journaled; its acknowledgement waits for this head's own condition. -/
theorem syncRec_journals (h : RrHead) (j : Nat) (r : JRecord) (s u : State) (x : Stream) (sh : Bool) (n : Namespace) (y : Stream) (v w : State)
    (ht : targetFrame h x sh n s u) (hj : x.srcJseq ≤ j) (hjob : x.job = none) (hv : v = u.putStream { x with srcJseq := j + 1, st := .sync })
    (hy : v.stream x.id = some y) (hroom : ingestShort v n (dataGrains r.grains) = false) (hin : r.slba + r.nblk ≤ n.size)
    (hw : w = ingest y n r.kind r.slba r.nblk r.srcSlba r.grains false v) :
    exec (.syncRec h j r) s = .next (postWrites (settleIngest (w.putStream
      { (w.stream y.id).getD y with acks := ((w.stream y.id).getD y).acks ++ [(v.wr.jseqNext, j)] }))) := by
  have hstart : endStart x cOK v = v := by simp [endStart, hjob]
  show execSyncRec h j r s = _
  unfold execSyncRec
  rw [onTarget_good h _ x sh n s u ht, if_neg (by simp; omega)]
  simp only [← hv, hstart, hy, Option.getD_some, hroom, Bool.false_eq_true, if_false, if_neg (show ¬ n.size < r.slba + r.nblk by omega), ← hw]

/-! ## CLOSE (13 R318) -/

theorem close_connection (h : RrHead) (code : Nat) (s u : State) (c d : ReplConn) (hf : frameIn h false c d s u) (hp : c.proved = true)
    (h0 : h.stream = 0) : exec (.close h code) s = .next (dropConn d u) := by
  show execClose h code s = _
  unfold execClose
  rw [onProved_good h _ c d s u hf hp, if_pos (by simp [h0])]

/-- A stream that was opening has been refused: its start fails with STATE_CONFLICT. -/
theorem close_source (h : RrHead) (code : Nat) (s u : State) (c d : ReplConn) (x : Stream) (hf : frameIn h false c d s u) (hp : c.proved = true)
    (h0 : h.stream ≠ 0) (hx : sourceOf u d h = some x) :
    exec (.close h code) s = .next (dropStreamSnaps x (stopStream x (if x.st == .opening then cSTATE_CONFLICT else code) u)) := by
  show execClose h code s = _
  unfold execClose
  rw [onProved_good h _ c d s u hf hp, if_neg (by simp [h0])]
  simp only [hx]

/-- Settles O34: each row is one equation of `exec`; a frame reaches its stream by `onSource_good` or `onTarget_good`. -/
theorem streamsCarryDifferencesAndRecords : Obligations.StreamsCarryDifferencesAndRecords := by
  unfold Obligations.StreamsCarryDifferencesAndRecords
  refine ⟨replicationInterval_starts, ?refused, ?opens, ?batch, fpWant_hits, ?data, mapRun_marksLost, cursor_moves, ?ended, ?record, ?ack,
    syncHoldExpiry_fractures, ?close⟩
  case refused =>
    intro h a b fps s u c d hf hp hno
    refine streamOpen_refused h a b fps s u c d hf hp (List.find?_eq_none.2 fun x hx => ?_)
    simpa [opensTarget, or_iff_not_imp_left] using hno x hx
  case opens =>
    intro h fps s u x
    exact ⟨fun a b c d hf hp hx => streamOpen_opens h a b fps s u c d x hf hp hx, fun k hs => streamOpen_answered h k fps s u x hs⟩
  case batch =>
    intro h l es res s u x sh n ht he
    exact ⟨_, rfl, fpBatch_wantsAll h l es res s u x sh n ht he⟩
  case data =>
    intro h k ss s u x sh n w f ht hx hst hw hk hf hroom
    exact ⟨_, rfl, data_ingests h k ss s u x sh n w f ht hx hst hw hk hf hroom⟩
  case ended =>
    intro h k s u x
    exact ⟨diffEnd_taken h k s u x, diffEnd_answered h k s u x⟩
  case record =>
    intro h j r s u x sh n y v ht hj hjob hv hy hroom hin
    exact ⟨_, _, rfl, rfl, syncRec_journals h j r s u x sh n y v _ ht hj hjob hv hy hroom hin rfl⟩
  case ack =>
    intro h j s u x hs hj
    exact ⟨syncAck_ok h j s u x hs hj, fun c hc => syncAck_fractures h j c s u x hs hj hc⟩
  case close =>
    intro h code s u c d hf hp
    exact ⟨close_connection h code s u c d hf hp, fun x h0 hx => close_source h code s u c d x hf hp h0 hx⟩

/-! ## The hypotheses are met -/

/-- Eight erased native blocks of module `m`. -/
def witnessPool (m : Nat) : List Block :=
  (List.range 8).map fun b =>
    { module := m, die := 0, plane := 0, block := b, erases := 0, reads := 0, st := .erased, oneBit := false, soft := 0, suspect := false, aside := false }

/-- That board with the one proved connection 2, and room for records under code 1+1 on two modules. -/
def linkBoard (x : Stream) : State :=
  { streamBoard x [witnessConn 2 0 1 true true] with
    media := { MediaState.reset with ioAdmitted := true, domains := [{ PDomain.reset with code := some (1, 1) }],
                                     modules := [3, 4].map fun m => newModule State.reset m 0 0 { witnessDescriptor with pagesNative := 1 } [] },
    md := { MetaState.reset with store := { MetaState.reset.store with nss := [witnessSpace], blocks := witnessPool 3 ++ witnessPool 4 } } }

/-- Connection 2 once frame 2 has come. -/
def takenConn : ReplConn := { witnessConn 2 0 1 true true with rxSeq := 3, rxAt := 0 }

theorem frameIn_linkBoard (x : Stream) (n : Nat) :
    frameIn (witnessFrame n 0) false (witnessConn 2 0 1 true true) takenConn (linkBoard x) ((linkBoard x).putConn takenConn) :=
  ⟨rfl, rfl, rfl, rfl, rfl, rfl, rfl⟩

/-- Frame 2 reaches source stream 1. -/
theorem sourceFrame_linkBoard (x : Stream) (hid : x.id = 1) (hp : x.partner = 4) (hn : x.nsid = 1) (hs : x.source = true) (hj : x.job = none) :
    sourceFrame (witnessFrame 1 0) x (linkBoard x) ((linkBoard x).putConn takenConn) := by
  have hrun : runsHere ((linkBoard x).putConn takenConn) x = true := by unfold runsHere; rw [hn]; rfl
  refine ⟨_, takenConn, frameIn_linkBoard x 1, rfl, ?_, hj⟩
  simpa [sourceOf, State.stream, State.putConn, linkBoard, streamBoard, witnessFrame, Option.filter, hid, hs, hp, takenConn, witnessConn] using hrun

/-- Frame 2 reaches the target stream that its source calls 7. -/
theorem targetFrame_linkBoard (x : Stream) (hid : x.peerId = 7) (hp : x.partner = 4) (hn : x.nsid = 1) (hs : x.source = false) (hst : x.st ≠ .stopped) :
    targetFrame (witnessFrame 7 0) x false witnessSpace (linkBoard x) ((linkBoard x).putConn takenConn) := by
  have hrun : runsHere ((linkBoard x).putConn takenConn) x = true := by unfold runsHere; rw [hn]; rfl
  have hroom : ringBytes (hostBoard []) + 2 ^ 20 + 4096 ≤ ringCapacity (hostBoard []) := by decide
  refine ⟨_, takenConn, frameIn_linkBoard x 7, rfl, rfl, hroom, ?_, by rw [targetNs, hn]; rfl⟩
  simpa [targetOf, State.putConn, linkBoard, streamBoard, witnessFrame, hid, hs, hp, hst, takenConn, witnessConn] using hrun

/-- An asynchronous source stream. -/
def witnessSource (st : StreamState) : Stream := witnessStream .asyncSource st

/-- A target stream that its source calls 7. -/
def witnessTarget (st : StreamState) : Stream := { witnessStream .target st with peerId := 7 }

theorem replicationInterval_witness :
    ∃ t, exec (.replicationInterval 1) (linkBoard { witnessSource .waiting with dueAt := 9 }) = .next t ∧
      (t.stream 1).map (·.st) = some .diffing ∧ t.now = 9 :=
  ⟨_, replicationInterval_starts 1 (linkBoard { witnessSource .waiting with dueAt := 9 }) _ rfl rfl rfl rfl rfl, rfl, rfl⟩

/-- The stream is opened by its own namespaces, 20 and 1, and refused to others. -/
theorem streamOpen_witness :
    (∃ t, exec (.streamOpen (witnessFrame 7 0) (.inl (20, 2)) []) (linkBoard (witnessTarget .opening)) = .next t ∧
      t.outputs = [.remote 2 7 3 0 (.close cSTATE_CONFLICT)]) ∧
    (∃ t, exec (.streamOpen (witnessFrame 7 0) (.inl (20, 1)) []) (linkBoard (witnessTarget .opening)) = .next t ∧
      (t.stream 1).map (·.st) = some .diffing) ∧
    ∃ t, exec (.streamOpen (witnessFrame 1 0) (.inr 0) []) (linkBoard (witnessSource .opening)) = .next t ∧ (t.stream 1).map (·.st) = some .diffing :=
  ⟨⟨_, streamOpen_refused _ 20 2 [] _ _ _ _ (frameIn_linkBoard (witnessTarget .opening) 7) rfl rfl, rfl⟩,
    ⟨_, streamOpen_opens _ 20 1 [] _ _ _ _ _ (frameIn_linkBoard (witnessTarget .opening) 7) rfl rfl, rfl⟩,
    ⟨_, streamOpen_answered _ 0 [] _ _ _ (sourceFrame_linkBoard (witnessSource .opening) rfl rfl rfl rfl rfl), rfl⟩⟩

/-- A batch of one grain is asked for whole. -/
theorem fpBatch_witness :
    ∃ t, exec (.fpBatch (witnessFrame 7 0) true [(5, 8)] false []) (linkBoard (witnessTarget .diffing)) = .next t ∧
      (t.stream 1).map (·.wanted) = some [(2, [(5, 8)])] :=
  ⟨_, fpBatch_wantsAll _ true [(5, 8)] false _ _ _ false witnessSpace (targetFrame_linkBoard (witnessTarget .diffing) rfl rfl rfl rfl (by decide)) (by decide), rfl⟩

theorem fpWant_witness :
    ∃ t, exec (.fpWant (witnessFrame 1 0) 3 [] []) (linkBoard { witnessSource .diffing with wanted := [(3, [(5, 8), (6, 9)])] }) = .next t ∧
      (t.stream 1).map (·.hits) = some 2 :=
  ⟨_, fpWant_hits _ 3 [] _ _ _ _ (sourceFrame_linkBoard { witnessSource .diffing with wanted := [(3, [(5, 8), (6, 9)])] } rfl rfl rfl rfl rfl) rfl rfl, rfl⟩

/-- A target that wants grain 5 with the fingerprint of an empty one. -/
def wantingTarget : Stream := { witnessTarget .diffing with wanted := [(3, [(5, Config.sha256 (grainBytes []))])] }

theorem data_witness :
    ∃ t, exec (.data (witnessFrame 7 0) [(5, [])]) (linkBoard wantingTarget) = .next t ∧ (t.stream 1).map (·.grains) = some 1 ∧ t.wr.ring.length = 1 :=
  ⟨_, data_ingests _ 5 [] _ _ _ false witnessSpace (3, [(5, Config.sha256 (grainBytes []))]) _
    (targetFrame_linkBoard wantingTarget rfl rfl rfl rfl (by decide)) rfl (by decide) rfl rfl rfl (by decide), rfl, rfl⟩

/-- A run of two from the last grain on marks that one. -/
theorem mapRun_witness :
    ∃ t, exec (.mapRun (witnessFrame 7 0) true [(511, 2, 2)]) (linkBoard (witnessTarget .diffing)) = .next t ∧ t.md.store.dir.map (·.st) = [.lost] :=
  ⟨_, mapRun_marksLost _ true 511 2 _ _ _ false witnessSpace (targetFrame_linkBoard (witnessTarget .diffing) rfl rfl rfl rfl (by decide)) rfl, rfl⟩

theorem cursor_witness :
    ∃ t, exec (.cursor (witnessFrame 1 0) 5 []) (linkBoard (witnessSource .diffing)) = .next t ∧ (t.stream 1).map (·.cursor) = some 5 :=
  ⟨_, cursor_moves _ 5 [] _ _ _ (sourceFrame_linkBoard (witnessSource .diffing) rfl rfl rfl rfl rfl) (by decide) rfl, rfl⟩

/-- A target with nothing open takes its replica snapshot; its ID ends the cycle at the source. -/
theorem diffEnd_witness :
    (∃ t, exec (.diffEnd (witnessFrame 7 0) (.inl 0)) (linkBoard (witnessTarget .diffing)) = .next t ∧ t.md.store.snaps.length = 1) ∧
    ∃ t, exec (.diffEnd (witnessFrame 1 0) (.inr 3)) (linkBoard { witnessSource .diffing with ended := true, snap := 6 }) = .next t ∧
      (t.stream 1).map (fun x => (x.st, x.base)) = some (.waiting, 6) :=
  ⟨⟨_, diffEnd_taken _ 0 _ _ _ false witnessSpace (targetFrame_linkBoard (witnessTarget .diffing) rfl rfl rfl rfl (by decide)), rfl⟩,
    ⟨_, diffEnd_answered _ 3 _ _ _ (sourceFrame_linkBoard { witnessSource .diffing with ended := true, snap := 6 } rfl rfl rfl rfl rfl) rfl rfl, rfl⟩⟩

/-- A Write Zeroes of the last block, of source JSEQ 9. -/
def witnessSync : JRecord := { (witnessRecord 0 false).rec_ with kind := .writeZeroes, slba := 511, nblk := 1, grains := [] }

theorem syncRec_witness :
    ∃ t, exec (.syncRec (witnessFrame 7 0) 9 witnessSync) (linkBoard { witnessTarget .sync with srcJseq := 9 }) = .next t ∧
      (t.stream 1).map (·.acks) = some [(0, 9)] ∧ t.wr.ring.length = 1 :=
  ⟨_, syncRec_journals _ 9 witnessSync _ _ _ false witnessSpace _ _ _
    (targetFrame_linkBoard { witnessTarget .sync with srcJseq := 9 } rfl rfl rfl rfl (by decide)) (by decide) rfl rfl rfl (by decide) (by decide) rfl, rfl, rfl⟩

/-- A synchronous source whose record 9 went out at 4 ns. -/
def witnessSyncSource : Stream := { witnessStream .syncSource .sync with unacked := [(9, 4)], hold := 5 }

/-- OK acknowledges the record; another code fractures the stream, as 5 ms without an answer do. -/
theorem syncAck_witness :
    (∃ t, exec (.syncAck (witnessFrame 1 0) 9 cOK) (linkBoard witnessSyncSource) = .next t ∧ (t.stream 1).map (fun x => (x.st, x.unacked)) = some (.sync, [])) ∧
    (∃ t, exec (.syncAck (witnessFrame 1 0) 9 cREAD_ONLY) (linkBoard witnessSyncSource) = .next t ∧ (t.stream 1).map (·.st) = some .fractured) ∧
    ∃ t, exec (.syncHoldExpiry 1) (linkBoard witnessSyncSource) = .next t ∧ (t.stream 1).map (·.st) = some .fractured ∧ t.now = 5000004 :=
  ⟨⟨_, syncAck_ok _ 9 _ _ _ (sourceFrame_linkBoard witnessSyncSource rfl rfl rfl rfl rfl) rfl, rfl⟩,
    ⟨_, syncAck_fractures _ 9 cREAD_ONLY _ _ _ (sourceFrame_linkBoard witnessSyncSource rfl rfl rfl rfl rfl) rfl (by decide), rfl⟩,
    ⟨_, syncHoldExpiry_fractures 1 (linkBoard witnessSyncSource) _ _ _ rfl rfl rfl rfl, rfl, rfl⟩⟩

/-- CLOSE of the connection disconnects the stream; CLOSE of the stream stops it. -/
theorem close_witness :
    (∃ t, exec (.close (witnessFrame 0 0) cOK) (linkBoard (witnessSource .diffing)) = .next t ∧ t.repl.conns = [] ∧ (t.stream 1).map (·.st) = some .disconnected) ∧
    ∃ t, exec (.close (witnessFrame 1 0) cOK) (linkBoard (witnessSource .diffing)) = .next t ∧ (t.stream 1).map (·.st) = some .stopped :=
  ⟨⟨_, close_connection _ cOK _ _ _ _ (frameIn_linkBoard (witnessSource .diffing) 0) rfl rfl, rfl, rfl⟩,
    ⟨_, close_source _ cOK _ _ _ _ _ (frameIn_linkBoard (witnessSource .diffing) 1) rfl (by decide) rfl, rfl⟩⟩

end Sys2Proof.Machine

/-!
SUPPORT. Cipher and digest channels, contexts and key slots: descriptors that run, contexts that are freed, slots that are erased, key tasks (14 R331 to R364).
Which free context is taken, OUT_VALID of a job without output, how a cipher works beyond the chapter's words,
what stands under a freed index and the clock of a timer row are the model's choice (logs 86, 87, 141, 143, 126).
-/
namespace Sys2Proof.Machine

/-! ## Descriptors that run (14 R334, R335) -/

/-- Channel `ch` fetches the descriptor, and it passes every check of the order (14 R335). -/
def cryRuns (o : CryOp) (ch : Nat) (d : CryDesc) (s : State) : Prop :=
  s.up = true ∧ cryFetches ch s = true ∧ cryFault o ch d s = none

theorem cryDescriptor_runs (o : CryOp) (ch : Nat) (d : CryDesc) (run : State → State) (s : State) (h : cryRuns o ch d s) :
    act (cryDescriptor o ch d run) s = .next (run s) := by
  obtain ⟨hup, hfetch, hpass⟩ := h
  rw [act_up _ _ hup]
  simp [cryDescriptor, hfetch, hpass]

theorem cryOpen_runs (ch : Fin 15) (d : CryDesc) (s : State) (h : cryRuns .open_ ch.val d s) (hi : badImage d = false) :
    exec (.cryOpen ch d) s = .next (runMessage .open_ ch.val d (allocCtx ch.val d s).1 (allocCtx ch.val d s).2) := by
  refine (cryDescriptor_runs _ _ d _ s h).trans ?_
  simp only [hi, Bool.false_eq_true, if_false]

theorem crySingle_runs (ch : Fin 15) (d : CryDesc) (s : State) (h : cryRuns .single ch.val d s) :
    exec (.crySingle ch d) s = .next (runMessage .single ch.val d (allocCtx ch.val d s).1 (allocCtx ch.val d s).2) :=
  cryDescriptor_runs _ _ d _ s h

theorem cryUpdate_runs (ch : Fin 15) (d : CryDesc) (s : State) (c : Ctx) (h : cryRuns .update ch.val d s) (hc : namedCtx ch.val d s = some c) :
    exec (.cryUpdate ch d) s = .next (runMessage .update ch.val d c s) := by
  refine (cryDescriptor_runs _ _ d _ s h).trans ?_
  simp only [hc]

theorem cryFinal_runs (ch : Fin 15) (d : CryDesc) (s : State) (c : Ctx) (h : cryRuns .final ch.val d s) (hc : namedCtx ch.val d s = some c) :
    exec (.cryFinal ch d) s = .next (runMessage .final ch.val d c s) := by
  refine (cryDescriptor_runs _ _ d _ s h).trans ?_
  simp only [hc]

theorem cryClose_frees (ch : Fin 15) (d : CryDesc) (s : State) (c : Ctx) (h : cryRuns .close ch.val d s) (hc : namedCtx ch.val d s = some c) :
    exec (.cryClose ch d) s = .next (ringDone (cryRing ch.val s)
      { cplOf cOK with ctx := d.ctx, keyGen := ((c.pin.map (·.gen)).getD 0) % 65536 } (freeCtx c s)) := by
  refine (cryDescriptor_runs _ _ d _ s h).trans ?_
  simp only [hc]

/-- What SAVE leaves before its completion: the context used just now, its image at the destination. -/
def afterSave (ch : Nat) (d : CryDesc) (c : Ctx) (s : State) : State :=
  (s.putCtx { c with lastAt := s.now }).emit (.jobData 0 ch d.dstSpace (imageBytes c))

theorem crySave_writes (ch : Fin 15) (d : CryDesc) (s : State) (c : Ctx) (h : cryRuns .save ch.val d s) (hc : namedCtx ch.val d s = some c)
    (hd : d.fault = none) :
    exec (.crySave ch d) s = .next (ringDone (cryRing ch.val (afterSave ch.val d c s))
      { cplOf cOK with ctx := d.ctx, bytes := 256, valid := true } (afterSave ch.val d c s)) := by
  refine (cryDescriptor_runs _ _ d _ s h).trans ?_
  simp only [hc, hd, afterSave]

theorem ecdsaVerify_answers (ch : Fin 15) (d : CryDesc) (s : State) (h : cryRuns .verify ch.val d s) (hd : d.fault = none) :
    exec (.ecdsaVerify ch d) s = .next (ringDone (cryRing ch.val s)
      { cplOf (if Config.ecdsaVerify d.data then cOK else cAUTH_FAIL) with valid := Config.ecdsaVerify d.data } s) := by
  refine (cryDescriptor_runs _ _ d _ s h).trans ?_
  simp only [hd]

/-- The 96 bytes of a signature under the key that the descriptor names, most significant byte first; the next free value is the per-signature secret (14 R360). -/
def signature (d : CryDesc) (s : State) : List Byte :=
  (List.range 96).map fun i =>
    (Config.ecdsaSign (((s.slot (keyNumber d.key)).key.map (·.bytes)).getD []) d.data s.draw.1).extractLsb' (8 * (95 - i)) 8

/-- What SIGN leaves before its completion: the secret drawn, the signature at the destination. -/
def afterSign (ch : Nat) (d : CryDesc) (s : State) : State := s.draw.2.emit (.jobData 0 ch d.dstSpace (signature d s))

theorem ecdsaSign_signs (ch : Fin 15) (d : CryDesc) (s : State) (h : cryRuns .sign ch.val d s) (hd : d.fault = none) :
    exec (.ecdsaSign ch d) s = .next (ringDone (cryRing ch.val (afterSign ch.val d s))
      { cplOf cOK with bytes := 96, valid := true, keyGen := (s.slot (keyNumber d.key)).gen % 65536 } (afterSign ch.val d s)) := by
  refine (cryDescriptor_runs _ _ d _ s h).trans ?_
  simp only [hd, afterSign, signature]

/-! ## Channels, contexts, digests (14 R342, R348, R364) -/

theorem cryChannelDisable_disables (ch : Fin 15) (s : State) (hup : s.up = true) (hch : ch.val < 8) :
    exec (.cryChannelDisable ch) s = .next (s.setFlag Reg.fCRY_CH_CTRL_EN false ch.val) := by
  show execCryChannelDisable ch s = _
  rw [execCryChannelDisable, act_up _ _ hup, if_neg (by omega)]

/-- What stands under a context's index once it is freed. -/
def freedCtx (c : Ctx) : Ctx := { c with st := .free, data := [], result := [], code := 0, mode := 0, cut := none, early := false }

/-- A context without a key touches no slot when it is freed. -/
theorem freeCtx_keyless (c : Ctx) (s : State) (h : c.pin = none) : freeCtx c s = s.putCtx (freedCtx c) := by
  simp only [freeCtx, freedCtx, h]

theorem cryContextIdleExpiry_frees (i : Fin 3072) (s : State) (c : Ctx) (hup : s.up = true) (hc : s.ctx i.val = some c) :
    exec (.cryContextIdleExpiry i) s = .next (freeCtx c (s.reach (c.lastAt + s.fld Reg.fCRY_CFG_IDLE_S * sec))) := by
  show execCryContextIdleExpiry i s = _
  rw [execCryContextIdleExpiry, act_up _ _ hup]
  simp only [hc]

theorem digResultRead_reads (i : Fin 1024) (w : Fin 8) (s : State) (c : Ctx) (hup : s.up = true) (hc : s.ctx i.val = some c)
    (ho : c.owner < 8) (hst : c.st = .done) :
    exec (.digResultRead i w) s = .next (s.emit (.readData (0xA40040 + 0x100 * i.val + 8 * w.val)
      (BitVec.ofNat 64 (((List.range 8).map fun b => ((c.result[8 * w.val + b]?).getD 0).toNat * 2 ^ (8 * b)).sum)))) := by
  show execDigResultRead i w s = _
  rw [execDigResultRead, act_up _ _ hup]
  simp only [hc, Nat.not_le.2 ho, hst, beq_self_eq_true, if_false, if_true]

theorem digCtxRelease_frees (i : Fin 1024) (s : State) (c : Ctx) (hup : s.up = true) (hc : s.ctx i.val = some c)
    (ho : c.owner < 8) (hst : c.st = .done) : exec (.digCtxRelease i) s = .next (freeCtx c s) := by
  show execDigCtxRelease i s = _
  rw [execDigCtxRelease, act_up _ _ hup]
  simp only [hc, hst, ho, beq_self_eq_true, decide_true, Bool.and_self, if_true]

/-! ## An erase that times out (14 R355) -/

/-- A slot zeroised: no key in either bank; its generation stays. -/
def emptied (x : KeySlot) : KeySlot := { x with st := .empty, key := none, previous := none, usage := 0, eraseAt := none, eraseJob := none }

theorem keyEraseTimeout_zeroises (k : Fin 4160) (s : State) (T : Nat) (hup : s.up = true) (hT : (s.slot k.val).eraseAt = some T)
    (hj : (s.slot k.val).eraseJob = none) (hp : pinsAny s k.val = []) :
    exec (.keyEraseTimeout k) s = .next ((s.reach T).putSlot (emptied (s.slot k.val))) := by
  have hp' : pinsAny (s.reach T) k.val = [] := by unfold pinsAny; rw [State.reach_eng]; exact hp
  show execKeyEraseTimeout k s = _
  rw [execKeyEraseTimeout, act_up _ _ hup]
  simp only [hT, hp', List.foldl_nil, zeroise, hj, emptied]

/-! ## Key tasks (14 R353 to R356) -/

theorem eng_of_windowOnly (u t : State) (h : windowOnly u t) : t.eng = u.eng := by rw [h.1]

/-- The row of KEY_LOAD. -/
def keyLoadSpec : TaskSpec := { opcode := 0x0501, windows := [1], bulk := .take none }

/-- Slot `k` may take a key that set `n` stages: neither the Keeper's own nor in use, neither erasing nor with an old key, nothing staged for it. -/
def loadable (n k : Nat) (u : State) : Prop :=
  keeperOnly k = false ∧ slotExists k = true ∧ canStage n u [iCRY] = true ∧ keyInUse u k = false ∧
  (u.slot k).st ≠ .erasing ∧ (u.slot k).previous = none ∧ keyStaged u k = false

/-- A blob for slot `k` whose lengths and fields are legal and whose tag holds under its KEK (14 Table 14.8). -/
def goodBlob (b : KeyBlob) (k : Nat) : Prop :=
  b.length = 48 + b.keyLen ∧ b.kek ≤ 63 ∧ b.rsvdZero = true ∧ b.target = k ∧ keyFits k b.use b.keyLen = true ∧ b.tagOk = true

/-- A KEK that unwraps one more key without being spent by it (14 R353). -/
def unwraps (x : KeySlot) : Prop := x.st = .active ∧ keyUse x = 5 ∧ x.usage + 1 < 2 ^ 32

/-- The KEK of a blob charged for one use. -/
def kekCharged (b : KeyBlob) (u : State) : State :=
  u.putSlot { u.slot (4096 + b.kek) with usage := (u.slot (4096 + b.kek)).usage + 1 }

theorem keyLoad_stages (r : TaskReq) (b : KeyBlob) (s u : State) (h : goes keyLoadSpec [(1, mask 12 0), (2, mask 2 0)] r s = true)
    (hu : u = taken keyLoadSpec r s) (hs : loadable (r.arg 2) (r.arg 1) u) (hb : goodBlob b (r.arg 1)) (hk : unwraps (u.slot (4096 + b.kek)))
    (hf : r.bulkFault = none) :
    ∃ t, exec (.keyLoad r b) s = .next t ∧ answered r cOK 0 [BitVec.ofNat 64 ((u.slot (r.arg 1)).gen + 1)] t ∧
      windowOnly (stageItem (r.arg 2) (.key (r.arg 1) { bytes := b.key.take b.keyLen, use := b.use }) (kekCharged b u)) t := by
  subst hu
  refine taskCmd_op keyLoadSpec _ r _ s _ cOK 0 _ h (by simp) ?_
  obtain ⟨hown, hex, hstage, huse, hst, hprev, hstaged⟩ := hs
  obtain ⟨hlen, hkek, hrsvd, htarget, hfits, htag⟩ := hb
  obtain ⟨hact, h5, hlim⟩ := hk
  simp only [hown, hex, hstage, huse, hprev, hstaged, hlen, hrsvd, htarget, hfits, htag, hact, h5, moved_whole r _ hf, kekCharged,
    beq_eq_false_iff_ne.2 hst, beq_eq_false_iff_ne.2 (Nat.ne_of_lt hlim), Nat.not_lt.2 hkek, Nat.not_le.2 (Nat.lt_of_succ_lt hlim)]
  simp

/-- The slot of an erase that job `n` waits for: ERASING, with ERASE_TIMEOUT_MS for the messages that pin it. -/
def eraseBegun (k n : Nat) (x : KeySlot) (v : State) : State :=
  settleSlot k (v.putSlot { x with st := .erasing, eraseJob := some n, eraseAt := some (v.now + v.fld Reg.fCRY_CFG_ERASE_TIMEOUT_MS * ms) })

theorem keyErase_begins (r : TaskReq) (s u : State) (n : Nat) (h : goes { opcode := 0x0502, windows := [1] } [(1, mask 12 0)] r s = true)
    (hu : u = taken { opcode := 0x0502, windows := [1] } r s) (ho : keeperOnly (r.arg 1) = false) (he : slotExists (r.arg 1) = true)
    (huse : keyInUse u (r.arg 1) = false) (hst : (u.slot (r.arg 1)).st = .active) (hs : keyStaged u (r.arg 1) = false)
    (hn : freeRecord r.window s = some n) :
    ∃ t, exec (.keyErase r) s = .next t ∧ answered r cACCEPTED 0 [handleOf (plannedJob 0x0502 r {} s n)] t ∧
      windowOnly (eraseBegun (r.arg 1) n (u.slot (r.arg 1)) (withJob 0x0502 r {} u n)) t := by
  subst hu
  refine taskCmd_jobOp _ _ r _ s 0x0502 n {} (fun n v => eraseBegun (r.arg 1) n _ v) h hn ?_
  simp [ho, he, huse, hst, hs, eraseBegun]

theorem keyStatus_reports (r : TaskReq) (s u : State) (h : goes { opcode := 0x0503, windows := [0, 1] } [(1, mask 12 0)] r s = true)
    (hu : u = taken { opcode := 0x0503, windows := [0, 1] } r s) (he : slotExists (r.arg 1) = true) (hp : (u.slot (r.arg 1)).previous = none)
    (hs : keyStaged u (r.arg 1) = false) :
    ∃ t, exec (.keyStatus r) s = .next t ∧
      answered r cOK 0 ([slotCode (u.slot (r.arg 1)).st + 16 * keyUse (u.slot (r.arg 1)) + 2 ^ 32 * ((u.slot (r.arg 1)).gen % 2 ^ 32),
        (u.slot (r.arg 1)).usage, pins u (r.arg 1) (u.slot (r.arg 1)).gen].map (BitVec.ofNat 64)) t ∧ windowOnly s t := by
  subst hu
  refine taskCmd_read _ _ r _ s cOK 0 _ h (by simp) ?_
  simp [he, hp, hs]

/-! ## O36 -/

/-- Settles O36: a descriptor that passes the checks runs by `cryDescriptor_runs`, a context without a key is freed by `freeCtx_keyless`, and each key task
ends as its own lemma says. -/
theorem cipherAndDigestJobs : Obligations.CipherAndDigestJobs := by
  unfold Obligations.CipherAndDigestJobs
  refine ⟨?open_, ?update, ?final, ?single, ?close, ?save, ?verify, ?sign, ?disable, ?idle, ?timeout, ?read, ?release, ?load, ?erase, ?status⟩
  case open_ => exact fun ch d s hup hfetch hpass hi => cryOpen_runs ch d s ⟨hup, hfetch, hpass⟩ hi
  case update => exact fun ch d s c hup hfetch hpass hc => cryUpdate_runs ch d s c ⟨hup, hfetch, hpass⟩ hc
  case final => exact fun ch d s c hup hfetch hpass hc => cryFinal_runs ch d s c ⟨hup, hfetch, hpass⟩ hc
  case single => exact fun ch d s hup hfetch hpass => crySingle_runs ch d s ⟨hup, hfetch, hpass⟩
  case close => exact fun ch d s c hup hfetch hpass hc => cryClose_frees ch d s c ⟨hup, hfetch, hpass⟩ hc
  case save => exact fun ch d s c hup hfetch hpass hc hd => ⟨_, rfl, crySave_writes ch d s c ⟨hup, hfetch, hpass⟩ hc hd⟩
  case verify => exact fun ch d s hup hfetch hpass hd => ecdsaVerify_answers ch d s ⟨hup, hfetch, hpass⟩ hd
  case sign =>
    exact fun ch d s hup hfetch hpass hd =>
      ⟨signature d s, _, by simp [signature], rfl, ecdsaSign_signs ch d s ⟨hup, hfetch, hpass⟩ hd⟩
  case disable =>
    exact fun ch s hup hch => ⟨_, cryChannelDisable_disables ch s hup hch, State.flag_setFlag_same _ _ _ _ _ rfl rfl, rfl, rfl,
      fun o ho => State.word_setFld_ne _ _ _ _ _ _ ho⟩
  case idle =>
    intro i s c hup hc hp
    refine ⟨_, cryContextIdleExpiry_frees i s c hup hc, ?_⟩
    rw [freeCtx_keyless c _ hp]
    simp [State.putCtx, freedCtx]
  case timeout =>
    intro k s x T hup hx hk hT hj hp
    subst hx
    refine ⟨_, keyEraseTimeout_zeroises k s T hup hT hj hp, ?_, ?_⟩
    · have h := State.slot_putSlot (s.reach T) (emptied (s.slot k.val))
      rwa [show (emptied (s.slot k.val)).slot = k.val from hk] at h
    · simp [State.putSlot]
  case read => exact fun i w s c hup hc ho hst => digResultRead_reads i w s c hup hc ho hst
  case release =>
    intro i s c hup hc ho hst hp
    refine ⟨_, digCtxRelease_frees i s c hup hc ho hst, ?_⟩
    rw [freeCtx_keyless c _ hp]
    exact ⟨rfl, rfl, rfl, rfl⟩
  case load =>
    intro r b s u h hu hown hex hstage huse hst hprev hstaged hlen hkek hrsvd htarget hfits hact h5 hlim htag hf
    exact keyLoad_stages r b s u h hu ⟨hown, hex, hstage, huse, hst, hprev, hstaged⟩ ⟨hlen, hkek, hrsvd, htarget, hfits, htag⟩ ⟨hact, h5, hlim⟩ hf
  case erase =>
    intro r s u x n h hu hx ho he huse hst hs hn
    subst hx
    obtain ⟨t, ht, ha, hw⟩ := keyErase_begins r s u n h hu ho he huse hst hs hn
    exact ⟨_, t, rfl, ht, ha, hw⟩
  case status =>
    intro r s u x h hu hx he hp hs
    subst hx
    obtain ⟨t, ht, ha, hw⟩ := keyStatus_reports r s u h hu he hp hs
    exact ⟨t, ht, ha, hw⟩

/-! ## The hypotheses are met: descriptors -/

/-- A board on which channel `ch` has one descriptor to fetch, with these contexts and key slots. -/
def cryBoard (ch : Nat) (cs : List Ctx) (ks : List KeySlot) : State :=
  { (State.reset.setFlag Reg.fCRY_CH_CTRL_EN true ch).setFld Reg.fCRY_CH_TAIL_TAIL 1 ch with eng := { EngState.reset with ctxs := cs, slots := ks } }

/-- A descriptor of `n` zero bytes in its space, for an output in fragments `out`, with every other field zero. -/
def witnessDesc (space n : Nat) (out : List Nat) : CryDesc :=
  { mode := 0, decrypt := false, compare := false, raw := false, restore := false, srcSpace := space, dstSpace := space, rsvdZero := true, key := 0, ctx := 0,
    total := n, aadLen := 0, msgLen := 0, iv := 0, duLen := 0, srcFrags := [n], dstFrags := out, fragsZero := true, data := List.replicate n 0, image := none,
    fault := none }

/-- Digest context 1,023 of channel `ch`, of a SHA-256 message without a key, `n` bytes of it here; 8 in all unless it is raw. -/
def witnessCtx (ch n : Nat) (raw : Bool) : Ctx :=
  { index := 1023, st := .open_, owner := ch, serial := 15, mode := 0x10, code := 0, early := false, decrypt := false, raw := raw, msgLen := if raw then 0 else 8, received := n,
    aadLen := 0, duLen := 0, iv := 0, data := List.replicate n 0, pin := none, cut := none, lastAt := 9, result := [] }

/-- Context 1,023 by its number and serial. -/
def namingDesc (space n : Nat) (out : List Nat) : CryDesc := { witnessDesc space n out with ctx := 0xF3FF }

/-- The key of slot `k` for USE `use`, generation 7, after `n` uses. -/
def witnessSlot (k use n : Nat) : KeySlot := { KeySlot.fresh k with st := .active, key := some { bytes := [1], use := use }, gen := 7, usage := n }

/-- The first cipher context pins generation 7 of slot 3. -/
theorem cryOpen_witness :
    ∃ t, exec (.cryOpen 7 { witnessDesc 0 0 [] with mode := 2, key := 3, msgLen := 16 }) (cryBoard 7 [] [witnessSlot 3 1 0]) = .next t ∧
      (t.ctx 1024).map (fun c => (c.st, c.owner, c.pin)) = some (.open_, 7, some { slot := 3, gen := 7 }) :=
  ⟨_, cryOpen_runs 7 _ _ ⟨by decide, by decide, by decide⟩ (by decide), by decide⟩

/-- All 8 bytes arrive. -/
theorem cryUpdate_witness :
    ∃ t, exec (.cryUpdate 7 (namingDesc 0 8 [])) (cryBoard 7 [witnessCtx 7 0 false] []) = .next t ∧
      t.ctx 1023 = some { witnessCtx 7 8 false with lastAt := 0 } :=
  ⟨_, cryUpdate_runs 7 _ _ _ ⟨by decide, by decide, by decide⟩ (by decide : _ = some (witnessCtx 7 0 false)), by decide⟩

/-- After them the digest stands in the context, which is DONE. -/
theorem cryFinal_witness :
    ∃ t, exec (.cryFinal 7 (namingDesc 0 0 [])) (cryBoard 7 [witnessCtx 7 8 false] []) = .next t ∧ (t.ctx 1023).map (·.st) = some .done :=
  ⟨_, cryFinal_runs 7 _ _ _ ⟨by decide, by decide, by decide⟩ (by decide : _ = some (witnessCtx 7 8 false)), by decide⟩

/-- One block under a key that has one use left: the slot becomes SPENT, and the context is free again. -/
theorem crySingle_witness :
    ∃ t, exec (.crySingle 7 { witnessDesc 0 16 [16] with mode := 1, key := 3, msgLen := 16 }) (cryBoard 7 [] [witnessSlot 3 1 (2 ^ 40 - 1)]) = .next t ∧
      (t.slot 3).st = .spent ∧ t.ctx 1024 = none :=
  ⟨_, crySingle_runs 7 _ _ ⟨by decide, by decide, by decide⟩, by decide, by decide⟩

/-- The context is free, and one completion has left. -/
theorem cryClose_witness :
    ∃ t, exec (.cryClose 7 (namingDesc 0 0 [])) (cryBoard 7 [witnessCtx 7 0 false] []) = .next t ∧ t.ctx 1023 = none ∧
      t.outputs = [.jobCompletion 0 7 { cplOf cOK with ctx := 0xF3FF, phase := true }] :=
  ⟨_, cryClose_frees 7 _ _ _ ⟨by decide, by decide, by decide⟩ (by decide : _ = some (witnessCtx 7 0 false)), by decide, rfl⟩

/-- The image goes out before the completion. -/
theorem crySave_witness :
    ∃ t, exec (.crySave 12 (namingDesc 2 0 [256])) (cryBoard 12 [witnessCtx 12 0 true] []) = .next t ∧
      t.ctx 1023 = some { witnessCtx 12 0 true with lastAt := 0 } ∧ t.outputs.length = 2 :=
  ⟨_, crySave_writes 12 _ _ _ ⟨by decide, by decide, by decide⟩ (by decide : _ = some (witnessCtx 12 0 true)) rfl, by decide, rfl⟩

/-- Of 240 bytes, as R360 has it; HEAD moves on. -/
theorem ecdsaVerify_witness :
    ∃ t, exec (.ecdsaVerify 7 (witnessDesc 0 240 [])) (cryBoard 7 [] []) = .next t ∧ t.fld Reg.fCRY_CH_STATUS_HEAD 7 = 1 ∧ t.outputs.length = 1 :=
  ⟨_, ecdsaVerify_answers 7 _ _ ⟨by decide, by decide, by decide⟩ rfl, by decide, rfl⟩

/-- By the SIGN key of the last Keeper slot: the signature, then the completion. -/
theorem ecdsaSign_witness :
    ∃ t, exec (.ecdsaSign 12 { witnessDesc 2 48 [96] with key := 0x103F }) (cryBoard 12 [] [witnessSlot 4159 6 0]) = .next t ∧
      t.fld Reg.fCRY_CH_STATUS_HEAD 12 = 1 ∧ t.outputs.length = 2 :=
  ⟨_, ecdsaSign_signs 12 _ _ ⟨by decide, by decide, by decide⟩ rfl, by decide, rfl⟩

/-! ## The hypotheses are met: channels, contexts, key slots -/

/-- Channel 7 is the last that BAR0 may disable. -/
theorem cryChannelDisable_witness :
    ∃ t, exec (.cryChannelDisable 7) (cryBoard 7 [] []) = .next t ∧ t.flag Reg.fCRY_CH_CTRL_EN 7 = false :=
  ⟨_, cryChannelDisable_disables 7 _ rfl (by decide), by decide⟩

/-- 600 s after its last descriptor the context is free. -/
theorem cryContextIdleExpiry_witness :
    ∃ t, exec (.cryContextIdleExpiry 1023) (cryBoard 7 [witnessCtx 7 0 false] []) = .next t ∧ t.ctx 1023 = none ∧ t.now = 600000000009 :=
  ⟨_, cryContextIdleExpiry_frees 1023 _ _ rfl rfl, by decide, by decide⟩

/-- Context 1,023 of channel 7 with a digest held. -/
def doneCtx : Ctx := { witnessCtx 7 8 false with st := .done, result := (List.range 32).map (BitVec.ofNat 8) }

/-- The last word of a 32-byte digest, and the first one past it. -/
theorem digResultRead_witness :
    (∃ t, exec (.digResultRead 1023 3) (cryBoard 7 [doneCtx] []) = .next t ∧ t.outputs = [.readData 0xA7FF58 0x1F1E1D1C1B1A1918]) ∧
    ∃ t, exec (.digResultRead 1023 4) (cryBoard 7 [doneCtx] []) = .next t ∧ t.outputs = [.readData 0xA7FF60 0] :=
  ⟨⟨_, digResultRead_reads 1023 3 _ _ rfl rfl (by decide) rfl, by decide⟩, ⟨_, digResultRead_reads 1023 4 _ _ rfl rfl (by decide) rfl, by decide⟩⟩

theorem digCtxRelease_witness : ∃ t, exec (.digCtxRelease 1023) (cryBoard 7 [doneCtx] []) = .next t ∧ t.ctx 1023 = none :=
  ⟨_, digCtxRelease_frees 1023 _ _ rfl rfl (by decide) rfl, by decide⟩

/-- Slot 4,159 erases until 5 ns. -/
theorem keyEraseTimeout_witness :
    ∃ t, exec (.keyEraseTimeout 4159) (cryBoard 7 [] [{ witnessSlot 4159 6 0 with st := .erasing, eraseAt := some 5 }]) = .next t ∧
      t.slot 4159 = { KeySlot.fresh 4159 with gen := 7 } ∧ t.now = 5 :=
  ⟨_, keyEraseTimeout_zeroises 4159 _ 5 rfl rfl rfl rfl, by decide, by decide⟩

/-- A management session on a board with these key slots, whose set 0 is STAGING. -/
def keyBoard (ks : List KeySlot) : State :=
  { State.reset with ctl := { State.reset.ctl with session := true }, eng := { EngState.reset with slots := ks },
                     lens := { LensState.reset with sets := putNth .free { StageSet.free with st := .staging } 0 LensState.reset.sets } }

/-- A blob of a 32-byte key for slot 3, under Keeper slot 63. -/
def witnessBlob : KeyBlob :=
  { kek := 63, use := 1, keyLen := 32, target := 3, rsvdZero := true, length := 80, key := List.replicate 32 0, tagOk := true }

/-- The KEK's last use but one: the key is staged, and the KEK is charged. -/
theorem keyLoad_witness :
    ∃ t, exec (.keyLoad { sessionRequest [3, 0] with bulkCtrl := 80 } witnessBlob) (keyBoard [witnessSlot 4159 5 (2 ^ 32 - 2)]) = .next t ∧
      keyStaged t 3 = true ∧ (t.slot 4159).usage = 2 ^ 32 - 1 := by
  obtain ⟨t, ht, -, hw⟩ := keyLoad_stages { sessionRequest [3, 0] with bulkCtrl := 80 } witnessBlob (keyBoard [witnessSlot 4159 5 (2 ^ 32 - 2)]) _
    ((goes_iff _ _ _ _).2 ⟨rfl, rfl, rfl, rfl, by decide, by decide, by decide, rfl, by decide, by decide⟩) rfl
    (by unfold loadable; decide) (by unfold goodBlob; decide) (by unfold unwraps; decide) rfl
  refine ⟨t, ht, ?_, ?_⟩
  · unfold keyStaged State.set
    rw [lens_of_windowOnly _ t hw]
    decide
  · unfold State.slot
    rw [eng_of_windowOnly _ t hw]
    decide

/-- Slot 4,128 is the first Keeper slot that a task may erase; unpinned, it is EMPTY at once. -/
theorem keyErase_witness :
    ∃ t, exec (.keyErase (sessionRequest [4128])) (keyBoard [witnessSlot 4128 6 0]) = .next t ∧ t.slot 4128 = { KeySlot.fresh 4128 with gen := 7 } := by
  obtain ⟨t, ht, -, hw⟩ := keyErase_begins (sessionRequest [4128]) (keyBoard [witnessSlot 4128 6 0]) _ 0
    ((goes_iff _ _ _ _).2 ⟨rfl, rfl, rfl, rfl, by decide, by decide, by decide, rfl, by decide, by decide⟩) rfl
    (by decide) (by decide) (by decide) (by decide) (by decide) (freeRecord_of_no_jobs _ _ rfl)
  refine ⟨t, ht, ?_⟩
  unfold State.slot
  rw [eng_of_windowOnly _ t hw]
  decide

/-- The key of slot 4,159, the last one: ACTIVE, USE 6, generation 7, no use and no pin. -/
theorem keyStatus_witness :
    ∃ t, exec (.keyStatus (witnessRequest [4159] 0)) (keyBoard [witnessSlot 4159 6 0]) = .next t ∧
      answered (witnessRequest [4159] 0) cOK 0 [0x700000061, 0, 0] t := by
  obtain ⟨t, ht, ha, -⟩ := keyStatus_reports (witnessRequest [4159] 0) (keyBoard [witnessSlot 4159 6 0]) _
    ((goes_iff _ _ _ _).2 ⟨rfl, rfl, rfl, rfl, by decide, by decide, by decide, rfl, by decide, by decide⟩) rfl (by decide) (by decide) (by decide)
  exact ⟨t, ht, ha⟩

end Sys2Proof.Machine

/-!
SUPPORT. Guard groups of the live pattern image: NS_MODIFY enables none that is empty (05 Table 5.5; 15 R373, R374).
-/
namespace Sys2Proof.Machine

/-! ## The live pattern image -/

theorem taken_bank (t : TaskSpec) (r : TaskReq) (s : State) (b : Nat) : (taken t r s).bank b = s.bank b := by
  unfold State.bank; simp

/-- GO leaves PAT_CFG, and with it the live bank, alone. -/
theorem guardEmpty_taken (t : TaskSpec) (r : TaskReq) (s : State) (g : Nat) : guardEmpty (taken t r s) g = guardEmpty s g := by
  unfold guardEmpty
  rw [fld_taken t r s Reg.fPAT_CFG_BANK 0 0 (by decide), taken_bank]

/-- A group is empty where no image is live, or where the live one counts no pattern in it (15 R374). -/
theorem guardEmpty_iff (s : State) (g : Nat) :
    guardEmpty s g = true ↔ ∀ img, s.bank (s.fld Reg.fPAT_CFG_BANK) = some img → groupCount img g = 0 := by
  unfold guardEmpty
  cases s.bank (s.fld Reg.fPAT_CFG_BANK) with
  | none => simp
  | some img => simp

/-! ## NS_MODIFY of the guard group (05 Table 5.5) -/

/-- With the guard group alone selected, every other setting stays. -/
theorem modified_guard (r : TaskReq) (n : Namespace) (h : r.arg 2 = 32) :
    modified r n = { n with guard := r.argBits 3 35 32, guardOn := r.argBits 3 36 36 == 1 } := by
  have hsel : ∀ b, (32 : Nat).testBit b = decide (5 = b) := fun _ => Nat.testBit_two_pow (n := 5)
  simp [modified, h, hsel]

/-- The command's own part, on a namespace of a group that this head owns: of its tests only the guard group's applies, and it bars an empty one. -/
theorem nsModify_emptyGuard (r : TaskReq) (s : State) (sh : Bool) (n : Namespace)
    (h : goes { opcode := 0x0203, windows := [0] }
       [(1, mask 31 0), (2, mask 6 0), (3, mask 2 0 ||| mask 12 8 ||| mask 19 16 ||| mask 29 20 ||| mask 36 32), (4, mask64)] r s = true)
    (hn : s.ns (r.arg 1) = some (sh, n)) (ho : s.owns n.group = true) (hsel : r.arg 2 = 32) (hon : r.argBits 3 36 36 = 1)
    (he : guardEmpty s (r.argBits 3 35 32) = true) :
    ∃ t, exec (.nsModify r) s = .next t ∧ answered r cBAD_FIELD 3 [] t ∧ windowOnly s t := by
  have hbits : (32 : Nat).testBit 1 = false ∧ (32 : Nat).testBit 3 = false ∧ (32 : Nat).testBit 5 = true := by decide
  obtain ⟨hlevel, hddom, hguard⟩ := hbits
  refine taskCmd_refused _ _ r _ s cBAD_FIELD 3 [] h ?_ (by simp)
  simp only [taken_ns, hn, taken_owns, ho, hsel, hlevel, hddom, hguard, modified_guard r n hsel, hon, guardEmpty_taken, he]
  rfl

/-- Settles O9: what the live image does not hold is an empty group (`guardEmpty_iff`), and NS_MODIFY refuses to enable one. -/
theorem emptyGuardGroupIsRefused : Obligations.EmptyGuardGroupIsRefused := by
  unfold Obligations.EmptyGuardGroupIsRefused
  intro r s sh n h hn ho hsel hon hlive
  exact nsModify_emptyGuard r s sh n h hn ho hsel hon ((guardEmpty_iff _ _).2 hlive)

/-! ## The hypotheses are met -/

/-- The host's board with `img` live: BANK is 0 from reset on. -/
def patternBoard (img : Option PatImage) : State := { hostBoard [] with eng := { EngState.reset with bank0 := img } }

/-- An image of one pattern, in group 14. -/
def witnessImage : PatImage :=
  { format := 1, patterns := [{ bytes := [1, 1], group := 14, priority := 0 }], count := 1, imageLen := 1024,
    groups := List.replicate 14 (0, 0) ++ [(0, 1), (1, 0)], rsvdZero := true, crcOk := true }

/-- NS_MODIFY of namespace 1 that enables guard group `g`. -/
def enableGuard (g : Nat) : TaskReq := witnessRequest [1, 32, BitVec.ofNat 64 (2 ^ 36 + g * 2 ^ 32), 0] 0

/-- Group 15, the last one, is refused beside a group of one pattern: DONE with BAD_FIELD and DETAIL 3, and the namespace stays as it was. -/
theorem emptyGuard_witness :
    ∃ t, exec (.nsModify (enableGuard 15)) (patternBoard (some witnessImage)) = .next t ∧
      t.word 0x11108 = 0x4000010200000003 ∧ t.md.store.ns 1 = some witnessSpace := by
  obtain ⟨t, ht, ha, hw⟩ := emptyGuardGroupIsRefused (enableGuard 15) (patternBoard (some witnessImage)) false witnessSpace
    ((goes_iff _ _ _ _).2 ⟨rfl, rfl, rfl, rfl, by decide, by decide, by decide, rfl, by decide, by decide⟩)
    rfl (by decide) (by decide) (by decide) (fun img himg => by cases himg; decide)
  exact ⟨t, ht, ha.1, by rw [md_of_windowOnly _ t hw]; rfl⟩

/-- On the same board group 14, of one pattern, is not empty; without a live image every group is. -/
theorem guardEmpty_witness :
    guardEmpty (patternBoard (some witnessImage)) 14 = false ∧ guardEmpty (patternBoard (some witnessImage)) 15 = true ∧
      ∀ g, guardEmpty (patternBoard none) g = true :=
  ⟨by decide, by decide, fun g => (guardEmpty_iff _ g).2 fun _ himg => nomatch himg⟩

end Sys2Proof.Machine

/-!
SUPPORT. DRAM and the map cache: the channel of an address, corrected bursts, leaky buckets, scrubbing, zero fill, SRAM patrol, cache slices (16 R383 to R401).
Which set BUCKET_CONFIG takes and its lead, what a background pass advances by, the way of a full set that gives way, a window BUSY to T and the clock
of a timer row are the model's choice (logs 69, 95, 98, 126).
-/
namespace Sys2Proof.Machine

/-! ## The channel of an address (16 R383) -/

theorem dramChannel_eq_shifts (a : Nat) :
    dramChannel a = (a >>> 12 % 16) ^^^ (a >>> 16 % 16) ^^^ (a >>> 20 % 16) ^^^ (a >>> 24 % 16) := by
  simp only [dramChannel, Nat.shiftRight_eq_div_pow, Nat.reducePow]

theorem dramChannel_lt (a : Nat) : dramChannel a < 16 := by
  have h : ∀ n : Nat, n % 16 < 2 ^ 4 := fun n => Nat.mod_lt n (by decide)
  exact Nat.xor_lt_two_pow (Nat.xor_lt_two_pow (Nat.xor_lt_two_pow (h _) (h _)) (h _)) (h _)

/-- The four digits stand above the offset within a unit, so the unit's number gives them all. -/
theorem dramChannel_of_unit (a : Nat) :
    dramChannel a = (a / 4096 % 16) ^^^ (a / 4096 / 16 % 16) ^^^ (a / 4096 / 256 % 16) ^^^ (a / 4096 / 4096 % 16) := by
  simp only [dramChannel, Nat.div_div_eq_div_mul, Nat.reduceMul]

/-- Settles O10: the channel hangs on the number of the 4 KiB unit alone (`dramChannel_of_unit`). -/
theorem dramChannelInterleave : Obligations.DramChannelInterleave := by
  unfold Obligations.DramChannelInterleave
  refine fun a => ⟨dramChannel_eq_shifts a, dramChannel_lt a, fun b hab => ?_⟩
  rw [dramChannel_of_unit a, dramChannel_of_unit b, hab]

/-! ## Corrected bursts and their write-back (16 R385, R386) -/

/-- A burst that no writer marked reads as the decoder finds it. -/
theorem burstOutcome_of_unmarked (s : State) (a : Nat) (rewritten : Bool) (o : BurstRead) (h : s.eng.poisoned.contains a = false) :
    burstOutcome s a rewritten o = o := by
  simp only [burstOutcome, h, Bool.false_and, Bool.false_eq_true, if_false]

/-- The burst at `a` waits for its write-back, and the device that was erased to correct it is noted for its channel. -/
def writeBackQueued (a : Nat) (dimm : Fin 2) (dev : Fin 40) (s : State) : State :=
  { s with eng := { s.eng with writeBacks := s.eng.writeBacks ++ [a], erased := s.eng.erased ++ [(dramChannel a, dimm.val, dev.val)] } }

/-- A burst corrected by erasure whose write-back is not queued yet counts once. -/
theorem countBurst_of_device (a : Nat) (dimm : Fin 2) (dev : Fin 40) (s : State) (h : s.eng.writeBacks.contains a = false) :
    countBurst a (.device dimm dev) s =
      countBucket (dramChannel a) ((writeBackQueued a dimm dev s).bump Reg.fMEM_CH_STATUS_CORRECTED 1 (dramChannel a)) := by
  simp only [countBurst, h, Bool.false_eq_true, if_false, writeBackQueued]

theorem dramReadDecode_corrects (addr : Nat) (who : DramConsumer) (dimm : Fin 2) (dev : Fin 40) (s : State) (hup : s.up = true)
    (hp : s.eng.poisoned.contains (addr / 64 * 64) = false) (hw : s.eng.writeBacks.contains (addr / 64 * 64) = false) :
    exec (.dramReadDecode addr (.demand who) false (.device dimm dev)) s =
      .next (countBucket (dramChannel (addr / 64 * 64))
        ((writeBackQueued (addr / 64 * 64) dimm dev s).bump Reg.fMEM_CH_STATUS_CORRECTED 1 (dramChannel (addr / 64 * 64)))) := by
  show execDramReadDecode addr (.demand who) false (.device dimm dev) s = _
  rw [execDramReadDecode, act_up _ _ hup]
  simp only [burstOutcome_of_unmarked _ _ _ _ hp, countBurst_of_device _ _ _ _ hw, BurstRead.poison, Bool.false_eq_true, if_false]

theorem correctionWriteBack_ends (a : Nat) (cancelled : Bool) (s : State) (hup : s.up = true) (hw : s.eng.writeBacks.contains a = true) :
    exec (.correctionWriteBack a cancelled) s =
      .next (State.emit { s with eng := { s.eng with writeBacks := s.eng.writeBacks.filter (· != a) } } (.writeBack a cancelled)) := by
  show execCorrectionWriteBack a cancelled s = _
  rw [execCorrectionWriteBack, act_up _ _ hup, if_pos hw]

/-! ## Leaky buckets (16 R394, R395) -/

/-- A bucket reads the count that was stored in it, cut to its 16 bits. -/
theorem count_setCount (b n : Nat) (s : State) : (setCount b n s).fld Reg.fMEM_BUCKET_STATUS_COUNT b = n % 2 ^ 16 := by
  unfold setCount State.setFlag
  rw [State.fld_setFld_apart _ _ _ _ _ _ _ _ (by decide) (by decide)]
  exact State.fld_setFld_same _ _ _ _ _ (by decide)

theorem count_lt (b : Nat) (s : State) : s.fld Reg.fMEM_BUCKET_STATUS_COUNT b < 2 ^ 16 := bits_lt _ _ _

/-- The state at the end of bucket `b`'s interval, with its timer started again. -/
def leakDue (b : Nat) (s : State) : State :=
  let t := lookupD 0 b s.eng.leakAt + s.fld Reg.fMEM_BUCKET_CFG_INTERVAL_MS b * ms
  { s.reach t with eng := { s.eng with leakAt := setKey b t s.eng.leakAt } }

theorem fld_leakDue (b : Nat) (s : State) (f : Fld) (i j : Nat) : (leakDue b s).fld f i j = s.fld f i j :=
  State.fld_of_regs s _ (State.reach_regs s _) f i j

theorem leakyBucketLeak_leaks (b : Fin 24) (s : State) (hup : s.up = true) :
    exec (.leakyBucketLeak b) s = .next (setCount b (s.fld Reg.fMEM_BUCKET_STATUS_COUNT b - 1) (leakDue b s)) := by
  rw [← fld_leakDue b s]
  show execLeakyBucketLeak b s = _
  rw [execLeakyBucketLeak, act_up _ _ hup]
  simp only [leakDue, State.reach_eng]

/-- A GO that is taken and whose own part runs on stays BUSY in its window. -/
theorem taskCmd_later (t : TaskSpec) (m : List (Nat × Nat)) (r : TaskReq) (body : State → TaskOut) (s s' : State)
    (h : goes t m r s = true) (hb : body (taken t r s) = .later s') : taskCmd t m r body s = .next (stayBusy r.window s') := by
  rw [taskCmd_goes t m r body s h, hb]

/-- The row of BUCKET_CONFIG. -/
def bucketConfigSpec : TaskSpec := { opcode := 0x0902, windows := [0] }

/-- Set `n` opened, filled with the interval and the threshold for the one bucket that BUCKET_CONFIG names, and checked. -/
def bucketChecked (n : Nat) (r : TaskReq) (u : State) : State :=
  runCheck n (stageReg n (Reg.MEM_BUCKET_CFG.base + 8 * r.arg 1) (BitVec.ofNat 64 (r.arg 2 * 2 ^ 32 + r.arg 3))
    (u.putSet n { StageSet.free with st := .staging }))

theorem bucketConfig_commits (r : TaskReq) (s u : State) (n : Nat)
    (h : goes bucketConfigSpec [(1, mask 5 0), (2, mask 31 0), (3, mask 15 0)] r s = true) (hu : u = taken bucketConfigSpec r s)
    (hb : r.arg 1 < 24) (h1 : 0 < r.arg 2) (h2 : r.arg 2 ≤ 86400000) (hn : freeSet u = some n)
    (hc : claimedElsewhere n u (regClaims (Reg.MEM_BUCKET_CFG.base + 8 * 0)) = false) :
    exec (.bucketConfig r) s = .next (stayBusy r.window (commitSet n defaultLead .plain
      ((bucketChecked n r u).putSet n { (bucketChecked n r u).set n with window := some r.window }))) := by
  subst hu
  have hall : (r.arg 1 == 0x3F) = false := beq_eq_false_iff_ne.2 (by omega)
  have hzero : (r.arg 2 == 0) = false := beq_eq_false_iff_ne.2 (by omega)
  refine taskCmd_later bucketConfigSpec _ r _ s _ h ?_
  simp only [hall, hzero, Nat.not_le.2 hb, Nat.not_lt.2 h2, hn, hc, bucketChecked, decide_false, Bool.and_false, Bool.or_false,
    Bool.false_eq_true, if_false, List.foldl_cons, List.foldl_nil]

/-! ## Scrubbing and zero fill (16 R392, R396, R397) -/

@[simp] theorem withJob_eng (op : Nat) (r : TaskReq) (p : JobPlan) (s : State) (k : Nat) : (withJob op r p s k).eng = s.eng := rfl
@[simp] theorem withJob_md (op : Nat) (r : TaskReq) (p : JobPlan) (s : State) (k : Nat) : (withJob op r p s k).md = s.md := rfl

/-- The row of SCRUB_RANGE. -/
def scrubRangeSpec : TaskSpec := { opcode := 0x0901, windows := [0, 3] }

/-- A range of whole bursts within the DRAM that is installed, at a rate of its own. -/
def scrubbable (r : TaskReq) (u : State) : Prop :=
  r.arg 1 % 64 = 0 ∧ r.arg 2 % 64 = 0 ∧ 0 < r.arg 2 ∧ r.arg 1 + r.arg 2 ≤ installedGib u * gib ∧ 0 < r.arg 3 ∧ r.arg 3 ≤ 200

/-- The pass that SCRUB_RANGE begins for job `n` at `now`: nothing checked yet. -/
def newPass (n : Nat) (r : TaskReq) (now : Nat) : ScrubPass :=
  { job := n, start := r.arg 1, len := r.arg 2, rate := r.arg 3, checked := 0, corrected := 0, marked := 0, bad := 0, firstBad := none, since := now }

/-- It joins the passes under way. -/
def scrubBegun (n : Nat) (r : TaskReq) (v : State) : State := putScrubs (v.eng.scrubs ++ [newPass n r v.now]) v

@[simp] theorem scrubBegun_md (n : Nat) (r : TaskReq) (v : State) : (scrubBegun n r v).md = v.md := rfl
@[simp] theorem scrubBegun_ctl (n : Nat) (r : TaskReq) (v : State) : (scrubBegun n r v).ctl = v.ctl := rfl
@[simp] theorem scrubBegun_scrubs (n : Nat) (r : TaskReq) (v : State) : (scrubBegun n r v).eng.scrubs = v.eng.scrubs ++ [newPass n r v.now] := rfl

theorem scrubRange_begins (r : TaskReq) (s u : State) (n : Nat)
    (h : goes scrubRangeSpec [(1, mask64), (2, mask64), (3, mask 15 0)] r s = true) (hu : u = taken scrubRangeSpec r s)
    (hr : scrubbable r u) (hl : s.eng.scrubs.length < 4) (hn : freeRecord r.window s = some n) :
    ∃ t, exec (.scrubRange r) s = .next t ∧ answered r cACCEPTED 0 [handleOf (plannedJob 0x0901 r { cancellable := true } s n)] t ∧
      windowOnly (scrubBegun n r (withJob 0x0901 r { cancellable := true } u n)) t := by
  subst hu
  obtain ⟨hstart, hlen, hsome, hin, hrate, hcap⟩ := hr
  have hsome' : (r.arg 2 == 0) = false := beq_eq_false_iff_ne.2 (by omega)
  have hrate' : (r.arg 3 == 0) = false := beq_eq_false_iff_ne.2 (by omega)
  refine taskCmd_jobOp scrubRangeSpec _ r _ s 0x0901 n _ (fun n v => scrubBegun n r v) h hn ?_
  simp only [hstart, hlen, hsome', hrate', Nat.not_lt.2 hin, Nat.not_lt.2 hcap, Nat.not_le.2 hl, taken_eng, bne_self_eq_false,
    Bool.false_eq_true, if_false, scrubBegun, newPass]

/-- The state at the end of the background pass's next GiB. -/
def passDue (s : State) : State :=
  s.reach (s.eng.bgSince + (s.eng.bgDone + 1) * (s.fld Reg.fMEM_SCRUB_CFG_BG_PERIOD_H * hour) / installedGib s)

theorem backgroundScrubPass_advances (s : State) (hup : s.up = true) (hb : s.background = true) (hn : s.eng.bgDone + 1 < installedGib s) :
    exec (.backgroundScrubPass []) s = .next (State.setFld { passDue s with eng := { s.eng with bgDone := s.eng.bgDone + 1 } }
      Reg.fMEM_SCRUB_STATUS_BG_PCT ((s.eng.bgDone + 1) * 100 / installedGib s)) := by
  have h0 : (installedGib s == 0) = false := beq_eq_false_iff_ne.2 (by omega)
  show execBackgroundScrubPass [] s = _
  rw [execBackgroundScrubPass, act_up _ _ hup]
  simp only [hb, h0, Bool.not_true, Bool.or_self, Bool.false_eq_true, if_false, List.filter_nil, List.foldl_nil, State.reach_eng,
    Nat.not_le.2 hn, passDue]

theorem dramZeroFill_advances (n : Nat) (s : State) (hup : s.up = true) (hd : s.flag Reg.fMEM_FILL_STATUS_DONE = false)
    (hk : s.keeperA = some true) (hn : s.fld Reg.fMEM_FILL_STATUS_FILLED_GIB + n < installedGib s) :
    exec (.dramZeroFill n) s = .next (s.setFld Reg.fMEM_FILL_STATUS_FILLED_GIB (s.fld Reg.fMEM_FILL_STATUS_FILLED_GIB + n)) := by
  have h0 : (installedGib s == 0) = false := beq_eq_false_iff_ne.2 (by omega)
  have hlast : (s.fld Reg.fMEM_FILL_STATUS_FILLED_GIB + n == installedGib s) = false := beq_eq_false_iff_ne.2 (by omega)
  show execDramZeroFill n s = _
  rw [execDramZeroFill, act_up _ _ hup]
  simp only [hd, h0, hk, bne_self_eq_false, Bool.or_self, Bool.false_eq_true, if_false, Nat.min_eq_right hn.le, hlast]

/-! ## SRAM (16 R389) -/

theorem sramPatrol_counts (c : Fin 8) (w : Nat) (s : State) (hup : s.up = true) :
    exec (.sramPatrol c w .corrected) s = .next (countBucket (16 + c.val) s) := act_up _ _ hup

/-! ## Cache slices (16 R398 to R401) -/

/-- A change of ENABLE leaves STATE beside it alone. -/
@[simp] theorem sliceState_setEnable (k : Nat) (b : Bool) (s : State) : sliceState (s.setFlag Reg.fMCC_CTRL_ENABLE b k) k = sliceState s k :=
  State.fld_setFld_apart _ _ _ _ _ _ _ _ (by decide) (by decide)

@[simp] theorem enable_setEnable (k : Nat) (b : Bool) (s : State) : (s.setFlag Reg.fMCC_CTRL_ENABLE b k).flag Reg.fMCC_CTRL_ENABLE k = b :=
  State.flag_setFlag_same _ _ _ _ _ (by decide) (by decide)

/-- The state with nothing held in slice `k`: no line, no victim, no write waiting. -/
def sliceEmptied (k : Nat) (s : State) : State := { s with eng := { s.eng with slices := s.eng.slices.filter (·.index != k) } }

@[simp] theorem sliceState_sliceEmptied (k : Nat) (s : State) : sliceState (sliceEmptied k s) k = sliceState s k := rfl
@[simp] theorem enable_sliceEmptied (k : Nat) (s : State) : (sliceEmptied k s).flag Reg.fMCC_CTRL_ENABLE k = s.flag Reg.fMCC_CTRL_ENABLE k := rfl
@[simp] theorem sliceEmptied_md (k : Nat) (s : State) : (sliceEmptied k s).md = s.md := rfl
@[simp] theorem sliceEmptied_slices (k : Nat) (s : State) : (sliceEmptied k s).eng.slices = s.eng.slices.filter (·.index != k) := rfl

theorem mccDisable_drains (k : Fin 64) (s : State) (hup : s.up = true) (h : sliceState s k = 0) :
    exec (.mccDisable k) s = .next (setSlice k 1 (s.setFlag Reg.fMCC_CTRL_ENABLE false k)) := by
  show execMccDisable k s = _
  rw [execMccDisable, act_up _ _ hup]
  simp [h]

theorem mccEnable_enables (k : Fin 64) (s : State) (hup : s.up = true) (h : sliceState s k = 2) :
    exec (.mccEnable k) s = .next (setSlice k 0 (sliceEmptied k (s.setFlag Reg.fMCC_CTRL_ENABLE true k))) := by
  show execMccEnable k s = _
  rw [execMccEnable, act_up _ _ hup]
  simp [h, sliceEmptied]

theorem mccDrainComplete_bypasses (k : Fin 64) (s : State) (hup : s.up = true) (h : sliceState s k = 1) :
    exec (.mccDrainComplete k) s = .next (setSlice k 2 (sliceEmptied k s)) := by
  show execMccDrainComplete k s = _
  rw [execMccDrainComplete, act_up _ _ hup]
  simp [h, sliceEmptied]

/-- While nothing waits behind a slice's outstanding miss, no further miss proceeds. -/
theorem nextMiss_of_none_waiting (f k : Nat) (s : State) (h : (s.slice k).waiting = []) : nextMiss f k s = s := by
  cases f with
  | zero => rfl
  | succ f =>
    unfold nextMiss
    simp only [h]
    cases (s.slice k).miss <;> rfl

/-- The slice with the line of its outstanding miss `q` put in its set; the next free value picks the way that gives way in a full one. -/
def missFilled (k : Nat) (q : CacheReq) (s : State) : Slice :=
  install { line := q.line, dirty := q.write } (cacheWays s) s.draw.1.toNat { s.slice k with miss := none }

theorem missFilled_index (k : Nat) (q : CacheReq) (s : State) : (missFilled k q s).index = (s.slice k).index := (install_keeps _ _ _ _).2.2

theorem missFilled_waiting (k : Nat) (q : CacheReq) (s : State) : (missFilled k q s).waiting = (s.slice k).waiting := (install_keeps _ _ _ _).1

theorem mapCacheMissFill_fills (k : Fin 64) (s : State) (q : CacheReq) (hup : s.up = true) (h0 : sliceState s k = 0)
    (hq : (s.slice k).miss = some q) (hw : (s.slice k).waiting = []) (hi : (s.slice k).index = k)
    (hm : mustWait q.line (cacheWays s) (s.slice k) = false) :
    exec (.mapCacheMissFill k []) s = .next (s.draw.2.putSlice (missFilled k q s)) := by
  have hput : (s.draw.2.putSlice (missFilled k q s)).slice k = missFilled k q s :=
    slice_put _ _ _ ((missFilled_index k q s).trans hi)
  have hlast := fun f => nextMiss_of_none_waiting f k (s.draw.2.putSlice (missFilled k q s)) (by rw [hput, missFilled_waiting, hw])
  show execMapCacheMissFill k [] s = _
  rw [execMapCacheMissFill, act_up _ _ hup]
  simp only [List.foldl_nil, hq, h0, bne_self_eq_false, Bool.false_eq_true, if_false, hm]
  exact congrArg _ (hlast _)

/-! ## O38 -/

/-- Settles O38: each row is one equation of `exec`; a change of a slice's STATE is `setSlice_flag`, and SCRUB_RANGE is seen past its window. -/
theorem memoryErrorsAndTheMapCache : Obligations.MemoryErrorsAndTheMapCache := by
  unfold Obligations.MemoryErrorsAndTheMapCache
  refine ⟨?read, ?writeBack, ?leak, ?config, ?scrub, ?background, ?fill, ?patrol, ?disable, ?enable, ?drained, ?filled⟩
  case read => exact fun addr w dm dv s hup hp hw => ⟨_, rfl, dramReadDecode_corrects addr w dm dv s hup hp hw⟩
  case writeBack => exact correctionWriteBack_ends
  case leak =>
    intro b s hup
    refine ⟨_, leakyBucketLeak_leaks b s hup, ?_, by simp [setCount, leakDue], by simp [setCount, leakDue]⟩
    have := count_lt b s
    rw [count_setCount, Nat.mod_eq_of_lt (by omega)]
  case config =>
    exact fun r s u n h hu hb h1 h2 hn hc => ⟨_, rfl, bucketConfig_commits r s u n h hu hb h1 h2 hn hc⟩
  case scrub =>
    intro r s u n h hu hstart hlen hsome hin hrate hcap hl hn
    obtain ⟨t, ht, ha, hw⟩ := scrubRange_begins r s u n h hu ⟨hstart, hlen, hsome, hin, hrate, hcap⟩ hl hn
    subst hu
    refine ⟨t, ht, ha, ?_, ?_, ?_⟩
    · rw [eng_of_windowOnly _ t hw, scrubBegun_scrubs, withJob_eng, taken_eng, withJob_now, taken_now, newPass]
    · rw [ctl_of_windowOnly _ t hw, scrubBegun_ctl, withJob_ctl_taken]
    · rw [md_of_windowOnly _ t hw, scrubBegun_md, withJob_md, taken_md]
  case background =>
    exact fun s hup hb hn => ⟨_, backgroundScrubPass_advances s hup hb hn, rfl, by simp [passDue], by simp [passDue], by simp [passDue]⟩
  case fill => exact dramZeroFill_advances
  case patrol => exact sramPatrol_counts
  case disable =>
    intro k s hup h
    exact ⟨_, mccDisable_drains k s hup h, setSlice_flag k 1 false _ (by simp [h]) (by decide) (by simp)⟩
  case enable =>
    intro k s hup h
    obtain ⟨hst, hen, heng, hmd⟩ := setSlice_flag k 0 true (sliceEmptied k (s.setFlag Reg.fMCC_CTRL_ENABLE true k))
      (by simp [h]) (by decide) (by simp)
    exact ⟨_, mccEnable_enables k s hup h, hst, hen, by simp [heng], by simp [hmd]⟩
  case drained =>
    intro k s hup h
    obtain ⟨hst, -, heng, hmd⟩ := setSlice_flag k 2 _ (sliceEmptied k s) (by simp [h]) (by decide) rfl
    exact ⟨_, mccDrainComplete_bypasses k s hup h, hst, by simp [heng], by simp [hmd]⟩
  case filled =>
    intro k s q hup h0 hq hw hi hm
    exact ⟨_, mapCacheMissFill_fills k s q hup h0 hq hw hi hm, slice_put _ _ _ ((missFilled_index k q s).trans hi), rfl, rfl⟩

/-! ## The hypotheses are met: DRAM -/

/-- A board with 1,024 GiB of DRAM: DIMMs of 64 GiB, one per channel. -/
def dramBoard (e : EngState) : State :=
  { (State.reset.setFld Reg.fMEM_CONFIG_DIMM_GIB 64).setFld Reg.fMEM_CONFIG_DPC 1 with eng := e }

/-- Two units side by side: of the digits 0, 1, 1, 1 the xor is 1, of 1, 1, 1, 1 it is 0. -/
theorem dramChannel_witness : dramChannel 0x1110FFF = 1 ∧ dramChannel 0x1111000 = 0 := by decide

/-- At the threshold, 16, one more corrected burst counts 17 and fires the bucket of channel 1: OVER, and one overflow. -/
theorem dramReadDecode_witness :
    ∃ t, exec (.dramReadDecode 0x1110FFF (.demand .other) false (.device 1 39)) (State.reset.setFld Reg.fMEM_BUCKET_STATUS_COUNT 16 1) = .next t ∧
      t.eng.writeBacks = [0x1110FC0] ∧ t.fld Reg.fMEM_BUCKET_STATUS_COUNT 1 = 17 ∧ t.flag Reg.fMEM_BUCKET_STATUS_OVER 1 = true ∧
      t.fld Reg.fMEM_BUCKET_STATUS_OVERFLOWS 1 = 1 :=
  ⟨_, dramReadDecode_corrects _ .other 1 39 _ rfl rfl rfl, by decide, by decide, by decide, by decide⟩

/-- Of two bursts that wait, the one that is written back no longer does. -/
theorem correctionWriteBack_witness :
    ∃ t, exec (.correctionWriteBack 64 false) (dramBoard { EngState.reset with writeBacks := [64, 128] }) = .next t ∧
      t.eng.writeBacks = [128] ∧ t.outputs = [.writeBack 64 false] :=
  ⟨_, correctionWriteBack_ends 64 false _ rfl rfl, rfl, rfl⟩

/-- After its first minute the last bucket falls from 17 to 16, which is not over the threshold. -/
theorem leakyBucketLeak_witness :
    ∃ t, exec (.leakyBucketLeak 23) ((State.reset.setFld Reg.fMEM_BUCKET_STATUS_COUNT 17 23).setFlag Reg.fMEM_BUCKET_STATUS_OVER true 23) = .next t ∧
      t.fld Reg.fMEM_BUCKET_STATUS_COUNT 23 = 16 ∧ t.flag Reg.fMEM_BUCKET_STATUS_OVER 23 = false ∧ t.now = 60000000000 :=
  ⟨_, leakyBucketLeak_leaks 23 _ rfl, by decide, by decide, by decide⟩

/-- The last bucket, the longest interval, the highest threshold. -/
def lastBucket : TaskReq := witnessRequest [23, 86400000, 65535] 0

/-- Set 0 is PREPARING for 20 us from now and names window 0, which is BUSY. -/
theorem bucketConfig_witness :
    ∃ t, exec (.bucketConfig lastBucket) State.reset = .next t ∧ (t.set 0).st = .preparing ∧ (t.set 0).switchT = 20000 ∧ (t.set 0).window = some 0 ∧
      (t.set 0).writes = [(0x8020B8, 0x05265C000000FFFF)] ∧ t.busy 0 = true :=
  ⟨_, bucketConfig_commits lastBucket State.reset _ 0
    ((goes_iff _ _ _ _).2 ⟨rfl, rfl, rfl, rfl, by decide, by decide, by decide, rfl, by decide, by decide⟩) rfl
    (by decide) (by decide) (by decide) (by decide) (by decide), by decide, by decide, by decide, by decide, by decide⟩

/-- The pass of job `n` over the first burst. -/
def witnessPass (n : Nat) : ScrubPass :=
  { job := n, start := 0, len := 64, rate := 1, checked := 0, corrected := 0, marked := 0, bad := 0, firstBad := none, since := 0 }

/-- The last burst of the DRAM, at the highest rate. -/
def lastBurst : TaskReq := witnessRequest [BitVec.ofNat 64 (1024 * gib - 64), 64, 200] 0

/-- The fourth pass takes the last slot. -/
theorem scrubRange_witness :
    ∃ t, exec (.scrubRange lastBurst) (dramBoard { EngState.reset with scrubs := [witnessPass 7, witnessPass 8, witnessPass 9] }) = .next t ∧
      t.eng.scrubs = [witnessPass 7, witnessPass 8, witnessPass 9, { witnessPass 0 with start := 1024 * gib - 64, rate := 200 }] ∧
      t.fld Reg.fMEM_SCRUB_STATUS_JOBS = 4 := by
  obtain ⟨t, ht, -, hw⟩ := scrubRange_begins lastBurst (dramBoard { EngState.reset with scrubs := [witnessPass 7, witnessPass 8, witnessPass 9] }) _ 0
    ((goes_iff _ _ _ _).2 ⟨rfl, rfl, rfl, rfl, by decide, by decide, by decide, rfl, by decide, by decide⟩) rfl
    (by unfold scrubbable; decide) (by decide) (freeRecord_of_no_jobs _ _ rfl)
  refine ⟨t, ht, ?_, ?_⟩
  · rw [eng_of_windowOnly _ t hw]
    decide
  · unfold State.fld
    rw [hw.2 _ (by decide) (by decide)]
    decide

/-- The last GiB but one: 1,023 of 1,024 are done, 99 per cent. -/
theorem backgroundScrubPass_witness :
    ∃ t, exec (.backgroundScrubPass []) (dramBoard { EngState.reset with bgDone := 1022 }) = .next t ∧ t.eng.bgDone = 1023 ∧
      t.fld Reg.fMEM_SCRUB_STATUS_BG_PCT = 99 ∧ t.now = 1023 * (24 * hour) / 1024 :=
  ⟨_, backgroundScrubPass_advances _ rfl (by decide) (by decide), rfl, by decide, by decide⟩

/-- All but the last GiB are filled, and DONE is not set yet. -/
theorem dramZeroFill_witness :
    ∃ t, exec (.dramZeroFill 1023) (dramBoard EngState.reset) = .next t ∧ t.fld Reg.fMEM_FILL_STATUS_FILLED_GIB = 1023 ∧
      t.flag Reg.fMEM_FILL_STATUS_DONE = false :=
  ⟨_, dramZeroFill_advances 1023 _ rfl (by decide) (by decide) (by decide), by decide, by decide⟩

/-! ## The hypotheses are met: SRAM and cache slices -/

/-- The last class counts in the last bucket. -/
theorem sramPatrol_witness :
    ∃ t, exec (.sramPatrol 7 0 .corrected) State.reset = .next t ∧ t.fld Reg.fMEM_BUCKET_STATUS_COUNT 23 = 1 :=
  ⟨_, sramPatrol_counts 7 0 _ rfl, by decide⟩

/-- A read of the line at 64 that may be kept. -/
def witnessMiss : CacheReq := { line := 64, write := false, alloc := true }

/-- Slice 63 with these lines, `q` outstanding. -/
def witnessSlice (ls : List CacheLine) (q : Option CacheReq) : Slice := { index := 63, lines := ls, victim := [], wb := [], miss := q, waiting := [] }

/-- A board whose slice 63 is in this STATE and holds `x`. -/
def sliceBoard (st : Nat) (x : Slice) : State :=
  { State.reset.setFld Reg.fMCC_CTRL_STATE st 63 with eng := { EngState.reset with slices := [x] } }

/-- Slice 63 drains with the dirty line it holds. -/
theorem mccDisable_witness :
    ∃ t, exec (.mccDisable 63) (sliceBoard 0 (witnessSlice [{ line := 64, dirty := true }] none)) = .next t ∧ sliceState t 63 = 1 ∧
      t.slice 63 = witnessSlice [{ line := 64, dirty := true }] none :=
  ⟨_, mccDisable_drains 63 _ rfl (by decide), by decide, by decide⟩

/-- Then nothing of it is left. -/
theorem mccDrainComplete_witness :
    ∃ t, exec (.mccDrainComplete 63) (sliceBoard 1 (witnessSlice [{ line := 64, dirty := true }] none)) = .next t ∧ sliceState t 63 = 2 ∧
      t.eng.slices = [] :=
  ⟨_, mccDrainComplete_bypasses 63 _ rfl (by decide), by decide, by decide⟩

/-- Enabled from BYPASS, a slice has lost the line it still held. -/
theorem mccEnable_witness :
    ∃ t, exec (.mccEnable 63) (sliceBoard 2 (witnessSlice [{ line := 64, dirty := false }] none)) = .next t ∧ sliceState t 63 = 0 ∧
      t.flag Reg.fMCC_CTRL_ENABLE 63 = true ∧ t.eng.slices = [] :=
  ⟨_, mccEnable_enables 63 _ rfl (by decide), by decide, by decide, by decide⟩

/-- Fifteen clean lines of set 1: one of its sixteen ways is left. -/
def nearlyFull : List CacheLine := (List.range 15).map fun i => { line := 65536 * (i + 1) + 64, dirty := false }

/-- The missed line takes the last way of its set, clean. -/
theorem mapCacheMissFill_witness :
    ∃ t, exec (.mapCacheMissFill 63 []) (sliceBoard 0 (witnessSlice nearlyFull (some witnessMiss))) = .next t ∧
      t.slice 63 = witnessSlice (nearlyFull ++ [{ line := 64, dirty := false }]) none :=
  ⟨_, mapCacheMissFill_fills 63 _ witnessMiss rfl (by decide) rfl rfl rfl (by decide), by decide⟩

end Sys2Proof.Machine

/-!
SUPPORT. One step, and the state right after reset.
A queue of commands is the model's own (log 1); what stands in boot flash, fuses, modules, links and pins at reset, a new board's, is its choice (logs 2, 3, 114).
-/
namespace Sys2Proof.Machine

/-! ## O1 -/

theorem step_of_waiting (c : Instr) (l : List Instr) (s : State) (h : s.pending = c :: l) : step s = exec c { s with pending := l } := by
  unfold step
  rw [h]

theorem step_of_idle (s : State) (h : s.pending = []) : step s = .next s := by
  unfold step
  rw [h]

/-- Settles O1: the two forms of the queue. -/
theorem stepRunsTheFrontCommand : Obligations.StepRunsTheFrontCommand := by
  unfold Obligations.StepRunsTheFrontCommand
  exact ⟨fun c s => step_of_waiting c s.pending _ rfl, step_of_idle⟩

/-! ## O2 -/

/-- No register is listed, so each reads its table's reset value (03 R53). -/
theorem word_reset (off : Nat) : State.reset.word off = resetWord off := rfl

theorem set_reset (n : Nat) (h : n < 8) : (State.reset.set n).st = .free := by
  revert n
  decide

theorem group_reset (g : Nat) (h : g < 2) : (State.reset.group g).up = false := by
  revert g
  decide

/-- Settles O2: the registers by `word_reset`, sets and groups one by one, each list as `State.reset` has it. -/
theorem resetState : Obligations.ResetState := by
  unfold Obligations.ResetState
  obtain ⟨hregs, hscratch⟩ := State.reset_wf
  exact ⟨⟨word_reset, by decide, by decide, by decide⟩, rfl, set_reset, rfl, rfl, rfl, rfl, rfl, rfl, rfl, group_reset, rfl, rfl, rfl,
    hregs, hscratch, rfl, rfl, rfl⟩

end Sys2Proof.Machine

/-!
SUPPORT. The Keeper's rows: pairs, sensors, the Keeper's Log, boot flash, telemetry, management settings, MCTP (17 R410 to R428).
The clock of a timer row is the model's choice (log 126), as is what else the spec leaves open here (logs 113, 140).
-/
namespace Sys2Proof.Machine

/-! ## Pairs (17 R410 to R412) -/

theorem keeperLockstepMismatch_restarts (p : Fin 2) (s : State) (hup : s.up = true) :
    exec (.keeperLockstepMismatch p false) s = .next (restartPair p.val s) := act_up _ _ hup

theorem keeperWatchdogLapse_restarts (s : State) (hup : s.up = true) :
    exec (.keeperWatchdogLapse true false) s = .next (restartPair 0 s) := by
  show execKeeperWatchdogLapse true false s = _
  rw [execKeeperWatchdogLapse, act_up _ _ hup]
  rfl

/-- A pair's state stands in a register, and its change is an event. -/
theorem setPair_only (s : State) (p v : Nat) : ∃ r g o, s.setPair p v = { s with regs := r, sig := g, outputs := o } := by
  unfold State.setPair
  split
  · exact ⟨_, _, _, rfl⟩
  · split <;> exact fire_only _ _ _ _

@[simp] theorem setPair_kpr (s : State) (p v : Nat) : (s.setPair p v).kpr = s.kpr := by
  obtain ⟨_, _, _, h⟩ := setPair_only s p v; rw [h]

theorem nextRestart_of_none (s : State) (h : s.kpr.toRestart = []) : nextRestart s = s := by
  unfold nextRestart; rw [h]

/-- The pair runs again, and the other, which carried both duties, has its own alone. -/
theorem keeperRestartComplete_resumes (p : Fin 2) (s : State) (hup : s.up = true) (hp : s.pair p = 1) (ho : s.pair (1 - p) = 3)
    (ha : p.val = 0 → s.boot.attemptDue = false) (hr : recentRestarts p s ≤ s.fld Reg.fKPR_WDOG_CFG_REPEAT_LIMIT)
    (hq : s.kpr.toRestart = []) :
    exec (.keeperRestartComplete p true) s = .next ((s.setPair p 0).setPair (1 - p) 0) := by
  have hn : (1 - p.val) ≠ p.val := by omega
  have hdue : ¬ ((s.pair p != 1 || decide (p.val = 0) && s.boot.attemptDue) = true) := by
    by_cases h : p.val = 0
    · simp [hp, ha h]
    · simp [hp, h]
  have ho' : (s.setPair p 0).pair (1 - p) = 3 := by rw [pair_setPair_ne _ _ _ _ (by omega) p.isLt hn, ho]
  show execKeeperRestartComplete p true s = _
  rw [execKeeperRestartComplete, act_up _ _ hup]
  simp only [if_neg hdue]
  simp [ho, ho', Nat.not_lt.2 hr, nextRestart_of_none, hq]

theorem resumed_pairs (p : Fin 2) (s : State) :
    ((s.setPair p 0).setPair (1 - p) 0).pair p = 0 ∧ ((s.setPair p 0).setPair (1 - p) 0).pair (1 - p) = 0 := by
  have hn : p.val ≠ 1 - p.val := by omega
  refine ⟨?_, pair_setPair_same _ _ _ (by omega) (by decide)⟩
  rw [pair_setPair_ne _ _ _ _ p.isLt (by omega) hn, pair_setPair_same _ _ _ p.isLt (by decide)]

/-! ## Samples (17 R417) -/

/-- When the next sample of a sensor is due: a period after its last, or now without one. -/
def sampleDue (i : Nat) (s : State) : Nat :=
  match s.kpr.sensors.find? (·.index == i) with
  | some y => y.at_ + sensorPeriod i
  | none => s.now

/-- The state with a sample stored. -/
def sampleStored (i : Nat) (v : Int) (u : State) : State :=
  { u with kpr := { u.kpr with sensors := putBy Sensor.index { index := i, value := v, at_ := u.now } u.kpr.sensors } }

theorem sensorSample_samples (i : Fin 410) (x v : Int) (s u : State) (hup : s.up = true) (hb : s.background = true)
    (hi : i.val < 104 ∨ 360 < i.val) (hc : sensorCut i s = false)
    (hv : (if i.val = 361 then hottest 0 64 (fun _ => true) s else some x) = some v)
    (hu : u = noteGap i (sampleDue i s) s.now (s.reach (sampleDue i s))) :
    exec (.sensorSample i x) s = .next (sampled i v (fun n => (sampleDue i s - sensorPeriod i) / n < u.now / n) (sampleStored i v u)) := by
  have hout : (decide (104 ≤ i.val) && decide (i.val ≤ 360)) = false := by simp; omega
  subst hu
  show execSensorSample i x s = _
  rw [execSensorSample, act_up _ _ hup]
  simp only [hb, hc, hout, hv, Bool.not_true, Bool.or_self, Bool.false_eq_true, if_false]
  rfl

/-! ## The Keeper's Log (17 R419 to R421) -/

theorem operatingHourRecord_queues (s : State) (ns c : Nat) (hup : s.up = true) (hb : s.background = true) (hr : s.kpr.hourRec = some (ns, c)) :
    exec .operatingHourRecord s = .next (queueFlash (.opHour (s.reachOp ((ns / hour + 1) * hour)).kpr.opNs (s.fld Reg.fKPR_POWER_CYCLES_COUNT)
      (s.reachOp ((ns / hour + 1) * hour)).boot.ptr.trialNs) (s.reachOp ((ns / hour + 1) * hour))) := by
  show execOperatingHourRecord s = _
  rw [execOperatingHourRecord, act_up _ _ hup]
  simp only [hb, hr, if_true]
  rw [State.fld_of_regs s (s.reachOp _) (State.reach_regs _ _)]

theorem logPeriodEnd_flushes (s u : State) (hup : s.up = true) (hb : s.background = true)
    (hu : u = s.reachOp (((s.kpr.period.start + s.fld Reg.fKPR_LOG_STATUS_PERIOD_H * 65536) * hour + 65535) / 65536)) :
    exec .logPeriodEnd s = .next (flushLog 1 u) := by
  subst hu
  show execLogPeriodEnd s = _
  rw [execLogPeriodEnd, act_up _ _ hup]
  simp only [hb, if_true]

/-- The fault's flush is taken for its operating hour. -/
def faultTaken (s : State) : State := { s with kpr := { s.kpr with faultDue := false, faultHour := some s.kpr.opNs } }

theorem logFaultFlush_flushes (s : State) (hup : s.up = true) (hb : s.background = true) (hd : s.kpr.faultDue = true)
    (hh : s.kpr.faultHour = none) : exec .logFaultFlush s = .next (flushLog 2 (faultTaken s)) := by
  show execLogFaultFlush s = _
  rw [execLogFaultFlush, act_up _ _ hup]
  simp only [hb, hd, hh]
  rfl

/-- A flush of a period, other than a power failure's, puts its record at the end of the flash queue. -/
theorem flushLog_queues (tr : Nat) (s : State) (h : s.logRecords < 16384) (ht : tr ≠ 3) :
    (flushLog tr s).kpr.flashQ = s.kpr.flashQ ++ [{ item := .logRecord (periodRecord s.logRecords tr s), doneA := false }] := by
  rw [(flushLog_stored tr s h).1]
  simp [queueFlash, ht]

/-! ## Boot flash (17 R415, R416) -/

/-- The write at the front of the queue, programmed on both flashes, takes effect; programmed on the first, it stays for the second. -/
def flashStep (w : FlashWrite) (q : List FlashWrite) (s : State) : State :=
  if w.doneA then flashDone w.item { s with kpr := { s.kpr with flashQ := q, flashGood := true } }
  else { s with kpr := { s.kpr with flashQ := { w with doneA := true } :: q } }

theorem bootFlashWrite_programs (s : State) (w : FlashWrite) (q : List FlashWrite) (hup : s.up = true) (hq : s.kpr.flashQ = w :: q)
    (hA : s.flag Reg.fKPR_LOG_STATUS_FLASH_A_FAULT = false) (hB : s.flag Reg.fKPR_LOG_STATUS_FLASH_B_FAULT = false) :
    exec (.bootFlashWrite true) s = .next (flashStep w q s) := by
  show execBootFlashWrite true s = _
  rw [execBootFlashWrite, act_up _ _ hup, flashStep]
  simp only [hq, hA, hB]
  cases w.doneA <;> simp

/-! ## Management network (17 R426 to R428) -/

/-- A push of now on port `p`, without its dates where the wall-clock is not known, that ends with code 0. -/
def pushMade (m : MgmtSettings) (p : Nat) (s : State) : State :=
  let w := s.reach (s.kpr.pushedAt + m.telemetryS * sec)
  let v : State := { w with kpr := { w.kpr with pushedAt := w.now } }
  (v.setFlag Reg.fKPR_MGMT_STATUS_NO_DATES v.wall.isNone p).setFld Reg.fKPR_MGMT_STATUS_LAST_CODE 0 p

/-- The snapshot and the records not posted before leave the part. -/
def telemetryPosted (s u : State) : State :=
  { u.send (.telemetry (periodRecord u.logRecords 0 u) (s.kpr.records.drop s.kpr.pushed)) with
    kpr := { u.kpr with pushed := s.kpr.records.length } }

theorem telemetryPush_posts (s : State) (m : MgmtSettings) (p : Nat) (hup : s.up = true) (hb : s.background = true)
    (hm : s.kpr.mgmt = some m) (hp : mgmtPort s = some p) (ht : m.telemetryS ≠ 0) :
    exec (.telemetryPush true true true 0) s = .next (telemetryPosted s (pushMade m p s)) := by
  have h0 : (m.telemetryS == 0) = false := beq_eq_false_iff_ne.2 ht
  have hr : (pushMade m p s).kpr.records = s.kpr.records := by
    show (s.reach _).kpr.records = _; rw [reach_kpr]
  have hd : (pushMade m p s).kpr.pushed = s.kpr.pushed := by
    show (s.reach _).kpr.pushed = _; rw [reach_kpr]
  show execTelemetryPush true true true 0 s = _
  rw [execTelemetryPush, act_up _ _ hup, telemetryPosted, ← hr, ← hd]
  simp only [hm, hp, hb, h0]
  rfl

theorem managementSettingsSubmit_queues (s : State) (hup : s.up = true) (hb : s.flag Reg.fKPR_MBOX_STATUS_BUSY = false)
    (hc : (parseMgmt (mboxBytes s)).crcOk = true) (hf : mgmtFault (parseMgmt (mboxBytes s)) (mboxBytes s) = none) :
    ∃ u, u = s.setWord 0x80208 (setBits 0 63 63 1) ∧ exec .managementSettingsSubmit s =
      .next (queueFlash (.mgmt (parseMgmt (mboxBytes s))) { u with kpr := { u.kpr with mgmtNew := some (parseMgmt (mboxBytes s)) } }) := by
  refine ⟨_, rfl, ?_⟩
  show execManagementSettingsSubmit s = _
  rw [execManagementSettingsSubmit, act_up _ _ hup]
  simp only [hb, hc, hf]
  rfl

theorem mctpMessage_passes (v : Bool) (e : Fin 256) (m : MctpMsg) (s : State) (hup : s.up = true) (he : e.val ≠ 0) (hw : w2Eid s = e.val)
    (hm : ∀ x, m ≠ .setEid x) :
    exec (.mctpMessage v e m) s = .next (({ s with ctl := { s.ctl with bound := true } } : State).send (.mctp e.val m)) := by
  have hw' : w2Eid { s with ctl := { s.ctl with bound := true } } = e.val := hw
  have he' : (e.val != 0) = true := bne_iff_ne.2 he
  show execMctpMessage v e m s = _
  rw [execMctpMessage, act_up _ _ hup]
  cases m with
  | setEid x => exact absurd rfl (hm x)
  | _ => simp [he', hw, hw']

/-! ## Task commands (17 Table 17.8) -/

/-- The row of LOG_READ. -/
def logReadSpec (r : TaskReq) : TaskSpec :=
  { opcode := 0x0A02, windows := [0, 3], bulk := .give (if 1 ≤ r.arg 2 && r.arg 2 ≤ 32 then some (4096 * r.arg 2) else none) }

/-- The records that LOG_READ asks for. -/
def logAsked (r : TaskReq) (s : State) : List LogPeriod := (s.kpr.records.drop (r.arg 1)).take (r.arg 2)

/-- Its job: the number of records returned and of records stored. -/
def logPlan (r : TaskReq) (s : State) : JobPlan :=
  { carrier := .keeper, bulk := true, results := [BitVec.ofNat 64 (logAsked r s).length, BitVec.ofNat 64 s.kpr.records.length] }

theorem logRead_returns (r : TaskReq) (s u : State) (n : Nat) (h : goes (logReadSpec r) [(1, mask 31 0), (2, mask64)] r s = true)
    (hu : u = taken (logReadSpec r) r s) (h1 : 1 ≤ r.arg 2) (h32 : r.arg 2 ≤ 32) (hs : r.arg 1 < s.kpr.records.length)
    (hf : r.arg 1 ≠ 0xFFFFFFFF) (hb : r.bulkFault = none) (hn : freeRecord r.window s = some n) :
    ∃ t, exec (.logRead r) s = .next t ∧ answered r cACCEPTED 0 [handleOf (plannedJob 0x0A02 r (logPlan r s) s n)] t ∧
      windowOnly ((withJob 0x0A02 r (logPlan r s) u n).send (.bulkLog (logAsked r s))) t := by
  subst hu
  refine taskCmd_jobOp (logReadSpec r) _ r _ s 0x0A02 n (logPlan r s) (fun _ s' => s'.send (.bulkLog (logAsked r s))) h hn ?_
  have h0 : (r.arg 2 == 0) = false := by simp; omega
  have hf' : (r.arg 1 == 0xFFFFFFFF) = false := beq_eq_false_iff_ne.2 hf
  simp [h0, hf', Nat.not_lt.2 h32, Nat.not_le.2 hs, moved_whole r _ hb, logPlan, logAsked]

theorem logConfig_sets (r : TaskReq) (s : State) (h : goes { opcode := 0x0A03, windows := [0] } [(1, mask 7 0)] r s = true)
    (h1 : 1 ≤ r.arg 1) (h2 : r.arg 1 ≤ 168) :
    ∃ t, exec (.logConfig r) s = .next t ∧ answered r cOK 0 [] t ∧ windowOnly { s with kpr := { s.kpr with periodNext := r.arg 1 } } t := by
  refine taskCmd_effect (fun s => { s with kpr := { s.kpr with periodNext := r.arg 1 } }) _ _ r _ s cOK 0 [] h (by simp) (fun _ _ _ => rfl) rfl ?_
  have h0 : (r.arg 1 == 0) = false := by simp; omega
  simp only [h0, Nat.not_lt.2 h2]
  rfl

theorem sensorRead_answers (r : TaskReq) (s u : State) (h : goes { opcode := 0x0A04, windows := [0, 1, 2, 3] } [(1, mask64), (2, mask64)] r s = true)
    (hu : u = taken { opcode := 0x0A04, windows := [0, 1, 2, 3] } r s) (h1 : 1 ≤ r.arg 2) (h30 : r.arg 2 ≤ 30) (hs : r.arg 1 + r.arg 2 ≤ 512) :
    ∃ t, exec (.sensorRead r) s = .next t ∧
      answered r cOK 0 ((List.range (r.arg 2)).map fun k => sensorImage (r.arg 1 + k) u) t ∧ windowOnly s t := by
  subst hu
  refine taskCmd_read _ _ r _ s cOK 0 _ h (by simpa using h30) ?_
  have h0 : (r.arg 2 == 0) = false := by simp; omega
  simp only [h0, Nat.not_lt.2 h30, Nat.not_lt.2 hs]
  rfl

/-! ## O39 -/

/-- Settles O39: each row is one equation of `exec`; the pairs are `restartPair_pairs`, and a flush reaches the queue by `flushLog_queues`. -/
theorem keeperPairsLogAndManagement : Obligations.KeeperPairsLogAndManagement := by
  unfold Obligations.KeeperPairsLogAndManagement
  refine ⟨?lockstep, ?watchdog, ?resumed, ?sample, ?opHour, ?period, ?fault, ?flash, ?telemetry, ?settings, ?mctp, ?logRead, ?logConfig, ?sensorRead⟩
  case lockstep =>
    exact fun p s hup h1 h2 ho => ⟨_, keeperLockstepMismatch_restarts p s hup, restartPair_pairs p s p.isLt h1 h2 ho⟩
  case watchdog =>
    exact fun s hup h1 h2 ho => ⟨_, keeperWatchdogLapse_restarts s hup, restartPair_pairs 0 s (by decide) h1 h2 ho⟩
  case resumed =>
    intro p s hup hp ho ha hr hq
    exact ⟨_, keeperRestartComplete_resumes p s hup hp ho ha hr hq, resumed_pairs p s⟩
  case sample =>
    intro i x v s due u hup hb hi hc hv hdue hu
    subst hdue
    exact sensorSample_samples i x v s u hup hb hi hc hv hu
  case opHour => exact fun s ns c hup hb hr => ⟨_, rfl, operatingHourRecord_queues s ns c hup hb hr⟩
  case period =>
    intro s u hup hb hu hroom hcount
    refine ⟨_, logPeriodEnd_flushes s u hup hb hu, ?_, ?_⟩
    · rw [flushLog_queues 1 u (by omega) (by decide), hcount, hu, reachOp_kpr]
    · rw [(flushLog_stored 1 u (by omega)).2, hu, reachOp_kpr]
  case fault =>
    intro s hup hb hd hh hroom
    have hkpr := (flushLog_stored 2 (faultTaken s) hroom).1
    exact ⟨_, logFaultFlush_flushes s hup hb hd hh, flushLog_queues 2 (faultTaken s) hroom (by decide), by rw [hkpr]; rfl, by rw [hkpr]; rfl⟩
  case flash => exact bootFlashWrite_programs
  case telemetry =>
    intro s m p w v u hup hb hm hp ht hw hv hu
    subst hw hv hu
    exact ⟨_, telemetryPush_posts s m p hup hb hm hp ht, rfl⟩
  case settings =>
    intro s hup hb hc hf
    obtain ⟨u, hu, hexec⟩ := managementSettingsSubmit_queues s hup hb hc hf
    subst hu
    refine ⟨_, hexec, ?_, rfl, rfl, rfl⟩
    show ((s.setWord 0x80208 (setBits 0 63 63 1)).fld Reg.fKPR_MBOX_STATUS_BUSY == 1) = true
    rw [State.fld, show Reg.fKPR_MBOX_STATUS_BUSY.off 0 0 = 0x80208 from rfl, State.word_setWord_same]
    decide
  case mctp => exact mctpMessage_passes
  case logRead =>
    intro r s u n rs h hu h1 h32 hs hf hb hn hrs
    subst hrs
    obtain ⟨t, ht, ha, hw⟩ := logRead_returns r s u n h hu h1 h32 hs hf hb hn
    exact ⟨_, t, _, rfl, rfl, ht, ha, hw⟩
  case logConfig => exact logConfig_sets
  case sensorRead => exact sensorRead_answers

/-! ## The hypotheses are met: pairs, samples, records -/

/-- A new board with this state of the Keeper. -/
def keeperBoard (k : KeeperState) : State := { State.reset with kpr := k }

/-- Pair B stops; pair A carries both duties. -/
theorem keeperLockstepMismatch_witness :
    ∃ t, exec (.keeperLockstepMismatch 1 false) State.reset = .next t ∧ t.pair 1 = 1 ∧ t.pair 0 = 3 := by
  obtain ⟨h1, h0, -⟩ := restartPair_pairs 1 State.reset (by decide) (by decide) (by decide) (by decide)
  exact ⟨_, keeperLockstepMismatch_restarts 1 State.reset rfl, h1, h0⟩

/-- Both running, pair A lapses. -/
theorem keeperWatchdogLapse_witness :
    ∃ t, exec (.keeperWatchdogLapse true false) State.reset = .next t ∧ t.pair 0 = 1 ∧ t.pair 1 = 3 := by
  obtain ⟨h0, h1, -⟩ := restartPair_pairs 0 State.reset (by decide) (by decide) (by decide) (by decide)
  exact ⟨_, keeperWatchdogLapse_restarts State.reset rfl, h0, h1⟩

/-- Pair A restarts for the second time in this operating hour, with pair B carrying both duties. -/
def restartBoard : State :=
  ((keeperBoard { KeeperState.reset with restarts := [(0, 0), (0, 0)] }).setFld Reg.fKPR_STATE_A_STATE 1).setFld Reg.fKPR_STATE_B_STATE 3

/-- As many restarts as REPEAT_LIMIT allows are no reason to fence the pair. -/
theorem keeperRestartComplete_witness :
    ∃ t, exec (.keeperRestartComplete 0 true) (restartBoard.setFld Reg.fKPR_WDOG_CFG_REPEAT_LIMIT 2) = .next t ∧ t.pair 0 = 0 ∧ t.pair 1 = 0 :=
  ⟨_, keeperRestartComplete_resumes 0 (restartBoard.setFld Reg.fKPR_WDOG_CFG_REPEAT_LIMIT 2) rfl (by decide) (by decide) (fun _ => rfl) (by decide) rfl, resumed_pairs 0 _⟩

/-- The last sensor, never sampled before. -/
theorem sensorSample_witness :
    ∃ t, exec (.sensorSample 409 (-1)) State.reset = .next t ∧ t.kpr.sensors = [{ index := 409, value := -1, at_ := 0 }] :=
  ⟨_, sensorSample_samples 409 (-1) (-1) State.reset _ rfl (by decide) (by decide) (by decide) rfl rfl, by decide⟩

/-- The first operating hour of the eighth power cycle. -/
theorem operatingHourRecord_witness :
    ∃ t, exec .operatingHourRecord ((keeperBoard { KeeperState.reset with hourRec := some (0, 7) }).setFld Reg.fKPR_POWER_CYCLES_COUNT 8) = .next t ∧
      t.kpr.flashQ = [{ item := .opHour hour 8 0, doneA := false }] :=
  ⟨_, operatingHourRecord_queues ((keeperBoard { KeeperState.reset with hourRec := some (0, 7) }).setFld Reg.fKPR_POWER_CYCLES_COUNT 8) 0 7 rfl (by decide) rfl, by decide⟩

/-- The first period ends and the next is to last 168 hours. -/
theorem logPeriodEnd_witness :
    ∃ t, exec .logPeriodEnd (keeperBoard { KeeperState.reset with periodNext := 168 }) = .next t ∧ t.kpr.flashQ.length = 1 ∧
      t.fld Reg.fKPR_LOG_STATUS_PERIOD_H = 168 := by
  refine ⟨_, logPeriodEnd_flushes (keeperBoard { KeeperState.reset with periodNext := 168 }) _ rfl (by decide) rfl, ?_, ?_⟩
  · rw [flushLog_queues 1 _ (by decide) (by decide)]
    decide
  · rw [(flushLog_stored 1 _ (by decide)).2]
    decide

/-- The first fault of an operating hour. -/
theorem logFaultFlush_witness :
    ∃ t, exec .logFaultFlush (keeperBoard { KeeperState.reset with faultDue := true, opNs := 5 }) = .next t ∧ t.kpr.flashQ.length = 1 ∧
      t.kpr.faultHour = some 5 := by
  refine ⟨_, logFaultFlush_flushes (keeperBoard { KeeperState.reset with faultDue := true, opNs := 5 }) rfl (by decide) rfl rfl, ?_, ?_⟩
  · rw [flushLog_queues 2 _ (by decide) (by decide)]
    rfl
  · rw [(flushLog_stored 2 _ (by decide)).1]
    rfl

/-- A board whose flash queue holds one write of the fence list. -/
def flashBoard (doneA : Bool) : State := keeperBoard { KeeperState.reset with flashQ := [{ item := .fenceList [7], doneA := doneA }] }

/-- A write goes to flash A, and then to flash B, with which it takes effect. -/
theorem bootFlashWrite_witness :
    exec (.bootFlashWrite true) (flashBoard false) = .next (flashBoard true) ∧
    ∃ t, exec (.bootFlashWrite true) (flashBoard true) = .next t ∧ t.env.fenceList = [7] ∧ t.kpr.flashQ = [] ∧ t.kpr.flashGood = true :=
  ⟨bootFlashWrite_programs (flashBoard false) _ [] rfl rfl (by decide) (by decide),
    _, bootFlashWrite_programs (flashBoard true) _ [] rfl rfl (by decide) (by decide), rfl, rfl, rfl⟩

/-! ## The hypotheses are met: management network and task commands -/

/-- Settings with telemetry every 10 s, the shortest interval, and no port address. -/
def witnessSettings : MgmtSettings :=
  let port : MgmtPort := { flags := 0, prefix_ := 0, vlan := 0, rsvdZero := true, addr := 0, gateway := 0, dns := 0 }
  { format := 1, rsvdZero := true, port0 := port, port1 := port, telemetryS := 10, anchors := 0, url := [], hashes := [], crcOk := true }

/-- A board with these settings, three stored records of which one has been posted, and port 1 up. -/
def collectorBoard : State :=
  ((keeperBoard { KeeperState.reset with mgmt := some witnessSettings, records := [.empty, .empty, .empty], pushed := 1 }).setFlag
    Reg.fKPR_MGMT_STATUS_UP true 1).setFlag Reg.fKPR_MGMT_STATUS_ADDR_OK true 1

/-- The two new records are posted 10 s after the last push. -/
theorem telemetryPush_witness :
    ∃ t x, exec (.telemetryPush true true true 0) collectorBoard = .next t ∧ t.kpr.pushed = 3 ∧ t.now = 10 * sec ∧
      t.outputs = [.telemetry x [.empty, .empty]] :=
  ⟨_, _, telemetryPush_posts collectorBoard witnessSettings 1 rfl (by decide) rfl (by decide) (by decide), rfl, by decide, rfl⟩

/-- The last endpoint, which W2_EID names, binds W2. -/
theorem mctpMessage_witness :
    ∃ t, exec (.mctpMessage false 255 .vendor) (State.reset.setFld Reg.fKPR_MCTP_CFG_W2_EID 255) = .next t ∧ t.ctl.bound = true ∧
      t.outputs = [.mctp 255 .vendor] :=
  ⟨_, mctpMessage_passes false 255 .vendor (State.reset.setFld Reg.fKPR_MCTP_CFG_W2_EID 255) rfl (by decide) (by decide) (by simp), rfl, rfl⟩

/-- A LOG_READ of 32 records from record 2 on. -/
def lastRecords : TaskReq := witnessRequest [2, 32] (2 ^ 32 + 131072)

/-- Of three stored records the last is returned, in the job's results with the number stored. -/
theorem logRead_witness :
    ∃ t, exec (.logRead lastRecords) collectorBoard = .next t ∧ (t.job 0).map Job.results = some [1, 3] := by
  obtain ⟨t, ht, -, hw⟩ := logRead_returns lastRecords collectorBoard _ 0
    ((goes_iff _ _ _ _).2 ⟨rfl, rfl, rfl, rfl, by decide, by decide, by decide, rfl, by decide, by decide⟩) rfl
    (by decide) (by decide) (by decide) (by decide) rfl (freeRecord_of_no_jobs _ _ rfl)
  exact ⟨t, ht, by rw [job_of_windowOnly _ t hw]; rfl⟩

/-- The longest period. -/
theorem logConfig_witness :
    ∃ t, exec (.logConfig (witnessRequest [168] 0)) State.reset = .next t ∧ t.kpr.periodNext = 168 := by
  obtain ⟨t, ht, -, hw⟩ := logConfig_sets (witnessRequest [168] 0) State.reset
    ((goes_iff _ _ _ _).2 ⟨rfl, rfl, rfl, rfl, by decide, by decide, by decide, rfl, by decide, by decide⟩) (by decide) (by decide)
  exact ⟨t, ht, by rw [hw.1]; rfl⟩

/-- The last 30 of the 512 indexes, reserved ones, read 0. -/
theorem sensorRead_witness :
    ∃ t, exec (.sensorRead (witnessRequest [482, 30] 0)) State.reset = .next t ∧
      answered (witnessRequest [482, 30] 0) cOK 0 (List.replicate 30 0) t := by
  obtain ⟨t, ht, ha, -⟩ := sensorRead_answers (witnessRequest [482, 30] 0) State.reset _
    ((goes_iff _ _ _ _).2 ⟨rfl, rfl, rfl, rfl, by decide, by decide, by decide, rfl, by decide, by decide⟩) rfl (by decide) (by decide) (by decide)
  exact ⟨t, ht, ha⟩

end Sys2Proof.Machine

/-!
SUPPORT. The Signal controller's rows: sources, claims, vectors, coalescing, the event ring, staged routes (18 R431 to R439, R530).
-/
namespace Sys2Proof.Machine

/-! ## Sources and claims (18 R431 to R437) -/

theorem sourceEvent_fires (n : Fin 4096) (c d : Nat) (s : State) (hup : s.up = true) : exec (.sourceEvent n c d) s = .next (fire n.val s c d) :=
  act_up _ _ hup

theorem fire_reserved (n c d : Nat) (s : State) (h : assignedSource n = false) : fire n s c d = s := by
  unfold fire
  rw [h]
  rfl

theorem sigPendSet_pends (k : Fin 64) (w : Word) (s : State) (hup : s.up = true) :
    exec (.sigPendSet k w) s = .next (((namedSources k.val w).filter assignedSource).foldl (fun s n => pendSource n s) s) := by
  show execSigPendSet k w s = _
  rw [execSigPendSet, act_up _ _ hup]

theorem sigPendClr_clears (k : Fin 64) (w : Word) (s : State) (hup : s.up = true) :
    exec (.sigPendClr k w) s = .next { s with sig := { s.sig with pend := s.sig.pend.filter fun n => !((namedSources k.val w).contains n) } } := by
  show execSigPendClr k w s = _
  rw [execSigPendClr, act_up _ _ hup]

/-- A claim of a vector takes its lowest pending source, or answers VALID 0. -/
def vectorClaimed (v : Nat) (s : State) : State :=
  match vectorSources v s with
  | n :: _ => (claimSource n s).emit (.readData (0x50000 + 8 * v) (BitVec.ofNat 64 (2 ^ 63 + n)))
  | [] => s.emit (.readData (0x50000 + 8 * v) 0)

theorem sigVecClaim_claims (v : Fin 2048) (s : State) (hup : s.up = true) : exec (.sigVecClaim v) s = .next (vectorClaimed v.val s) := by
  show execSigVecClaim v s = _
  rw [execSigVecClaim, act_up _ _ hup, vectorClaimed]
  cases vectorSources v.val s <;> rfl

/-- The sources that wait for the duties pair `p` carries. -/
def keeperSources (p : Nat) (s : State) : List (Nat × Nat) :=
  (if servingPair 0 s == p then targetSources 1 (fun _ => true) s else []) ++ (if servingPair 1 s == p then targetSources 2 (fun _ => true) s else [])

theorem sourceClaim_of_keeper (p : Fin 2) (n q : Nat) (s : State) (hup : s.up = true) (hn : mostUrgent (keeperSources p.val s) = some (n, q)) :
    exec (.sourceClaim (.keeper p)) s = .next ((claimSource n s).emit (.claimed (some n))) := by
  unfold keeperSources at hn
  show execSourceClaim (.keeper p) s = _
  rw [execSourceClaim, act_up _ _ hup]
  simp only [hn]
  rfl

theorem sourceClaim_of_core (c : Fin 8) (k : Fin 17) (pr : Fin 16) (n q : Nat) (s u : State) (hup : s.up = true) (hu : u = setRunning c k pr s)
    (hn : mostUrgent (targetSources 3 (· == c.val) u) = some (n, q)) (ho : offeredCore c u = some k.val) (hp : pr.val < q) :
    exec (.sourceClaim (.core c k pr)) s = .next ((claimSource n (setRunning c k q u)).emit (.claimed (some n))) := by
  subst hu
  show execSourceClaim (.core c k pr) s = _
  rw [execSourceClaim, act_up _ _ hup]
  simp only [hn, ho, hp, beq_self_eq_true, decide_true, Bool.and_self, if_true]
  rfl

/-! ## Vectors and coalescing (18 R437 to R439) -/

theorem vector_of_sig (s t : State) (h : t.sig = s.sig) (v : Nat) : t.vector v = s.vector v := by
  unfold State.vector; rw [h]

theorem coalescerTimeTrigger_sends (v : Fin 2048) (s : State) (hup : s.up = true) (hc : (s.vector v).count ≠ 0)
    (ht : s.fld Reg.fSIG_COAL_TIME_US v ≠ 0) :
    exec (.coalescerTimeTrigger v) s = .next (sendVector v (s.reach ((s.vector v).since + s.fld Reg.fSIG_COAL_TIME_US v * us))) := by
  show execCoalescerTimeTrigger v s = _
  rw [execCoalescerTimeTrigger, act_up _ _ hup]
  simp [hc, ht]

/-- Vector `v` with a new address and data, no longer masked. -/
def unmasked (v : Nat) (a : BitVec 64) (d : BitVec 32) (s : State) : Vector_ := { s.vector v with addr := a, data := d, masked := false }

theorem vector_unmasked (v : Nat) (a : BitVec 64) (d : BitVec 32) (s : State) : (s.setVector (unmasked v a d s)).vector v = unmasked v a d s :=
  vector_setVector s _ v (vector_index v s)

theorem msiXUnmask_delivers (v : Fin 2048) (a : BitVec 64) (d : BitVec 32) (s : State) (hup : s.up = true) (hp : (s.vector v).pba = true) :
    exec (.msiXUnmask (.vector v a d)) s = .next (sendVector v (s.setVector (unmasked v a d s))) := by
  have hdue : ((s.setVector (unmasked v a d s)).vector v).pba = true := by rw [vector_unmasked]; exact hp
  show execMsiXUnmask (.vector v a d) s = _
  rw [execMsiXUnmask, act_up _ _ hup]
  exact congrArg _ (if_pos hdue)

/-- With no event counted there is nothing to flush. -/
theorem flushCoalescers_of_none (s : State) (h : ∀ v ∈ s.sig.vectors, v.count = 0) : flushCoalescers s = s := by
  have hn : s.sig.vectors.filter (·.count != 0) = [] := List.filter_eq_nil_iff.2 fun v hv => by simp [h v hv]
  unfold flushCoalescers
  rw [hn]
  rfl

theorem sigHostSleep_of_none_counted (b : Bool) (s : State) (hup : s.up = true) (h : ∀ v ∈ s.sig.vectors, v.count = 0) :
    ∃ u, u = s.setFlag Reg.fSIG_HOST_SLEEP_SLEEP b ∧ exec (.sigHostSleep b) s = .next { u with sig := { u.sig with slept := b } } := by
  refine ⟨_, rfl, ?_⟩
  show execSigHostSleep b s = _
  rw [execSigHostSleep, act_up _ _ hup]
  simp only [flushCoalescers_of_none (s.setFlag Reg.fSIG_HOST_SLEEP_SLEEP b) h, ite_self]

theorem l1EntryRequest_of_none_counted (s : State) (hup : s.up = true) (h : ∀ v ∈ s.sig.vectors, v.count = 0) :
    exec .l1EntryRequest s = .next (({ s with sig := { s.sig with linkFlush := true } } : State).emit .l1Ack) := by
  show execL1EntryRequest s = _
  rw [execL1EntryRequest, act_up _ _ hup, flushCoalescers_of_none s h]
  rfl

/-! ## The event ring (18 R436) -/

/-- The registers of a ring of this size that is on, with its tail at 0. -/
def ringOn (z : Nat) (s : State) : State :=
  ((s.setFld Reg.fSIG_EVQ_CTRL_SIZE_LOG2 z).setFlag Reg.fSIG_EVQ_CTRL_EN true).setFld Reg.fSIG_STATUS_EVQ_TAIL 0

/-- That ring, in phase 1. -/
def ringStarted (z : Nat) (s : State) : State := { ringOn z s with sig := { s.sig with phase := true } }

theorem eventQueueEnable_starts (z : Fin 32) (s : State) (hup : s.up = true) (h8 : 8 ≤ z.val) (h16 : z.val ≤ 16)
    (hen : s.flag Reg.fSIG_EVQ_CTRL_EN = false) : exec (.eventQueueEnable z) s = .next (ringStarted z s) := by
  show execEventQueueEnable z s = _
  rw [execEventQueueEnable, act_up _ _ hup]
  simp [Nat.not_lt.2 h8, Nat.not_lt.2 h16, hen, ringStarted, ringOn]

theorem ringOn_regs (z : Nat) (s : State) (h : z < 32) :
    (ringOn z s).flag Reg.fSIG_EVQ_CTRL_EN = true ∧ (ringOn z s).fld Reg.fSIG_EVQ_CTRL_SIZE_LOG2 = z ∧ (ringOn z s).fld Reg.fSIG_STATUS_EVQ_TAIL = 0 := by
  unfold ringOn
  refine ⟨?_, ?_, ?_⟩
  · rw [State.flag_setFld_off _ _ _ _ _ _ _ _ (by decide), State.flag_setFlag_same _ _ _ _ _ (by decide) (by decide)]
  · rw [State.fld_setFld_off _ _ _ _ _ _ _ _ (by decide), State.fld_setFlag_apart _ _ _ _ _ _ _ _ (by decide) (by decide),
      State.fld_setFld_same _ _ _ _ _ (by decide)]
    exact Nat.mod_eq_of_lt h
  · rw [State.fld_setFld_same _ _ _ _ _ (by decide)]
    rfl

/-! ## Staged routes (18 R530) -/

/-- A run of sources and a route for them that no check refuses. -/
def routeLegal (r : TaskReq) : Prop :=
  1 ≤ r.argBits 1 28 16 ∧ r.argBits 1 11 0 + r.argBits 1 28 16 ≤ 4096 ∧
  r.arg 2 = r.arg 2 &&& (mask 31 31 ||| mask 27 24 ||| mask 17 16 ||| mask 10 0) ∧ (r.argBits 2 17 16 = 3 → r.argBits 2 10 0 ≤ 7) ∧
  (r.argBits 2 17 16 = 1 ∨ r.argBits 2 17 16 = 2 → r.argBits 2 10 0 = 0)

/-- The route staged for each source of the run. -/
def routesStaged (r : TaskReq) (u : State) : State :=
  (List.range' (r.argBits 1 11 0) (r.argBits 1 28 16)).foldl
    (fun s k => stageReg (r.argBits 3 2 0) (Reg.SIG_ROUTE.base + 8 * k) (BitVec.ofNat 64 (r.arg 2)) s) u

theorem sigRouteStage_stages (r : TaskReq) (s u : State)
    (h : goes { opcode := 0x0B01, windows := [0] } [(1, mask 11 0 ||| mask 28 16), (2, mask64), (3, mask 2 0)] r s = true)
    (hu : u = taken { opcode := 0x0B01, windows := [0] } r s) (hl : routeLegal r) (hc : canStage (r.argBits 3 2 0) u [iSIG] = true) :
    ∃ t, exec (.sigRouteStage r) s = .next t ∧ answered r cOK 0 [] t ∧ windowOnly (routesStaged r u) t := by
  subst hu
  obtain ⟨hcount, hin, hroute, hcluster, hkeeper⟩ := hl
  have h0 : (r.argBits 1 28 16 == 0) = false := by simp; omega
  have htarget : ¬ ((r.argBits 2 17 16 == 3 && decide (7 < r.argBits 2 10 0) ||
      (r.argBits 2 17 16 == 1 || r.argBits 2 17 16 == 2) && r.argBits 2 10 0 != 0) = true) := by
    simp only [Bool.or_eq_true, Bool.and_eq_true, beq_iff_eq, decide_eq_true_eq, bne_iff_ne]
    rintro (⟨h3, h7⟩ | ⟨h12, hne⟩)
    · exact absurd (hcluster h3) (Nat.not_le.2 h7)
    · exact hne (hkeeper h12)
  have hroute' : (r.arg 2 != (r.arg 2 &&& (mask 31 31 ||| mask 27 24 ||| mask 17 16 ||| mask 10 0))) = false := by
    rw [← hroute]; exact bne_self_eq_false _
  refine taskCmd_op _ _ r _ s _ cOK 0 [] h (by simp) ?_
  simp only [h0, Nat.not_lt.2 hin, hroute', if_neg htarget, hc]
  rfl

/-! ## O40 -/

/-- Settles O40: each row is one equation of `exec`; an event is `fire_pend`, a vector that is sent `sendVector_sent`. -/
theorem signalControllerDelivers : Obligations.SignalControllerDelivers := by
  unfold Obligations.SignalControllerDelivers
  refine ⟨?event, ?pendSet, sigPendClr_clears, ?vecClaim, ?claim, ?timeTrigger, ?unmask, ?sleep, ?l1, ?ring, ?routes⟩
  case event =>
    intro n c d s hup
    exact ⟨_, sourceEvent_fires n c d s hup, rfl, fun h m => fire_pend n m c d s h, fire_reserved n c d s, fire_md _ _ _ _, fire_host _ _ _ _,
      fun o ho => word_fire n c d o s ho⟩
  case pendSet =>
    intro k w s hup
    refine ⟨_, sigPendSet_pends k w s hup, fun m => ?_⟩
    rw [foldl_pendSource, List.mem_filter]
  case vecClaim => exact sigVecClaim_claims
  case claim =>
    exact fun s hup => ⟨fun p n q hn => sourceClaim_of_keeper p n q s hup hn,
      fun c k pr n q u hu hn ho hp => sourceClaim_of_core c k pr n q s u hup hu hn ho hp⟩
  case timeTrigger =>
    intro v s hup hc ht hm hmask hen
    have hv := fun T => vector_of_sig s (s.reach T) (State.reach_sig s T) v.val
    obtain ⟨ho, hvec, hregs, -⟩ := sendVector_sent v.val (s.reach ((s.vector v).since + s.fld Reg.fSIG_COAL_TIME_US v * us))
      (by rw [hv]; exact hm) (by simpa using hmask) (by simpa using hen) (vector_index _ _)
    refine ⟨_, coalescerTimeTrigger_sends v s hup hc ht, ?_, ?_, ?_⟩
    · rw [ho, hv, State.reach_outputs]
    · rw [hvec, hv]
    · rw [hregs, State.reach_regs]
  case unmask =>
    intro v a d s hup hp hmask hen
    obtain ⟨ho, hvec, hregs, -⟩ := sendVector_sent v.val (s.setVector (unmasked v a d s)) (by rw [vector_unmasked]; rfl) hmask hen (vector_index _ _)
    refine ⟨_, msiXUnmask_delivers v a d s hup hp, ?_, ?_, hregs⟩
    · rw [ho, vector_unmasked]
      rfl
    · rw [hvec, vector_unmasked]
      rfl
  case sleep =>
    intro b s hup hn
    obtain ⟨u, hu, hexec⟩ := sigHostSleep_of_none_counted b s hup hn
    subst hu
    exact ⟨_, hexec, rfl, State.flag_setFlag_same s _ b 0 0 (by decide) (by decide), rfl⟩
  case l1 => exact fun s hup hn => ⟨_, l1EntryRequest_of_none_counted s hup hn, rfl, rfl, rfl⟩
  case ring =>
    intro z s hup h8 h16 hen
    obtain ⟨hon, hsize, htail⟩ := ringOn_regs z s z.isLt
    exact ⟨_, eventQueueEnable_starts z s hup h8 h16 hen, hon, hsize, htail, rfl⟩
  case routes =>
    exact fun r s u h hu h1 h2 h3 h4 h5 hc => sigRouteStage_stages r s u h hu ⟨h1, h2, h3, h4, h5⟩ hc

/-! ## The hypotheses are met: sources and claims -/

/-- A new board with these sources pending. -/
def pendingBoard (ns : List Nat) : State := { State.reset with sig := { SigState.reset with pend := ns } }

/-- Source `n` enabled and routed to this target at this priority. -/
def routed (n kind target prio : Nat) (s : State) : State :=
  (((s.setFlag Reg.fSIG_ROUTE_EN true n).setFld Reg.fSIG_ROUTE_KIND kind n).setFld Reg.fSIG_ROUTE_TARGET target n).setFld Reg.fSIG_ROUTE_PRIO prio n

/-- The last source. -/
theorem sourceEvent_witness : ∃ t, exec (.sourceEvent 4095 0 0) State.reset = .next t ∧ 4095 ∈ t.sig.pend :=
  ⟨_, sourceEvent_fires 4095 0 0 State.reset rfl, (fire_pend 4095 4095 0 0 State.reset (by decide)).2 (.inl rfl)⟩

/-- Source 18 is reserved. -/
theorem sourceEvent_reserved_witness : exec (.sourceEvent 18 0 0) State.reset = .next State.reset := by
  rw [sourceEvent_fires 18 0 0 State.reset rfl, fire_reserved _ _ _ _ (by decide)]

/-- Of sources 17 and 18 in one write the first is assigned. -/
theorem sigPendSet_witness : ∃ t, exec (.sigPendSet 0 0x60000) State.reset = .next t ∧ ∀ m, m ∈ t.sig.pend ↔ m ∈ [17] ∨ m ∈ State.reset.sig.pend :=
  ⟨_, sigPendSet_pends 0 0x60000 State.reset rfl, fun m => by
    rw [foldl_pendSource, show (namedSources (0 : Fin 64).val 0x60000).filter assignedSource = [17] by decide]⟩

theorem sigPendClr_witness : ∃ t, exec (.sigPendClr 63 (1#64 <<< 63)) (pendingBoard [17, 4095]) = .next t ∧ t.sig.pend = [17] :=
  ⟨_, sigPendClr_clears 63 (1#64 <<< 63) (pendingBoard [17, 4095]) rfl, by decide⟩

/-- Of two sources of the last vector the lower is claimed; a vector without one reads 0. -/
theorem sigVecClaim_witness :
    (∃ t, exec (.sigVecClaim 2047) (routed 3 0 2047 0 (routed 9 0 2047 5 (pendingBoard [3, 9]))) = .next t ∧ t.sig.pend = [9]) ∧
    ∃ t, exec (.sigVecClaim 0) State.reset = .next t ∧ t.outputs = [.readData 0x50000 0] :=
  ⟨⟨_, sigVecClaim_claims 2047 (routed 3 0 2047 0 (routed 9 0 2047 5 (pendingBoard [3, 9]))) rfl, by decide⟩,
    _, sigVecClaim_claims 0 State.reset rfl, rfl⟩

/-- Pair A serves Keeper A's duties and claims source 9, more urgent than 3. -/
theorem sourceClaim_keeper_witness :
    ∃ t, exec (.sourceClaim (.keeper 0)) (routed 3 1 0 0 (routed 9 1 0 5 (pendingBoard [3, 9]))) = .next t ∧ t.outputs = [.claimed (some 9)] :=
  ⟨_, sourceClaim_of_keeper 0 9 5 (routed 3 1 0 0 (routed 9 1 0 5 (pendingBoard [3, 9]))) rfl (by decide), rfl⟩

/-- Core 0 of the last cluster claims a source whose priority is just above its own. -/
theorem sourceClaim_core_witness :
    ∃ t, exec (.sourceClaim (.core 7 0 0)) (routed 3 3 7 1 (pendingBoard [3])) = .next t ∧ t.outputs = [.claimed (some 3)] :=
  ⟨_, sourceClaim_of_core 7 0 0 3 1 (routed 3 3 7 1 (pendingBoard [3])) _ rfl rfl (by decide) (by decide) (by decide), rfl⟩

/-! ## The hypotheses are met: vectors, sleep, ring, routes -/

/-- A board with MSI-X enabled whose last vector stands so. -/
def vectorBoard (masked pba : Bool) (count : Nat) : State :=
  { State.reset with
    ctl := { CtlState.reset with msixEnable := true }
    sig := { SigState.reset with vectors := [{ index := 2047, addr := 8, data := 7, masked := masked, pba := pba, count := count, since := 0 }] } }

/-- One event counted, sent after 1 µs. -/
def countingBoard : State := (vectorBoard false false 1).setFld Reg.fSIG_COAL_TIME_US 1 2047

theorem coalescerTimeTrigger_witness :
    ∃ t, exec (.coalescerTimeTrigger 2047) countingBoard = .next t ∧ t.outputs = [.msix 2047 8 7] ∧ t.now = us :=
  ⟨_, coalescerTimeTrigger_sends 2047 countingBoard rfl (by decide) (by decide), by decide, by decide⟩

/-- What was due leaves with the new address and data. -/
theorem msiXUnmask_witness :
    ∃ t, exec (.msiXUnmask (.vector 2047 16 9)) (vectorBoard true true 0) = .next t ∧ t.outputs = [.msix 2047 16 9] :=
  ⟨_, msiXUnmask_delivers 2047 16 9 (vectorBoard true true 0) rfl rfl, by decide⟩

/-- A vector that counts nothing. -/
theorem count_vectorBoard : ∀ v ∈ (vectorBoard false false 0).sig.vectors, v.count = 0 := by decide

theorem sigHostSleep_witness : ∃ t, exec (.sigHostSleep true) (vectorBoard false false 0) = .next t ∧ t.sig.slept = true := by
  obtain ⟨u, -, hexec⟩ := sigHostSleep_of_none_counted true (vectorBoard false false 0) rfl count_vectorBoard
  exact ⟨_, hexec, rfl⟩

theorem l1EntryRequest_witness : ∃ t, exec .l1EntryRequest (vectorBoard false false 0) = .next t ∧ t.outputs = [.l1Ack] :=
  ⟨_, l1EntryRequest_of_none_counted (vectorBoard false false 0) rfl count_vectorBoard, rfl⟩

/-- The smallest and the largest ring. -/
theorem eventQueueEnable_witness :
    (∃ t, exec (.eventQueueEnable 8) State.reset = .next t ∧ t.sig.phase = true) ∧ ∃ t, exec (.eventQueueEnable 16) State.reset = .next t ∧ t.sig.phase = true :=
  ⟨⟨_, eventQueueEnable_starts 8 State.reset rfl (by decide) (by decide) (by decide), rfl⟩,
    _, eventQueueEnable_starts 16 State.reset rfl (by decide) (by decide) (by decide), rfl⟩

/-- A board whose stage set 0 is being staged. -/
def routeBoard : State :=
  { State.reset with lens := { LensState.reset with sets := putNth .free { StageSet.free with st := .staging } 0 LensState.reset.sets } }

/-- The last two sources, to the last cluster, into stage set 0. -/
def lastRoutes : TaskReq := witnessRequest [4094 + 2 * 2 ^ 16, 2 ^ 31 + 3 * 2 ^ 16 + 7, 0] 0

theorem sigRouteStage_witness :
    ∃ t, exec (.sigRouteStage lastRoutes) routeBoard = .next t ∧ answered lastRoutes cOK 0 [] t := by
  obtain ⟨t, ht, ha, -⟩ := sigRouteStage_stages lastRoutes routeBoard _
    ((goes_iff _ _ _ _).2 ⟨rfl, rfl, rfl, rfl, by decide, by decide, by decide, rfl, by decide, by decide⟩) rfl
    ⟨by decide, by decide, by decide, by decide, by decide⟩ (by decide)
  exact ⟨t, ht, ha⟩

end Sys2Proof.Machine

/-!
SUPPORT. Cold boot, trial starts and confirmation, in-service reload, JTAG unlock, SPDM (19 R443 to R468).
The clock of a timer row is the model's choice (log 126), as is what else the spec leaves open here (logs 114, 115, 116).
-/
namespace Sys2Proof.Machine

/-! ## Cold boot (19 R449, R450) -/

theorem coldBoot_starts (f : BootFacts) (s : State) (k : Nat) (m : Manifest) (hup : s.up = true) (hb : s.boot.booted = false)
    (hset : bootSet f (trialAttempt (clearStartCauses s)) = some (k, m)) :
    exec (.coldBoot f) s = .next (startSet f (s.boot.ptr.trial && s.boot.ptr.attempts == 3) k m (trialAttempt (clearStartCauses s))) := by
  show execColdBoot f s = _
  rw [execColdBoot, act_up _ _ hup]
  simp only [hb, hset]
  rfl

theorem coldBoot_recovers (f : BootFacts) (s : State) (hup : s.up = true) (hb : s.boot.booted = false)
    (hset : bootSet f (trialAttempt (clearStartCauses s)) = none) :
    exec (.coldBoot f) s = .next (enterRecovery (trialAttempt (clearStartCauses s))) := by
  show execColdBoot f s = _
  rw [execColdBoot, act_up _ _ hup]
  simp only [hb, hset]
  rfl

/-- A set that starts makes the Boot Ledger's record of a boot last. -/
theorem startSet_records (f : BootFacts) (reverted : Bool) (k : Nat) (m : Manifest) (s : State) :
    ∃ u, startSet f reverted k m s = { makeRecord 0 u with ctl := { (makeRecord 0 u).ctl with upstreamUp := (makeRecord 0 u).env.perstHigh } } :=
  ⟨_, rfl⟩

theorem enterRecovery_facts (s : State) :
    (enterRecovery s).boot = { s.boot with booted := true, recovery := true } ∧ (enterRecovery s).fog 18 = true ∧
    (enterRecovery s).flag Reg.fGLB_FOG_STATUS_DRIVEN = true ∧ (enterRecovery s).ctl = { s.ctl with upstreamUp := s.env.perstHigh } := by
  unfold enterRecovery
  refine ⟨raiseFog_boot _ _ _ _, ?_, driven_raiseFog _ _ _ _, raiseFog_ctl _ _ _ _⟩
  rw [fog_raiseFog _ _ _ _ _ (by decide)]
  rfl

/-! ## Trials (19 R466, R468) -/

theorem trialStartAttempt_counts (s : State) (hup : s.up = true) (hd : s.boot.attemptDue = true) (ht : s.boot.ptr.trial = true) (ha : s.boot.ptr.attempts < 3) :
    exec .trialStartAttempt s = .next { s with boot := { s.boot with
      attemptDue := false, bothFormats := true, ptr := { s.boot.ptr with attempts := s.boot.ptr.attempts + 1, gen := s.boot.ptr.gen + 1 } } } := by
  have h3 : (s.boot.ptr.attempts == 3) = false := beq_eq_false_iff_ne.2 (Nat.ne_of_lt ha)
  show execTrialStartAttempt s = _
  rw [execTrialStartAttempt, act_up _ _ hup, trialAttempt]
  simp only [hd, ht, h3]
  rfl

theorem trialStartAttempt_reverts (s : State) (hup : s.up = true) (hd : s.boot.attemptDue = true) (ht : s.boot.ptr.trial = true) (ha : s.boot.ptr.attempts = 3) :
    exec .trialStartAttempt s = .next (startReload true (revertSet s)) := by
  have h3 : (s.boot.ptr.attempts == 3) = true := beq_iff_eq.2 ha
  show execTrialStartAttempt s = _
  rw [execTrialStartAttempt, act_up _ _ hup, trialAttempt]
  simp only [hd, ht, h3]
  rfl

theorem trialAutoConfirm_confirms (s : State) (hup : s.up = true) (ht : s.boot.ptr.trial = true) (hh : s.boot.ptr.healthyH ≠ 0) (hk : s.keeperA = some true) :
    exec .trialAutoConfirm s = .next (confirm (s.reach (s.now + (s.boot.ptr.healthyH * hour - s.boot.ptr.trialNs)))) := by
  have h0 : (s.boot.ptr.healthyH == 0) = false := beq_eq_false_iff_ne.2 hh
  show execTrialAutoConfirm s = _
  rw [execTrialAutoConfirm, act_up _ _ hup]
  simp only [ht, h0, hk]
  rfl

/-! ## In-service reload (19 R465) -/

/-- The reload's first step is taken. -/
def reloadBegun (r : Reload) (s : State) : State := { s with boot := { s.boot with reload := some { r with step := 2 } } }

theorem inServiceReload_begins (s : State) (r : Reload) (hup : s.up = true) (hr : s.boot.reload = some r) (h1 : r.step = 1)
    (hj : s.ctl.jobs.any (fun j => !j.ended && (j.opcode == 0x0604 || j.opcode == 0x0608)) = false) :
    ∃ u, u = postAll evFirmware (reloadBegun r s) ∧
      exec .inServiceReload s = .next (restartPair 1 { u with kpr := { u.kpr with toRestart := [0] } }) := by
  refine ⟨_, rfl, ?_⟩
  show execInServiceReload s = _
  rw [execInServiceReload, act_up _ _ hup]
  simp only [hr, h1, hj]
  rfl

theorem inServiceReload_ends (s : State) (r : Reload) (hup : s.up = true) (hr : s.boot.reload = some r) (h3 : r.step = 3) (ha : s.pair 0 ≠ 1) (hb : s.pair 1 ≠ 1)
    (hq : s.kpr.toRestart = []) (hl : s.lens.relens = none) (hn : s.lens.recordNext = none) (he : r.lens = []) :
    exec .inServiceReload s = .next { s with boot := { s.boot with
      reload := none, running := { s.boot.running with secVersion := s.boot.running.secVersion.set 3 s.lens.live.secVersion } } } := by
  have ha' : (s.pair 0 == 1) = false := beq_eq_false_iff_ne.2 ha
  have hb' : (s.pair 1 == 1) = false := beq_eq_false_iff_ne.2 hb
  show execInServiceReload s = _
  rw [execInServiceReload, act_up _ _ hup]
  simp only [hr, h3, ha', hb', hq, hl, hn, he]
  rfl

/-! ## JTAG and SPDM (19 R448, R452) -/

/-- A token that names this part and its challenge, for 1 to 168 hours. -/
def tokenFits (t : JtagToken) : Prop := t.challengeOk = true ∧ t.device = Config.deviceId ∧ 1 ≤ t.hours ∧ t.hours ≤ 168

theorem jtagUnlockToken_unlocks (t : JtagToken) (s : State) (hup : s.up = true) (hb : s.boot.booted = true) (hr : s.boot.recovery = false)
    (hk : s.keeperA = some true) (hoff : s.boot.fuses.jtagOff = false) (ht : tokenFits t)
    (hsig : signatureOk s t.keyIndex t.sigOk t.ownerPresent t.ownerSigOk = true) :
    exec (.jtagUnlockToken t) s = .next (makeRecord 3 { s with boot := { s.boot with jtagUntil := some (s.now + t.hours * hour) } }) := by
  obtain ⟨hc, hd, h1, h168⟩ := ht
  have h0 : (t.hours == 0) = false := beq_eq_false_iff_ne.2 (Nat.one_le_iff_ne_zero.1 h1)
  have hhi : decide (168 < t.hours) = false := decide_eq_false (Nat.not_lt.2 h168)
  show execJtagUnlockToken t s = _
  rw [execJtagUnlockToken, act_up _ _ hup]
  simp only [hb, hr, hk, hoff, hc, hd, h0, hhi, hsig, bne_self_eq_false]
  rfl

theorem jtagUnlockExpiry_locks (s : State) (T : Nat) (hup : s.up = true) (ht : s.boot.jtagUntil = some T) :
    ∃ u, u = s.reach T ∧ exec .jtagUnlockExpiry s = .next { u with boot := { u.boot with jtagUntil := none } } := by
  refine ⟨_, rfl, ?_⟩
  show execJtagUnlockExpiry s = _
  rw [execJtagUnlockExpiry, act_up _ _ hup]
  simp only [ht]

/-- The requester's path is open. -/
def spdmPath (vdm : Bool) (s : State) : Bool := if vdm then s.ctl.upstreamUp else !(s.fld Reg.fGLB_BOARD_STATUS_ISOLATED).testBit 0

/-- What an open path answers to each request. -/
def spdmAnswered (a : Word) (q : SpdmReq) (s : State) : State :=
  match q with
  | .certificates => s.emit (.spdm a .certificates)
  | .challenge => s.emit (.spdm a .challenge)
  | .measurement i => s.emit (.spdm a (match measurement i s with
    | some m => .measurement m
    | none => .error))
  | .keyExchange none => s.emit (.spdm a (.session false))
  | .keyExchange (some c) => if chainOk c s then ({ s with ctl := { s.ctl with session := true } } : State).emit (.spdm a (.session true)) else s.emit (.spdm a .error)
  | .endSession => ({ s with ctl := { s.ctl with session := false } } : State).emit (.spdm a .ended)

theorem spdmRequest_answers (v : Bool) (q : SpdmReq) (s : State) (a : Word) (hup : s.up = true) (ha : s.boot.alias_ = some a)
    (hk : s.keeperA = some true) (hp : spdmPath v s = true) : exec (.spdmRequest v q) s = .next (spdmAnswered a q s) := by
  unfold spdmPath at hp
  show execSpdmRequest v q s = _
  rw [execSpdmRequest, act_up _ _ hup]
  simp only [ha, hk, hp]
  cases q with
  | keyExchange c =>
    cases c with
    | none => rfl
    | some c => cases hc : chainOk c s <;> simp only [spdmAnswered, hc] <;> rfl
  | _ => rfl

/-! ## O41 -/

/-- Settles O41: each row is one equation of `exec`; what a record, a revert and a confirmation leave are `makeRecord_current`, `revertSet_ptr` and `confirm_rollback`. -/
theorem bootTrialReloadAndIdentity : Obligations.BootTrialReloadAndIdentity := by
  unfold Obligations.BootTrialReloadAndIdentity
  refine ⟨?cold, ?recovery, trialStartAttempt_counts, ?reverted, ?confirmed, ?reload, ?token, ?expiry, ?spdm⟩
  case cold =>
    intro f s u k m hup hb hu hset
    subst hu
    obtain ⟨w, hw⟩ := startSet_records f (s.boot.ptr.trial && s.boot.ptr.attempts == 3) k m (trialAttempt (clearStartCauses s))
    obtain ⟨rec, hcur, hkind, hcount⟩ := makeRecord_current 0 w
    refine ⟨_, rec, coldBoot_starts f s k m hup hb hset, rfl, ?_, hkind, ?_, ?_⟩
    · rw [hw]; exact hcur
    · rw [hw]; exact hcount
    · rw [hw]
  case recovery =>
    intro f s u hup hb hu hset
    subst hu
    exact ⟨_, coldBoot_recovers f s hup hb hset, enterRecovery_facts _⟩
  case reverted =>
    intro s hup hd ht ha
    exact ⟨_, trialStartAttempt_reverts s hup hd ht ha, rfl, revertSet_ptr s⟩
  case confirmed =>
    intro s u hup ht hh hk hu
    subst hu
    exact ⟨_, trialAutoConfirm_confirms s hup ht hh hk, rfl, rfl, rfl, fun c hc => confirm_rollback _ c hc, State.reach_md _ _, State.reach_regs _ _⟩
  case reload =>
    exact fun s r hup hr => ⟨fun h1 hj => inServiceReload_begins s r hup hr h1 hj,
      fun h3 ha hb hq hl hn he => inServiceReload_ends s r hup hr h3 ha hb hq hl hn he⟩
  case token =>
    intro t s hup hb hr hk hoff hc hd h1 h168 hsig
    obtain ⟨rec, hcur, hkind, -⟩ := makeRecord_current 3 { s with boot := { s.boot with jtagUntil := some (s.now + t.hours * hour) } }
    exact ⟨_, rec, jtagUnlockToken_unlocks t s hup hb hr hk hoff ⟨hc, hd, h1, h168⟩ hsig, makeRecord_jtag _ _, hcur, hkind,
      makeRecord_count _ _, makeRecord_md _ _⟩
  case expiry =>
    intro s T hup ht
    obtain ⟨u, hu, hexec⟩ := jtagUnlockExpiry_locks s T hup ht
    subst hu
    exact ⟨_, hexec, rfl, rfl, reach_now s T, State.reach_regs s T⟩
  case spdm =>
    intro v s a hup ha hk hp
    have answers := fun q => spdmRequest_answers v q s a hup ha hk hp
    refine ⟨answers _, answers _, fun i m hm => ?_, fun c => answers _, answers _⟩
    rw [answers, spdmAnswered, hm]

/-! ## The hypotheses are met: starts, trials, reload -/

/-- A new board with this state of its boot. -/
def bootBoard (b : BootState) : State := { State.reset with boot := b }

/-- A package of one piece with a Keeper image, signed by Hedavy key 3 and naming no owner. -/
def witnessManifest : Manifest :=
  { magicOk := true, format := 1, hdrLen := 0, packageId := 5, pieces := 1, lastLen := 0,
    images := [{ cls := 0, sector := 0, secVersion := 1, firstPiece := 0, length := 0, sha := 0, imageId := 0, lens := none }],
    imageCount := 1, stepping := 0x3142, level := 1, peerMin := 0, rsvdZero := true, pieceSha := [], keyIndex := 3, sigOk := true, ownerPresent := 0,
    ownerSigOk := false, crcOk := true }

/-- A slot that holds this package whole. -/
def keeperSlot : BootSlot :=
  { st := .active, package := 5, pieces := [{ index := 0, sha := 0, length := 0, manifest := some witnessManifest }], matched := [0] }

/-- Both slots read back; no DIMM is fitted. -/
def bothRead : BootFacts := { read0 := true, read1 := true, lensOk := true, failed := [], dimms := [], untrained := [] }

/-- The pointer's set starts on its first attempt and the Boot Ledger's last record is one of a boot. -/
theorem coldBoot_witness :
    ∃ t rec, exec (.coldBoot bothRead) (bootBoard { BootState.reset with slot0 := keeperSlot, ptr := { SlotPointer.reset with trial := true } }) = .next t ∧
      t.boot.current = some rec ∧ rec.kind = 0 := by
  obtain ⟨w, hw⟩ := startSet_records bothRead false 0 witnessManifest
    (trialAttempt (clearStartCauses (bootBoard { BootState.reset with slot0 := keeperSlot, ptr := { SlotPointer.reset with trial := true } })))
  obtain ⟨rec, hcur, hkind, -⟩ := makeRecord_current 0 w
  exact ⟨_, rec, coldBoot_starts bothRead _ 0 witnessManifest rfl rfl rfl, (congrArg (fun s => s.boot.current) hw).trans hcur, hkind⟩

/-- Both slots are empty. -/
theorem coldBoot_recovery_witness : ∃ t, exec (.coldBoot bothRead) State.reset = .next t ∧ t.fog 18 = true ∧ t.boot.recovery = true := by
  obtain ⟨hboot, hfog, -⟩ := enterRecovery_facts (trialAttempt (clearStartCauses State.reset))
  exact ⟨_, coldBoot_recovers bothRead State.reset rfl rfl rfl, hfog, by rw [hboot]⟩

/-- A pointer on trial after so many attempts, with slot 1 active and slot 0 the old one. -/
def trialPointer (attempts : Nat) : SlotPointer :=
  { SlotPointer.reset with active := 1, trial := true, attempts := attempts, old := some 0, healthyH := 72, trialNs := 72 * hour - 1 }

/-- The third attempt, the last. -/
theorem trialStartAttempt_witness :
    ∃ t, exec .trialStartAttempt (bootBoard { BootState.reset with attemptDue := true, ptr := trialPointer 2 }) = .next t ∧ t.boot.ptr.attempts = 3 :=
  ⟨_, trialStartAttempt_counts _ rfl rfl rfl (by decide), rfl⟩

/-- After the third attempt the old slot is active again. -/
theorem trialStartAttempt_reverted_witness :
    ∃ t, exec .trialStartAttempt (bootBoard { BootState.reset with attemptDue := true, ptr := trialPointer 3 }) = .next t ∧ t.boot.ptr.active = 0 ∧ t.fog 19 = true := by
  obtain ⟨-, -, hactive, hfog⟩ := revertSet_ptr (bootBoard { BootState.reset with attemptDue := true, ptr := trialPointer 3 })
  exact ⟨_, trialStartAttempt_reverts _ rfl rfl rfl rfl, hactive, hfog⟩

/-- One ns short of 72 healthy hours, the trial is confirmed a ns later. -/
theorem trialAutoConfirm_witness :
    ∃ t, exec .trialAutoConfirm (bootBoard { BootState.reset with ptr := trialPointer 1 }) = .next t ∧ t.now = 1 ∧ t.boot.ptr.trial = false :=
  ⟨_, trialAutoConfirm_confirms (bootBoard { BootState.reset with ptr := trialPointer 1 }) rfl rfl (by decide) (by decide), rfl, rfl⟩

/-- A reload at this step. -/
def reloadBoard (step : Nat) : State := bootBoard { BootState.reset with reload := some { revert := false, step := step, lens := [] } }

/-- No job runs; pair B is the first to restart. -/
theorem inServiceReload_begins_witness :
    ∃ u, u = postAll evFirmware (reloadBegun { revert := false, step := 1, lens := [] } (reloadBoard 1)) ∧
      exec .inServiceReload (reloadBoard 1) = .next (restartPair 1 { u with kpr := { u.kpr with toRestart := [0] } }) :=
  inServiceReload_begins (reloadBoard 1) _ rfl rfl rfl rfl

/-- No Lens is left. -/
theorem inServiceReload_ends_witness : ∃ t, exec .inServiceReload (reloadBoard 3) = .next t ∧ t.boot.reload = none :=
  ⟨_, inServiceReload_ends (reloadBoard 3) _ rfl rfl rfl (by decide) (by decide) rfl rfl rfl rfl, rfl⟩

/-! ## The hypotheses are met: JTAG and SPDM -/

/-- A token of Hedavy key 0 for the longest time. -/
def weekToken : JtagToken :=
  { challengeOk := true, device := Config.deviceId, hours := 168, keyIndex := 0, sigOk := true, ownerPresent := 0, ownerSigOk := false }

theorem jtagUnlockToken_witness :
    ∃ t, exec (.jtagUnlockToken weekToken) (bootBoard { BootState.reset with booted := true }) = .next t ∧ t.boot.jtagUntil = some (168 * hour) :=
  ⟨_, jtagUnlockToken_unlocks weekToken (bootBoard { BootState.reset with booted := true }) rfl rfl rfl (by decide) rfl
    ⟨rfl, rfl, by decide, by decide⟩ rfl, makeRecord_jtag _ _⟩

/-- The unlock ends at its time. -/
theorem jtagUnlockExpiry_witness :
    ∃ t, exec .jtagUnlockExpiry (bootBoard { BootState.reset with jtagUntil := some hour }) = .next t ∧ t.now = hour ∧ t.jtagOpen = false := by
  obtain ⟨u, hu, hexec⟩ := jtagUnlockExpiry_locks (bootBoard { BootState.reset with jtagUntil := some hour }) hour rfl rfl
  subst hu
  exact ⟨_, hexec, reach_now _ _, rfl⟩

/-- The last of the ledger's measurements over the I3C bus: no such record yet. -/
theorem spdmRequest_witness :
    ∃ t, exec (.spdmRequest false (.measurement 0x2F)) (bootBoard { BootState.reset with alias_ := some 9 }) = .next t ∧
      t.outputs = [.spdm 9 (.measurement (.record none))] :=
  ⟨_, spdmRequest_answers false (.measurement 0x2F) (bootBoard { BootState.reset with alias_ := some 9 }) 9 rfl rfl (by decide) (by decide), rfl⟩

end Sys2Proof.Machine

/-!
SUPPORT. Fog clear and read-back, stuck segments, stuck PFAIL_N, the reference clock, links, retunes (20 R473 to R488).
What the spec leaves open here is the model's choice (logs 104, 106).
-/
namespace Sys2Proof.Machine

/-! ## Fog Signal (20 R484, R485) -/

/-- The state after FOG_CLEAR has left these causes latched. -/
def fogLeft (left : List Nat) (s : State) : State :=
  let u := (s.setFld Reg.fGLB_FOG_CAUSE_CAUSE (causeMask left)).setFlag Reg.fGLB_FOG_STATUS_DRIVEN (!left.isEmpty)
  if left.contains 3 then u else { u with env := { u.env with fogUnits := [] } }

theorem fogLeft_regs (left : List Nat) (s : State) :
    (fogLeft left s).regs = ((s.setFld Reg.fGLB_FOG_CAUSE_CAUSE (causeMask left)).setFlag Reg.fGLB_FOG_STATUS_DRIVEN (!left.isEmpty)).regs := by
  unfold fogLeft
  simp only
  split <;> rfl

theorem fogLeft_facts (left : List Nat) (s : State) :
    (fogLeft left s).flag Reg.fGLB_FOG_STATUS_DRIVEN = (!left.isEmpty) ∧ (fogLeft left s).fld Reg.fGLB_FOG_CAUSE_CAUSE = causeMask left % 2 ^ 22 ∧
    (fogLeft left s).env = (if left.contains 3 then s.env else { s.env with fogUnits := [] }) ∧ (fogLeft left s).md = s.md ∧ (fogLeft left s).host = s.host := by
  refine ⟨?_, ?_, ?_, ?_, ?_⟩
  · rw [State.flag_of_regs _ _ (fogLeft_regs left s), State.flag_setFlag_same _ _ _ _ _ (by decide) (by decide)]
  · rw [State.fld_of_regs _ _ (fogLeft_regs left s)]
    unfold State.setFlag
    rw [State.fld_setFld_off _ _ _ _ _ _ _ _ (by decide), State.fld_setFld_same _ _ _ _ _ (by decide)]
    rfl
  all_goals unfold fogLeft; simp only; split <;> rfl

theorem fog_taken (t : TaskSpec) (r : TaskReq) (s : State) (c : Nat) : (taken t r s).fog c = s.fog c := by
  unfold State.fog
  rw [fld_taken t r s _ 0 0 (by decide)]

theorem fogClear_clears (r : TaskReq) (s u : State) (left : List Nat) (h : goes { opcode := 0x0A06, windows := [0, 2] } [(1, mask 21 0)] r s = true)
    (hu : u = taken { opcode := 0x0A06, windows := [0, 2] } r s)
    (hl : left = (List.range 22).filter (fun c => s.fog c && !((r.arg 1).testBit c && fogReleasable u c))) :
    ∃ t, exec (.fogClear r) s = .next t ∧ answered r cOK 0 [BitVec.ofNat 64 (causeMask left)] t ∧ windowOnly (fogLeft left u) t := by
  have hl' : left = (List.range 22).filter (fun c => u.fog c && !((r.arg 1).testBit c && fogReleasable u c)) := by
    rw [hl]
    simp only [hu, fog_taken]
  subst hu
  refine taskCmd_op _ _ r _ s _ cOK 0 _ h (by simp) ?_
  rw [hl']
  rfl

/-- The pad is high though the pin is driven. -/
def fogPinFault (s : State) : State := fire 688 ((s.setFlag Reg.fGLB_FOG_STATUS_EXT_LOW false).setFlag Reg.fGLB_FOG_STATUS_PIN_FAULT true) 0 0xFF

theorem fogNReadback_driven (h : Bool) (s : State) (hup : s.up = true) (hd : s.flag Reg.fGLB_FOG_STATUS_DRIVEN = true) :
    exec (.fogNReadback h) s = .next (if h then fogPinFault s else s.setFlag Reg.fGLB_FOG_STATUS_EXT_LOW false) := by
  show execFogNReadback h s = _
  rw [execFogNReadback, act_up _ _ hup]
  simp only [hd, if_true]
  rfl

theorem fogNReadback_released (h : Bool) (s : State) (hup : s.up = true) (hd : s.flag Reg.fGLB_FOG_STATUS_DRIVEN = false) :
    exec (.fogNReadback h) s = .next (s.setFlag Reg.fGLB_FOG_STATUS_EXT_LOW (!h)) := by
  show execFogNReadback h s = _
  rw [execFogNReadback, act_up _ _ hup]
  simp only [hd]
  rfl

theorem fogPinFault_facts (s : State) :
    (fogPinFault s).flag Reg.fGLB_FOG_STATUS_EXT_LOW = false ∧ (fogPinFault s).flag Reg.fGLB_FOG_STATUS_PIN_FAULT = true ∧ (fogPinFault s).md = s.md := by
  unfold fogPinFault
  refine ⟨?_, ?_, ?_⟩
  · rw [flag_fire _ _ _ _ _ _ _ (by decide), State.flag_setFlag_apart _ _ _ _ _ _ _ _ (by decide) (by decide),
      State.flag_setFlag_same _ _ _ _ _ (by decide) (by decide)]
  · rw [flag_fire _ _ _ _ _ _ _ (by decide), State.flag_setFlag_same _ _ _ _ _ (by decide) (by decide)]
  · rw [fire_md]
    rfl

/-! ## Stuck segments (20 R474) -/

theorem busStuckTimeout_frees (k : Fin 6) (s : State) (hup : s.up = true) (hi : (s.fld Reg.fGLB_BOARD_STATUS_ISOLATED).testBit k.val = false) :
    exec (.busStuckTimeout k true) s = .next (s.setFld Reg.fGLB_BOARD_STATUS_RECOVERED (s.fld Reg.fGLB_BOARD_STATUS_RECOVERED ||| 2 ^ k.val)) := by
  show execBusStuckTimeout k true s = _
  rw [execBusStuckTimeout, act_up _ _ hup]
  simp only [hi]
  rfl

theorem busStuckTimeout_isolates (k : Fin 6) (s : State) (hup : s.up = true) (hi : (s.fld Reg.fGLB_BOARD_STATUS_ISOLATED).testBit k.val = false) :
    exec (.busStuckTimeout k false) s = .next (isolate k.val s) := by
  show execBusStuckTimeout k false s = _
  rw [execBusStuckTimeout, act_up _ _ hup]
  simp only [hi]
  rfl

/-- A segment is in use again, and with segment 5 AVS. -/
def segmentBack (k : Nat) (s : State) : State :=
  let u := s.setFld Reg.fGLB_BOARD_STATUS_ISOLATED (s.fld Reg.fGLB_BOARD_STATUS_ISOLATED &&& (63 - 2 ^ k))
  let u := { u with env := { u.env with segRetry := u.env.segRetry.filter (·.1 != k) } }
  if k == 5 then setHeld false u else u

theorem busRetryTimer_frees (k : Fin 6) (s : State) (hup : s.up = true) (hi : (s.fld Reg.fGLB_BOARD_STATUS_ISOLATED).testBit k.val = true) :
    exec (.busRetryTimer k true) s = .next (segmentBack k.val (s.reach (lookupD s.now k.val s.env.segRetry))) := by
  show execBusRetryTimer k true s = _
  rw [execBusRetryTimer, act_up _ _ hup]
  simp only [hi]
  rfl

theorem busRetryTimer_isolates (k : Fin 6) (s : State) (hup : s.up = true) (hi : (s.fld Reg.fGLB_BOARD_STATUS_ISOLATED).testBit k.val = true) :
    exec (.busRetryTimer k false) s = .next (isolate k.val (s.reach (lookupD s.now k.val s.env.segRetry))) := by
  show execBusRetryTimer k false s = _
  rw [execBusRetryTimer, act_up _ _ hup]
  simp only [hi]
  rfl

/-- All of the 6 segments but one. -/
theorem testBit_others (k : Fin 6) : Nat.testBit (63 - 2 ^ k.val) k.val = false := by
  revert k; decide

theorem segmentBack_facts (k : Fin 6) (s : State) :
    ((segmentBack k.val s).fld Reg.fGLB_BOARD_STATUS_ISOLATED).testBit k.val = false ∧ (segmentBack k.val s).env.segRetry = s.env.segRetry.filter (·.1 != k.val) := by
  have hbit : ((s.setFld Reg.fGLB_BOARD_STATUS_ISOLATED (s.fld Reg.fGLB_BOARD_STATUS_ISOLATED &&& (63 - 2 ^ k.val))).fld
      Reg.fGLB_BOARD_STATUS_ISOLATED).testBit k.val = false := by
    rw [State.fld_setFld_same _ _ _ _ _ (by decide), Nat.testBit_mod_two_pow, Nat.testBit_and, testBit_others, Bool.and_false, Bool.and_false]
  unfold segmentBack
  simp only
  split
  · obtain ⟨hfld, henv⟩ := setHeld_facts false
      { s.setFld Reg.fGLB_BOARD_STATUS_ISOLATED (s.fld Reg.fGLB_BOARD_STATUS_ISOLATED &&& (63 - 2 ^ k.val)) with
        env := { s.env with segRetry := s.env.segRetry.filter (·.1 != k.val) } }
    exact ⟨(congrArg (Nat.testBit · k.val) hfld).trans hbit, congrArg EnvState.segRetry henv⟩
  · exact ⟨hbit, rfl⟩

/-! ## PFAIL_N (20 R475) -/

theorem pfailStuckDetect_judges (s : State) (T : Nat) (v : Int) (hup : s.up = true) (h : s.env.stuckFrom = some (T, v)) :
    ∃ w u, w = s.reach (T + 2 * sec) ∧ u = { w with env := { w.env with stuckFrom := none } } ∧ exec .pfailStuckDetect s =
      .next (if v ≤ s.hup.vMv then rejudge (raiseFog 20 (u.setFlag Reg.fGLB_BOARD_STATUS_PFAIL_STUCK true) (arg := 1)) else u) := by
  refine ⟨_, _, rfl, rfl, ?_⟩
  show execPfailStuckDetect s = _
  rw [execPfailStuckDetect, act_up _ _ hup]
  simp only [h, State.reach_hup]

theorem pfailNHigh_governs (s : State) (hup : s.up = true) :
    ∃ u, u = ({ s with env := { s.env with pfailHigh := true, stuckFrom := none } } : State) ∧ exec .pfailNHigh s =
      .next (if s.flag Reg.fGLB_BOARD_STATUS_PFAIL_STUCK then rejudge (u.setFlag Reg.fGLB_BOARD_STATUS_PFAIL_STUCK false) else u) := by
  refine ⟨_, rfl, ?_⟩
  show execPfailNHigh s = _
  rw [execPfailNHigh, act_up _ _ hup]
  rfl

/-! ## Reference clock, links, lanes (20 R476, R488) -/

theorem refclkLoss_marks (s : State) (hup : s.up = true) (h : s.env.refLostAt = none) :
    exec .refclkLoss s = .next { s with env := { s.env with refLostAt := some s.now } } := by
  show execRefclkLoss s = _
  rw [execRefclkLoss, act_up _ _ hup]
  simp only [h]
  rfl

/-- The clock is back and every island withholds its acknowledgements. -/
def clockBack (s : State) : State :=
  ({ s with env := { s.env with refLostAt := none }, lens := { s.lens with timeFault := allIslands } } : State).setFlag Reg.fGLB_BOARD_STATUS_REFCLK_LOST false

theorem clockBack_facts (s : State) :
    (clockBack s).env.refLostAt = none ∧ (clockBack s).lens.timeFault = allIslands ∧ (clockBack s).flag Reg.fGLB_BOARD_STATUS_REFCLK_LOST = false ∧
    (clockBack s).md = s.md ∧ (clockBack s).now = s.now := by
  unfold clockBack
  refine ⟨?_, ?_, ?_, ?_, ?_⟩
  · rw [State.setFlag_env]
  · rw [State.setFlag_lens]
  · rw [State.flag_setFlag_same _ _ _ _ _ (by decide) (by decide)]
  · rw [State.setFlag_md]
  · rw [State.setFlag_now]

theorem refclkReturn_relocks (s : State) (T : Nat) (hup : s.up = true) (h : s.env.refLostAt = some T) : exec .refclkReturn s = .next (clockBack s) := by
  show execRefclkReturn s = _
  rw [execRefclkReturn, act_up _ _ hup]
  simp only [h]
  rfl

/-- The loss has lasted a second. -/
def clockLost (T : Nat) (s : State) : State := raiseFog 20 ((s.reach (T + sec)).setFlag Reg.fGLB_BOARD_STATUS_REFCLK_LOST true) (arg := 0)

theorem refclkLostAlarm_alarms (s : State) (T : Nat) (hup : s.up = true) (h : s.env.refLostAt = some T)
    (hf : s.flag Reg.fGLB_BOARD_STATUS_REFCLK_LOST = false) : exec .refclkLostAlarm s = .next (clockLost T s) := by
  show execRefclkLostAlarm s = _
  rw [execRefclkLostAlarm, act_up _ _ hup]
  simp only [h, hf]
  rfl

theorem fld_raiseFog (n a c i j : Nat) (f : Fld) (s : State) (h : f.off i j ≠ sigStatus) (h1 : f.off i j ≠ Reg.GLB_FOG_CAUSE.base)
    (h2 : f.off i j ≠ Reg.GLB_FOG_STATUS.base) : (raiseFog n s a c).fld f i j = s.fld f i j := by
  unfold State.fld
  rw [word_raiseFog n _ a c s h h1 h2]

theorem flag_raiseFog (n a c i j : Nat) (f : Fld) (s : State) (h : f.off i j ≠ sigStatus) (h1 : f.off i j ≠ Reg.GLB_FOG_CAUSE.base)
    (h2 : f.off i j ≠ Reg.GLB_FOG_STATUS.base) : (raiseFog n s a c).flag f i j = s.flag f i j := by
  unfold State.flag
  rw [fld_raiseFog n a c i j f s h h1 h2]

theorem clockLost_facts (T : Nat) (s : State) :
    (clockLost T s).flag Reg.fGLB_BOARD_STATUS_REFCLK_LOST = true ∧ (clockLost T s).fog 20 = true ∧ (clockLost T s).now = max s.now (T + sec) ∧
    (clockLost T s).md = s.md := by
  unfold clockLost
  refine ⟨?_, ?_, ?_, ?_⟩
  · rw [flag_raiseFog _ _ _ _ _ _ _ (by decide) (by decide) (by decide), State.flag_setFlag_same _ _ _ _ _ (by decide) (by decide)]
  · rw [fog_raiseFog _ _ _ _ _ (by decide)]
    rfl
  · rw [raiseFog_now]
    exact reach_now s _
  · rw [raiseFog_md]
    exact State.reach_md s _

theorem upstreamLinkDown_downs (s : State) (hup : s.up = true) : exec .upstreamLinkDown s = .next { s with ctl := { s.ctl with upstreamUp := false } } := by
  show execUpstreamLinkDown s = _
  rw [execUpstreamLinkDown, act_up _ _ hup]

theorem managementLinkChange_reports (p : Fin 2) (b : Bool) (s : State) (hup : s.up = true) :
    exec (.managementLinkChange p b) s = .next (s.setFlag Reg.fKPR_MGMT_STATUS_UP (b && !s.isFenced (iMG + p.val)) p.val) := by
  show execManagementLinkChange p b s = _
  rw [execManagementLinkChange, act_up _ _ hup]

/-- A lane's retune, kept unless it made the lane worse. -/
def retuned (l : Nat) (worse : Bool) (s : State) : State :=
  { s with env := { s.env with retunes := setKey l s.now s.env.retunes, tunes := if worse then s.env.tunes else setKey l (lookupD 0 l s.env.tunes + 1) s.env.tunes } }

theorem transmitterEqualisationRetune_tunes (l : Nat) (w : Bool) (s : State) (hup : s.up = true) (h : ∀ x ∈ s.env.retunes, x.1 = l → x.2 + hour ≤ s.now) :
    exec (.transmitterEqualisationRetune l w) s = .next (retuned l w s) := by
  have hrecent : (s.env.retunes.any fun x => x.1 == l && decide (s.now < x.2 + hour)) = false := by
    rw [List.any_eq_false]
    intro x hx hcontra
    simp only [Bool.and_eq_true, beq_iff_eq, decide_eq_true_eq] at hcontra
    exact absurd (h x hx hcontra.1) (Nat.not_le.2 hcontra.2)
  show execTransmitterEqualisationRetune l w s = _
  rw [execTransmitterEqualisationRetune, act_up _ _ hup]
  simp only [hrecent]
  cases w <;> rfl

/-! ## O43 -/

/-- Settles O43: each row is one equation of `exec`; what a fault at a pin leaves are the facts of its state. -/
theorem pinsSegmentsClocksAndFog : Obligations.PinsSegmentsClocksAndFog := by
  unfold Obligations.PinsSegmentsClocksAndFog
  refine ⟨?clear, ?readback, ?stuck, ?retry, ?pfail, ?pfailHigh, ?refclk, ?alarm, ?links, transmitterEqualisationRetune_tunes⟩
  case clear =>
    intro r s u left h hu hl
    obtain ⟨t, ht, ha, hw⟩ := fogClear_clears r s u left h hu hl
    obtain ⟨hd, hc, henv, hmd, hhost⟩ := fogLeft_facts left u
    subst hu
    exact ⟨_, t, ht, ha, hw, hd, hc, henv.trans (by rw [taken_env]), hmd.trans (taken_md _ _ _), hhost.trans (taken_host _ _ _)⟩
  case readback =>
    refine fun h s hup => ⟨fun hd => ⟨_, fogNReadback_driven h s hup hd, ?_⟩, fun hd => ⟨_, fogNReadback_released h s hup hd, ?_⟩⟩
    · obtain ⟨hlow, hfault, hmd⟩ := fogPinFault_facts s
      cases h with
      | true => exact ⟨hlow, fun _ => hfault, hmd⟩
      | false => exact ⟨State.flag_setFlag_same s _ _ _ _ (by decide) (by decide), fun hh => absurd hh (by decide), rfl⟩
    · exact ⟨State.flag_setFlag_same s _ _ _ _ (by decide) (by decide), rfl, rfl⟩
  case stuck =>
    refine fun k s hup hi => ⟨⟨_, busStuckTimeout_frees k s hup hi, ?_, ?_, rfl⟩, _, busStuckTimeout_isolates k s hup hi, isolate_facts k.val s k.isLt⟩
    · have hbit : (s.fld Reg.fGLB_BOARD_STATUS_RECOVERED ||| 2 ^ k.val).testBit k.val = true := by
        rw [Nat.testBit_or, Nat.testBit_two_pow_self, Bool.or_true]
      rw [State.fld_setFld_same _ _ _ _ _ (by decide), Nat.testBit_mod_two_pow, hbit, Bool.and_true]
      exact decide_eq_true k.isLt
    · exact State.fld_setFld_apart s _ _ _ _ _ _ _ (by decide) (by decide)
  case retry =>
    refine fun k s hup hi => ⟨⟨_, busRetryTimer_frees k s hup hi, ?_⟩, _, busRetryTimer_isolates k s hup hi, isolate_facts k.val _ k.isLt⟩
    obtain ⟨hbit, hretry⟩ := segmentBack_facts k (s.reach (lookupD s.now k.val s.env.segRetry))
    exact ⟨hbit, hretry.trans (by rw [State.reach_env])⟩
  case pfail =>
    intro s T v w u hup h hw hu
    obtain ⟨w', u', hw', hu', hexec⟩ := pfailStuckDetect_judges s T v hup h
    subst hw hu hw' hu'
    exact ⟨fun hv => by rw [hexec, if_pos hv], fun hv => by rw [hexec, if_neg (Int.not_le.2 hv)]⟩
  case pfailHigh =>
    intro s u hup hu
    obtain ⟨u', hu', hexec⟩ := pfailNHigh_governs s hup
    subst hu hu'
    exact ⟨fun hf => by rw [hexec, hf]; rfl, fun hf => by rw [hexec, hf]; rfl⟩
  case refclk =>
    exact fun s hup => ⟨refclkLoss_marks s hup,
      fun T h => ⟨_, refclkReturn_relocks s T hup h, clockBack_facts s⟩⟩
  case alarm =>
    intro s T hup h hf
    exact ⟨_, refclkLostAlarm_alarms s T hup h hf, clockLost_facts T s⟩
  case links =>
    exact fun s hup => ⟨upstreamLinkDown_downs s hup,
      fun p b => ⟨_, managementLinkChange_reports p b s hup, State.flag_setFlag_same s _ _ _ _ (by decide) (by decide), rfl, rfl⟩⟩

/-! ## The hypotheses are met: Fog and segments -/

/-- A new board with Fog causes 15 and 18 latched, of which the second cannot be released. -/
def fogBoard : State := (State.reset.setFld Reg.fGLB_FOG_CAUSE_CAUSE (2 ^ 15 + 2 ^ 18)).setFlag Reg.fGLB_FOG_STATUS_DRIVEN true

/-- Of all causes asked for, cause 18 stays. -/
theorem fogClear_witness :
    ∃ t, exec (.fogClear (witnessRequest [2 ^ 22 - 1] 0)) fogBoard = .next t ∧ answered (witnessRequest [2 ^ 22 - 1] 0) cOK 0 [BitVec.ofNat 64 (2 ^ 18)] t := by
  obtain ⟨t, ht, ha, -⟩ := fogClear_clears (witnessRequest [2 ^ 22 - 1] 0) fogBoard _ [18]
    ((goes_iff _ _ _ _).2 ⟨rfl, rfl, rfl, rfl, by decide, by decide, by decide, rfl, by decide, by decide⟩) rfl (by decide)
  exact ⟨t, ht, ha⟩

theorem fogNReadback_driven_witness :
    ∃ t, exec (.fogNReadback true) fogBoard = .next t ∧ t.flag Reg.fGLB_FOG_STATUS_PIN_FAULT = true :=
  ⟨_, fogNReadback_driven true fogBoard rfl (by decide), (fogPinFault_facts fogBoard).2.1⟩

theorem fogNReadback_released_witness :
    ∃ t, exec (.fogNReadback false) State.reset = .next t ∧ t.flag Reg.fGLB_FOG_STATUS_EXT_LOW = true :=
  ⟨_, fogNReadback_released false State.reset rfl (by decide), by decide⟩

/-- Segment 5 is freed, or isolated. -/
theorem busStuckTimeout_witness :
    (∃ t, exec (.busStuckTimeout 5 true) State.reset = .next t ∧ t.fld Reg.fGLB_BOARD_STATUS_RECOVERED = 2 ^ 5) ∧
    ∃ t, exec (.busStuckTimeout 5 false) State.reset = .next t ∧ lookupD 0 5 t.env.segRetry = 10 * sec :=
  ⟨⟨_, busStuckTimeout_frees 5 State.reset rfl (by decide), by decide⟩,
    _, busStuckTimeout_isolates 5 State.reset rfl (by decide), (isolate_facts 5 State.reset (by decide)).2.trans (by decide)⟩

/-- Segment 0, isolated, is tried again. -/
theorem busRetryTimer_witness :
    (∃ t, exec (.busRetryTimer 0 true) (State.reset.setFld Reg.fGLB_BOARD_STATUS_ISOLATED 1) = .next t ∧
      (t.fld Reg.fGLB_BOARD_STATUS_ISOLATED).testBit 0 = false) ∧
    ∃ t, exec (.busRetryTimer 0 false) (State.reset.setFld Reg.fGLB_BOARD_STATUS_ISOLATED 1) = .next t ∧
      (t.fld Reg.fGLB_BOARD_STATUS_ISOLATED).testBit 0 = true :=
  ⟨⟨_, busRetryTimer_frees 0 (State.reset.setFld Reg.fGLB_BOARD_STATUS_ISOLATED 1) rfl (by decide), (segmentBack_facts 0 _).1⟩,
    _, busRetryTimer_isolates 0 (State.reset.setFld Reg.fGLB_BOARD_STATUS_ISOLATED 1) rfl (by decide), (isolate_facts 0 _ (by decide)).1⟩

/-! ## The hypotheses are met: PFAIL_N, the clock, links, lanes -/

/-- A new board with this state of its pins and faults. -/
def pinBoard (e : EnvState) : State := { State.reset with env := e }

/-- PORST_N was released at this store voltage with PFAIL_N low. -/
def lowPinBoard (mv : Int) : State := pinBoard { EnvState.reset with stuckFrom := some (0, mv) }

/-- The store stands where it stood: the pin is stuck; 1 mV lower: it is not. -/
theorem pfailStuckDetect_witness :
    (∃ u, exec .pfailStuckDetect (lowPinBoard State.reset.hup.vMv) = .next (rejudge (raiseFog 20 u (arg := 1)))) ∧
    ∃ t, exec .pfailStuckDetect (lowPinBoard (State.reset.hup.vMv + 1)) = .next t ∧ t.env.stuckFrom = none := by
  constructor
  · obtain ⟨w, u, -, -, hexec⟩ := pfailStuckDetect_judges (lowPinBoard State.reset.hup.vMv) 0 State.reset.hup.vMv rfl rfl
    exact ⟨_, hexec.trans (congrArg _ (if_pos (Int.le_refl _)))⟩
  · obtain ⟨w, u, -, hu, hexec⟩ := pfailStuckDetect_judges (lowPinBoard (State.reset.hup.vMv + 1)) 0 (State.reset.hup.vMv + 1) rfl rfl
    exact ⟨u, hexec.trans (congrArg _ (if_neg (by decide))), by rw [hu]⟩

theorem pfailNHigh_witness : ∃ t, exec .pfailNHigh (lowPinBoard 0) = .next t ∧ t.env.pfailHigh = true := by
  obtain ⟨u, hu, hexec⟩ := pfailNHigh_governs (lowPinBoard 0) rfl
  exact ⟨u, hexec.trans (congrArg _ (if_neg (by decide))), by rw [hu]⟩

/-- The clock is lost, alarmed a second later, and back. -/
theorem refclk_witness :
    (∃ t, exec .refclkLoss State.reset = .next t ∧ t.env.refLostAt = some 0) ∧
    (∃ t, exec .refclkLostAlarm (pinBoard { EnvState.reset with refLostAt := some 0 }) = .next t ∧ t.now = sec ∧ t.fog 20 = true) ∧
    ∃ t, exec .refclkReturn (pinBoard { EnvState.reset with refLostAt := some 0 }) = .next t ∧ t.env.refLostAt = none := by
  obtain ⟨-, hfog, hnow, -⟩ := clockLost_facts 0 (pinBoard { EnvState.reset with refLostAt := some 0 })
  exact ⟨⟨_, refclkLoss_marks State.reset rfl rfl, rfl⟩,
    ⟨_, refclkLostAlarm_alarms (pinBoard { EnvState.reset with refLostAt := some 0 }) 0 rfl rfl (by decide), hnow.trans (by decide), hfog⟩,
    _, refclkReturn_relocks (pinBoard { EnvState.reset with refLostAt := some 0 }) 0 rfl rfl, rfl⟩

theorem upstreamLinkDown_witness : ∃ t, exec .upstreamLinkDown State.reset = .next t ∧ t.ctl.upstreamUp = false :=
  ⟨_, upstreamLinkDown_downs State.reset rfl, rfl⟩

theorem managementLinkChange_witness :
    ∃ t, exec (.managementLinkChange 1 true) State.reset = .next t ∧ t.flag Reg.fKPR_MGMT_STATUS_UP 1 = true :=
  ⟨_, managementLinkChange_reports 1 true State.reset rfl, by decide⟩

/-- Lane 4, last retuned an hour ago. -/
theorem transmitterEqualisationRetune_witness :
    ∃ t, exec (.transmitterEqualisationRetune 4 false) { pinBoard { EnvState.reset with retunes := [(4, 0)] } with now := hour } = .next t ∧
      t.env.retunes = [(4, hour)] ∧ t.env.tunes = [(4, 1)] :=
  ⟨_, transmitterEqualisationRetune_tunes 4 false { pinBoard { EnvState.reset with retunes := [(4, 0)] } with now := hour } rfl
    (fun x hx _ => by rw [List.mem_singleton.1 hx]; exact Nat.le_of_eq (Nat.zero_add hour)), by decide, by decide⟩

end Sys2Proof.Machine

/-!
SUPPORT. Unit fences, retest, DDR failure, substitution, injection, trace and peek (20 R478 to R482, Table 20.5).
The value that DIAG_PEEK returns is a free one (log 5); what else the spec leaves open here is the model's choice (logs 97, 101, 103, 104, 107), the failure of a
DDR channel outside PAIRED and Lightship mode among it.
-/
namespace Sys2Proof.Machine

/-! ## Fences and their retest (20 R478, R480, R482) -/

theorem islandHang_fences (u : Nat) (s : State) (hup : s.up = true) (hu : isUnit u = true) : exec (.islandHang u) s = .next (fenceUnit u 1 true s) := by
  show execIslandHang u s = _
  rw [execIslandHang, act_up _ _ hup, hu]
  rfl

theorem unitErrorFence_crossing (u : Nat) (s : State) (hup : s.up = true) (hu : isUnit u = true) :
    exec (.unitErrorFence u .crossing) s = .next (unitError u 3 s) := by
  show execUnitErrorFence u .crossing s = _
  rw [execUnitErrorFence, act_up _ _ hup, hu]
  rfl

theorem unitErrorFence_sram (u w : Nat) (c : Fin 8) (s : State) (hup : s.up = true) (hu : isUnit u = true) (hc : c.val = 2 ∨ c.val = 3 ∨ c.val = 5) :
    exec (.unitErrorFence u (.sram c w)) s = .next (unitError u 2 (fire (624 + c.val) (logUe (16 + c.val) w false s) 0 w)) := by
  have hclass : (c.val == 2 || c.val == 3 || c.val == 5) = true := by simpa [or_assoc] using hc
  show execUnitErrorFence u (.sram c w) s = _
  rw [execUnitErrorFence, act_up _ _ hup, hu]
  simp only [hclass]
  rfl

/-- The unit's errors of the sliding operating hour, with this one. -/
def errorsWith (u kind : Nat) (s : State) : List UnitError :=
  (s.env.errors.filter fun x => s.kpr.opNs < x.opNs + hour) ++ [{ unit := u, kind := kind, opNs := s.kpr.opNs }]

theorem unitError_third (u kind : Nat) (s : State) (h : 3 ≤ ((errorsWith u kind s).filter fun x => x.unit == u && x.kind == kind).length) :
    unitError u kind s = fenceUnit u kind true { s with env := { s.env with errors := errorsWith u kind s } } := if_pos h

/-- A fence that a retest may still lift, of a unit that may be retested: no Keeper pair, and not the mirror, which is retested at once. -/
def retestable (f : Fence) (u : Nat) : Prop := f.permanent = false ∧ f.repaired = false ∧ u ≠ iKPA ∧ u ≠ iKPB ∧ u ≠ iMIR

/-- The unit is marked REPAIRED; what waits for it goes on. -/
def retestPassed (u : Nat) (s : State) : State :=
  settleSubs { s with env := { s.env with fences := s.env.fences.map fun (g : Fence) => if g.unit == u then { g with repaired := true } else g } }

/-- The unit is fenced for good. -/
def retestFailed (u : Nat) (s : State) : State :=
  if isCore u then noteFence u 6 (fenceForGood u s) else domainFenced u true (noteFence u 6 (fenceForGood u s))

theorem fenceRetest_retests (u : Nat) (pass : Bool) (s : State) (f : Fence) (hup : s.up = true) (hf : s.env.fences.find? (·.unit == u) = some f)
    (ht : retestable f u) :
    exec (.fenceRetest u pass) s = .next (if pass then retestPassed u (s.reach (f.at_ + 10 * sec)) else retestFailed u (s.reach (f.at_ + 10 * sec))) := by
  obtain ⟨hp, hr, ha, hb, hm⟩ := ht
  have ha' : (u == iKPA) = false := beq_eq_false_iff_ne.2 ha
  have hb' : (u == iKPB) = false := beq_eq_false_iff_ne.2 hb
  have hm' : (u == iMIR) = false := beq_eq_false_iff_ne.2 hm
  show execFenceRetest u pass s = _
  rw [execFenceRetest, act_up _ _ hup]
  simp only [hf, hp, hr, ha', hb', hm']
  cases pass <;> rfl

/-- A channel's state register after its failure. -/
def channelDown (c : Nat) (s : State) : State := s.setFld Reg.fMEM_CH_STATUS_STATE 0 c

theorem ddrChannelFail_exits (c : Fin 16) (l : List Nat) (s : State) (hup : s.up = true) (hp : s.peer.st ≠ .lightship)
    (h3 : s.fld Reg.fMEM_CH_STATUS_STATE c.val ≠ 3) :
    exec (.ddrChannelFail c l) s = .next (raiseFog 17 (headExit c.val (channelDown c.val s)) (arg := c.val)) := by
  have h3' : (s.fld Reg.fMEM_CH_STATUS_STATE c.val == 3) = false := beq_eq_false_iff_ne.2 h3
  have hp' : ((s.setFld Reg.fMEM_CH_STATUS_STATE 0 c.val).peer.st == .lightship) = false := beq_eq_false_iff_ne.2 hp
  show execDdrChannelFail c l s = _
  rw [execDdrChannelFail, act_up _ _ hup]
  simp only [h3', Bool.false_eq_true, if_false, hp']
  rfl

/-! ## UNIT_FENCE and UNIT_SUBSTITUTE (20 Table 20.5) -/

/-- The row of UNIT_FENCE. -/
def fenceSpec : TaskSpec := { opcode := 0x0C01, windows := [0, 3] }

/-- The row of UNIT_SUBSTITUTE. -/
def substituteSpec : TaskSpec := { opcode := 0x0C02, windows := [0, 3] }

/-- The role that a unit plays: its own, or that of the unit it stands in for. -/
def roleServed (x : Nat) (s : State) : Nat := ((s.lens.sparesUsed.find? (·.1 == x)).map (·.2)).getD x

/-- A unit that UNIT_FENCE may take out of service. -/
def fenceable (x : Nat) (v : State) : Prop :=
  (x < 264 ∨ 269 < x) ∧ v.unitOut x = false ∧ (152 ≤ x → x < 168 → v.peer.st = .paired) ∧ lastOfKind v x = false

theorem unitFence_fences (r : TaskReq) (s v : State) (x n : Nat) (h : goes fenceSpec fenceMasks r s = true) (hv : v = taken fenceSpec r s)
    (hx : argUnit r = some x) (hn : freeRecord r.window s = some n) (hclear : r.argBits 1 25 25 = 0) (hu : fenceable x v) :
    ∃ w t, w = fenceUnit x 5 (r.argBits 1 24 24 == 0) (withJob 0x0C01 r {} v n) ∧ exec (.unitFence r) s = .next t ∧
      answered r cACCEPTED 0 [handleOf (plannedJob 0x0C01 r {} s n)] t ∧
      windowOnly (endJob n cOK 0 [BitVec.ofNat 64 (spareGiven w (roleServed x v))] w) t := by
  subst hv
  obtain ⟨hkpr, hin, hmem, hlast⟩ := hu
  have hkpr' : (decide (264 ≤ x) && decide (x ≤ 269)) = false := by simp; omega
  have hmem' : (decide (152 ≤ x) && decide (x < 168) && (taken fenceSpec r s).peer.st != .paired) = false := by
    simp only [Bool.and_eq_false_iff, decide_eq_false_iff_not, bne_eq_false_iff_eq]
    by_cases hlo : 152 ≤ x
    · by_cases hhi : x < 168
      · exact .inr (hmem hlo hhi)
      · exact .inl (.inr hhi)
    · exact .inl (.inl hlo)
  refine ⟨_, (taskCmd_jobOp fenceSpec _ r _ s 0x0C01 n {} (fun n w => endJob n cOK 0
    [BitVec.ofNat 64 (spareGiven (fenceUnit x 5 (r.argBits 1 24 24 == 0) w) (roleServed x w))] (fenceUnit x 5 (r.argBits 1 24 24 == 0) w)) h hn ?_).imp
    fun t ht => ⟨rfl, ht⟩⟩
  rw [hclear, fenceCmd, hx]
  simp only [hkpr', hin, hmem', hlast]
  rfl

theorem unitFenceClear_unlists (r : TaskReq) (s v : State) (x n : Nat) (h : goes fenceSpec fenceMasks r s = true) (hv : v = taken fenceSpec r s)
    (hx : argUnit r = some x) (hn : freeRecord r.window s = some n) (hclear : r.argBits 1 25 25 = 1) (hw : r.window = 3) (hl : x ∈ lastFenceList v) :
    ∃ t, exec (.unitFenceClear r) s = .next t ∧ answered r cACCEPTED 0 [handleOf (plannedJob 0x0C01 r {} s n)] t ∧
      windowOnly (endJob n cOK 0 [0x1FF#64] (queueFlash (.fenceList ((lastFenceList v).filter (· != x))) (withJob 0x0C01 r {} v n))) t := by
  subst hv
  have hl' : (lastFenceList (taken fenceSpec r s)).contains x = true := List.contains_iff_mem.2 hl
  have hw' : (r.window != 3) = false := bne_eq_false_iff_eq.2 hw
  refine taskCmd_jobOp fenceSpec _ r _ s 0x0C01 n {} (fun n w => endJob n cOK 0 [0x1FF#64]
    (queueFlash (.fenceList ((lastFenceList w).filter (· != x))) w)) h hn ?_
  rw [hclear, clearCmd, hx]
  simp only [hw', hl']
  rfl

/-- The substitution of `x` by `sp` waits, or starts at once. -/
def substituting (x sp : Nat) (n : Nat) (s : State) : State :=
  settleSubs { s with env := { s.env with toSub := s.env.toSub ++ [(x, sp, some n)] } }

theorem unitSubstitute_substitutes (r : TaskReq) (s v : State) (x n sp : Nat) (l : List Nat) (h : goes substituteSpec substituteMasks r s = true)
    (hv : v = taken substituteSpec r s) (hx : argUnit r = some x) (hn : freeRecord r.window s = some n) (hr : s.lens.relens = none)
    (h0 : r.argBits 1 24 24 = 0) (hout : v.unitOut x = true) (hused : v.lens.sparesUsed.any (·.2 == x) = false) (hgiven : spareGiven v x = 0x1FF)
    (hfree : freeSpares v x = sp :: l) :
    ∃ t, exec (.unitSubstitute r) s = .next t ∧ answered r cACCEPTED 0 [handleOf (plannedJob 0x0C02 r {} s n)] t ∧
      windowOnly (substituting x sp n (withJob 0x0C02 r {} v n)) t := by
  subst hv
  have hr' : (taken substituteSpec r s).lens.relens = none := by rw [taken_lens]; exact hr
  refine taskCmd_jobOp substituteSpec _ r _ s 0x0C02 n {} (fun n w => substituting x sp n w) h hn ?_
  rw [h0, substituteCmd, hx]
  simp only [hout, hused, hgiven, hfree, hr']
  rfl

theorem unitSubstituteRestore_returns (r : TaskReq) (s v : State) (x n m : Nat) (h : goes substituteSpec substituteMasks r s = true)
    (hv : v = taken substituteSpec r s) (hx : argUnit r = some x) (hn : freeRecord r.window s = some n) (hr : s.lens.relens = none)
    (h1 : r.argBits 1 24 24 = 1) (hrep : v.env.fences.any (fun f => f.unit == x && f.repaired) = true) (hset : freeSet v = some m)
    (hclaim : claimedElsewhere m v (itemClaims (.restore x)) = false) :
    ∃ t, exec (.unitSubstituteRestore r) s = .next t ∧ answered r cACCEPTED 0 [handleOf (plannedJob 0x0C02 r {} s n)] t ∧
      windowOnly (commitReturn x (some n) (withJob 0x0C02 r {} v n)) t := by
  subst hv
  have hr' : (taken substituteSpec r s).lens.relens = none := by rw [taken_lens]; exact hr
  refine taskCmd_jobOp substituteSpec _ r _ s 0x0C02 n {} (fun n w => commitReturn x (some n) w) h hn ?_
  rw [h1, restoreCmd, hx]
  simp only [hrep, hset, hclaim, hr']
  rfl

/-! ## Injection, trace, peek (20 Table 20.5) -/

/-- The row of DIAG_INJECT. -/
def injectSpec : TaskSpec := { opcode := 0x0D01, windows := [3] }

/-- A burst of installed memory is named. -/
def burstNamed (r : TaskReq) (v : State) : Prop := r.arg 2 % 64 = 0 ∧ r.arg 2 < installedGib v * gib

/-- What each kind of error does where it is injected. -/
inductive Injected (r : TaskReq) (i : InjectAt) (v : State) : State → Prop
  | device (h : r.arg 1 = 0) (hb : burstNamed r v) : Injected r i v (countBurst (r.arg 2) (.device i.dimm i.dev) v)
  | bad (h : r.arg 1 = 1) (hb : burstNamed r v) : Injected r i v (consume i.who (countBurst (r.arg 2) .bad v))
  | oneBit (h : r.arg 1 = 2) (hc : r.arg 2 < 8) : Injected r i v (injectSram (r.arg 2) false i v)
  | twoBits (h : r.arg 1 = 3) (hc : r.arg 2 < 8) : Injected r i v (injectSram (r.arg 2) true i v)
  | link (h : r.arg 1 = 4) (hp : r.arg 2 < 256) (hup : v.portUp (r.arg 2) = true) :
    Injected r i v (sendControl (r.arg 2) .nak (v.bump Reg.fSML_PORT_ERR_CRC_ERRORS 1 (r.arg 2)))
  | hang (h : r.arg 1 = 5) (hi : r.arg 2 < 272) (hc : r.arg 2 < 100 ∨ 108 ≤ r.arg 2) : Injected r i v (fenceUnit (r.arg 2) 1 true v)

theorem diagInject_acts (r : TaskReq) (i : InjectAt) (s v w : State) (h : goes injectSpec [(1, mask 3 0), (2, mask64)] r s = true)
    (hv : v = taken injectSpec r s) (hw : Injected r i v w) :
    ∃ t, exec (.diagInject r i) s = .next t ∧ answered r cOK 0 [] t ∧ windowOnly w t := by
  subst hv
  refine taskCmd_op injectSpec _ r _ s w cOK 0 [] h (by simp) ?_
  cases hw with
  | device h1 hb =>
    obtain ⟨hal, hin⟩ := hb
    simp only [h1, hal, Nat.not_le.2 hin]
    rfl
  | bad h1 hb =>
    obtain ⟨hal, hin⟩ := hb
    simp only [h1, hal, Nat.not_le.2 hin]
    rfl
  | oneBit h1 hc =>
    simp only [h1, Nat.not_le.2 hc]
    rfl
  | twoBits h1 hc =>
    simp only [h1, Nat.not_le.2 hc]
    rfl
  | link h1 hp hup =>
    simp only [h1, Nat.not_le.2 hp, hup]
    rfl
  | hang h1 hi hc =>
    have hcluster : (decide (100 ≤ r.arg 2) && decide (r.arg 2 < 108)) = false := by simp; omega
    simp only [h1, Nat.not_le.2 hi, hcluster]
    rfl

/-- The row of DIAG_TRACE. -/
def traceSpec : TaskSpec := { opcode := 0x0D02, windows := [3], bulk := .give none }

/-- The job of a trace: its result is the length. -/
def tracePlan (r : TaskReq) : JobPlan := { bulk := true, results := [BitVec.ofNat 64 (bits r.bulkCtrl 31 0)] }

theorem diagTrace_returns (r : TaskReq) (s v : State) (n : Nat) (h : goes traceSpec [(1, mask 8 0), (2, mask64)] r s = true)
    (hv : v = taken traceSpec r s) (hi : r.arg 1 < 272) (hlo : 1048576 ≤ bits r.bulkCtrl 31 0) (hhi : bits r.bulkCtrl 31 0 ≤ 16777216)
    (hb : r.bulkFault = none) (hn : freeRecord r.window s = some n) :
    ∃ t, exec (.diagTrace r) s = .next t ∧ answered r cACCEPTED 0 [handleOf (plannedJob 0x0D02 r (tracePlan r) s n)] t ∧
      windowOnly ((withJob 0x0D02 r (tracePlan r) v n).send (.bulkTrace (r.arg 1) (r.arg 2) (bits r.bulkCtrl 31 0))) t := by
  subst hv
  have hlen : (decide (bits r.bulkCtrl 31 0 < 1048576) || decide (16777216 < bits r.bulkCtrl 31 0)) = false := by simp; omega
  refine taskCmd_jobOp traceSpec _ r _ s 0x0D02 n (tracePlan r) (fun _ w => w.send (.bulkTrace (r.arg 1) (r.arg 2) (bits r.bulkCtrl 31 0))) h hn ?_
  simp only [Nat.not_le.2 hi, hlen, moved_whole r _ hb]
  rfl

theorem diagPeek_answers (r : TaskReq) (s v : State) (h : goes { opcode := 0x0D03, windows := [3] } [(1, mask 8 0), (2, mask64)] r s = true)
    (hv : v = taken { opcode := 0x0D03, windows := [3] } r s) (hi : r.arg 1 < 272) (hreg : Config.internalReg (r.arg 1) (r.arg 2) = true)
    (hf : v.isFenced (r.arg 1) = false) :
    ∃ t, exec (.diagPeek r) s = .next t ∧ answered r cOK 0 [v.draw.1] t ∧ windowOnly v.draw.2 t := by
  subst hv
  refine taskCmd_op _ _ r _ s _ cOK 0 _ h (by simp) ?_
  simp only [Nat.not_le.2 hi, hreg, hf]
  rfl

/-! ## O44 -/

/-- Settles O44: each row is one equation of `exec`, and each task command one job or one answer. -/
theorem fencesSubstitutesAndDiagnostics : Obligations.FencesSubstitutesAndDiagnostics := by
  unfold Obligations.FencesSubstitutesAndDiagnostics
  refine ⟨?errors, ?retest, ?ddr, ?fence, ?substitute, ?inject, ?trace, diagPeek_answers⟩
  case errors =>
    exact fun u s hup hu => ⟨islandHang_fences u s hup hu, unitErrorFence_crossing u s hup hu, fun c w hc => unitErrorFence_sram u w c s hup hu hc⟩
  case retest =>
    intro u s f w hup hf hp hr ha hb hm hw
    subst hw
    exact ⟨fenceRetest_retests u true s f hup hf ⟨hp, hr, ha, hb, hm⟩, fenceRetest_retests u false s f hup hf ⟨hp, hr, ha, hb, hm⟩⟩
  case ddr =>
    intro c l s hup hp h3
    refine ⟨_, _, ddrChannelFail_exits c l s hup hp h3, rfl, rfl, ?_, driven_raiseFog _ _ _ _⟩
    rw [fog_raiseFog _ _ _ _ _ (by decide)]
    rfl
  case fence =>
    intro r s v x n h hv hx hn
    refine ⟨fun hc hk hin hmem hlast => ?_, fun hc hw hl => unitFenceClear_unlists r s v x n h hv hx hn hc hw hl⟩
    have hpeer : v.peer = s.peer := by rw [hv, taken_peer]
    exact unitFence_fences r s v x n h hv hx hn hc ⟨hk, hin, fun hlo hhi => by rw [hpeer]; exact hmem hlo hhi, hlast⟩
  case substitute =>
    intro r s v x n h hv hx hn hr
    refine ⟨fun sp l h0 hout hused hgiven hfree => ?_,
      fun m h1 hrep hset hclaim => unitSubstituteRestore_returns r s v x n m h hv hx hn hr h1 hrep hset hclaim⟩
    obtain ⟨t, ht, ha, hw⟩ := unitSubstitute_substitutes r s v x n sp l h hv hx hn hr h0 hout hused hgiven hfree
    exact ⟨_, t, rfl, ht, ha, hw⟩
  case inject =>
    intro r i s v h hv w hw
    refine diagInject_acts r i s v w h hv ?_
    rcases hw with ⟨h1, hal, hin, rfl⟩ | ⟨h1, hal, hin, rfl⟩ | ⟨h1, hc, rfl⟩ | ⟨h1, hc, rfl⟩ | ⟨h1, hp, hup, rfl⟩ | ⟨h1, hi, hc, rfl⟩
    · exact .device h1 ⟨hal, hin⟩
    · exact .bad h1 ⟨hal, hin⟩
    · exact .oneBit h1 hc
    · exact .twoBits h1 hc
    · exact .link h1 hp hup
    · exact .hang h1 hi hc
  case trace =>
    intro r s v n p h hv hi hlo hhi hb hn hp
    subst hp
    exact diagTrace_returns r s v n h hv hi hlo hhi hb hn

/-! ## The hypotheses are met: fences -/

/-- A new board with this state of its faults and an open JTAG port. -/
def openBoard (e : EnvState) : State := { State.reset with env := e, boot := { BootState.reset with jtagUntil := some hour } }

/-- A request over the JTAG port, in window 3. -/
def jtagRequest (args : List Word) (bulk : Nat) : TaskReq := { witnessRequest args bulk with window := 3, path := .jtag }

/-- The last core of the last cluster. -/
theorem islandHang_witness : exec (.islandHang 752) State.reset = .next (fenceUnit 752 1 true State.reset) :=
  islandHang_fences 752 State.reset rfl (by decide)

/-- The first crossing error of the last island is counted. -/
theorem unitErrorFence_crossing_witness :
    ∃ t, exec (.unitErrorFence 271 .crossing) State.reset = .next t ∧ t.env.errors = [{ unit := 271, kind := 3, opNs := 0 }] :=
  ⟨_, unitErrorFence_crossing 271 State.reset rfl (by decide), rfl⟩

/-- Two crossing errors of PT 0 in the operating hour. -/
def twiceFailed : State :=
  openBoard { EnvState.reset with errors := [{ unit := 0, kind := 3, opNs := 0 }, { unit := 0, kind := 3, opNs := 0 }] }

/-- The third fences it. -/
theorem unitErrorFence_third_witness :
    exec (.unitErrorFence 0 .crossing) twiceFailed = .next (fenceUnit 0 3 true { twiceFailed with env := { twiceFailed.env with errors := errorsWith 0 3 twiceFailed } }) := by
  rw [unitErrorFence_crossing 0 twiceFailed rfl (by decide), unitError_third 0 3 twiceFailed (by decide)]

theorem unitErrorFence_sram_witness : ∃ u, exec (.unitErrorFence 66 (.sram 5 7)) State.reset = .next (unitError 66 2 u) :=
  ⟨_, unitErrorFence_sram 66 7 5 State.reset rfl (by decide) (by decide)⟩

/-- PT 0, fenced at the start. -/
def fenced0 : Fence := { unit := 0, cause := 1, at_ := 0, repaired := false, permanent := false }

/-- A board with that fence. -/
def retestBoard : State := openBoard { EnvState.reset with fences := [fenced0] }

/-- It passes 10 s after its fence. -/
theorem fenceRetest_witness :
    ∃ t, exec (.fenceRetest 0 true) retestBoard = .next t ∧ t.env.fences = [{ fenced0 with repaired := true }] :=
  ⟨_, fenceRetest_retests 0 true retestBoard fenced0 rfl (by decide) ⟨rfl, rfl, by decide, by decide, by decide⟩, by decide⟩

/-- It fails. -/
theorem fenceRetest_fails_witness : exec (.fenceRetest 0 false) retestBoard = .next (retestFailed 0 (retestBoard.reach (10 * sec))) :=
  fenceRetest_retests 0 false retestBoard fenced0 rfl (by decide) ⟨rfl, rfl, by decide, by decide, by decide⟩

/-- The last channel of a head that stands alone. -/
theorem ddrChannelFail_witness : ∃ t, exec (.ddrChannelFail 15 []) State.reset = .next t ∧ t.fog 17 = true := by
  refine ⟨_, ddrChannelFail_exits 15 [] State.reset rfl (by decide) (by decide), ?_⟩
  rw [fog_raiseFog _ _ _ _ _ (by decide)]
  rfl

/-! ## The hypotheses are met: task commands -/

/-- The last HFE port of eight is taken out of service. -/
theorem unitFence_witness : ∃ t, exec (.unitFence (witnessRequest [115] 0)) State.reset = .next t ∧
    answered (witnessRequest [115] 0) cACCEPTED 0 [handleOf (plannedJob 0x0C01 (witnessRequest [115] 0) {} State.reset 0)] t := by
  obtain ⟨w, t, -, ht, ha, -⟩ := unitFence_fences (witnessRequest [115] 0) State.reset _ 115 0
    ((goes_iff _ _ _ _).2 ⟨rfl, rfl, rfl, rfl, by decide, by decide, by decide, rfl, by decide, by decide⟩) rfl (by decide)
    (freeRecord_of_no_jobs _ _ rfl) (by decide) ⟨by decide, by decide, by decide, by decide⟩
  exact ⟨t, ht, ha⟩

/-- MT 66 leaves the fence list; the write waits. -/
theorem unitFenceClear_witness :
    ∃ t, exec (.unitFenceClear (jtagRequest [66 + 2 ^ 25] 0)) (openBoard { EnvState.reset with fenceList := [0, 66] }) = .next t ∧
      lastFenceList (openBoard { EnvState.reset with fenceList := [0, 66] }) = [0, 66] := by
  obtain ⟨t, ht, -⟩ := unitFenceClear_unlists (jtagRequest [66 + 2 ^ 25] 0) (openBoard { EnvState.reset with fenceList := [0, 66] }) _ 66 0
    ((goes_iff _ _ _ _).2 ⟨rfl, rfl, rfl, rfl, by decide, by decide, by decide, rfl, by decide, by decide⟩) rfl (by decide)
    (freeRecord_of_no_jobs _ _ rfl) (by decide) (by decide) (by decide)
  exact ⟨t, ht, rfl⟩

/-- Core 0 of cluster 0 is out of service; core 16 is its spare. -/
def coreOutBoard : State := { State.reset with lens := { LensState.reset with coresFenced := [(0, 0)] } }

theorem unitSubstitute_witness : ∃ t, exec (.unitSubstitute (witnessRequest [100] 0)) coreOutBoard = .next t ∧
    windowOnly (substituting 512 528 0 (withJob 0x0C02 (witnessRequest [100] 0) {} (taken substituteSpec (witnessRequest [100] 0) coreOutBoard) 0)) t := by
  obtain ⟨t, ht, -, hw⟩ := unitSubstitute_substitutes (witnessRequest [100] 0) coreOutBoard _ 512 0 528 []
    ((goes_iff _ _ _ _).2 ⟨rfl, rfl, rfl, rfl, by decide, by decide, by decide, rfl, by decide, by decide⟩) rfl (by decide)
    (freeRecord_of_no_jobs _ _ rfl) rfl (by decide) (by decide) (by decide) (by decide) (by decide)
  exact ⟨t, ht, hw⟩

/-- PT 0, repaired, returns. -/
theorem unitSubstituteRestore_witness :
    ∃ t, exec (.unitSubstituteRestore (witnessRequest [2 ^ 24] 0)) (openBoard { EnvState.reset with fences := [{ fenced0 with repaired := true }] }) = .next t ∧
      windowOnly (commitReturn 0 (some 0) (withJob 0x0C02 (witnessRequest [2 ^ 24] 0) {} (taken substituteSpec (witnessRequest [2 ^ 24] 0)
        (openBoard { EnvState.reset with fences := [{ fenced0 with repaired := true }] })) 0)) t := by
  obtain ⟨t, ht, -, hw⟩ := unitSubstituteRestore_returns (witnessRequest [2 ^ 24] 0)
    (openBoard { EnvState.reset with fences := [{ fenced0 with repaired := true }] }) _ 0 0 0
    ((goes_iff _ _ _ _).2 ⟨rfl, rfl, rfl, rfl, by decide, by decide, by decide, rfl, by decide, by decide⟩) rfl (by decide)
    (freeRecord_of_no_jobs _ _ rfl) rfl (by decide) (by decide) (by decide) (by decide)
  exact ⟨t, ht, hw⟩

/-- Where a witness's error is found: nowhere in use. -/
def witnessPlace : InjectAt := { dimm := 1, dev := 39, who := .other, word := 0, find := .other }

/-- Two wrong bits in the last SRAM class. -/
theorem diagInject_witness : ∃ t, exec (.diagInject (jtagRequest [3, 7] 0) witnessPlace) (openBoard .reset) = .next t ∧
    windowOnly (injectSram 7 true witnessPlace (taken injectSpec (jtagRequest [3, 7] 0) (openBoard .reset))) t := by
  obtain ⟨t, ht, -, hw⟩ := diagInject_acts (jtagRequest [3, 7] 0) witnessPlace (openBoard .reset) _ _
    ((goes_iff _ _ _ _).2 ⟨rfl, rfl, rfl, rfl, by decide, by decide, by decide, rfl, by decide, by decide⟩) rfl (.twoBits (by decide) (by decide))
  exact ⟨t, ht, hw⟩

/-- The shortest trace of the last island. -/
theorem diagTrace_witness :
    ∃ t, exec (.diagTrace (jtagRequest [271, 9] (2 ^ 32 + 1048576))) (openBoard .reset) = .next t ∧ (t.job 0).map Job.results = some [1048576] := by
  obtain ⟨t, ht, -, hw⟩ := diagTrace_returns (jtagRequest [271, 9] (2 ^ 32 + 1048576)) (openBoard .reset) _ 0
    ((goes_iff _ _ _ _).2 ⟨rfl, rfl, rfl, rfl, by decide, by decide, by decide, rfl, by decide, by decide⟩) rfl
    (by decide) (by decide) (by decide) rfl (freeRecord_of_no_jobs _ _ rfl)
  exact ⟨t, ht, by rw [job_of_windowOnly _ t hw]; rfl⟩

/-- The first register of the last island, where the implementation has one. -/
theorem diagPeek_witness (hreg : Config.internalReg 271 0 = true) :
    ∃ t, exec (.diagPeek (jtagRequest [271] 0)) (openBoard .reset) = .next t ∧ answered (jtagRequest [271] 0) cOK 0 [Config.freeWord 0] t := by
  obtain ⟨t, ht, ha, -⟩ := diagPeek_answers (jtagRequest [271] 0) (openBoard .reset) _
    ((goes_iff _ _ _ _).2 ⟨rfl, rfl, rfl, rfl, by decide, by decide, by decide, rfl, by decide, by decide⟩) rfl (by decide) hreg (by decide)
  exact ⟨t, ht, ha⟩

end Sys2Proof.Machine

/-!
SUPPORT. Park and wake, supplies, thermal control, the wall-clock, the resets of the chip (21 R491 to R502; 22 R514, R516).
The clock of a timer row is the model's choice (log 126), as is what else the spec leaves open here (logs 108, 111, 112, 113).
-/
namespace Sys2Proof.Machine

/-! ## Power domains (21 R491 to R495) -/

/-- The unfenced islands of a domain join those that are parked. -/
def islandsParked (d : Nat) (s : State) : List Nat :=
  ((domainIslands d).filter fun i => !s.isFenced i).foldl (fun l i => insertNat i l) s.env.parked

theorem domainState_of_regs (s t : State) (h : t.regs = s.regs) (d : Nat) : t.domainState d = s.domainState d := State.fld_of_regs s t h _ _ _

/-- A change of one domain, on a state that differs in no register. -/
theorem setDomain_facts (d v : Nat) (s u : State) (hv : v < 8) (hr : u.regs = s.regs) :
    (setDomain d v u).domainState d = v ∧ (∀ k, k ≠ d → (setDomain d v u).domainState k = s.domainState k) ∧
    (setDomain d v u).env = u.env ∧ (setDomain d v u).md = u.md ∧ (setDomain d v u).lens = u.lens ∧ (setDomain d v u).wr = u.wr := by
  refine ⟨setDomain_same d v u hv, fun k hk => ?_, ?_⟩
  · rw [setDomain_ne d k v u hk, domainState_of_regs s u hr]
  · obtain ⟨r, g, o, h⟩ := setDomain_frame d v u
    rw [h]
    exact ⟨rfl, rfl, rfl, rfl⟩

theorem parkTimer_parks (d : Fin 48) (s : State) (e : PowerEntry) (hup : s.up = true) (hp : planOf d.val s = some e) (hus : e.parkUs ≠ 0) (hm : 2 ≤ e.mode)
    (hd : s.domainState d.val = 0) :
    exec (.parkTimer d) s = .next (setDomain d.val 1 { s with env := { s.env with parked := islandsParked d.val s } }) := by
  have hus' : (e.parkUs == 0) = false := beq_eq_false_iff_ne.2 hus
  have hm' : (s.domainState d.val == 0 && decide (2 ≤ planMode d.val s)) = true := by simp [hd, planMode, hp, hm]
  show execParkTimer d s = _
  rw [execParkTimer, act_up _ _ hup]
  simp only [hp, Option.map_some, Option.getD_some, hus', parkDomain, hm', if_true]
  rfl

/-- The entries of the Sieve bank that a domain holds are gone. -/
def sieveForgotten (d : Nat) (s : State) : State :=
  if 38 ≤ d && d < 42 then
    { s with wr := { s.wr with sieve := s.wr.sieve.filter fun (e : SieveEntry) => Config.sieveBank e.part e.bucket % 4 != d - 38 } }
  else s

/-- A parked domain loses its supply; the park is counted. -/
def deepParked (d : Nat) (s : State) : State := setDomain d 2 ((sieveForgotten d s).bump Reg.fPWR_DOMAIN_STATUS_DEEP_PARKS 1 d)

theorem deepParkTimer_parks (d : Fin 48) (s : State) (e : PowerEntry) (hup : s.up = true) (hp : planOf d.val s = some e) (hm : e.mode = 3) (hms : e.deepMs ≠ 0)
    (hd : s.domainState d.val = 1) (hn : neverDeep s.host.chipPs d.val = false) : exec (.deepParkTimer d) s = .next (deepParked d.val s) := by
  have hms' : (e.deepMs == 0) = false := beq_eq_false_iff_ne.2 hms
  show execDeepParkTimer d s = _
  rw [execDeepParkTimer, act_up _ _ hup]
  simp only [planMode, hd, hp, Option.map_some, Option.getD_some, hm, hms', hn]
  rfl

theorem sieveForgotten_facts (d : Nat) (s : State) :
    (sieveForgotten d s).md = s.md ∧ (sieveForgotten d s).env = s.env ∧ (sieveForgotten d s).wr = (if 38 ≤ d ∧ d < 42 then
      { s.wr with sieve := s.wr.sieve.filter fun (e : SieveEntry) => Config.sieveBank e.part e.bucket % 4 != d - 38 } else s.wr) := by
  have hbank : (decide (38 ≤ d) && decide (d < 42)) = true ↔ 38 ≤ d ∧ d < 42 := by simp
  unfold sieveForgotten
  simp only [hbank]
  split <;> exact ⟨rfl, rfl, rfl⟩

theorem deepParked_facts (d : Nat) (s : State) :
    (deepParked d s).domainState d = 2 ∧ (deepParked d s).md = s.md ∧ (deepParked d s).env = s.env ∧ (deepParked d s).wr = (if 38 ≤ d ∧ d < 42 then
      { s.wr with sieve := s.wr.sieve.filter fun (e : SieveEntry) => Config.sieveBank e.part e.bucket % 4 != d - 38 } else s.wr) := by
  obtain ⟨hmd, henv, hwr⟩ := sieveForgotten_facts d s
  obtain ⟨hstate, -, henv', hmd', -, hwr'⟩ := setDomain_facts d 2 _ ((sieveForgotten d s).bump Reg.fPWR_DOMAIN_STATUS_DEEP_PARKS 1 d) (by decide) rfl
  exact ⟨hstate, hmd'.trans hmd, henv'.trans henv, hwr'.trans hwr⟩

theorem parkedIslandWake_wakes (i : Fin 272) (s : State) (d : Nat) (hup : s.up = true) (hp : powerDomain i.val = some d) (hd : s.domainState d = 1) :
    exec (.parkedIslandWake i) s = .next (setDomain d 0 (unpark (domainIslands d) s)) := by
  have hd' : (s.domainState d == 1) = true := beq_iff_eq.2 hd
  show execParkedIslandWake i s = _
  rw [execParkedIslandWake, act_up _ _ hup, wakeIsland, hp]
  exact congrArg _ (if_pos hd')

theorem supplyRampComplete_runs (d : Fin 48) (s : State) (hup : s.up = true) (hd : s.domainState d.val = 5) :
    exec (.supplyRampComplete d) s = .next (settleSubs (pumpRamps (setDomain d.val 0 (unpark (domainIslands d.val) s)))) := by
  have hd' : (s.domainState d.val != 5) = false := bne_eq_false_iff_eq.2 hd
  show execSupplyRampComplete d s = _
  rw [execSupplyRampComplete, act_up _ _ hup]
  simp only [hd']
  rfl

/-- With no ramp and no substitution waiting, only the times of recent ramps move besides the domain. -/
theorem ramped_calm (d : Nat) (s : State) (hq : s.env.rampQ = []) (hc : calm s = true) :
    ∃ l w, w = setDomain d 0 (unpark (domainIslands d) s) ∧ settleSubs (pumpRamps w) = { w with env := { w.env with ramps := l } } := by
  have henv : (setDomain d 0 (unpark (domainIslands d) s)).env = (unpark (domainIslands d) s).env :=
    (setDomain_facts d 0 s (unpark (domainIslands d) s) (by decide) rfl).2.2.1
  obtain ⟨l, hl⟩ := pumpRamps_idle (setDomain d 0 (unpark (domainIslands d) s)) (by rw [henv]; exact hq)
  refine ⟨l, _, rfl, ?_⟩
  rw [hl, settleSubs_calm]
  simp only [calm, henv]
  exact hc

/-! ## Chip power state (21 R494, R495) -/

/-- The demanded power state, taken with an epoch of the Bardar's own. -/
def psTaken (s : State) : State := fire 128 (bumpGen { s with host := { s.host with chipPs := demandedPs s } })

theorem chipPowerStateChange_takes (s : State) (hup : s.up = true) (hd : demandedPs s ≠ s.host.chipPs) (hr : s.lens.relens = none)
    (hn : ∀ d ∈ psNeeds (demandedPs s), s.domainState d ≠ 2 ∧ s.domainState d ≠ 5) :
    exec .chipPowerStateChange s = .next (settleActive (demandedPs s) (psTaken s)) := by
  have hd' : (demandedPs s == s.host.chipPs) = false := beq_eq_false_iff_ne.2 hd
  have hawake : (psNeeds (demandedPs s)).foldl (fun s d => if s.domainState d == 2 then wakeDomain d s else s) s = s := by
    refine List.foldlRecOn (motive := fun t => t = s) _ _ rfl fun t ht d hmem => ?_
    rw [ht, if_neg]
    simpa using (hn d hmem).1
  have hnone : ((psNeeds (demandedPs s)).any fun d => s.domainState d == 2 || s.domainState d == 5) = false := by
    rw [List.any_eq_false]
    intro d hmem
    simpa using hn d hmem
  show execChipPowerStateChange s = _
  rw [execChipPowerStateChange, act_up _ _ hup]
  simp only [hd', hr, hawake, hnone]
  rfl

/-! ## Adaptive core voltage (21 R496, R497) -/

theorem nominalMv10_lt (s : State) : nominalMv10 0 s < 65536 := by
  have h : s.fld Reg.fPWR_AVS_STATUS_TARGET_MV10 < 65536 := bits_lt _ _ _
  show (if s.fld Reg.fPWR_AVS_STATUS_TARGET_MV10 = 0 then 7800 else s.fld Reg.fPWR_AVS_STATUS_TARGET_MV10) < 65536
  split
  · decide
  · exact h

theorem nominalMv10_of_regs (s t : State) (h : t.regs = s.regs) : nominalMv10 0 t = nominalMv10 0 s := by
  unfold nominalMv10
  rw [State.fld_of_regs s t h]

/-- The next target, stored and sent. -/
def targetSent (t : Nat) (s : State) : State := (s.setFld Reg.fPWR_AVS_STATUS_TARGET_MV10 t).emit (.voutCommand t)

theorem fld_targetSent (t : Nat) (s : State) (h : t < 65536) : (targetSent t s).fld Reg.fPWR_AVS_STATUS_TARGET_MV10 = t := by
  rw [State.fld_of_regs (s.setFld Reg.fPWR_AVS_STATUS_TARGET_MV10 t) (targetSent t s) rfl, State.fld_setFld_same _ _ _ _ _ (by decide)]
  exact Nat.mod_eq_of_lt h

theorem avsTick_targets (w : Nat) (s : State) (hup : s.up = true) (hh : s.flag Reg.fPWR_AVS_STATUS_HELD = false) :
    ∃ u v, u = s.reach ((s.now / (100 * us) + 1) * (100 * us)) ∧ v = pumpRamps (targetSent (avsTarget (nominalMv10 0 s) w) u) ∧
      exec (.avsTick w []) s = .next { v with env := { v.env with shortSince := none } } := by
  refine ⟨_, _, rfl, rfl, ?_⟩
  show execAvsTick w [] s = _
  rw [execAvsTick, act_up _ _ hup]
  have hh' : (s.reach ((s.now / (100 * us) + 1) * (100 * us))).flag Reg.fPWR_AVS_STATUS_HELD = false := by
    rw [State.flag_of_regs s _ (State.reach_regs _ _)]
    exact hh
  simp only [hh', nominalMv10_of_regs s _ (State.reach_regs _ _), List.isEmpty_nil, Bool.or_true]
  rfl

theorem supplyDroop_counts (i : Fin 272) (s : State) (hup : s.up = true) :
    exec (.supplyDroop i) s = .next (s.bump Reg.fPWR_ISLAND_FREQ_STRETCHES 1 i.val) := by
  show execSupplyDroop i s = _
  rw [execSupplyDroop, act_up _ _ hup]

/-! ## Thermal control (21 R499 to R501) -/

/-- The step that the junction asks for. -/
def stepAsked (s : State) : Nat := stepAbove ptThreshold 2 (signed 16 (s.fld Reg.fPWR_THERM_STATUS_JUNCTION))

theorem stepAsked_le (s : State) : stepAsked s ≤ 2 := (List.length_filter_le _ _).trans (by simp)

/-- A new thermal step, told. -/
def stepTaken (k : Nat) (s : State) : State := fire 744 (s.setFld Reg.fPWR_THERM_STATUS_PT_STEP k)

theorem stepTaken_facts (k : Nat) (s : State) (h : k < 4) :
    (stepTaken k s).fld Reg.fPWR_THERM_STATUS_PT_STEP = k ∧ (stepTaken k s).md = s.md ∧ (stepTaken k s).now = s.now := by
  unfold stepTaken
  refine ⟨?_, ?_, ?_⟩
  · rw [fld_fire _ _ _ _ _ _ _ (by decide), State.fld_setFld_same _ _ _ _ _ (by decide)]
    exact Nat.mod_eq_of_lt h
  · rw [fire_md]
    rfl
  · rw [fire_now]
    rfl

theorem thermalStep_rises (s : State) (hup : s.up = true) (h : s.fld Reg.fPWR_THERM_STATUS_PT_STEP < stepAsked s) :
    exec .thermalStep s = .next (stepTaken (stepAsked s) s) := by
  show execThermalStep s = _
  rw [execThermalStep, act_up _ _ hup]
  exact congrArg _ (if_pos h)

theorem thermalStep_falls (s : State) (p : Nat × Nat) (hup : s.up = true) (h : stepAsked s ≤ s.fld Reg.fPWR_THERM_STATUS_PT_STEP)
    (h0 : s.fld Reg.fPWR_THERM_STATUS_PT_STEP ≠ 0) (hp : s.env.coolSince.find? (·.1 == s.fld Reg.fPWR_THERM_STATUS_PT_STEP) = some p) :
    exec .thermalStep s = .next (stepTaken (s.fld Reg.fPWR_THERM_STATUS_PT_STEP - 1) (s.reach (p.2 + sec))) := by
  unfold stepAsked at h
  show execThermalStep s = _
  rw [execThermalStep, act_up _ _ hup]
  simp only [Nat.not_lt.2 h, h0, hp, if_false]
  rfl

/-- The trip is latched with its sensor and Fog cause 21 raised. -/
def tripped (k : Nat) (s : State) : State :=
  fire 745 (raiseFog 21 ((s.setFlag Reg.fPWR_THERM_STATUS_TRIPPED true).setFld Reg.fPWR_THERM_STATUS_TRIP_SENSOR k) (arg := k))

theorem thermalTrip_trips (k : Fin 64) (s : State) (hup : s.up = true) (h : s.flag Reg.fPWR_THERM_STATUS_TRIPPED = false) :
    exec (.thermalTrip k) s = .next (powerFail 2 (tripped k.val s)) := by
  show execThermalTrip k s = _
  rw [execThermalTrip, act_up _ _ hup]
  simp only [h]
  rfl

theorem tripped_facts (k : Nat) (s : State) (hk : k < 256) :
    (tripped k s).flag Reg.fPWR_THERM_STATUS_TRIPPED = true ∧ (tripped k s).fld Reg.fPWR_THERM_STATUS_TRIP_SENSOR = k ∧ (tripped k s).fog 21 = true ∧
    (tripped k s).md = s.md ∧ (tripped k s).hup = s.hup := by
  unfold tripped
  refine ⟨?_, ?_, ?_, ?_, ?_⟩
  · rw [flag_fire _ _ _ _ _ _ _ (by decide), flag_raiseFog _ _ _ _ _ _ _ (by decide) (by decide) (by decide),
      State.flag_setFld_apart _ _ _ _ _ _ _ _ (by decide) (by decide), State.flag_setFlag_same _ _ _ _ _ (by decide) (by decide)]
  · rw [fld_fire _ _ _ _ _ _ _ (by decide), fld_raiseFog _ _ _ _ _ _ _ (by decide) (by decide) (by decide), State.fld_setFld_same _ _ _ _ _ (by decide)]
    exact Nat.mod_eq_of_lt hk
  · unfold State.fog
    rw [fld_fire _ _ _ _ _ _ _ (by decide)]
    exact (fog_raiseFog 21 21 k 0 _ (by decide)).trans rfl
  · rw [fire_md, raiseFog_md]
    rfl
  · rw [fire_hup, raiseFog_hup]
    rfl

theorem thermalAutoStart_starts (s : State) (i : DumpInfo) (hs : s.hup.shutdown = true) (hi : s.hup.dumpInfo = some i) (ht : i.trip = true)
    (ha : s.flag Reg.fPWR_THERM_CFG_AUTO_START = true) (hp : s.env.porstHigh = true) (haon : s.env.aonLost = false) :
    exec .thermalAutoStart s = .next (leaveReset s) := by
  show execThermalAutoStart s = _
  unfold execThermalAutoStart
  simp only [hs, hi, Option.any_some, ht, ha, hp, haon]
  rfl

/-! ## Wall-clock (21 R502) -/

/-- The offset is stored and the wall-clock known. -/
def wallSet (v : Word) (s : State) : State := (s.setWord Reg.TMB_WALL_OFFSET.base v).setFlag Reg.fTMB_STATUS_WALL_KNOWN true

theorem tmbWallOffsetWrite_sets (v : Word) (s : State) (hup : s.up = true) (h : s.flag Reg.fHFE_PTP_CFG_EN = false) :
    exec (.tmbWallOffsetWrite v) s = .next (if s.flag Reg.fTMB_STATUS_WALL_KNOWN then wallSet v s else fire 747 (wallSet v s)) := by
  show execTmbWallOffsetWrite v s = _
  rw [execTmbWallOffsetWrite, act_up _ _ hup]
  simp only [h]
  rfl

theorem tmbWallOffsetWrite_discards (v : Word) (s : State) (hup : s.up = true) (h : s.flag Reg.fHFE_PTP_CFG_EN = true) :
    exec (.tmbWallOffsetWrite v) s = .next (captureErr cSTATE_CONFLICT Reg.TMB_WALL_OFFSET.base s) := by
  show execTmbWallOffsetWrite v s = _
  rw [execTmbWallOffsetWrite, act_up _ _ hup]
  simp only [h]
  rfl

theorem wallSet_facts (v : Word) (s : State) :
    (wallSet v s).word Reg.TMB_WALL_OFFSET.base = v ∧ (wallSet v s).flag Reg.fTMB_STATUS_WALL_KNOWN = true ∧ (wallSet v s).md = s.md ∧
    (wallSet v s).now = s.now := by
  unfold wallSet
  refine ⟨?_, ?_, rfl, rfl⟩
  · unfold State.setFlag
    rw [State.word_setFld_ne _ _ _ _ _ _ (by decide), State.word_setWord_same]
  · rw [State.flag_setFlag_same _ _ _ _ _ (by decide) (by decide)]

/-! ## Resets of the chip (22 R514, R516) -/

theorem chipReset_more (aon : Bool) (s : State) :
    (chipReset aon s).pending = s.pending ∧ (chipReset aon s).now = (if aon then 0 else s.now) ∧ (chipReset aon s).hup.image = s.hup.image := by
  obtain ⟨hpending, hnow, himage⟩ := cutFlash_more s
  refine ⟨hpending, ?_, himage⟩
  show (if aon then 0 else (cutFlash s).now) = _
  rw [hnow]

theorem holdReset_up (s : State) : (holdReset s).up = false := rfl

theorem porstNAssert_holds (n : Nat) (s : State) (h : s.hup.dumping = false) :
    ∃ u, u = holdReset (chipReset true s) ∧ exec (.porstNAssert n) s = .next { u with env := { u.env with porstHigh := false } } := by
  refine ⟨_, rfl, ?_⟩
  show execPorstNAssert n s = _
  unfold execPorstNAssert
  simp only [h, Bool.and_false]
  rfl

theorem vddAonLoss_holds (n : Nat) (s : State) (h : s.hup.dumping = false) :
    ∃ u, u = holdReset (chipReset true s) ∧ exec (.vddAonLoss n) s = .next { u with env := { u.env with aonLost := true } } := by
  refine ⟨_, rfl, ?_⟩
  show execVddAonLoss n s = _
  unfold execVddAonLoss
  simp only [h, Bool.and_false]
  rfl

/-- What holds of the chip in a reset of the always-on domain, whatever its pins read. -/
theorem coldReset_keeps (s : State) (e : EnvState) (y : State) (hy : y = { holdReset (chipReset true s) with env := e }) :
    y.up = false ∧ y.now = 0 ∧ y.regs = [] ∧ y.boot.fuses = s.boot.fuses ∧ y.boot.ledger = s.boot.ledger ∧ y.host.directory = s.host.directory ∧
    y.md.saved = s.md.saved ∧ y.host.cmds = [] ∧ y.pending = s.pending := by
  obtain ⟨hfuses, hledger, hdir, hsaved, hcmds, -⟩ := chipReset_keeps true s
  obtain ⟨hpending, hnow, -⟩ := chipReset_more true s
  rw [hy]
  exact ⟨rfl, hnow, rfl, hfuses, hledger, hdir, hsaved, hcmds, hpending⟩

/-- HEAD_SEL, PFAIL_N and the store are sampled as PORST_N rises. -/
def pinsSampled (h p : Bool) (v : Int) (s : State) : State :=
  { s with env := { s.env with porstHigh := true, headSel := h, pfailHigh := p, stuckFrom := if p then none else some (s.now, v) },
           peer := { s.peer with head := if h then 1 else 0 }, hup := { s.hup with vMv := v } }

theorem porstNRelease_starts (h p : Bool) (v : Int) (s : State) (hp : s.env.porstHigh = false) (ha : s.env.aonLost = false) :
    exec (.porstNRelease h p v) s = .next (leaveReset (pinsSampled h p v s)) := by
  have hlow : ¬s.env.porstHigh = true := by simp [hp]
  have haon : ¬(pinsSampled h p v s).env.aonLost = true := by simp [pinsSampled, ha]
  exact congrArg Host.Outcome.next ((if_neg hlow).trans (if_neg haon))

theorem supplyBrownOut_resets (x : Supply) (n : Nat) (s : State) (hup : s.up = true) (hd : s.hup.dumping = false) (hx : x = .core ∨ x = .sram) :
    exec (.supplyBrownOut x n) s = .next (holdReset (chipReset false s)) := by
  show execSupplyBrownOut x n s = _
  rw [execSupplyBrownOut, act_up _ _ hup]
  simp only [hd]
  obtain rfl | rfl := hx <;> rfl

theorem supplyBrownOut_fails (x : Supply) (n : Nat) (s : State) (hup : s.up = true) (hc : x ≠ .core) (hs : x ≠ .sram) :
    exec (.supplyBrownOut x n) s = .next (powerFail 1 s) := by
  have hx : (x == .core || x == .sram) = false := by simp [hc, hs]
  show execSupplyBrownOut x n s = _
  rw [execSupplyBrownOut, act_up _ _ hup]
  simp only [hx]
  rfl

/-! ## O45 -/

/-- Settles O45: each row is one equation of `exec`; domains are `setDomain_facts`, a reset of the chip `coldReset_keeps` and `leaveReset_serves`. -/
theorem powerDomainsThermalAndResets : Obligations.PowerDomainsThermalAndResets := by
  unfold Obligations.PowerDomainsThermalAndResets
  refine ⟨?park, ?deepPark, ?wake, ?ramp, ?avs, ?droop, ?step, ?trip, ?autoStart, ?wall, ?cold, ?release, ?brownOut, ?powerState⟩
  case park =>
    intro d s e hup hp hus hm hd
    obtain ⟨hstate, hother, henv, hmd, hlens, -⟩ := setDomain_facts d.val 1 s { s with env := { s.env with parked := islandsParked d.val s } } (by decide) rfl
    exact ⟨_, parkTimer_parks d s e hup hp hus hm hd, hstate, hother, henv, hmd, hlens⟩
  case deepPark =>
    intro d s e hup hp hm hms hd hn
    exact ⟨_, deepParkTimer_parks d s e hup hp hm hms hd hn, deepParked_facts d.val s⟩
  case wake =>
    intro i s d hup hp hd
    obtain ⟨hstate, -, henv, hmd, -⟩ := setDomain_facts d 0 s (unpark (domainIslands d) s) (by decide) rfl
    exact ⟨_, parkedIslandWake_wakes i s d hup hp hd, hstate, henv, hmd⟩
  case ramp =>
    intro d s hup hd hq hc
    obtain ⟨hstate, -, henv, hmd, hlens, -⟩ := setDomain_facts d.val 0 s (unpark (domainIslands d.val) s) (by decide) rfl
    obtain ⟨l, w, hw, hsettled⟩ := ramped_calm d.val s hq hc
    subst hw
    refine ⟨_, (supplyRampComplete_runs d s hup hd).trans (congrArg _ hsettled), hstate, ?_, hmd, hlens⟩
    exact congrArg EnvState.parked henv
  case avs =>
    intro w s u hup hh hq hu
    obtain ⟨u', v, hu', hv, hexec⟩ := avsTick_targets w s hup hh
    subst hu hu'
    obtain ⟨l, hl⟩ := pumpRamps_idle (targetSent (avsTarget (nominalMv10 0 s) w) (s.reach ((s.now / (100 * us) + 1) * (100 * us))))
      ((congrArg EnvState.rampQ (State.reach_env _ _)).trans hq)
    rw [hl] at hv
    subst hv
    refine ⟨_, hexec, ?_, ?_, rfl, State.reach_md _ _⟩
    · exact (State.fld_of_regs (targetSent (avsTarget (nominalMv10 0 s) w) (s.reach ((s.now / (100 * us) + 1) * (100 * us)))) _ rfl _ _ _).trans
        (fld_targetSent _ _ (avsTarget_lt _ _ (nominalMv10_lt s)))
    · exact congrArg (_ :: ·) (State.reach_outputs _ _)
  case droop =>
    exact fun i s hup => ⟨_, supplyDroop_counts i s hup, State.fld_bump s _ 1 _ _ (by decide),
      fun o ho => State.word_setFld_ne s _ _ _ _ o ho, rfl, rfl⟩
  case step =>
    intro s cur j hup hcur hj
    subst hcur hj
    refine ⟨fun h => ?_, fun p h h0 hp => ?_⟩
    · obtain ⟨hstep, hmd, -⟩ := stepTaken_facts (stepAsked s) s (Nat.lt_of_le_of_lt (stepAsked_le s) (by decide))
      exact ⟨_, thermalStep_rises s hup h, hstep, hmd⟩
    · have hcur : s.fld Reg.fPWR_THERM_STATUS_PT_STEP < 4 := bits_lt _ _ _
      obtain ⟨hstep, hmd, hnow⟩ := stepTaken_facts (s.fld Reg.fPWR_THERM_STATUS_PT_STEP - 1) (s.reach (p.2 + sec)) (Nat.lt_of_le_of_lt (Nat.sub_le _ _) hcur)
      exact ⟨_, thermalStep_falls s p hup h h0 hp, hstep, hnow.trans (reach_now _ _), hmd.trans (State.reach_md _ _)⟩
  case trip =>
    exact fun k s hup h => ⟨_, thermalTrip_trips k s hup h, tripped_facts k.val s (Nat.lt_trans k.isLt (by decide))⟩
  case autoStart =>
    intro s i hs hi ht ha hp haon
    obtain ⟨hup, -, hmd⟩ := leaveReset_serves s
    refine ⟨_, thermalAutoStart_starts s i hs hi ht ha hp haon, hup, leaveReset_domains s, hmd, ?_⟩
    obtain ⟨r, hr⟩ := leaveReset_only s
    rw [hr]
  case wall =>
    refine fun v s hup => ⟨fun h => ⟨_, tmbWallOffsetWrite_sets v s hup h, ?_⟩, tmbWallOffsetWrite_discards v s hup⟩
    obtain ⟨hword, hknown, hmd, hnow⟩ := wallSet_facts v s
    split
    · exact ⟨hword, hknown, hmd, hnow⟩
    · refine ⟨?_, ?_, ?_, ?_⟩
      · rw [word_fire _ _ _ _ _ (by decide), hword]
      · rw [flag_fire _ _ _ _ _ _ _ (by decide), hknown]
      · rw [fire_md, hmd]
      · rw [fire_now, hnow]
  case cold =>
    intro n s h
    obtain ⟨u, hu, hassert⟩ := porstNAssert_holds n s h
    obtain ⟨w, hw, hloss⟩ := vddAonLoss_holds n s h
    subst hu hw
    exact ⟨_, _, hassert, hloss, rfl, rfl, fun y hy => hy.elim (coldReset_keeps s _ y) (coldReset_keeps s _ y)⟩
  case release =>
    intro h p v s hp ha _
    obtain ⟨hup, henv, hmd⟩ := leaveReset_serves (pinsSampled h p v s)
    obtain ⟨r, hr⟩ := leaveReset_only (pinsSampled h p v s)
    exact ⟨_, porstNRelease_starts h p v s hp ha, hup, by rw [hr]; rfl, by rw [henv]; rfl, by rw [henv]; rfl, by rw [hr]; rfl,
      leaveReset_domains _, hmd⟩
  case brownOut =>
    refine fun x n s hup hd => ⟨fun hx => ?_, supplyBrownOut_fails x n s hup⟩
    obtain ⟨hfuses, -, -, hsaved, -⟩ := chipReset_keeps false s
    obtain ⟨-, hnow, himage⟩ := chipReset_more false s
    exact ⟨_, supplyBrownOut_resets x n s hup hd hx, rfl, hnow, hfuses, himage, hsaved⟩
  case powerState =>
    refine fun s hup hd hr hn => ⟨_, rfl, chipPowerStateChange_takes s hup hd hr hn, ?_, ?_⟩
    · rw [fire_host]
      rfl
    · rw [fire_lens]
      rfl

/-! ## The hypotheses are met: domains and supplies -/

/-- A new board whose power plan has this entry alone, with that domain in this state. -/
def plannedBoard (e : PowerEntry) (st : Nat) : State :=
  { State.reset with lens := { LensState.reset with live := { LensState.reset.live with power := [e] } } }.setFld Reg.fPWR_DOMAIN_STATUS_STATE st e.domain

/-- The last domain parks after 1 µs. -/
def lastEntry : PowerEntry := { domain := 47, mode := 2, parkUs := 1, deepMs := 0, rsvd := 0 }

theorem parkTimer_witness : ∃ t, exec (.parkTimer 47) (plannedBoard lastEntry 0) = .next t ∧ t.domainState 47 = 1 :=
  ⟨_, parkTimer_parks 47 (plannedBoard lastEntry 0) lastEntry rfl rfl (by decide) (by decide) (by decide), setDomain_same 47 1 _ (by decide)⟩

/-- The first Sieve bank's domain goes off after 1 ms. -/
def sieveEntry : PowerEntry := { domain := 38, mode := 3, parkUs := 1, deepMs := 1, rsvd := 0 }

theorem deepParkTimer_witness : ∃ t, exec (.deepParkTimer 38) (plannedBoard sieveEntry 1) = .next t ∧ t.domainState 38 = 2 :=
  ⟨_, deepParkTimer_parks 38 (plannedBoard sieveEntry 1) sieveEntry rfl rfl rfl (by decide) (by decide) rfl, (deepParked_facts 38 _).1⟩

/-- MT 66 lies in domain 17. -/
theorem parkedIslandWake_witness :
    ∃ t, exec (.parkedIslandWake 66) (State.reset.setFld Reg.fPWR_DOMAIN_STATUS_STATE 1 17) = .next t ∧ t.domainState 17 = 0 :=
  ⟨_, parkedIslandWake_wakes 66 (State.reset.setFld Reg.fPWR_DOMAIN_STATUS_STATE 1 17) 17 rfl (by decide) (by decide), setDomain_same 17 0 _ (by decide)⟩

/-- Domain 0 wakes and nothing waits. -/
def wakingBoard : State := State.reset.setFld Reg.fPWR_DOMAIN_STATUS_STATE 5 0

theorem supplyRampComplete_witness : ∃ t, exec (.supplyRampComplete 0) wakingBoard = .next t ∧ t.domainState 0 = 0 := by
  obtain ⟨l, w, hw, hsettled⟩ := ramped_calm 0 wakingBoard rfl rfl
  subst hw
  exact ⟨_, (supplyRampComplete_runs 0 wakingBoard rfl (by decide)).trans (congrArg _ hsettled), setDomain_same 0 0 (unpark (domainIslands 0) wakingBoard) (by decide)⟩

/-- From 780 mV towards the lowest target: one step of 10 mV. -/
theorem avsTick_witness :
    ∃ t, exec (.avsTick 0 []) State.reset = .next t ∧ t.outputs = [.voutCommand 7700] ∧ t.now = 100 * us := by
  obtain ⟨u, v, hu, hv, hexec⟩ := avsTick_targets 0 State.reset rfl (by decide)
  subst hu hv
  exact ⟨_, hexec, by decide, by decide⟩

/-- The last island's count stays at its top. -/
theorem supplyDroop_witness :
    ∃ t, exec (.supplyDroop 271) (State.reset.setFld Reg.fPWR_ISLAND_FREQ_STRETCHES (2 ^ 32 - 1) 271) = .next t ∧
      t.fld Reg.fPWR_ISLAND_FREQ_STRETCHES 271 = 2 ^ 32 - 1 :=
  ⟨_, supplyDroop_counts 271 (State.reset.setFld Reg.fPWR_ISLAND_FREQ_STRETCHES (2 ^ 32 - 1) 271) rfl, by decide⟩

/-- A board at this junction temperature and PT step, cool enough for step 1 since the start. -/
def junctionBoard (v step : Nat) : State :=
  ({ State.reset with env := { EnvState.reset with coolSince := [(1, 0)] } }.setFld Reg.fPWR_THERM_STATUS_JUNCTION v).setFld Reg.fPWR_THERM_STATUS_PT_STEP step

/-- Just above 105 °C: step 2 at once. At 98 °C: from step 1 to 0 after a second. -/
theorem thermalStep_witness :
    (∃ t, exec .thermalStep (junctionBoard 10501 0) = .next t ∧ t.fld Reg.fPWR_THERM_STATUS_PT_STEP = 2) ∧
    ∃ t, exec .thermalStep (junctionBoard 9800 1) = .next t ∧ t.fld Reg.fPWR_THERM_STATUS_PT_STEP = 0 ∧ t.now = sec := by
  obtain ⟨hstep, -, hnow⟩ := stepTaken_facts 0 ((junctionBoard 9800 1).reach (0 + sec)) (by decide)
  exact ⟨⟨_, thermalStep_rises (junctionBoard 10501 0) rfl (by decide), (stepTaken_facts 2 (junctionBoard 10501 0) (by decide)).1⟩,
    _, thermalStep_falls (junctionBoard 9800 1) (1, 0) rfl (by decide) (by decide) (by decide), hstep, hnow.trans (reach_now _ _)⟩

/-- The last sensor trips. -/
theorem thermalTrip_witness :
    ∃ u, exec (.thermalTrip 63) State.reset = .next (powerFail 2 u) ∧ u.fld Reg.fPWR_THERM_STATUS_TRIP_SENSOR = 63 :=
  ⟨_, thermalTrip_trips 63 State.reset rfl (by decide), (tripped_facts 63 State.reset (by decide)).2.1⟩

/-- A board shut down by a trip, that may start by itself. -/
def trippedBoard : State :=
  { State.reset with hup := { HupState.reset with shutdown := true, dumpInfo := some { cause := 2, stamp := 0, mode := 0, trip := true } } }.setFlag
    Reg.fPWR_THERM_CFG_AUTO_START true

theorem thermalAutoStart_witness : ∃ t, exec .thermalAutoStart trippedBoard = .next t ∧ t.up = true :=
  ⟨_, thermalAutoStart_starts trippedBoard _ rfl rfl rfl (by decide) rfl rfl, (leaveReset_serves trippedBoard).1⟩

/-! ## The hypotheses are met: wall-clock, resets, power state -/

/-- With PTP off the offset is stored; with PTP on it is discarded. -/
theorem tmbWallOffsetWrite_witness :
    (∃ t, exec (.tmbWallOffsetWrite 7) (State.reset.setFlag Reg.fTMB_STATUS_WALL_KNOWN true) = .next t ∧ t.word Reg.TMB_WALL_OFFSET.base = 7) ∧
    exec (.tmbWallOffsetWrite 7) (State.reset.setFlag Reg.fHFE_PTP_CFG_EN true) =
      .next (captureErr cSTATE_CONFLICT Reg.TMB_WALL_OFFSET.base (State.reset.setFlag Reg.fHFE_PTP_CFG_EN true)) := by
  refine ⟨⟨wallSet 7 (State.reset.setFlag Reg.fTMB_STATUS_WALL_KNOWN true), ?_, (wallSet_facts 7 _).1⟩,
    tmbWallOffsetWrite_discards 7 (State.reset.setFlag Reg.fHFE_PTP_CFG_EN true) rfl (by decide)⟩
  rw [tmbWallOffsetWrite_sets 7 (State.reset.setFlag Reg.fTMB_STATUS_WALL_KNOWN true) rfl (by decide), if_pos (by decide)]

/-- A board a second after its start, with a fuse blown. -/
def runningBoard : State := { State.reset with now := sec, boot := { BootState.reset with fuses := { Fuses.unblown with jtagOff := true } } }

/-- PORST_N and the loss of VDD_AON keep the fuse and start the timebase anew. -/
theorem coldReset_witness :
    (∃ t, exec (.porstNAssert 0) runningBoard = .next t ∧ t.up = false ∧ t.now = 0 ∧ t.boot.fuses.jtagOff = true) ∧
    ∃ t, exec (.vddAonLoss 0) runningBoard = .next t ∧ t.up = false ∧ t.now = 0 ∧ t.boot.fuses.jtagOff = true := by
  obtain ⟨u, hu, hassert⟩ := porstNAssert_holds 0 runningBoard rfl
  obtain ⟨w, hw, hloss⟩ := vddAonLoss_holds 0 runningBoard rfl
  subst hu hw
  exact ⟨⟨_, hassert, rfl, rfl, rfl⟩, _, hloss, rfl, rfl, rfl⟩

/-- A board held by PORST_N. -/
def heldBoard : State := holdReset { State.reset with env := { EnvState.reset with porstHigh := false } }

/-- It starts as head 1, with PFAIL_N low. -/
theorem porstNRelease_witness : ∃ t, exec (.porstNRelease true false 5) heldBoard = .next t ∧ t.up = true ∧ t.peer.head = 1 := by
  obtain ⟨r, hr⟩ := leaveReset_only (pinsSampled true false 5 heldBoard)
  exact ⟨_, porstNRelease_starts true false 5 heldBoard rfl rfl, (leaveReset_serves _).1, by rw [hr]; rfl⟩

/-- VDD_SRAM holds the reset; the I/O supply counts as PFAIL_N. -/
theorem supplyBrownOut_witness :
    (∃ t, exec (.supplyBrownOut .sram 0) runningBoard = .next t ∧ t.up = false ∧ t.now = sec) ∧
    exec (.supplyBrownOut .io33 0) runningBoard = .next (powerFail 1 runningBoard) :=
  ⟨⟨_, supplyBrownOut_resets .sram 0 runningBoard rfl rfl (.inr rfl), rfl, rfl⟩, supplyBrownOut_fails .io33 0 runningBoard rfl (by decide) (by decide)⟩

/-- A board in power state 0 whose last association has gone. -/
def deserted : State := { State.reset with host := { HostState.reset with chipPs := 0 } }

/-- It takes power state 2. -/
theorem chipPowerStateChange_witness :
    ∃ u, exec .chipPowerStateChange deserted = .next (settleActive 2 u) ∧ u.host.chipPs = 2 := by
  refine ⟨_, chipPowerStateChange_takes deserted rfl (by decide) rfl (by decide), ?_⟩
  rw [psTaken, fire_host]
  rfl

end Sys2Proof.Machine
